-- ==== Sys2Proof/Word.lean ====
section
/-! DEFINITION. The word types of the model: bytes, and words of fixed width where the spec treats a value as bits. -/

namespace Sys2Proof

/-- One byte. -/
abbrev Byte := BitVec 8

/-- A 32-bit word of the register interface (R536). -/
abbrev Word := BitVec 32

end Sys2Proof
end

