-- ==== Sys2Proof/Syntax.lean ====
section
/-! DEFINITION. The commands of the block: one constructor for each row of the spec's table of operations and events.
The operands of a command carry what comes from outside the block (frames, edges, measured analogue quantities, the
settings of the host); everything the spec lets the block compute is computed by its meaning. -/

namespace Sys2Proof

/-- A port P0 to P47. -/
abbrev Port := Fin 48
/-- A port or the host port HP, which is 48. -/
abbrev PortHp := Fin 49
/-- A lane L0 to L47. -/
abbrev Lane := Fin 48
/-- A quad Q0 to Q11. -/
abbrev Quad := Fin 12
/-- A redundant unit: spindle A, spindle B, core A, core B (R495). -/
abbrev RedUnit := Fin 4
/-- An EVIN channel. -/
abbrev Evin := Fin 16
/-- A reference candidate: REFIN 0-3, ports P0-P47 at 4-51, their recovered frequencies at 52-99, the host at 100 (R177). -/
abbrev Cand := Fin 101

/-- The kinds of block that software enables and disables (R15, R18). -/
inductive BlockKind where
  | spindle | servo | refSelector | refIn | ptpEngine | whorl | ply | tcDomain | alignLine | clkOut | pulse | evin
  | mref | calSequencer | port | queueSet | table | learning | armature | deepStore | mirror | reel | reelTrigger
  | quad | lane | laneAdapt | patternTest | core | mdpSession | counterBank | perfDump | spool | i2c
deriving DecidableEq, Repr

/-- A block: its kind and its instance, counted from 0. -/
structure BlockId where
  kind : BlockKind
  n : Nat
deriving DecidableEq, Repr

/-- A function that decides and can be left to the host with a deadline, with its instance (R31). -/
inductive HostFn where
  | f0 (p : Port)
  | f1
  | f2
  | f3
  | f4
  | f5 (bank : Fin 3)
  | f6 (l : Lane)
deriving DecidableEq, Repr


/-- What the line gives for the receive stamp of an event message (R124): T(m), the time of the local marker edge, the
instantaneous whorl reading phi_i, both in 2^-16 ns, and the bits from the receive marker edge to the stamp point. -/
structure RxStamp where
  tm : Int
  phi : Int
  bits : Nat
deriving DecidableEq, Repr

/-- What an Announce message says of a grandmaster and of the path to it (R116). -/
structure AnnounceMsg where
  priority1 : Nat
  clockClass : Nat
  clockAccuracy : Nat
  variance : Nat
  priority2 : Nat
  /-- The grandmaster's clock identity. -/
  grandmaster : Nat
  stepsRemoved : Nat
  timeSource : Nat
  utcOffset : Int
  /-- The flag currentUtcOffsetValid. -/
  utcValid : Bool
  /-- The path trace of 802.1AS (R109): the clock identities it has passed. -/
  path : List Nat := []
deriving DecidableEq, Repr

/-- What a transmit descriptor asks for (R551); the frame's bytes come beside it. -/
structure TxDesc where
  direct : Bool
  hostFcs : Bool
  oneStep : Bool
  stamp : Bool
  launch : Bool
  notify : Bool
  cls : Nat
  port : Nat
  /-- The TIME field, a launch time in 2^-16 ns. -/
  time : Int
  lateTolerance : Nat
deriving DecidableEq, Repr

/-- What a pair sees in a Turn: the word that arrives within the window of slot 0 and of slot 1 on path A and on path B, if one
does (R472), and whether the two units' digests differ (R468). -/
structure PairObs where
  a0 : Option Nat
  b0 : Option Nat
  a1 : Option Nat
  b1 : Option Nat
  differ : Bool
deriving DecidableEq, Repr

/-- How a work item came to its overrun (R46): whether the boundary came before the end of its budget, and, of item 11, which
heartbeats of the two pairs had come (R48). -/
structure OverrunObs where
  atBoundary : Bool
  spindles : PairObs
  cores : PairObs
deriving DecidableEq, Repr

/-- A captured edge of a divided REFIN (R179): the spindle time of the TCLK edge that captured it, in 2^-16 ns, and the tap code. -/
structure TapStamp where
  tc : Int
  tap : Fin 128
deriving DecidableEq, Repr

/-- What stands at the entry of a pipeline (R313): the pipeline, and the ports whose oldest waiting frame has its first 128 bytes in,
or all of it. -/
structure EntryObs where
  pipe : Fin 2
  ready : List PortHp
deriving DecidableEq, Repr

/-- A transaction of PCIe or SPI on the local map (R530 to R536). -/
inductive BusAccess where
  /-- PCIe: width (0 8-bit, 1 16-bit, 2 32-bit, 3 64-bit), byte address, and whether its byte enables are non-contiguous or its
  payload is above 2 DW. -/
  | pcie (width : Fin 4) (addr : Nat) (malformed : Bool)
  /-- SPI, from the fall of SCS_N to its rise: the bytes of SDI, and how many status bytes of a read go out before READY. -/
  | spi (sdi : List Byte) (waits : Nat)
deriving DecidableEq, Repr

/-- The value two DW of a PCIe write carry, the lower first (R536). -/
def payload (lo hi : BitVec 32) : Nat := lo.toNat + 2 ^ 32 * hi.toNat

/-- Events of the Turn that ends which only the block's own clocks could count, for the performance counters of R567: bank,
EVENT code, instance, and number. -/
structure PerfCount where
  bank : Nat
  event : Nat
  instance_ : Nat
  n : Nat
deriving DecidableEq, Repr

/-- What the sandbox's processor does in work item 12 that is no system call (R579, R583): the item starts, or the run in
progress faults with a cause and at an address, after so many CCLK cycles. -/
inductive SpoolStep where
  | start
  | fault (cause pc cycles : Nat)
deriving DecidableEq, Repr


/-- Where in the deep store an uncorrectable error lies (R610): a queued copy by port, class and place, a Reel record by its
offset, a record of the dump area by its place, the firmware copy, or where nothing is kept. -/
inductive DramPlace where
  | packet (p : PortHp) (c : Fin 8) (i : Nat)
  | reel (offset : Nat)
  | dump (index : Nat)
  | scratch
  | none
deriving DecidableEq, Repr



/-- The commands of the block, those with operands first, each group in the order of the spec's table. -/
inductive Instr where
  /-- TURN_BOUNDARY: The active spindle's time reaches the boundary time of the next Turn, which ends the Turn in progress and starts a new one. `cclk` is the number of CCLK cycles of the Turn that ends; `counted` are the events of that Turn that only the block itself could count (R37). -/
  | turnBoundary (cclk : Nat) (counted : List PerfCount)
  /-- WHORL_READING_DELIVERY: Work item 1 latches and delivers each whorl's Turn average of phase readings. `readings` are, for each lane that has one, its number, the average of the readings of the Turn in 2^-16 ns, and their RMS spread in fs (R123). -/
  | whorlReadingDelivery (readings : List (Nat × Int × Nat))
  /-- LANE_EQUALISATION_ADAPTATION: Work item 8 adapts each locked lane's equaliser coefficients by at most one code. `moves` are the codes by which the adaptation would move each coefficient of a lane (R438). -/
  | laneEqualisationAdaptation (moves : List (Lane × List Int))
  /-- HEARTBEAT_AND_COMPARISON: Work item 11 emits heartbeat slots on both paths and compares the two units' digests. `spindles` and `cores` are what the two pairs see (R470). -/
  | heartbeatAndComparison (spindles cores : PairObs)
  /-- SPOOL_PROGRAMS: Work item 12 runs each ready spool slot due in the Turn in ascending slot order. `stores` are the bytes a faulting program wrote since its last call (R579). -/
  | spoolPrograms (e : SpoolStep) (stores : List (Nat × Byte))
  /-- WORK_ITEM_OVERRUN: A work item reaches the end of its budget or the boundary unfinished and its work is abandoned (R46). -/
  | workItemOverrun (item : Fin 13) (o : OverrunObs)
  /-- SPOOL_BUDGET_STOP: A spool run reaches its cycle limit and is stopped. `stores` are the bytes the program wrote since its last call (R582). -/
  | spoolBudgetStop (stores : List (Nat × Byte))
  /-- GAP_HEARTBEAT: During a gap the pairs send and check heartbeats every 2 × P CCLK cycles. `spindles` and `cores` are what the two pairs see; nothing is compared (R59). -/
  | gapHeartbeat (spindles cores : PairObs)
  /-- OVERRUN_CLEAR: OverrunClear clears the overrun record of a work item (R61). -/
  | overrunClear (item : Fin 13)
  /-- BLOCK_ENABLE_CMD: An enable command is written to a block's control object and checked (R19). -/
  | blockEnableCmd (b : BlockId)
  /-- BLOCK_DISABLE_CMD: A disable command is written to a block's control object and checked (R19). -/
  | blockDisableCmd (b : BlockId)
  /-- BLOCK_READY: A block in ENABLING becomes ready with its requirements met and enters ENABLED (R21). -/
  | blockReady (b : BlockId)
  /-- READINESS_LIMIT_EXPIRY: A block misses its readiness limit and enters FAULTED (R20). -/
  | readinessLimitExpiry (b : BlockId)
  /-- DISABLING_COMPLETE: A block's in-flight work is finished or discarded and it enters DISABLED (R18). -/
  | disablingComplete (b : BlockId)
  /-- BLOCK_FAULT: A fault detected in a block moves it to FAULTED. `cause` is the fault cause of the block (R18). -/
  | blockFault (b : BlockId) (cause : Nat)
  /-- HOST_DEADLINE_MISS: A host-assisted function's deadline expires without a decision and its fallback action is taken (R31). -/
  | hostDeadlineMiss (f : HostFn)
  /-- HOST_NCO_PHASE_WRITE: A write to HostNcoPhase delivers the host's NCO word for the next Turn. `v` is the phase term written, a DFREQ (R75). -/
  | hostNcoPhaseWrite (v : Int)
  /-- HOST_SERVO_STATE_WRITE: A write to HostServoState sets a pending servo state for both spindles. The value written is `v` + 1 (R205). -/
  | hostServoStateWrite (v : Fin 3)
  /-- SYNC_RX: A Sync message is received and stamped at the stamp point. `origin` is originTimestamp and `corr` correctionField in 2^-16 ns, `source` the sourcePortIdentity, `st` the receive stamp (R129). -/
  | syncRx (p : Port) (seq : Nat) (twoStep : Bool) (origin corr : Int) (source : Nat) (st : RxStamp)
  /-- FOLLOW_UP_RX: A Follow_Up message completes a two-step Sync. `origin` is preciseOriginTimestamp, `corr` correctionField (R131). -/
  | followUpRx (p : Port) (seq : Nat) (origin corr : Int) (source : Nat)
  /-- DELAY_REQ_RX: A Delay_Req is received and stamped for a later Delay_Resp. `requester` is the sourcePortIdentity (R113). -/
  | delayReqRx (p : Port) (seq : Nat) (corr : Int) (requester : Nat) (st : RxStamp)
  /-- DELAY_RESP_RX: A Delay_Resp completes an end-to-end round trip. `t4` is receiveTimestamp of a response to this port, `corr` correctionField (R129). -/
  | delayRespRx (p : Port) (seq : Nat) (t4 corr : Int)
  /-- PDELAY_REQ_RX: A Pdelay_Req is received and stamped for a peer-delay response. `domain` is the transparent clock domain of the message, none for the boundary-clock domain (R114). -/
  | pdelayReqRx (p : Port) (seq : Nat) (corr : Int) (requester : Nat) (domain : Option (Fin 4)) (st : RxStamp)
  /-- PDELAY_RESP_RX: A Pdelay_Resp is received for a peer-delay exchange. `t2` is requestReceiptTimestamp of a response to this port (R129). -/
  | pdelayRespRx (p : Port) (seq : Nat) (twoStep : Bool) (t2 corr : Int) (st : RxStamp)
  /-- PDELAY_RESP_FOLLOW_UP_RX: A Pdelay_Resp_Follow_Up completes a peer-to-peer round trip. `t3` is responseOriginTimestamp (R129). -/
  | pdelayRespFollowUpRx (p : Port) (seq : Nat) (t3 corr : Int)
  /-- ANNOUNCE_RX: An Announce message is received and fed to the BMCA. `source` is the sourcePortIdentity (R116). -/
  | announceRx (p : Port) (source : Nat) (m : AnnounceMsg)
  /-- SIGNALING_RX: A Signaling message with an L1_SYNC TLV is received. `up` says that the L1_SYNC TLV reports L1_SYNC_UP (R115). -/
  | signalingRx (p : Port) (up : Bool)
  /-- PTP_MANAGEMENT_RX: A PTP management message is received and passed to the host port. `bytes` are the frame, FCS included (R109). -/
  | ptpManagementRx (p : Port) (bytes : List Byte) (st : RxStamp)
  /-- SYNC_TX: The port's Sync interval falls due and a Sync is sent (R111). -/
  | syncTx (p : Port)
  /-- DELAY_REQ_TX: The delay request interval falls due and a Delay_Req or Pdelay_Req is sent (R111). -/
  | delayReqTx (p : Port)
  /-- DELAY_RESP_TX: A response carrying a refined receive stamp is sent once the stamp is refined (R113). -/
  | delayRespTx (p : Port)
  /-- PDELAY_RESP_TX: A Pdelay_Resp and, in two-step mode, its follow-up carry the turnaround (R114). -/
  | pdelayRespTx (p : Port)
  /-- ANNOUNCE_TX: The Announce interval falls due and an Announce with the clockClass is sent (R117). -/
  | announceTx (p : Port)
  /-- L1_SYNC_TX: A Signaling message with L1_SYNC is sent each Announce interval and at every link timing state change (R115). -/
  | l1SyncTx (p : Port)
  /-- ANNOUNCE_RECEIPT_TIMEOUT: No Announce arrives within AnnounceReceiptTimeout intervals (R111). -/
  | announceReceiptTimeout (p : Port)
  /-- SYNC_RECEIPT_LOSS: No valid Sync arrives for 16 Sync intervals and a TRACKING port returns to RANGING (R133). -/
  | syncReceiptLoss (p : Port)
  /-- ESMC_PDU_RX: An ESMC PDU is received and its QL taken. `ssm` is the SSM code of the QL TLV, `enhanced` says that the PDU carries an enhanced SSM code TLV (R106). -/
  | esmcPduRx (p : Port) (ssm : Nat) (enhanced : Bool)
  /-- ESMC_INFORMATION_TX: An ESMC information PDU is sent once per second of uptime (R105). -/
  | esmcInformationTx (p : Port)
  /-- ESMC_EVENT_TX: An ESMC event PDU is sent within 2 Turns of a change of the transmitted QL (R105). -/
  | esmcEventTx (p : Port)
  /-- ESMC_RX_TIMEOUT: No valid ESMC PDU for 5 s makes the received QL QL-FAILED (R108). -/
  | esmcRxTimeout (p : Port)
  /-- HOST_LINK_RECORD_CMD: HostLinkRecordCmd delivers a host link measurement record for the port (R120). -/
  | hostLinkRecordCmd (p : Port)
  /-- PLY_RELOCK_WINDOW_EXPIRY: The ply relock window expires and the ply link enters INCOMPLETE (R160). -/
  | plyRelockWindowExpiry (n : Fin 24)
  /-- RELOCK_SYNC_PAIR_TX: The master end sends a relock Sync pair when both member ports are up again (R160). -/
  | relockSyncPairTx (n : Fin 24)
  /-- PLY_SYNC_PAIR_TIMEOUT: No Sync pair arrives for 64 Sync intervals in SOLVING or SOLVED (R161). -/
  | plySyncPairTimeout (n : Fin 24)
  /-- PATH_STEP_DECISION_SPLIT: PathStepDecisionCmd 1 accepts a 50/50 split for a bridging port (R168). -/
  | pathStepDecisionSplit (p : Port)
  /-- PATH_STEP_DECISION_REPLACE: PathStepDecisionCmd 2 replaces FixedAsymmetry with PathStepAsymmetry (R168). -/
  | pathStepDecisionReplace (p : Port)
  /-- PATH_STEP_AUTO_DECISION: After the hold-off and 16 round trips the device applies the automatic path step decision (R169). -/
  | pathStepAutoDecision (p : Port)
  /-- REFIN_EDGE_STAMP: A divided REFIN edge is stamped against the active spindle's time (R179). -/
  | refinEdgeStamp (n : Fin 4) (e : TapStamp)
  /-- REFIN_LABEL_APPLY: RefInLabelCmd 1 labels a 1PPS pulse with its seconds (R180). -/
  | refinLabelApply (n : Fin 4)
  /-- REFIN_LABEL_CLEAR: RefInLabelCmd 2 clears the label of a 1PPS input (R180). -/
  | refinLabelClear (n : Fin 4)
  /-- REFIN_PRESENCE_TIMEOUT: A REFIN input's edges stop for longer than its presence limit and the candidate becomes ABSENT (R185). -/
  | refinPresenceTimeout (n : Fin 4)
  /-- FREQ_MONITOR_REPORT: Once per second each candidate's frequency slope is reported and checked against the soft and hard limits. `at_` is the UptimeNs of the report, at which its window ends (R187). -/
  | freqMonitorReport (k : Cand) (at_ : Nat)
  /-- QUALIFY_TIME_ELAPSED: A QUALIFYING candidate completes its qualify time and enters QUALIFIED (R188). -/
  | qualifyTimeElapsed (k : Cand)
  /-- REF_HOLD_OFF_EXPIRY: The hold-off after a phase jump or path step elapses and the cause clears (R189). -/
  | refHoldOffExpiry (k : Cand)
  /-- WAIT_TO_RESTORE_EXPIRY: A better candidate completes its wait-to-restore (R195). -/
  | waitToRestoreExpiry (k : Cand)
  /-- ALIGNMENT_LINE_LOCK: An alignment line's error stays within ±4 ps for 4,096 comparisons and it enters LOCKED. `shift` is the shift of the output clock against spindle time that the line measures on locking, in 2^-16 ns, and `tap` its setting (R221). -/
  | alignmentLineLock (n : Fin 4) (shift : Int) (tap : Nat)
  /-- ALIGNMENT_LINE_LOCK_LOSS: An alignment line's error exceeds ±25 ps for 16 comparisons and it returns to LOCKING (R221). -/
  | alignmentLineLockLoss (n : Fin 4)
  /-- PULSE_RISING_EDGE: A pulse output's programmed rising edge plus misalignment is reached and the pulse is driven. `t` is the programmed instant of the pulse, in 2^-16 ns of spindle time (R232). -/
  | pulseRisingEdge (n : Fin 16) (t : Int)
  /-- PULSE_FALLING_EDGE: PulseWidth after its rising edge a pulse ends (R232). -/
  | pulseFallingEdge (n : Fin 16)
  /-- EVIN_EDGE: An edge accepted on an EVIN channel is counted, prescaled and stamped. `rising` is the slope at the comparator before any inversion, `tc` the spindle time of the TCLK edge that captured the tap code `tap`; `blanked` is that it falls within the blank of a test pull (R255) (R262). -/
  | evinEdge (n : Evin) (rising : Bool) (tc : Int) (tap : Fin 128) (blanked : Bool)
  /-- MREF_STAMP_CONVERSION: After 32 further MREF edges a stamp is converted to the MREF base and delivered. `j` is the index, counted from the epoch, of the MREF edge at or before the oldest stamp that waits; `before` are the network stamps of the 32 MREF edges up to edge j and `after` those of the 32 that follow (R262). -/
  | mrefStampConversion (n : Evin) (j : Nat) (before after : List Int)
  /-- MEASUREMENT_TIMEOUT: EvinTimeout elapses after a start and the measurement closes with EV42 (R275). -/
  | measurementTimeout (n : Evin)
  /-- EVIN_PIN_FAULT: An open, short or swapped pair is detected or clears on an EVIN channel. `status` is 0 for a fault that clears, 1 open, 2 short to ground, 3 short to supply (R255). -/
  | evinPinFault (n : Evin) (status : Fin 4)
  /-- EVIN_SWAP_CHECK: Over one second a differential channel's idle level test declares or removes a swap. `edges` are the accepted edges of the second that ends and `high` the ns of it that the input lay at the high level (R256). -/
  | evinSwapCheck (n : Evin) (edges high : Nat)
  /-- MREF_PRESENT: MREF_IN has 1 ms of regular edges, becomes present and an epoch is taken. `epoch` is the network stamp of the next edge (R259). -/
  | mrefPresent (epoch : Int)
  /-- FREQ_GATE_ONE: EvinFreqCmd 1 requests one frequency gate (R277). -/
  | freqGateOne (n : Evin)
  /-- FREQ_GATE_CONTINUOUS: EvinFreqCmd 2 requests continuous frequency gates (R277). -/
  | freqGateContinuous (n : Evin)
  /-- FREQ_GATE_STOP: EvinFreqCmd 3 stops the fit and abandons an open gate (R277). -/
  | freqGateStop (n : Evin)
  /-- FREQ_GATE_CLOSE: A gate reaches its length or 2^24 stamps, closes and its results are published (R279). -/
  | freqGateClose (n : Evin)
  /-- EVIN_STAMP_READ: A read of EvinStampRead returns and removes the oldest four stamp records (R281). -/
  | evinStampRead (n : Evin)
  /-- EVIN_RESULT_HEADER_READ: A read of EvinResultHeader moves the oldest result record into the read window (R282). -/
  | evinResultHeaderRead (n : Evin)
  /-- HISTOGRAM_COMPLETE: A target's code-density histogram reaches its number of hits. Targets 0-15 are the rising slopes of EVIN0-EVIN15, 16-31 their falling slopes and 32-79 the whorls of L0-L47; `h1` and `h2` are the hits of the first and of the second half in each of the 128 codes (R296). -/
  | histogramComplete (target : Fin 80) (h1 h2 : List Nat)
  /-- CAL_COLLECT_LIMIT_EXPIRY: CalCollectLimit elapses before enough signal hits and dither or rejection follows. Targets as in HISTOGRAM_COMPLETE (R295). -/
  | calCollectLimitExpiry (target : Fin 80)
  /-- FRAME_RX_START: A frame's first byte arrives at the port's ingress FIFO, or is discarded when it is full. `bytes` are those the line delivers from the destination address to the FCS, of which the block uses at each point what has arrived by then; `codeErr` says that the PCS reports an error in the frame (R415); `st` is the receive stamp of R124 (R314). -/
  | frameRxStart (p : Port) (bytes : List Byte) (codeErr : Bool) (st : RxStamp)
  /-- PIPELINE_ENTRY: A frame whose first 128 bytes are in enters its pipeline and passes parse, lookups and decision (R313). -/
  | pipelineEntry (e : EntryObs)
  /-- REPLICATION: A frame's copies are made in the replication stage once it is free. `t` is the spindle time of the admission (R342). -/
  | replication (pipe : Fin 2) (t : Int)
  /-- OVERSIZE_TRUNCATION: Byte M+1 of a frame arrives and the stored frame is truncated and marked (R412). -/
  | oversizeTruncation (p : Port)
  /-- FRAME_RX_END: A frame's last byte arrives, its FCS is checked and it is counted (R410). -/
  | frameRxEnd (p : Port)
  /-- CUT_THROUGH_START: A cut-through copy starts once its first cell is in the fast store. `t` is the spindle time of the start, and `marker` and `bits` are T(m_tx) and k_tx of R124 (R345). -/
  | cutThroughStart (p : Port) (t marker : Int) (bits : Nat)
  /-- HP_RX_DELIVERY: A copy for HP is taken from its queue and written into posted receive descriptors. `ring` is the receive ring; `err` is the host access error met, 0 none, 1 on a descriptor, 2 on a buffer (R550) (R553). -/
  | hpRxDelivery (ring : Fin 4) (err : Nat)
  /-- TRANSMIT_SELECTION: A port's transmitter is free and a copy is selected among the eligible queues. `t` is the spindle time of the selection, and `marker` and `bits` are T(m_tx) and k_tx of R124 for the frame that starts (R372). -/
  | transmitSelection (p : Port) (t marker : Int) (bits : Nat)
  /-- FRAME_TX_END: A copy ends transmission, is counted and its cells are freed. `t` is the spindle time of the end (R420). -/
  | frameTxEnd (p : Port) (t : Int)
  /-- GATE_ENTRY_START: A gate list entry's start instant is reached and the gates change. `t` is the spindle time (R374). -/
  | gateEntryStart (p : Port) (t : Int)
  /-- LAUNCH_TIME_REACHED: A head copy's launch time is reached and it becomes eligible. `t` is the spindle time (R378). -/
  | launchTimeReached (p : Port) (t : Int)
  /-- PAUSE_FRAME_RX: A PAUSE frame is received and pauses best-effort classes. `quanta` is the pause_time of the frame (R389). -/
  | pauseFrameRx (p : Port) (quanta : Nat)
  /-- PFC_FRAME_RX: A PFC frame is received and pauses the mapped classes. `vector` is the enable vector and `times` the eight pause times (R390). -/
  | pfcFrameRx (p : Port) (vector : Nat) (times : List Nat)
  /-- PAUSE_TIMER_EXPIRY: A pause time expires and the paused classes become eligible. `prio` is the priority whose time has passed, none for PAUSE (R389). -/
  | pauseTimerExpiry (p : Port) (prio : Option (Fin 8))
  /-- XOFF_REPEAT: Half the pause time passes with the count still high and XOFF is due again. `prio` is the priority, none for PAUSE (R391). -/
  | xoffRepeat (p : Port) (prio : Option (Fin 8))
  /-- PAUSE_FRAME_TX: A due PAUSE or PFC frame is sent when the current frame ends. `t` is the spindle time of the start (R391). -/
  | pauseFrameTx (p : Port) (t : Int)
  /-- STAT_SNAPSHOT: A read of StatSnapshot captures and clears a port's counters (R424). -/
  | statSnapshot (p : PortHp)
  /-- STAT_PEEK: A read of StatPeek captures a port's counters without clearing (R424). -/
  | statPeek (p : PortHp)
  /-- SIGNAL_DETECT: A receive lane detects signal above 80 mV (R433). -/
  | signalDetect (l : Lane)
  /-- LOSS_OF_SIGNAL: A receive lane's amplitude stays below 50 mV for 1 µs and it enters NO_SIGNAL (R433). -/
  | lossOfSignal (l : Lane)
  /-- SIGNAL_HOLD_ELAPSED: Signal has been detected for 100 µs and the lane enters CDR_ACQUIRE (R434). -/
  | signalHoldElapsed (l : Lane)
  /-- CDR_LOCK: The CDR locks and the lane enters ADAPTING or ALIGN_HUNT (R434). -/
  | cdrLock (l : Lane)
  /-- CDR_LOCK_LOSS: A locked lane's CDR loses lock (R434). -/
  | cdrLockLoss (l : Lane)
  /-- ADAPTATION_CONVERGED: Initial adaptation converges, or its 100 µs in host-assisted mode pass. `coeffs` is the set of 16 bytes that a hardware adaptation found (R437) (R434). -/
  | adaptationConverged (l : Lane) (coeffs : List Byte)
  /-- ALIGNMENT_FOUND: Alignment is found and the lane enters LOCKED. `rxSlip`, `rxGearbox` and `position` (FEC block, deskew or codeword) are the positions of R126; `inverted` says that the polarity check of R441 finds the data valid only under inversion (R435). -/
  | alignmentFound (l : Lane) (rxSlip rxGearbox position : Nat) (inverted : Bool)
  /-- ALIGN_HUNT_TIMEOUT: Alignment is not found within 10 ms and the lane returns to CDR_ACQUIRE (R434). -/
  | alignHuntTimeout (l : Lane)
  /-- ALIGNMENT_LOSS: A locked lane loses alignment and returns to ALIGN_HUNT. `errors` are the invalid sync headers or code groups met (R435). -/
  | alignmentLoss (l : Lane) (errors : Nat)
  /-- HIGH_BER_ONSET: A locked lane reports high bit error rate and its port link goes down. `errors` are the invalid sync headers met (R435). -/
  | highBerOnset (l : Lane) (errors : Nat)
  /-- LANE_PLL_LOCK: A quad lane PLL reaches lock (R431). -/
  | lanePllLock (q : Quad) (pll : Fin 2)
  /-- LANE_PLL_LOCK_LOSS: A lane PLL loses lock and its lanes go idle and NO_SIGNAL (R432). -/
  | lanePllLockLoss (q : Quad) (pll : Fin 2)
  /-- PORT_LINK_UP: A port's link comes up after its loop check. `sgmii` is the rate a PHY reports on an SGMII port, 0 10, 1 100, 2 1,000 Mb/s, and `halfDuplex` the duplex it reports (R406) (R444). -/
  | portLinkUp (p : Port) (sgmii : Fin 3) (halfDuplex : Bool)
  /-- PORT_LINK_DOWN: A port's link goes down (R352). -/
  | portLinkDown (p : Port)
  /-- LANE_HOST_COEFF_CMD: LaneHostCoeffCmd delivers a host coefficient set (R439). -/
  | laneHostCoeffCmd (l : Lane)
  /-- LOOPBACK_BEACON_TX: A loopback beacon is sent at link up and once per second (R442). -/
  | loopbackBeaconTx (p : Port)
  /-- LOOPBACK_BEACON_RX: A loopback beacon is received and consumed, marking the port looped if its own. `source` is the source address of the beacon (R443). -/
  | loopbackBeaconRx (p : Port) (source : Nat)
  /-- LOOP_CHECK_HOLD_EXPIRY: LoopCheckHold elapses after the first beacon (R444). -/
  | loopCheckHoldExpiry (p : Port)
  /-- LOOPBACK_CLEAR: Three beacon intervals pass without an own beacon and the loop state clears (R443). -/
  | loopbackClear (p : Port)
  /-- PT_CLEAR_CMD: PtClearCmd clears the pattern test counters (R447). -/
  | ptClearCmd (l : Lane)
  /-- PT_INJECT_CMD: PtInjectCmd inverts one transmitted bit (R447). -/
  | ptInjectCmd (l : Lane)
  /-- PT_CHECKER_LOCK: The pattern checker locks after 64 error-free bits. `bits` are the bits compared from the lock on, until a further command says more, and `errors` those in error (R447). -/
  | ptCheckerLock (l : Lane) (bits errors : Nat)
  /-- PT_CHECKER_LOCK_LOSS: The checker loses lock and reseeds. `bits` and `errors` are the further bits compared before the loss, and those in error (R447). -/
  | ptCheckerLockLoss (l : Lane) (bits errors : Nat)
  /-- LANE_TX_SLEEP: LaneTxSleepCmd 1 puts a transmit lane to sleep (R448). -/
  | laneTxSleep (l : Lane)
  /-- LANE_TX_WAKE: LaneTxSleepCmd 2 wakes a transmit lane (R448). -/
  | laneTxWake (l : Lane)
  /-- LANE_RX_SLEEP: LaneRxSleepCmd 1 puts a receive lane to sleep (R448). -/
  | laneRxSleep (l : Lane)
  /-- LANE_RX_WAKE: LaneRxSleepCmd 2 wakes a receive lane (R448). -/
  | laneRxWake (l : Lane)
  /-- NQ_THIN_WINDOW: At each 1 ms window a Native Quad end decides to thin or widen its transmit set. `bytes` is the load L: the bytes the port transmitted in the window, preamble and gap included (R452). -/
  | nqThinWindow (q : Quad) (bytes : Nat)
  /-- NQ_LANE_SET_BLOCK_RX: A lane-set block is received after an alignment marker. The fields of the block (R450) (R450). -/
  | nqLaneSetBlockRx (q : Quad) (txSet txAt rxGood rxAck seq : Nat)
  /-- NQ_TX_AT_MARKER: The marker named by TX_AT is reached and the new transmit set takes effect. `rx` says that the marker is the one the peer named, of the receive direction (R453). -/
  | nqTxAtMarker (q : Quad) (rx : Bool)
  /-- NQ_LANE_LOSS: An active Native Quad lane is lost and the receiver retreats. `frames` are the frames that had a block on a lost lane or were sent between the loss and the change (R454). -/
  | nqLaneLoss (q : Quad) (lane : Fin 4) (frames : Nat)
  /-- NQ_MARKER_LOCK_LOSS: A lane loses marker lock for three marker periods (R449). -/
  | nqMarkerLockLoss (q : Quad) (lane : Fin 4)
  /-- NQ_RESTORE_HOLD_EXPIRY: A lost lane has been locked for NqRestoreHold and becomes good again (R455). -/
  | nqRestoreHoldExpiry (q : Quad) (lane : Fin 4)
  /-- CHECKER_ERROR: A unit's checker finds an uncorrectable error and sets its checker flag (R469). -/
  | checkerError (u : RedUnit)
  /-- SELF_TEST_CYCLE_COMPLETE: A unit completes a self-test cycle and updates its health record. `failed` is the mask of items that failed; `corrected` and `uncorrectable` are the errors its scrub found (R481). -/
  | selfTestCycleComplete (u : RedUnit) (failed corrected uncorrectable : Nat)
  /-- ISOLATED_SELF_TEST_COMPLETE: An out-of-service unit passes its isolated self-test and enters SYNCING. `failed` is the mask of items that failed (R485). -/
  | isolatedSelfTestComplete (u : RedUnit) (failed : Nat)
  /-- RED_RETURN_CMD: RedReturnCmd releases a unit held by the fault limit (R485). -/
  | redReturnCmd (u : RedUnit)
  /-- RED_SWITCH_CMD: RedSwitchCmd arms a switch of the active unit. `pair` is 0 for the spindles, 1 for the cores (R488). -/
  | redSwitchCmd (pair : Fin 2)
  /-- REVERT_HOLD_EXPIRY: The preferred unit has been in step for RedRevertHold and control reverts. `pair` is 0 for the spindles, 1 for the cores (R487). -/
  | revertHoldExpiry (pair : Fin 2)
  /-- CORE_REGISTER_LOAD: A syncing core completes its memory copy and loads the active core's registers (R486). -/
  | coreRegisterLoad (core : Fin 2)
  /-- FW_STAGE_DATA_WRITE: A 64-byte write to FwStageData stores image bytes and advances the offset. `bytes` are the 64 bytes written (R490). -/
  | fwStageDataWrite (bytes : List Byte)
  /-- FW_STANDBY_LOADED: The standby core has booted the staged image. `ok` says that the image was loaded and booted (R491). -/
  | fwStandbyLoaded (ok : Bool)
  /-- FW_FLASH_WRITE_COMPLETE: The flash write of a new primary image completes or fails. `ok` says that the slot was written and its read-back accepted (R593). -/
  | fwFlashWriteComplete (ok : Bool)
  /-- MDP_DATAGRAM_RX: A datagram to UDP port 31744 is taken, validated and queued for the dictionary server. The frame as it arrived (R506). -/
  | mdpDatagramRx (p : PortHp) (frame : List Byte)
  /-- ARP_REQUEST_RX: An ARP request for MdpIpv4Address is answered (R507). -/
  | arpRequestRx (p : PortHp) (frame : List Byte)
  /-- NEIGHBOUR_SOLICITATION_RX: An IPv6 neighbour solicitation for the device is answered (R507). -/
  | neighbourSolicitationRx (p : PortHp) (frame : List Byte)
  /-- PROVE_WAIT_TIMEOUT: A slot held 5 s awaiting PROVE is freed (R514). -/
  | proveWaitTimeout (slot : Fin 16)
  /-- MDP_SESSION_TIMEOUT: No valid datagram for MdpSessionTimeout closes the session (R518). -/
  | mdpSessionTimeout (slot : Fin 16)
  /-- AUTH_LOCKOUT_EXPIRY: The authentication lockout of a source address ends. The 16 bytes of the source address, IPv4 mapped (R516). -/
  | authLockoutExpiry (addr : List Byte)
  /-- MDP_KEY_WRITE: A write to MdpKey sets a level's key and may close its sessions. The key of level `level` + 1, of 32 bytes (R517). -/
  | mdpKeyWrite (level : Fin 3) (key : List Byte)
  /-- MB_READ: Mailbox OP 1 captures a value into the data area. The server executes the operation of mailbox `n` when it is at the head of its queue (R541). -/
  | mbRead (n : Fin 4)
  /-- MB_WRITE: Mailbox OP 2 writes a value from the data area. The server executes the operation of mailbox `n` when it is at the head of its queue (R541). -/
  | mbWrite (n : Fin 4)
  /-- MB_DESCRIBE: Mailbox OP 3 returns an object descriptor. The server executes the operation of mailbox `n` when it is at the head of its queue (R541). -/
  | mbDescribe (n : Fin 4)
  /-- MB_SEG_READ_INIT: Mailbox OP 4 captures a value into the transfer buffer. The server executes the operation of mailbox `n` when it is at the head of its queue (R541). -/
  | mbSegReadInit (n : Fin 4)
  /-- MB_SEG_READ: Mailbox OP 5 returns a segment of the captured value. The server executes the operation of mailbox `n` when it is at the head of its queue (R541). -/
  | mbSegRead (n : Fin 4)
  /-- MB_SEG_WRITE_INIT: Mailbox OP 6 opens a segmented write. The server executes the operation of mailbox `n` when it is at the head of its queue (R541). -/
  | mbSegWriteInit (n : Fin 4)
  /-- MB_SEG_WRITE: Mailbox OP 7 supplies a segment and the completing one commits. The server executes the operation of mailbox `n` when it is at the head of its queue (R541). -/
  | mbSegWrite (n : Fin 4)
  /-- MB_SEG_ABORT: Mailbox OP 8 closes a transfer. The server executes the operation of mailbox `n` when it is at the head of its queue (R541). -/
  | mbSegAbort (n : Fin 4)
  /-- MB_OPERATION_COMPLETE: A mailbox operation completes, setting VALID, CODE and SEQ (R542). -/
  | mbOperationComplete (n : Fin 4)
  /-- DIRECT_MAP_WRITE: A direct-map write is checked and committed as a one-operation local request. `v` is the value a PCIe write carries; an SPI transaction carries its own (R539). -/
  | directMapWrite (t : BusAccess) (v : Nat)
  /-- BENIG_WINDOW_WRITE: A write to a bound Benig window word commits at once whatever the block state. `lo` and `hi` are the two DW a PCIe write may carry, of which one of 32 bits or less has only `lo`; an SPI transaction carries its own (R545). -/
  | benigWindowWrite (t : BusAccess) (lo hi : BitVec 32)
  /-- REGISTER_WRITE: A write to a local register with no row of its own (R534). -/
  | registerWrite (t : BusAccess) (v : Nat)
  /-- EV_ACK_WRITE: A write to EV_ACK_n or EventAck clears the latch when it matches SEQ (R557). -/
  | evAckWrite (n : Fin 64) (v : Nat)
  /-- RING_TAIL_WRITE: A write to TAIL hands descriptors to the device. Rings 0 to 3 are TX0 to TX3, 4 to 7 RX0 to RX3; `v` is the index written (R550). -/
  | ringTailWrite (ring : Fin 8) (v : Nat)
  /-- RING_ENABLE: Setting CTRL.ENABLE puts a ring in use (R548). -/
  | ringEnable (ring : Fin 8)
  /-- RING_DISABLE: Clearing CTRL.ENABLE stops a ring fetching (R554). -/
  | ringDisable (ring : Fin 8)
  /-- RING_DISABLE_COMPLETE: A disabled ring finishes its work and ACTIVE clears (R554). -/
  | ringDisableComplete (ring : Fin 8)
  /-- TX_DESCRIPTOR_FETCH: The device fetches a transmit descriptor and injects its frame. `bytes` are the LENGTH bytes of the frame in host memory, `err` the host access error met, 0 none, 1 on the descriptor, 2 on the buffer (R550), `t` the spindle time (R551). -/
  | txDescriptorFetch (ring : Fin 4) (x : TxDesc) (bytes : List Byte) (err : Nat) (t : Int)
  /-- RING_ATTENTION_ACK: A write to ACK clears the attention when it matches SEQ. `v` is the value written to ACK (R556). -/
  | ringAttentionAck (ring : Fin 8) (v : Nat)
  /-- ATTENTION_COALESCE_EXPIRY: The coalescing time passes and the ring raises an attention (R556). -/
  | attentionCoalesceExpiry (ring : Fin 8)
  /-- PERF_BANK_SNAP: Writing SNAP captures a bank's counters without clearing (R569). -/
  | perfBankSnap (b : Fin 3)
  /-- PERF_COUNTER_CONFIG_WRITE: A write to CNT_CFG_k stages a new counter selection. `v` is the value written (R567). -/
  | perfCounterConfigWrite (b : Fin 3) (k : Fin 8) (v : Nat)
  /-- PERF_BANK_SNAPSHOT_READ: A read of PerfBankSnapshot makes a clearing capture in host-assisted mode (R575). -/
  | perfBankSnapshotRead (b : Fin 3)
  /-- PERF_BANK_PEEK: A read of PerfBankPeek makes a non-clearing capture (R575). -/
  | perfBankPeek (b : Fin 3)
  /-- SAMPLING_INTERRUPT: A sampled counter's period count reaches zero and a sample is stored. `pc`, `user` and `slot` are what the core was doing: the PC, user mode, and the spool slot or 0xFF (R576). -/
  | samplingInterrupt (b : Fin 3) (k : Fin 8) (pc : Nat) (user : Bool) (slot : Nat)
  /-- SYS_DONE: A spool program ends its run. `stores` are the bytes the program wrote to the sandbox since its last call, and `cycles` the CCLK cycles its run has used, the charge of the call among them (R580). -/
  | sysDone (stores : List (Nat × Byte)) (cycles : Nat)
  /-- SYS_TIME: A spool program reads the spindle time. `buffer` is a0; `stores` are the bytes the program wrote to the sandbox since its last call, and `cycles` the CCLK cycles its run has used, the charge of the call among them (R580). -/
  | sysTime (buffer : Nat) (stores : List (Nat × Byte)) (cycles : Nat)
  /-- SYS_READ: A spool program queues a dictionary read. `object`, `buffer` and `max` are a0, a1 and a2; `stores` are the bytes the program wrote to the sandbox since its last call, and `cycles` the CCLK cycles its run has used, the charge of the call among them (R581). -/
  | sysRead (object buffer max : Nat) (stores : List (Nat × Byte)) (cycles : Nat)
  /-- SYS_WRITE: A spool program queues a dictionary write. `object`, `buffer` and `len` are a0, a1 and a2; `stores` are the bytes the program wrote to the sandbox since its last call, and `cycles` the CCLK cycles its run has used, the charge of the call among them (R581). -/
  | sysWrite (object buffer len : Nat) (stores : List (Nat × Byte)) (cycles : Nat)
  /-- SYS_PERF: A spool program reads a performance counter. `counter` and `buffer` are a0 and a1; `stores` are the bytes the program wrote to the sandbox since its last call, and `cycles` the CCLK cycles its run has used, the charge of the call among them (R580). -/
  | sysPerf (counter buffer : Nat) (stores : List (Nat × Byte)) (cycles : Nat)
  /-- SYS_BUDGET: A spool program reads its remaining cycles. `stores` are the bytes the program wrote to the sandbox since its last call, and `cycles` the CCLK cycles its run has used, the charge of the call among them (R580). -/
  | sysBudget (stores : List (Nat × Byte)) (cycles : Nat)
  /-- SYS_LOG: A spool program appends a log entry. `buffer` and `len` are a0 and a1; `stores` are the bytes the program wrote to the sandbox since its last call, and `cycles` the CCLK cycles its run has used, the charge of the call among them (R580). -/
  | sysLog (buffer len : Nat) (stores : List (Nat × Byte)) (cycles : Nat)
  /-- RESET_RELEASE: Reset ends, straps are sampled and boot begins. `straps` are STRAP[3:0] (R623). -/
  | resetRelease (straps : Fin 16)
  /-- BOOT_IMAGE_READ_COMPLETE: The boot image has been read and is checked for acceptance. The two copies of the boot record, and the bytes of the two image slots from their headers on (R594). -/
  | bootImageReadComplete (record0 record1 slot0 slot1 : List Byte)
  /-- DEVICE_LEVEL_FAULT: A device-level fault stops the Switching and Line logic and discards work in flight. `cause` is 1 to 9; `core` says that the error of cause 6 lay in a core, or that the pair of cause 5 is that of the cores (R599). -/
  | deviceLevelFault (cause : Fin 10) (core : Bool)
  /-- DEVICE_RESTART: The fault's hold condition clears and the device restarts. `configBad` says that the check of the configuration memory finds an uncorrectable error (R600). -/
  | deviceRestart (configBad : Bool)
  /-- THERMAL_SAMPLE: Every 1 ms the die sensors are read and the thermal state updated. `temps` are the four sensors in 0.1 °C; `lasting` says that one has been at 125 °C or above for 10 µs (R604). -/
  | thermalSample (temps : List Int) (lasting : Bool)
  /-- SUPPLY_SAMPLE: Every 10 µs each rail is sampled against its windows. `mv` are the eight rails in mV; bit r of `lasting` says that rail r has been outside its fault window for 10 µs (R606). -/
  | supplySample (mv : List Nat) (lasting : Nat)
  /-- PIN_FAULT_DETECT: An open, short or swap at a timing pin is detected or clears. `group` is the pin group less 1: 0 REFIN, 1 MREF_IN, 2 CLKOUT, 3 PULSE; `status` is the status of R607, 0 when a fault clears, and 4 for a swapped REFIN pair that is seen (R607). -/
  | pinFaultDetect (group : Fin 4) (n : Fin 16) (status : Fin 7)
  /-- SHORT_RETRY: A current-limited output tries full drive for 1 µs every 100 ms. Outputs 0 to 7 are CLKOUT, 8 to 23 PULSE0 to PULSE15; `cleared` says that full drive meets no short (R608). -/
  | shortRetry (o : Fin 24) (cleared : Bool)
  /-- DRAM_ECC_ERROR: A deep store access finds a corrected or uncorrectable ECC error (R610). -/
  | dramEccError (stack : Fin 2) (uncorrectable : Bool) (at_ : DramPlace)
  /-- DRAM_SCRUB: A background scrub reads the whole deep store once every 24 h. The corrected errors that the pass met in the two stacks (R610). -/
  | dramScrub (corrected0 corrected1 : Nat)
  /-- LOCAL_REGISTER_READ: A PCIe or SPI read of the local map that fails a bus check is logged in BUS_ERR and raises EV55 (R537). -/
  | localRegisterRead (t : BusAccess)
  /-- DEEP_STORE_TRAINING_COMPLETE: Deep store training at boot completes, or fails and the deep store manager enters FAULTED with DeepStoreLost set (R602). -/
  | deepStoreTrainingComplete (ok : Bool)
  /-- FEC_UNCORRECTABLE_CODEWORD: A lane's FEC decoder finds an uncorrectable codeword, counts it and raises EV(q) with cause 10. `corrected` are the codewords corrected since the last report (R459). -/
  | fecUncorrectableCodeword (l : Lane) (corrected : Nat)
  /-- PRE_MASTER_QUALIFICATION_TIMEOUT: Under the IEEE 1588 BMCA a port in PRE_MASTER completes its qualification timeout and enters MASTER (R116). -/
  | preMasterQualificationTimeout (p : Port)
  /-- LINK_TIMING_UPDATE: Work item 2 refines the stamps of the previous Turn and produces each port's link measurement record (R132). -/
  | linkTimingUpdate
  /-- SERVO_UPDATE: Work item 3 computes the NCO word for the next Turn from the selected reference's phase error (R198). -/
  | servoUpdate
  /-- REFERENCE_SELECTION: Work item 4 qualifies every candidate and decides whether to keep, switch or deselect the reference (R193). -/
  | referenceSelection
  /-- EVENT_EVALUATION: Work item 5 raises the Turn event sources whose conditions were recorded (R560). -/
  | eventEvaluation
  /-- COUNTER_DUMP: Work item 6 writes the captured counter bank records to the dump area (R572). -/
  | counterDump
  /-- CALIBRATION_STEP: Work item 7 performs one calibration step, evaluating one target whose histogram is complete (R307). -/
  | calibrationStep
  /-- ADDRESS_LEARNING: Work item 9 takes up to 256 learn events from the queue and writes MAC entries (R332). -/
  | addressLearning
  /-- REEL_TRIGGER_EVALUATION: Work item 10 evaluates the Reel trigger conditions of the previous Turn (R397). -/
  | reelTriggerEvaluation
  /-- TURN_CHANGE_CONTINUOUS: TurnChangeCmd 1 arms a period change with continuous numbering for Turn N (R54). -/
  | turnChangeContinuous
  /-- TURN_REANCHOR: TurnChangeCmd 2 arms a re-anchor of the Turns for Turn N (R55). -/
  | turnReanchor
  /-- TURN_CHANGE_CANCEL: TurnChangeCmd 3 cancels the pending Turn parameter change (R56). -/
  | turnChangeCancel
  /-- TIME_STEP_RELATIVE: TimeStepCmd 1 arms a relative step for Turn N (R78). -/
  | timeStepRelative
  /-- TIME_SET_ABSOLUTE: TimeStepCmd 2 arms an absolute set of time for Turn N (R78). -/
  | timeSetAbsolute
  /-- TIME_STEP_CANCEL: TimeStepCmd 3 cancels a pending step (R78). -/
  | timeStepCancel
  /-- TIME_SNAPSHOT_CMD: A write of 1 to TimeSnapshotCmd requests a consistent capture of time values (R93). -/
  | timeSnapshotCmd
  /-- TIME_SNAPSHOT_CAPTURE: At least 16 CCLK cycles after the command, spindle times, Turn number and uptime are captured (R93). -/
  | timeSnapshotCapture
  /-- HOST_REF_CMD: HostRefCmd delivers host-supplied time for a named Turn (R182). -/
  | hostRefCmd
  /-- HOST_REF_INTERVAL_EXPIRY: No HostRefCmd has been accepted within HostRefInterval Turns (R185). -/
  | hostRefIntervalExpiry
  /-- SWITCH_SETTLE_COMPLETE: The spindle has been LOCKED on the new reference for the settle time and the switch completes (R194). -/
  | switchSettleComplete
  /-- SWITCH_TIMEOUT: A switch not complete within RefSwitchTimeout is declared complete (R194). -/
  | switchTimeout
  /-- HOST_REF_SELECT_CMD: HostRefSelectCmd selects or deselects a reference in host-assisted mode of F2 (R206). -/
  | hostRefSelectCmd
  /-- HOLDOVER_BIN: At each whole second of uptime a one-second bin of yf is stored (R202). -/
  | holdoverBin
  /-- HOLDOVER_ESTIMATE_UPDATE: Each second in holdover the error estimate is recomputed and LOST is entered past its limits (R203). -/
  | holdoverEstimateUpdate
  /-- STEERED_SYNTH_LOSS: The steered synth loses lock and TCLK and the lane reference change over to the fixed synth (R216). -/
  | steeredSynthLoss
  /-- STEERED_SYNTH_LOCK: The steered synth declares lock after 100 µs within ±50 ps (R217). -/
  | steeredSynthLock
  /-- FIXED_SYNTH_LOSS: The fixed synth loses lock, CCLK is gated and a device-level fault follows (R218). -/
  | fixedSynthLoss
  /-- PLINTH_LOSS: PLINTH_IN has no edge for 200 ns, both synths lose lock and the spindle counters stop (R219). -/
  | plinthLoss
  /-- PLINTH_RETURN: PLINTH_IN has edges again and the spindle counters resume (R219). -/
  | plinthReturn
  /-- BOTH_SYNTHS_UNLOCKED: Both synths lose lock with the Plinth present and counters advance per Plinth cycle (R220). -/
  | bothSynthsUnlocked
  /-- OUTPUT_REALIGN_ARM: OutputRealignCmd 1 arms a re-alignment of the masked outputs for Turn N (R243). -/
  | outputRealignArm
  /-- OUTPUT_REALIGN_CANCEL: OutputRealignCmd 3 cancels the armed re-alignment (R243). -/
  | outputRealignCancel
  /-- MREF_ABSENT: MREF_IN misses edges for 1 µs or has edges too close and becomes absent (R259). -/
  | mrefAbsent
  /-- CAL_BIN_RUN_CMD: CalRunCmd 1 arms a bin calibration run (R307). -/
  | calBinRunCmd
  /-- CAL_PORT_RUN_CMD: CalRunCmd 2 arms a port delay run after checking its conditions (R300). -/
  | calPortRunCmd
  /-- CAL_RUN_ABORT: CalRunCmd 3 aborts the run in progress (R307). -/
  | calRunAbort
  /-- CAL_PORT_NEXT_CMD: CalPortNextCmd moves a port run from awaiting reference to measuring (R301). -/
  | calPortNextCmd
  /-- CAL_LOOP_PHASE_COMPLETE: Sixteen looped pulses are measured and the port run awaits the reference (R301). -/
  | calLoopPhaseComplete
  /-- CAL_MEASURING_PHASE_COMPLETE: CalPortSeconds elapse and the port run computes and checks its delay errors (R302). -/
  | calMeasuringPhaseComplete
  /-- TEMPERATURE_TRIGGER: Once per second a sensor moved beyond CalTempStep sets a temperature trigger (R305). -/
  | temperatureTrigger
  /-- CAL_STEP_COLLECT_SIGNAL: CalStepCmd 1 collects a histogram from the signal (R309). -/
  | calStepCollectSignal
  /-- CAL_STEP_COLLECT_DITHER: CalStepCmd 2 collects a histogram from dither (R309). -/
  | calStepCollectDither
  /-- CAL_STEP_EVALUATE: CalStepCmd 3 evaluates a histogram under the checks (R309). -/
  | calStepEvaluate
  /-- CAL_STEP_COMMIT_TABLE: CalStepCmd 4 commits an evaluated table that passed (R309). -/
  | calStepCommitTable
  /-- CAL_STEP_DISCARD: CalStepCmd 5 discards the evaluated table (R309). -/
  | calStepDiscard
  /-- CAL_STEP_TRIM: CalStepCmd 6 runs the trim step (R309). -/
  | calStepTrim
  /-- CAL_STEP_PORT_LOOP: CalStepCmd 7 runs the port run loop phase (R309). -/
  | calStepPortLoop
  /-- CAL_STEP_PORT_MEASURE: CalStepCmd 8 runs the port run measuring phase (R309). -/
  | calStepPortMeasure
  /-- CAL_STEP_COMMIT_PORT: CalStepCmd 9 commits an accepted port result (R309). -/
  | calStepCommitPort
  /-- LEARN_QUEUE_READ: A read of LearnQueueRead returns and removes up to four learn events (R335). -/
  | learnQueueRead
  /-- MAC_AGEING_VISIT: Every A/4 seconds the ager decrements or removes each dynamic entry (R333). -/
  | macAgeingVisit
  /-- TABLE_OP_READ: TableOpCmd 1 reads a table location (R348). -/
  | tableOpRead
  /-- TABLE_OP_WRITE: TableOpCmd 2 writes a table location (R348). -/
  | tableOpWrite
  /-- TABLE_OP_INSERT: TableOpCmd 3 inserts a MAC entry by key (R348). -/
  | tableOpInsert
  /-- TABLE_OP_DELETE: TableOpCmd 4 deletes a MAC entry by key (R348). -/
  | tableOpDelete
  /-- TABLE_OP_SEARCH: TableOpCmd 5 searches a MAC entry by key (R348). -/
  | tableOpSearch
  /-- TABLE_OP_FLUSH: TableOpCmd 6 flushes dynamic MAC entries by port and FID (R348). -/
  | tableOpFlush
  /-- TABLE_OP_COMPLETE: A table operation completes and reports its status (R350). -/
  | tableOpComplete
  /-- GATE_OP_READ_ARMATURE: GateOpCmd 1 reads eight Armature gate entries (R373). -/
  | gateOpReadArmature
  /-- GATE_OP_READ_MAQUETTE: GateOpCmd 2 reads eight Maquette gate entries (R373). -/
  | gateOpReadMaquette
  /-- GATE_OP_WRITE_MAQUETTE: GateOpCmd 3 writes eight Maquette gate entries (R384). -/
  | gateOpWriteMaquette
  /-- MAQUETTE_STREAM_READ: MaquetteStreamCmd 1 reads a Maquette stream image entry (R384). -/
  | maquetteStreamRead
  /-- MAQUETTE_STREAM_WRITE: MaquetteStreamCmd 2 writes a Maquette stream image entry (R384). -/
  | maquetteStreamWrite
  /-- MAQUETTE_COPY: MaquetteCopyCmd starts copying the active schedule into the Maquette (R386). -/
  | maquetteCopy
  /-- MAQUETTE_COPY_COMPLETE: The Maquette copy completes (R386). -/
  | maquetteCopyComplete
  /-- MAQUETTE_SWAP_ARM: MaquetteSwapCmd 1 arms a swap for Turn N after its checks (R385). -/
  | maquetteSwapArm
  /-- MAQUETTE_SWAP_CANCEL: MaquetteSwapCmd 3 cancels the armed swap (R385). -/
  | maquetteSwapCancel
  /-- REEL_START: ReelCmd 1 starts recording with cleared contents (R396). -/
  | reelStart
  /-- REEL_STOP: ReelCmd 2 stops the Reel (R396). -/
  | reelStop
  /-- REEL_RESUME: ReelCmd 3 resumes recording with contents kept (R396). -/
  | reelResume
  /-- REEL_TRIGGER_CMD: ReelTriggerCmd triggers the Reel within 1 µs (R397). -/
  | reelTriggerCmd
  /-- REEL_READ: A read of ReelReadData returns 64 bytes and advances the read offset (R398). -/
  | reelRead
  /-- FW_VERIFY: FwUpdateCmd 1 verifies the staged image (R490). -/
  | fwVerify
  /-- FW_VERIFY_COMPLETE: Verification of the staged image completes as verified or failed (R490). -/
  | fwVerifyComplete
  /-- FW_ARM: FwUpdateCmd 2 arms the update for Turn N (R491). -/
  | fwArm
  /-- FW_CANCEL: FwUpdateCmd 3 cancels a staged or armed update (R493). -/
  | fwCancel
  /-- FW_WRITE_FLASH: FwUpdateCmd 4 writes the staged image to the flash as primary (R493). -/
  | fwWriteFlash
  /-- MDP_OPEN: OPEN requests a session slot at a level. The server executes the request at the head of its queue (R514). -/
  | mdpOpen
  /-- MDP_PROVE: PROVE completes authentication of a session. The server executes the request at the head of its queue (R515). -/
  | mdpProve
  /-- MDP_CLOSE: CLOSE closes a session. The server executes the request at the head of its queue (R518). -/
  | mdpClose
  /-- MDP_KEEPALIVE: KEEPALIVE resets a session's timer. The server executes the request at the head of its queue (R518). -/
  | mdpKeepalive
  /-- MDP_STATUS: STATUS returns the last applied sequence number. The server executes the request at the head of its queue (R511). -/
  | mdpStatus
  /-- MDP_READ: READ executes a list of object reads. The server executes the request at the head of its queue (R510). -/
  | mdpRead
  /-- MDP_WRITE: WRITE checks and commits a list of object writes together. The server executes the request at the head of its queue (R503). -/
  | mdpWrite
  /-- MDP_DESCRIBE: DESCRIBE returns object descriptors. The server executes the request at the head of its queue (R502). -/
  | mdpDescribe
  /-- MDP_SEG_READ_INIT: SEG_READ_INIT captures an object into the transfer buffer. The server executes the request at the head of its queue (R520). -/
  | mdpSegReadInit
  /-- MDP_SEG_READ: SEG_READ returns a segment of the captured value. The server executes the request at the head of its queue (R520). -/
  | mdpSegRead
  /-- MDP_SEG_WRITE_INIT: SEG_WRITE_INIT opens a segmented write. The server executes the request at the head of its queue (R521). -/
  | mdpSegWriteInit
  /-- MDP_SEG_WRITE: SEG_WRITE supplies bytes and the completing segment commits. The server executes the request at the head of its queue (R521). -/
  | mdpSegWrite
  /-- MDP_SEG_ABORT: SEG_ABORT ends a segmented transfer. The server executes the request at the head of its queue (R520). -/
  | mdpSegAbort
  /-- PERF_SAMPLE_READ: A read of PerfSampleRead returns and removes four samples (R576). -/
  | perfSampleRead
  /-- SPOOL_LOG_READ: A read of SpoolLogRead returns and removes the oldest log entry (R586). -/
  | spoolLogRead
  /-- POWER_ON_RESET: VDD_CORE rises through 0.66 V and resets the device (R587). -/
  | powerOnReset
  /-- RESET_N_ASSERT: RESET_N held low resets the device (R587). -/
  | resetNAssert
  /-- SUPPLY_RESET: VDD_CORE below 0.66 V for 1 µs resets the device (R587). -/
  | supplyReset
  /-- DEVICE_RESET_CMD: DeviceResetCmd resets the device from the local interface (R587). -/
  | deviceResetCmd
  /-- PERST_ASSERT: PERST_N low holds only the PCIe function in reset and disables the rings (R588). -/
  | perstAssert
  /-- PCIE_LINK_TRAINING: The PCIe function trains once RESET_N and PERST_N are high and the fixed synth locked (R595). -/
  | pcieLinkTraining
  /-- SERVER_READY: Firmware runs with defaults and the dictionary server serves local requests (R594). -/
  | serverReady
  /-- STANDBY_RETURN_AT_BOOT: Core B and spindle B are returned after SERVER_READY (R594). -/
  | standbyReturnAtBoot
  /-- DEVICE_RESTART_CMD: DeviceRestartCmd restarts a halted device (R603). -/
  | deviceRestartCmd
  /-- CONFIG_LOST_ACK: ConfigLostAck clears ConfigLost (R601). -/
  | configLostAck
  /-- FIXED_SYNTH_LOCK: The fixed synth regains lock to PLINTH_IN and FixedSynthState leaves LOST or LOCKING for LOCKED (R218). -/
  | fixedSynthLock
deriving DecidableEq, Repr

end Sys2Proof
end

