-- ==== Sys2Proof/Config.lean ====
section
/-! DEFINITION. What the spec leaves open, as constants nothing can see into. -/

namespace Sys2Proof.Config

/-- The free values: the n-th value the spec leaves open in a run (log entry 1). -/
opaque freeValue : Nat → Int

/-- Whether a quotient that is no integer is rounded up, where the spec gives a formula and no rounding (log entry 2). -/
opaque roundsUp : Int → Nat → Bool

/-- What is kept of a duration that lies outside the range of a DUR64, before it is brought into that range (R63, log
entry 45). -/
opaque wideDur : Int → Int

/-- The factory bin tables in OTP (R292): the centre of a tap code in 1/16 ps, by delay line. Lines a of the targets are 0-15, the
rising slopes of EVIN0-EVIN15, 16-31 their falling slopes, and 32-79 the whorls of L0-L47; their lines b are 128 more; 80-83 are
REFIN0-REFIN3 (log entry 3). -/
opaque otpBin : Nat → Nat → Nat

/-- The factory delay from the ball of an EVIN channel to its comparator, in 2^-16 ns, by channel, slope (true rising) and
threshold in steps of 1.25 mV (R250, R262, log entry 3). -/
opaque inputDelay : Nat → Bool → Int → Int

/-- Base(rate) of R126 in OTP: the fixed latency for a rate code of PtRate and an FEC mode (0 none, 1 Clause 74, 2 Clause 108,
3 Clause 91), receive (true) and transmit, in 2^-16 ns (log entry 3). -/
opaque latencyBase : Nat → Nat → Bool → Int

/-- The factory preset of a lane's coefficients in OTP: byte of a lane, by byte number (R437, R439, log entry 3). -/
opaque otpCoeff : Nat → Nat → Byte

/-- Whether an ECDSA P-256 signature over 64 bytes verifies against the public key whose digest is held in OTP (R592, log
entry 3). -/
opaque signatureOk : List Byte → List Byte → Bool

/-- The object (key) that the firmware's dictionary sheet binds to a 32-bit word of the Benig window, by the version of the B212
map and the word's number (R544, log entry 3). -/
opaque benigBinding : Nat → Nat → Option Nat

/-- What a word of the local map reads as that no table of the spec lists, or that is write-only, by address (log entry 3). -/
opaque unlistedWord : Nat → BitVec 32

/-- The manufacturer identity that the BSDL file gives (R634, log entry 3). -/
opaque bsdlManufacturer : BitVec 11

end Sys2Proof.Config
end

