-- ==== Sys2Proof/Machine/Objects.lean ====
section
/-! DEFINITION. The object dictionary (R10, R11, R498 to R501): every object table of the spec as rows, with the
key of every object by the name the spec gives it. Keys are index * 256 + subindex (R498). An object with one
value uses subindex 0; instance n of an array sits at subindex n + 1 (R499). -/

namespace Sys2Proof.Machine

/-- The object types of R10. Strings carry their length or their largest length. -/
inductive ObjTy where
  | bool | u8 | u16 | u32 | u64 | i16 | i32 | i64 | time96 | dur64 | dfreq
  | octets (len : Nat) | vstring (max : Nat)
deriving DecidableEq, Repr

/-- The access kinds of R11. -/
inductive Acc where
  | ro | rw | rwd | wo | cmd
deriving DecidableEq, Repr

/-- The default column of an object table: one number, a number for each instance (`a * n + b`), a number for each
range of subindices, a text, or an octet string with every bit 1. -/
inductive Dflt where
  | const (v : Int)
  | byInst (a b : Int)
  | perSub (l : List (Nat × Int))
  | text (codes : List Nat)
  | ones
deriving DecidableEq, Repr

/-- The range column of an object table, as far as it does not depend on another object. -/
inductive Rng where
  | any
  | between (lo hi : Int)
  | oneOf (l : List Int)
  | zeroOr (lo hi : Int)
  | orElse (lo hi x : Int)
deriving DecidableEq, Repr

/-- One row of an object table: its index range, subindex range, type, access, level, default and range. -/
structure ObjRow where
  idxLo : Nat
  idxHi : Nat
  subLo : Nat
  subHi : Nat
  ty : ObjTy
  acc : Acc
  level : Nat
  dflt : Dflt
  rng : Rng
deriving DecidableEq, Repr

/-- Key of instance `n` of the array object whose index has base key `o` (R499). -/
abbrev inst (o n : Nat) : Nat := o + n + 1

namespace Obj

/-- TurnPeriod, 0x1300:00 (R61). -/
abbrev TurnPeriod : Nat := 0x130000
/-- TurnAnchorTime, 0x1301:00 (R61). -/
abbrev TurnAnchorTime : Nat := 0x130100
/-- TurnAnchorNumber, 0x1302:00 (R61). -/
abbrev TurnAnchorNumber : Nat := 0x130200
/-- TurnNumber, 0x1303:00 (R61). -/
abbrev TurnNumber : Nat := 0x130300
/-- TurnInPhase, 0x1304:00 (R61). -/
abbrev TurnInPhase : Nat := 0x130400
/-- TurnCclkLength, 0x1305:00 (R61). -/
abbrev TurnCclkLength : Nat := 0x130500
/-- TurnStagedPeriod, 0x1308:00 (R61). -/
abbrev TurnStagedPeriod : Nat := 0x130800
/-- TurnStagedAnchorTime, 0x1309:00 (R61). -/
abbrev TurnStagedAnchorTime : Nat := 0x130900
/-- TurnStagedAnchorNumber, 0x130A:00 (R61). -/
abbrev TurnStagedAnchorNumber : Nat := 0x130A00
/-- TurnChangeAt, 0x130B:00 (R61). -/
abbrev TurnChangeAt : Nat := 0x130B00
/-- TurnChangeCmd, 0x130C:00 (R61). -/
abbrev TurnChangeCmd : Nat := 0x130C00
/-- TurnQueueDepth, 0x130D:00 (R61). -/
abbrev TurnQueueDepth : Nat := 0x130D00
/-- TurnDiscontinuityCount, 0x130E:00 (R61). -/
abbrev TurnDiscontinuityCount : Nat := 0x130E00
/-- TurnLastDiscontinuity, 0x130F:00 (R61). -/
abbrev TurnLastDiscontinuity : Nat := 0x130F00
/-- OverrunCount, 0x1310:01–0D (R61). -/
abbrev OverrunCount : Nat := 0x131000
/-- OverrunLastTurn, 0x1311:01–0D (R61). -/
abbrev OverrunLastTurn : Nat := 0x131100
/-- OverrunCause, 0x1312:01–0D (R61). -/
abbrev OverrunCause : Nat := 0x131200
/-- OverrunClear, 0x1313:01–0D (R61). -/
abbrev OverrunClear : Nat := 0x131300
/-- TimeNow, 0x2000:00 (R96). -/
abbrev TimeNow : Nat := 0x200000
/-- TimeValid, 0x2001:00 (R96). -/
abbrev TimeValid : Nat := 0x200100
/-- TimeSource, 0x2002:00 (R96). -/
abbrev TimeSource : Nat := 0x200200
/-- TimeSourceInstance, 0x2003:00 (R96). -/
abbrev TimeSourceInstance : Nat := 0x200300
/-- TimeLearnedTurn, 0x2004:00 (R96). -/
abbrev TimeLearnedTurn : Nat := 0x200400
/-- UptimeNs, 0x2005:00 (R96). -/
abbrev UptimeNs : Nat := 0x200500
/-- TimeInitialStepEnable, 0x2006:00 (R96). -/
abbrev TimeInitialStepEnable : Nat := 0x200600
/-- TimeStepValue, 0x2008:00 (R96). -/
abbrev TimeStepValue : Nat := 0x200800
/-- TimeSetValue, 0x2009:00 (R96). -/
abbrev TimeSetValue : Nat := 0x200900
/-- TimeStepAt, 0x200A:00 (R96). -/
abbrev TimeStepAt : Nat := 0x200A00
/-- TimeStepCmd, 0x200B:00 (R96). -/
abbrev TimeStepCmd : Nat := 0x200B00
/-- TimeStepCount, 0x200C:00 (R96). -/
abbrev TimeStepCount : Nat := 0x200C00
/-- TimeLastStep, 0x200D:00 (R96). -/
abbrev TimeLastStep : Nat := 0x200D00
/-- TimeLastStepSaturated, 0x200D:01 (R96). -/
abbrev TimeLastStepSaturated : Nat := 0x200D01
/-- TimeLastStepTurn, 0x200E:00 (R96). -/
abbrev TimeLastStepTurn : Nat := 0x200E00
/-- TimeSnapshotCmd, 0x2010:00 (R96). -/
abbrev TimeSnapshotCmd : Nat := 0x201000
/-- SnapActiveSecondsHigh, 0x2011:01 (R96). -/
abbrev SnapActiveSecondsHigh : Nat := 0x201101
/-- SnapActiveSecondsLow, 0x2011:02 (R96). -/
abbrev SnapActiveSecondsLow : Nat := 0x201102
/-- SnapActiveNanoseconds, 0x2011:03 (R96). -/
abbrev SnapActiveNanoseconds : Nat := 0x201103
/-- SnapActiveFraction, 0x2011:04 (R96). -/
abbrev SnapActiveFraction : Nat := 0x201104
/-- SnapStandbyMinusActive, 0x2011:05 (R96). -/
abbrev SnapStandbyMinusActive : Nat := 0x201105
/-- SnapTurnLow, 0x2011:06 (R96). -/
abbrev SnapTurnLow : Nat := 0x201106
/-- SnapTurnHigh, 0x2011:07 (R96). -/
abbrev SnapTurnHigh : Nat := 0x201107
/-- SnapUptimeLow, 0x2011:08 (R96). -/
abbrev SnapUptimeLow : Nat := 0x201108
/-- SnapUptimeHigh, 0x2011:09 (R96). -/
abbrev SnapUptimeHigh : Nat := 0x201109
/-- SnapTimeValid, 0x2011:0A (R96). -/
abbrev SnapTimeValid : Nat := 0x20110A
/-- SnapshotStatus, 0x2011:0B (R96). -/
abbrev SnapshotStatus : Nat := 0x20110B
/-- SpindleTime, 0x2100:01–02 (R97). -/
abbrev SpindleTime : Nat := 0x210000
/-- SpindleRole, 0x2101:01–02 (R97). -/
abbrev SpindleRole : Nat := 0x210100
/-- SpindleState, 0x2102:01–02 (R97). -/
abbrev SpindleState : Nat := 0x210200
/-- NcoWord, 0x2103:01–02 (R97). -/
abbrev NcoWord : Nat := 0x210300
/-- NcoFrequencyTerm, 0x2104:01–02 (R97). -/
abbrev NcoFrequencyTerm : Nat := 0x210400
/-- NcoPhaseTerm, 0x2105:01–02 (R97). -/
abbrev NcoPhaseTerm : Nat := 0x210500
/-- NcoClampCount, 0x2106:01–02 (R97). -/
abbrev NcoClampCount : Nat := 0x210600
/-- SpindleControl, 0x2107:01–02 (R97). -/
abbrev SpindleControl : Nat := 0x210700
/-- SpindleBlockState, 0x2108:01–02 (R97). -/
abbrev SpindleBlockState : Nat := 0x210800
/-- SpindleEventCause, 0x2109:01–02 (R97). -/
abbrev SpindleEventCause : Nat := 0x210900
/-- HostNcoFrequency, 0x2110:00 (R97). -/
abbrev HostNcoFrequency : Nat := 0x211000
/-- HostNcoPhase, 0x2111:00 (R97). -/
abbrev HostNcoPhase : Nat := 0x211100
/-- HostNcoPhaseClamped, 0x2111:01 (R97). -/
abbrev HostNcoPhaseClamped : Nat := 0x211101
/-- SlewLimitAcquiring, 0x2112:00 (R97). -/
abbrev SlewLimitAcquiring : Nat := 0x211200
/-- SlewLimitLocked, 0x2113:00 (R97). -/
abbrev SlewLimitLocked : Nat := 0x211300
/-- NcoLimit, 0x2114:00 (R97). -/
abbrev NcoLimit : Nat := 0x211400
/-- SpindleTimeDifference, 0x2115:01–02 (R97). -/
abbrev SpindleTimeDifference : Nat := 0x211500
/-- LinkTimingState, 0x2300:01–30 (R146). -/
abbrev LinkTimingState : Nat := 0x230000
/-- PtpPortState, 0x2301:01–30 (R146). -/
abbrev PtpPortState : Nat := 0x230100
/-- LinkOffset, 0x2302:01–30 (R146). -/
abbrev LinkOffset : Nat := 0x230200
/-- LinkMeanPathDelay, 0x2303:01–30 (R146). -/
abbrev LinkMeanPathDelay : Nat := 0x230300
/-- LinkRateRatio, 0x2304:01–30 (R146). -/
abbrev LinkRateRatio : Nat := 0x230400
/-- PtpEngineControl, 0x2305:01–30 (R146). -/
abbrev PtpEngineControl : Nat := 0x230500
/-- PtpEngineBlockState, 0x2306:01–30 (R146). -/
abbrev PtpEngineBlockState : Nat := 0x230600
/-- PtpProfile, 0x2307:01–30 (R146). -/
abbrev PtpProfile : Nat := 0x230700
/-- PtpMapping, 0x2308:01–30 (R146). -/
abbrev PtpMapping : Nat := 0x230800
/-- PtpDelayMechanism, 0x2309:01–30 (R146). -/
abbrev PtpDelayMechanism : Nat := 0x230900
/-- PtpStepMode, 0x230A:01–30 (R146). -/
abbrev PtpStepMode : Nat := 0x230A00
/-- PtpVersionMode, 0x230B:01–30 (R146). -/
abbrev PtpVersionMode : Nat := 0x230B00
/-- LogSyncInterval, 0x230C:01–30 (R146). -/
abbrev LogSyncInterval : Nat := 0x230C00
/-- LogMinDelayReqInterval, 0x230D:01–30 (R146). -/
abbrev LogMinDelayReqInterval : Nat := 0x230D00
/-- LogAnnounceInterval, 0x230E:01–30 (R146). -/
abbrev LogAnnounceInterval : Nat := 0x230E00
/-- AnnounceReceiptTimeout, 0x230F:01–30 (R146). -/
abbrev AnnounceReceiptTimeout : Nat := 0x230F00
/-- NeighborPropDelayThresh, 0x2310:01–30 (R146). -/
abbrev NeighborPropDelayThresh : Nat := 0x231000
/-- LinkRecordTurn, 0x2311:01–30 (R146). -/
abbrev LinkRecordTurn : Nat := 0x231100
/-- LinkExchangeCount, 0x2312:01–30 (R146). -/
abbrev LinkExchangeCount : Nat := 0x231200
/-- LinkUnrefinedCount, 0x2313:01–30 (R146). -/
abbrev LinkUnrefinedCount : Nat := 0x231300
/-- LinkAbandonedCount, 0x2314:01–30 (R146). -/
abbrev LinkAbandonedCount : Nat := 0x231400
/-- LinkRelockCount, 0x2315:01–30 (R146). -/
abbrev LinkRelockCount : Nat := 0x231500
/-- LinkRelockLastShift, 0x2316:01–30 (R146). -/
abbrev LinkRelockLastShift : Nat := 0x231600
/-- RxLatencyFolded, 0x2317:01–30 (R146). -/
abbrev RxLatencyFolded : Nat := 0x231700
/-- TxLatencyFolded, 0x2318:01–30 (R146). -/
abbrev TxLatencyFolded : Nat := 0x231800
/-- LatencyPositions, 0x2319:01–30 (R146). -/
abbrev LatencyPositions : Nat := 0x231900
/-- TimingLane, 0x231A:01–30 (R146). -/
abbrev TimingLane : Nat := 0x231A00
/-- HostLinkOffset, 0x231B:01–30 (R146). -/
abbrev HostLinkOffset : Nat := 0x231B00
/-- HostLinkMeanPathDelay, 0x231C:01–30 (R146). -/
abbrev HostLinkMeanPathDelay : Nat := 0x231C00
/-- HostLinkRecordCmd, 0x231D:01–30 (R146). -/
abbrev HostLinkRecordCmd : Nat := 0x231D00
/-- PtpEffectiveSyncTurns, 0x231E:01–30 (R146). -/
abbrev PtpEffectiveSyncTurns : Nat := 0x231E00
/-- LinkPathDelayValid, 0x231F:01–30 (R146). -/
abbrev LinkPathDelayValid : Nat := 0x231F00
/-- EsmcEnable, 0x2340:01–30 (R146). -/
abbrev EsmcEnable : Nat := 0x234000
/-- EsmcRxQl, 0x2341:01–30 (R146). -/
abbrev EsmcRxQl : Nat := 0x234100
/-- EsmcTxQl, 0x2342:01–30 (R146). -/
abbrev EsmcTxQl : Nat := 0x234200
/-- EsmcAssumedQl, 0x2343:01–30 (R146). -/
abbrev EsmcAssumedQl : Nat := 0x234300
/-- EsmcTimeoutCount, 0x2344:01–30 (R146). -/
abbrev EsmcTimeoutCount : Nat := 0x234400
/-- EsmcIgnoredTlvCount, 0x2345:01–30 (R146). -/
abbrev EsmcIgnoredTlvCount : Nat := 0x234500
/-- PtpDomainNumber, 0x2320:00 (R147). -/
abbrev PtpDomainNumber : Nat := 0x232000
/-- PtpMajorSdoId, 0x2321:00 (R147). -/
abbrev PtpMajorSdoId : Nat := 0x232100
/-- Priority1, 0x2322:00 (R147). -/
abbrev Priority1 : Nat := 0x232200
/-- Priority2, 0x2323:00 (R147). -/
abbrev Priority2 : Nat := 0x232300
/-- ClockIdentity, 0x2324:00 (R147). -/
abbrev ClockIdentity : Nat := 0x232400
/-- ClockClass, 0x2325:00 (R147). -/
abbrev ClockClass : Nat := 0x232500
/-- SlaveOnly, 0x2326:00 (R147). -/
abbrev SlaveOnly : Nat := 0x232600
/-- CurrentUtcOffset, 0x2327:00 (R147). -/
abbrev CurrentUtcOffset : Nat := 0x232700
/-- CurrentUtcOffsetValid, 0x2328:00 (R147). -/
abbrev CurrentUtcOffsetValid : Nat := 0x232800
/-- TimeSourceAnnounced, 0x2329:00 (R147). -/
abbrev TimeSourceAnnounced : Nat := 0x232900
/-- PtpForeignUncorrectedCount, 0x232A:00 (R147). -/
abbrev PtpForeignUncorrectedCount : Nat := 0x232A00
/-- PtpDiscardedCount, 0x232B:00 (R147). -/
abbrev PtpDiscardedCount : Nat := 0x232B00
/-- TcDomainControl, 0x2330:01–04 (R148). -/
abbrev TcDomainControl : Nat := 0x233000
/-- TcDomainBlockState, 0x2331:01–04 (R148). -/
abbrev TcDomainBlockState : Nat := 0x233100
/-- TcDomainNumber, 0x2332:01–04 (R148). -/
abbrev TcDomainNumber : Nat := 0x233200
/-- TcDomainMajorSdoId, 0x2333:01–04 (R148). -/
abbrev TcDomainMajorSdoId : Nat := 0x233300
/-- TcDomainType, 0x2334:01–04 (R148). -/
abbrev TcDomainType : Nat := 0x233400
/-- TcCorrectedCount, 0x2335:01–04 (R148). -/
abbrev TcCorrectedCount : Nat := 0x233500
/-- TcCorrectionSaturatedCount, 0x2336:01–04 (R148). -/
abbrev TcCorrectionSaturatedCount : Nat := 0x233600
/-- WhorlControl, 0x2350:01–30 (R149). -/
abbrev WhorlControl : Nat := 0x235000
/-- WhorlBlockState, 0x2351:01–30 (R149). -/
abbrev WhorlBlockState : Nat := 0x235100
/-- WhorlPhase, 0x2352:01–30 (R149). -/
abbrev WhorlPhase : Nat := 0x235200
/-- WhorlNoise, 0x2353:01–30 (R149). -/
abbrev WhorlNoise : Nat := 0x235300
/-- WhorlLocked, 0x2354:01–30 (R149). -/
abbrev WhorlLocked : Nat := 0x235400
/-- PlyControl, 0x2400:01–18 (R175). -/
abbrev PlyControl : Nat := 0x240000
/-- PlyBlockState, 0x2401:01–18 (R175). -/
abbrev PlyBlockState : Nat := 0x240100
/-- PlyPortA, 0x2403:01–18 (R175). -/
abbrev PlyPortA : Nat := 0x240300
/-- PlyPortB, 0x2404:01–18 (R175). -/
abbrev PlyPortB : Nat := 0x240400
/-- PlyWavelengthPlan, 0x2405:01–18 (R175). -/
abbrev PlyWavelengthPlan : Nat := 0x240500
/-- PlyWavelengthCoeff, 0x2406:01–18 (R175). -/
abbrev PlyWavelengthCoeff : Nat := 0x240600
/-- PlyState, 0x2407:01–18 (R175). -/
abbrev PlyState : Nat := 0x240700
/-- PlyFibreDelay1, 0x2408:01–18 (R175). -/
abbrev PlyFibreDelay1 : Nat := 0x240800
/-- PlyFibreDelay2, 0x2409:01–18 (R175). -/
abbrev PlyFibreDelay2 : Nat := 0x240900
/-- PlyAsymmetryDelta, 0x240A:01–18 (R175). -/
abbrev PlyAsymmetryDelta : Nat := 0x240A00
/-- PlyOffset, 0x240B:01–18 (R175). -/
abbrev PlyOffset : Nat := 0x240B00
/-- PlyRoundTripMismatch, 0x240C:01–18 (R175). -/
abbrev PlyRoundTripMismatch : Nat := 0x240C00
/-- PlySolutionTurn, 0x240D:01–18 (R175). -/
abbrev PlySolutionTurn : Nat := 0x240D00
/-- PlyPairCount, 0x240E:01–18 (R175). -/
abbrev PlyPairCount : Nat := 0x240E00
/-- PlyAlarmCause, 0x240F:01–18 (R175). -/
abbrev PlyAlarmCause : Nat := 0x240F00
/-- PlyAsymmetryLimit, 0x2410:01–18 (R175). -/
abbrev PlyAsymmetryLimit : Nat := 0x241000
/-- PlyMismatchLimit, 0x2411:01–18 (R175). -/
abbrev PlyMismatchLimit : Nat := 0x241100
/-- PlyStepReportThreshold, 0x2412:01–18 (R175). -/
abbrev PlyStepReportThreshold : Nat := 0x241200
/-- PlyRelockWindow, 0x2413:01–18 (R175). -/
abbrev PlyRelockWindow : Nat := 0x241300
/-- PlyAlarmCount, 0x2414:01–18 (R175). -/
abbrev PlyAlarmCount : Nat := 0x241400
/-- FixedAsymmetry, 0x2420:01–30 (R176). -/
abbrev FixedAsymmetry : Nat := 0x242000
/-- WavelengthCoeff, 0x2421:01–30 (R176). -/
abbrev WavelengthCoeff : Nat := 0x242100
/-- AsymmetryInForce, 0x2422:01–30 (R176). -/
abbrev AsymmetryInForce : Nat := 0x242200
/-- AsymmetrySource, 0x2423:01–30 (R176). -/
abbrev AsymmetrySource : Nat := 0x242300
/-- PathStepThreshold, 0x2424:01–30 (R176). -/
abbrev PathStepThreshold : Nat := 0x242400
/-- PathStepCount, 0x2425:01–30 (R176). -/
abbrev PathStepCount : Nat := 0x242500
/-- PathStepLast, 0x2426:01–30 (R176). -/
abbrev PathStepLast : Nat := 0x242600
/-- PathStepDetector, 0x2427:01–30 (R176). -/
abbrev PathStepDetector : Nat := 0x242700
/-- PathStepBridgeEstimate, 0x2428:01–30 (R176). -/
abbrev PathStepBridgeEstimate : Nat := 0x242800
/-- PathStepAsymmetry, 0x2429:01–30 (R176). -/
abbrev PathStepAsymmetry : Nat := 0x242900
/-- PathStepDecisionCmd, 0x242A:01–30 (R176). -/
abbrev PathStepDecisionCmd : Nat := 0x242A00
/-- PathStepAutoDecision, 0x242B:01–30 (R176). -/
abbrev PathStepAutoDecision : Nat := 0x242B00
/-- PathStepMemory, 0x242C:01–30 (R176). -/
abbrev PathStepMemory : Nat := 0x242C00
/-- RefCandidateKind, 0x2200:01–65 (R207). -/
abbrev RefCandidateKind : Nat := 0x220000
/-- RefPriority, 0x2201:01–65 (R207). -/
abbrev RefPriority : Nat := 0x220100
/-- RefQualState, 0x2202:01–65 (R207). -/
abbrev RefQualState : Nat := 0x220200
/-- RefDisqualCause, 0x2203:01–65 (R207). -/
abbrev RefDisqualCause : Nat := 0x220300
/-- RefPhaseError, 0x2204:01–65 (R207). -/
abbrev RefPhaseError : Nat := 0x220400
/-- RefFreqOffset, 0x2205:01–65 (R207). -/
abbrev RefFreqOffset : Nat := 0x220500
/-- RefQl, 0x2206:01–65 (R207). -/
abbrev RefQl : Nat := 0x220600
/-- RefLockout, 0x2207:01–65 (R207). -/
abbrev RefLockout : Nat := 0x220700
/-- RefSoftAlarm, 0x2208:01–65 (R207). -/
abbrev RefSoftAlarm : Nat := 0x220800
/-- RefWtrRemaining, 0x2209:01–65 (R207). -/
abbrev RefWtrRemaining : Nat := 0x220900
/-- RefJumpCount, 0x220A:01–65 (R207). -/
abbrev RefJumpCount : Nat := 0x220A00
/-- RefQualChangeCount, 0x220B:01–65 (R207). -/
abbrev RefQualChangeCount : Nat := 0x220B00
/-- RefPhaseJumpThreshold, 0x220C:01–65 (R207). -/
abbrev RefPhaseJumpThreshold : Nat := 0x220C00
/-- RefSelected, 0x2210:00 (R208). -/
abbrev RefSelected : Nat := 0x221000
/-- RefSelectorState, 0x2211:00 (R208). -/
abbrev RefSelectorState : Nat := 0x221100
/-- RefRevertive, 0x2212:00 (R208). -/
abbrev RefRevertive : Nat := 0x221200
/-- RefWaitToRestore, 0x2213:00 (R208). -/
abbrev RefWaitToRestore : Nat := 0x221300
/-- RefHoldOff, 0x2214:00 (R208). -/
abbrev RefHoldOff : Nat := 0x221400
/-- RefQualifyTime, 0x2215:00 (R208). -/
abbrev RefQualifyTime : Nat := 0x221500
/-- RefSoftLimit, 0x2216:00 (R208). -/
abbrev RefSoftLimit : Nat := 0x221600
/-- RefHardLimit, 0x2217:00 (R208). -/
abbrev RefHardLimit : Nat := 0x221700
/-- RefFreqMonitorWindow, 0x2218:00 (R208). -/
abbrev RefFreqMonitorWindow : Nat := 0x221800
/-- RefUseQl, 0x2219:00 (R208). -/
abbrev RefUseQl : Nat := 0x221900
/-- RefForce, 0x221A:00 (R208). -/
abbrev RefForce : Nat := 0x221A00
/-- RefSwitchSettleTime, 0x221B:00 (R208). -/
abbrev RefSwitchSettleTime : Nat := 0x221B00
/-- RefSwitchTimeout, 0x221C:00 (R208). -/
abbrev RefSwitchTimeout : Nat := 0x221C00
/-- RefSwitchCount, 0x221D:00 (R208). -/
abbrev RefSwitchCount : Nat := 0x221D00
/-- RefEventCause, 0x221E:00 (R208). -/
abbrev RefEventCause : Nat := 0x221E00
/-- RefSelectorControl, 0x221F:00 (R208). -/
abbrev RefSelectorControl : Nat := 0x221F00
/-- RefSelectorBlockState, 0x2220:00 (R208). -/
abbrev RefSelectorBlockState : Nat := 0x222000
/-- HostRefSelect, 0x2221:00 (R208). -/
abbrev HostRefSelect : Nat := 0x222100
/-- HostRefSelectCmd, 0x2222:00 (R208). -/
abbrev HostRefSelectCmd : Nat := 0x222200
/-- RefInControl, 0x2230:01–04 (R209). -/
abbrev RefInControl : Nat := 0x223000
/-- RefInBlockState, 0x2231:01–04 (R209). -/
abbrev RefInBlockState : Nat := 0x223100
/-- RefInMode, 0x2232:01–04 (R209). -/
abbrev RefInMode : Nat := 0x223200
/-- RefInFrequency, 0x2233:01–04 (R209). -/
abbrev RefInFrequency : Nat := 0x223300
/-- RefInCableDelay, 0x2234:01–04 (R209). -/
abbrev RefInCableDelay : Nat := 0x223400
/-- RefInQl, 0x2235:01–04 (R209). -/
abbrev RefInQl : Nat := 0x223500
/-- RefInPulseSeq, 0x2236:01–04 (R209). -/
abbrev RefInPulseSeq : Nat := 0x223600
/-- RefInLastPulseStamp, 0x2237:01–04 (R209). -/
abbrev RefInLastPulseStamp : Nat := 0x223700
/-- RefInLabelPulseSeq, 0x2238:01–04 (R209). -/
abbrev RefInLabelPulseSeq : Nat := 0x223800
/-- RefInLabelSeconds, 0x2239:01–04 (R209). -/
abbrev RefInLabelSeconds : Nat := 0x223900
/-- RefInLabelCmd, 0x223A:01–04 (R209). -/
abbrev RefInLabelCmd : Nat := 0x223A00
/-- RefInSecondsKnown, 0x223B:01–04 (R209). -/
abbrev RefInSecondsKnown : Nat := 0x223B00
/-- RefInEventCause, 0x223C:01–04 (R209). -/
abbrev RefInEventCause : Nat := 0x223C00
/-- HostRefTime, 0x2240:00 (R210). -/
abbrev HostRefTime : Nat := 0x224000
/-- HostRefAtTurn, 0x2241:00 (R210). -/
abbrev HostRefAtTurn : Nat := 0x224100
/-- HostRefCmd, 0x2242:00 (R210). -/
abbrev HostRefCmd : Nat := 0x224200
/-- HostRefInterval, 0x2243:00 (R210). -/
abbrev HostRefInterval : Nat := 0x224300
/-- HostRefQl, 0x2244:00 (R210). -/
abbrev HostRefQl : Nat := 0x224400
/-- ServoControl, 0x2250:00 (R211). -/
abbrev ServoControl : Nat := 0x225000
/-- ServoBlockState, 0x2251:00 (R211). -/
abbrev ServoBlockState : Nat := 0x225100
/-- ServoStep, 0x2252:00 (R211). -/
abbrev ServoStep : Nat := 0x225200
/-- ServoNarrowestStep, 0x2253:00 (R211). -/
abbrev ServoNarrowestStep : Nat := 0x225300
/-- ServoLockWindow, 0x2254:00 (R211). -/
abbrev ServoLockWindow : Nat := 0x225400
/-- ServoUnlockThreshold, 0x2255:00 (R211). -/
abbrev ServoUnlockThreshold : Nat := 0x225500
/-- ServoPhaseError, 0x2256:00 (R211). -/
abbrev ServoPhaseError : Nat := 0x225600
/-- HostServoState, 0x2257:00 (R211). -/
abbrev HostServoState : Nat := 0x225700
/-- HoldoverWindowStart, 0x2260:00 (R211). -/
abbrev HoldoverWindowStart : Nat := 0x226000
/-- HoldoverWindowEnd, 0x2261:00 (R211). -/
abbrev HoldoverWindowEnd : Nat := 0x226100
/-- HoldoverMinHistory, 0x2262:00 (R211). -/
abbrev HoldoverMinHistory : Nat := 0x226200
/-- HoldoverErrorLimit, 0x2263:00 (R211). -/
abbrev HoldoverErrorLimit : Nat := 0x226300
/-- HoldoverMaxDuration, 0x2264:00 (R211). -/
abbrev HoldoverMaxDuration : Nat := 0x226400
/-- HoldoverFreqFloor, 0x2265:00 (R211). -/
abbrev HoldoverFreqFloor : Nat := 0x226500
/-- HoldoverAgingRate, 0x2266:00 (R211). -/
abbrev HoldoverAgingRate : Nat := 0x226600
/-- HoldoverValue, 0x2267:00 (R211). -/
abbrev HoldoverValue : Nat := 0x226700
/-- HoldoverShortHistory, 0x2268:00 (R211). -/
abbrev HoldoverShortHistory : Nat := 0x226800
/-- HoldoverHistorySeconds, 0x2269:00 (R211). -/
abbrev HoldoverHistorySeconds : Nat := 0x226900
/-- HoldoverElapsed, 0x226A:00 (R211). -/
abbrev HoldoverElapsed : Nat := 0x226A00
/-- HoldoverEstimate, 0x226B:00 (R211). -/
abbrev HoldoverEstimate : Nat := 0x226B00
/-- HoldoverUncertainty, 0x226C:00 (R211). -/
abbrev HoldoverUncertainty : Nat := 0x226C00
/-- FixedSynthState, 0x2500:00 (R245). -/
abbrev FixedSynthState : Nat := 0x250000
/-- SteeredSynthState, 0x2501:00 (R245). -/
abbrev SteeredSynthState : Nat := 0x250100
/-- SteeredSynthLossCount, 0x2502:00 (R245). -/
abbrev SteeredSynthLossCount : Nat := 0x250200
/-- FixedSynthLossCount, 0x2503:00 (R245). -/
abbrev FixedSynthLossCount : Nat := 0x250300
/-- SynthEventCause, 0x2504:00 (R245). -/
abbrev SynthEventCause : Nat := 0x250400
/-- SteeredHeldWord, 0x2505:00 (R245). -/
abbrev SteeredHeldWord : Nat := 0x250500
/-- PlinthPresent, 0x2506:00 (R245). -/
abbrev PlinthPresent : Nat := 0x250600
/-- AlControl, 0x2510:01–04 (R246). -/
abbrev AlControl : Nat := 0x251000
/-- AlBlockState, 0x2511:01–04 (R246). -/
abbrev AlBlockState : Nat := 0x251100
/-- AlLockState, 0x2512:01–04 (R246). -/
abbrev AlLockState : Nat := 0x251200
/-- AlLockCount, 0x2513:01–04 (R246). -/
abbrev AlLockCount : Nat := 0x251300
/-- AlTapSetting, 0x2514:01–04 (R246). -/
abbrev AlTapSetting : Nat := 0x251400
/-- AlLastRelockShift, 0x2516:01–04 (R246). -/
abbrev AlLastRelockShift : Nat := 0x251600
/-- ClkOutControl, 0x2520:01–08 (R247). -/
abbrev ClkOutControl : Nat := 0x252000
/-- ClkOutBlockState, 0x2521:01–08 (R247). -/
abbrev ClkOutBlockState : Nat := 0x252100
/-- ClkOutDivider, 0x2522:01–08 (R247). -/
abbrev ClkOutDivider : Nat := 0x252200
/-- ClkOutPhaseOffset, 0x2523:01–08 (R247). -/
abbrev ClkOutPhaseOffset : Nat := 0x252300
/-- ClkOutFormat, 0x2524:01–08 (R247). -/
abbrev ClkOutFormat : Nat := 0x252400
/-- ClkOutDelayComp, 0x2525:01–08 (R247). -/
abbrev ClkOutDelayComp : Nat := 0x252500
/-- ClkOutMisalignment, 0x2526:01–08 (R247). -/
abbrev ClkOutMisalignment : Nat := 0x252600
/-- ClkOutSquelched, 0x2527:01–08 (R247). -/
abbrev ClkOutSquelched : Nat := 0x252700
/-- ClkOutSquelchCause, 0x2528:01–08 (R247). -/
abbrev ClkOutSquelchCause : Nat := 0x252800
/-- PulseControl, 0x2530:01–10 (R248). -/
abbrev PulseControl : Nat := 0x253000
/-- PulseBlockState, 0x2531:01–10 (R248). -/
abbrev PulseBlockState : Nat := 0x253100
/-- PulseMode, 0x2532:01–10 (R248). -/
abbrev PulseMode : Nat := 0x253200
/-- PulseStart, 0x2533:01–10 (R248). -/
abbrev PulseStart : Nat := 0x253300
/-- PulsePeriod, 0x2534:01–10 (R248). -/
abbrev PulsePeriod : Nat := 0x253400
/-- PulseWidth, 0x2535:01–10 (R248). -/
abbrev PulseWidth : Nat := 0x253500
/-- PulseTurnDivider, 0x2536:01–10 (R248). -/
abbrev PulseTurnDivider : Nat := 0x253600
/-- PulseTurnOffset, 0x2537:01–10 (R248). -/
abbrev PulseTurnOffset : Nat := 0x253700
/-- PulseDelay, 0x2538:01–10 (R248). -/
abbrev PulseDelay : Nat := 0x253800
/-- PulseInvert, 0x2539:01–10 (R248). -/
abbrev PulseInvert : Nat := 0x253900
/-- PulseDelayComp, 0x253A:01–10 (R248). -/
abbrev PulseDelayComp : Nat := 0x253A00
/-- PulseMisalignment, 0x253B:01–10 (R248). -/
abbrev PulseMisalignment : Nat := 0x253B00
/-- PulseSuppressCause, 0x253C:01–10 (R248). -/
abbrev PulseSuppressCause : Nat := 0x253C00
/-- PulseCount, 0x253D:01–10 (R248). -/
abbrev PulseCount : Nat := 0x253D00
/-- PulseMissedCount, 0x253E:01–10 (R248). -/
abbrev PulseMissedCount : Nat := 0x253E00
/-- PulseRequireInPhase, 0x253F:01–10 (R248). -/
abbrev PulseRequireInPhase : Nat := 0x253F00
/-- OutputRealignMask, 0x2540:00 (R249). -/
abbrev OutputRealignMask : Nat := 0x254000
/-- OutputRealignAt, 0x2541:00 (R249). -/
abbrev OutputRealignAt : Nat := 0x254100
/-- OutputRealignCmd, 0x2542:00 (R249). -/
abbrev OutputRealignCmd : Nat := 0x254200
/-- OutputAlignTolerance, 0x2543:00 (R249). -/
abbrev OutputAlignTolerance : Nat := 0x254300
/-- OutputPendingMask, 0x2544:00 (R249). -/
abbrev OutputPendingMask : Nat := 0x254400
/-- EvinControl, 0x2600:01–10 (R286). -/
abbrev EvinControl : Nat := 0x260000
/-- EvinBlockState, 0x2601:01–10 (R286). -/
abbrev EvinBlockState : Nat := 0x260100
/-- EvinMode, 0x2602:01–10 (R286). -/
abbrev EvinMode : Nat := 0x260200
/-- EvinInputType, 0x2603:01–10 (R286). -/
abbrev EvinInputType : Nat := 0x260300
/-- EvinTermination, 0x2604:01–10 (R286). -/
abbrev EvinTermination : Nat := 0x260400
/-- EvinThreshold, 0x2605:01–10 (R286). -/
abbrev EvinThreshold : Nat := 0x260500
/-- EvinHysteresis, 0x2606:01–10 (R286). -/
abbrev EvinHysteresis : Nat := 0x260600
/-- EvinSlope, 0x2607:01–10 (R286). -/
abbrev EvinSlope : Nat := 0x260700
/-- EvinBase, 0x2608:01–10 (R286). -/
abbrev EvinBase : Nat := 0x260800
/-- EvinDelayComp, 0x2609:01–10 (R286). -/
abbrev EvinDelayComp : Nat := 0x260900
/-- EvinPrescale, 0x260A:01–10 (R286). -/
abbrev EvinPrescale : Nat := 0x260A00
/-- EvinFifoWatermark, 0x260B:01–10 (R286). -/
abbrev EvinFifoWatermark : Nat := 0x260B00
/-- EvinFifoFill, 0x260C:01–10 (R286). -/
abbrev EvinFifoFill : Nat := 0x260C00
/-- EvinStampRead, 0x260D:01–10 (R286). -/
abbrev EvinStampRead : Nat := 0x260D00
/-- EvinStampCount, 0x260E:01–10 (R286). -/
abbrev EvinStampCount : Nat := 0x260E00
/-- EvinDeadTimeLossCount, 0x260F:01–10 (R286). -/
abbrev EvinDeadTimeLossCount : Nat := 0x260F00
/-- EvinOverflowCount, 0x2610:01–10 (R286). -/
abbrev EvinOverflowCount : Nat := 0x261000
/-- EvinStartSource, 0x2611:01–10 (R286). -/
abbrev EvinStartSource : Nat := 0x261100
/-- EvinStartSlope, 0x2612:01–10 (R286). -/
abbrev EvinStartSlope : Nat := 0x261200
/-- EvinStopLimit, 0x2613:01–10 (R286). -/
abbrev EvinStopLimit : Nat := 0x261300
/-- EvinTimeout, 0x2614:01–10 (R286). -/
abbrev EvinTimeout : Nat := 0x261400
/-- EvinResultCount, 0x2615:01–10 (R286). -/
abbrev EvinResultCount : Nat := 0x261500
/-- EvinResultHeader, 0x2616:01–10 (R286). -/
abbrev EvinResultHeader : Nat := 0x261600
/-- EvinResultStops1, 0x2617:01–10 (R286). -/
abbrev EvinResultStops1 : Nat := 0x261700
/-- EvinResultStops2, 0x2618:01–10 (R286). -/
abbrev EvinResultStops2 : Nat := 0x261800
/-- EvinResultStops3, 0x2619:01–10 (R286). -/
abbrev EvinResultStops3 : Nat := 0x261900
/-- EvinResultStops4, 0x261A:01–10 (R286). -/
abbrev EvinResultStops4 : Nat := 0x261A00
/-- EvinStartIgnoredCount, 0x261B:01–10 (R286). -/
abbrev EvinStartIgnoredCount : Nat := 0x261B00
/-- EvinTimeoutCount, 0x261C:01–10 (R286). -/
abbrev EvinTimeoutCount : Nat := 0x261C00
/-- EvinFreqNominal, 0x2620:01–10 (R287). -/
abbrev EvinFreqNominal : Nat := 0x262000
/-- EvinFreqGateLength, 0x2621:01–10 (R287). -/
abbrev EvinFreqGateLength : Nat := 0x262100
/-- EvinFreqCmd, 0x2622:01–10 (R287). -/
abbrev EvinFreqCmd : Nat := 0x262200
/-- EvinFreqOffset, 0x2623:01–10 (R287). -/
abbrev EvinFreqOffset : Nat := 0x262300
/-- EvinFreqStdError, 0x2624:01–10 (R287). -/
abbrev EvinFreqStdError : Nat := 0x262400
/-- EvinFreqResidualRms, 0x2625:01–10 (R287). -/
abbrev EvinFreqResidualRms : Nat := 0x262500
/-- EvinFreqStampCount, 0x2626:01–10 (R287). -/
abbrev EvinFreqStampCount : Nat := 0x262600
/-- EvinFreqGateStart, 0x2627:01–10 (R287). -/
abbrev EvinFreqGateStart : Nat := 0x262700
/-- EvinFreqGateActual, 0x2628:01–10 (R287). -/
abbrev EvinFreqGateActual : Nat := 0x262800
/-- EvinFreqFlags, 0x2629:01–10 (R287). -/
abbrev EvinFreqFlags : Nat := 0x262900
/-- EvinFreqGateCount, 0x262A:01–10 (R287). -/
abbrev EvinFreqGateCount : Nat := 0x262A00
/-- EvinPinStatus, 0x2630:01–10 (R288). -/
abbrev EvinPinStatus : Nat := 0x263000
/-- EvinSwapCorrect, 0x2631:01–10 (R288). -/
abbrev EvinSwapCorrect : Nat := 0x263100
/-- EvinIdleLevel, 0x2632:01–10 (R288). -/
abbrev EvinIdleLevel : Nat := 0x263200
/-- EvinBinSource, 0x2633:01–10 (R288). -/
abbrev EvinBinSource : Nat := 0x263300
/-- EvinEventCause, 0x2634:01–10 (R288). -/
abbrev EvinEventCause : Nat := 0x263400
/-- MrefControl, 0x2650:00 (R289). -/
abbrev MrefControl : Nat := 0x265000
/-- MrefBlockState, 0x2651:00 (R289). -/
abbrev MrefBlockState : Nat := 0x265100
/-- MrefFrequency, 0x2652:00 (R289). -/
abbrev MrefFrequency : Nat := 0x265200
/-- MrefPresent, 0x2653:00 (R289). -/
abbrev MrefPresent : Nat := 0x265300
/-- MrefEpoch, 0x2654:00 (R289). -/
abbrev MrefEpoch : Nat := 0x265400
/-- MrefFallback, 0x2655:00 (R289). -/
abbrev MrefFallback : Nat := 0x265500
/-- MrefPresenceChangeCount, 0x2656:00 (R289). -/
abbrev MrefPresenceChangeCount : Nat := 0x265600
/-- MrefTraced, 0x2657:00 (R289). -/
abbrev MrefTraced : Nat := 0x265700
/-- EvinReadyMask, 0x2658:00 (R289). -/
abbrev EvinReadyMask : Nat := 0x265800
/-- CalEvinTableRise, 0x2700:01–10 (R311). -/
abbrev CalEvinTableRise : Nat := 0x270000
/-- CalEvinTableFall, 0x2701:01–10 (R311). -/
abbrev CalEvinTableFall : Nat := 0x270100
/-- CalWhorlTable, 0x2702:01–30 (R311). -/
abbrev CalWhorlTable : Nat := 0x270200
/-- WhorlBinSource, 0x2703:01–30 (R311). -/
abbrev WhorlBinSource : Nat := 0x270300
/-- CalPortTxDelay, 0x2710:01–30 (R311). -/
abbrev CalPortTxDelay : Nat := 0x271000
/-- CalPortRxDelay, 0x2711:01–30 (R311). -/
abbrev CalPortRxDelay : Nat := 0x271100
/-- CalPortRefTemp, 0x2712:01–30 (R311). -/
abbrev CalPortRefTemp : Nat := 0x271200
/-- CalPortTxTempCoeff, 0x2713:01–30 (R311). -/
abbrev CalPortTxTempCoeff : Nat := 0x271300
/-- CalPortRxTempCoeff, 0x2714:01–30 (R311). -/
abbrev CalPortRxTempCoeff : Nat := 0x271400
/-- CalPortTxInForce, 0x2715:01–30 (R311). -/
abbrev CalPortTxInForce : Nat := 0x271500
/-- CalPortRxInForce, 0x2716:01–30 (R311). -/
abbrev CalPortRxInForce : Nat := 0x271600
/-- CalPortSource, 0x2717:01–30 (R311). -/
abbrev CalPortSource : Nat := 0x271700
/-- CalPortLastTurn, 0x2718:01–30 (R311). -/
abbrev CalPortLastTurn : Nat := 0x271800
/-- CalControl, 0x5300:00 (R312). -/
abbrev CalControl : Nat := 0x530000
/-- CalBlockState, 0x5301:00 (R312). -/
abbrev CalBlockState : Nat := 0x530100
/-- CalRunCmd, 0x5302:00 (R312). -/
abbrev CalRunCmd : Nat := 0x530200
/-- CalUseFactory, 0x5303:00 (R312). -/
abbrev CalUseFactory : Nat := 0x530300
/-- CalAutoEnable, 0x5304:00 (R312). -/
abbrev CalAutoEnable : Nat := 0x530400
/-- CalTempStep, 0x5305:00 (R312). -/
abbrev CalTempStep : Nat := 0x530500
/-- CalMinInterval, 0x5306:00 (R312). -/
abbrev CalMinInterval : Nat := 0x530600
/-- CalTempAtLastRun, 0x5307:01–04 (R312). -/
abbrev CalTempAtLastRun : Nat := 0x530700
/-- CalTriggerPending, 0x5308:00 (R312). -/
abbrev CalTriggerPending : Nat := 0x530800
/-- CalEvinMask, 0x5309:00 (R312). -/
abbrev CalEvinMask : Nat := 0x530900
/-- CalWhorlMaskLow, 0x530A:00 (R312). -/
abbrev CalWhorlMaskLow : Nat := 0x530A00
/-- CalWhorlMaskHigh, 0x530B:00 (R312). -/
abbrev CalWhorlMaskHigh : Nat := 0x530B00
/-- CalEvinSourceMode, 0x530C:01–10 (R312). -/
abbrev CalEvinSourceMode : Nat := 0x530C00
/-- CalWhorlSourceMode, 0x530D:00 (R312). -/
abbrev CalWhorlSourceMode : Nat := 0x530D00
/-- CalCollectLimit, 0x530E:00 (R312). -/
abbrev CalCollectLimit : Nat := 0x530E00
/-- CalBinMaxShift, 0x530F:00 (R312). -/
abbrev CalBinMaxShift : Nat := 0x530F00
/-- CalRunCount, 0x5310:00 (R312). -/
abbrev CalRunCount : Nat := 0x531000
/-- CalRejectCount, 0x5311:00 (R312). -/
abbrev CalRejectCount : Nat := 0x531100
/-- CalRejectCause, 0x5312:00 (R312). -/
abbrev CalRejectCause : Nat := 0x531200
/-- CalRejectTarget, 0x5313:00 (R312). -/
abbrev CalRejectTarget : Nat := 0x531300
/-- CalLastRunTurn, 0x5314:00 (R312). -/
abbrev CalLastRunTurn : Nat := 0x531400
/-- CalPortSelect, 0x5320:00 (R312). -/
abbrev CalPortSelect : Nat := 0x532000
/-- CalPortMethod, 0x5321:00 (R312). -/
abbrev CalPortMethod : Nat := 0x532100
/-- CalRefInput, 0x5322:00 (R312). -/
abbrev CalRefInput : Nat := 0x532200
/-- CalLoopPulse, 0x5323:00 (R312). -/
abbrev CalLoopPulse : Nat := 0x532300
/-- CalFibreDelayOut, 0x5324:00 (R312). -/
abbrev CalFibreDelayOut : Nat := 0x532400
/-- CalFibreDelayIn, 0x5325:00 (R312). -/
abbrev CalFibreDelayIn : Nat := 0x532500
/-- CalPpsCableDelta, 0x5326:00 (R312). -/
abbrev CalPpsCableDelta : Nat := 0x532600
/-- CalPortSeconds, 0x5327:00 (R312). -/
abbrev CalPortSeconds : Nat := 0x532700
/-- CalPortMaxChange, 0x5328:00 (R312). -/
abbrev CalPortMaxChange : Nat := 0x532800
/-- CalPortSpreadLimit, 0x5329:00 (R312). -/
abbrev CalPortSpreadLimit : Nat := 0x532900
/-- CalPortPhase, 0x532A:00 (R312). -/
abbrev CalPortPhase : Nat := 0x532A00
/-- CalPortNextCmd, 0x532B:00 (R312). -/
abbrev CalPortNextCmd : Nat := 0x532B00
/-- CalLoopDelay, 0x532C:00 (R312). -/
abbrev CalLoopDelay : Nat := 0x532C00
/-- CalPortErrTx, 0x532D:00 (R312). -/
abbrev CalPortErrTx : Nat := 0x532D00
/-- CalPortErrRx, 0x532E:00 (R312). -/
abbrev CalPortErrRx : Nat := 0x532E00
/-- CalPortSpread, 0x532F:00 (R312). -/
abbrev CalPortSpread : Nat := 0x532F00
/-- CalStepTarget, 0x5330:00 (R312). -/
abbrev CalStepTarget : Nat := 0x533000
/-- CalStepCmd, 0x5331:00 (R312). -/
abbrev CalStepCmd : Nat := 0x533100
/-- CalStepStatus, 0x5332:00 (R312). -/
abbrev CalStepStatus : Nat := 0x533200
/-- PortControl, 0x3000:01–31 (R356). -/
abbrev PortControl : Nat := 0x300000
/-- PortBlockState, 0x3001:01–31 (R356). -/
abbrev PortBlockState : Nat := 0x300100
/-- PortLinkUp, 0x3002:01–31 (R356). -/
abbrev PortLinkUp : Nat := 0x300200
/-- PortLineRate, 0x3003:01–31 (R356). -/
abbrev PortLineRate : Nat := 0x300300
/-- PortPvid, 0x3004:01–31 (R356). -/
abbrev PortPvid : Nat := 0x300400
/-- PortTagMode, 0x3005:01–31 (R356). -/
abbrev PortTagMode : Nat := 0x300500
/-- PortSTagTpid, 0x3006:01–31 (R356). -/
abbrev PortSTagTpid : Nat := 0x300600
/-- PortAcceptFrames, 0x3007:01–31 (R356). -/
abbrev PortAcceptFrames : Nat := 0x300700
/-- PortIngressFilter, 0x3008:01–31 (R356). -/
abbrev PortIngressFilter : Nat := 0x300800
/-- PortDefaultPcp, 0x3009:01–31 (R356). -/
abbrev PortDefaultPcp : Nat := 0x300900
/-- PortPcpClassMap, 0x300A:01–31 (R356). -/
abbrev PortPcpClassMap : Nat := 0x300A00
/-- PortLearnEnable, 0x300B:01–31 (R356). -/
abbrev PortLearnEnable : Nat := 0x300B00
/-- PortFlushOnDown, 0x300C:01–31 (R356). -/
abbrev PortFlushOnDown : Nat := 0x300C00
/-- PortMirrorIngress, 0x300D:01–31 (R356). -/
abbrev PortMirrorIngress : Nat := 0x300D00
/-- PortMirrorEgress, 0x300E:01–31 (R356). -/
abbrev PortMirrorEgress : Nat := 0x300E00
/-- PortCutThrough, 0x300F:01–31 (R356). -/
abbrev PortCutThrough : Nat := 0x300F00
/-- PortLinkLocalAction, 0x3010:01–31 (R356). -/
abbrev PortLinkLocalAction : Nat := 0x301000
/-- PortPipeline, 0x3011:01–31 (R356). -/
abbrev PortPipeline : Nat := 0x301100
/-- PortIngressOverflowCount, 0x3012:01–31 (R356). -/
abbrev PortIngressOverflowCount : Nat := 0x301200
/-- PortFlushCount, 0x3013:01–31 (R356). -/
abbrev PortFlushCount : Nat := 0x301300
/-- PortFlushedFrameCount, 0x3014:01–31 (R356). -/
abbrev PortFlushedFrameCount : Nat := 0x301400
/-- PortFilteredCount, 0x3015:01–31 (R356). -/
abbrev PortFilteredCount : Nat := 0x301500
/-- TableControl, 0x3300:01–04 (R357). -/
abbrev TableControl : Nat := 0x330000
/-- TableBlockState, 0x3301:01–04 (R357). -/
abbrev TableBlockState : Nat := 0x330100
/-- TableOpTable, 0x3302:00 (R357). -/
abbrev TableOpTable : Nat := 0x330200
/-- TableOpIndex, 0x3303:00 (R357). -/
abbrev TableOpIndex : Nat := 0x330300
/-- TableOpData, 0x3304:00 (R357). -/
abbrev TableOpData : Nat := 0x330400
/-- TableOpCmd, 0x3305:00 (R357). -/
abbrev TableOpCmd : Nat := 0x330500
/-- TableOpStatus, 0x3306:00 (R357). -/
abbrev TableOpStatus : Nat := 0x330600
/-- TableOpResultIndex, 0x3307:00 (R357). -/
abbrev TableOpResultIndex : Nat := 0x330700
/-- TableOpCount, 0x3308:00 (R357). -/
abbrev TableOpCount : Nat := 0x330800
/-- MacAgeTime, 0x3310:00 (R357). -/
abbrev MacAgeTime : Nat := 0x331000
/-- MacEntryCount, 0x3311:00 (R357). -/
abbrev MacEntryCount : Nat := 0x331100
/-- MacOverflowFill, 0x3312:00 (R357). -/
abbrev MacOverflowFill : Nat := 0x331200
/-- MacLearnCount, 0x3313:00 (R357). -/
abbrev MacLearnCount : Nat := 0x331300
/-- MacMoveCount, 0x3314:00 (R357). -/
abbrev MacMoveCount : Nat := 0x331400
/-- MacAgedCount, 0x3315:00 (R357). -/
abbrev MacAgedCount : Nat := 0x331500
/-- MacStaticViolationCount, 0x3316:00 (R357). -/
abbrev MacStaticViolationCount : Nat := 0x331600
/-- LearnQueueFill, 0x3317:00 (R357). -/
abbrev LearnQueueFill : Nat := 0x331700
/-- LearnDropCount, 0x3318:00 (R357). -/
abbrev LearnDropCount : Nat := 0x331800
/-- LearnQueueRead, 0x3319:00 (R357). -/
abbrev LearnQueueRead : Nat := 0x331900
/-- GroupSaDiscardCount, 0x331A:00 (R357). -/
abbrev GroupSaDiscardCount : Nat := 0x331A00
/-- StreamEntryCount, 0x3320:00 (R357). -/
abbrev StreamEntryCount : Nat := 0x332000
/-- StreamScheduledCount, 0x3321:00 (R357). -/
abbrev StreamScheduledCount : Nat := 0x332100
/-- ReplicationStallCycles, 0x3322:01–02 (R357). -/
abbrev ReplicationStallCycles : Nat := 0x332200
/-- LearnControl, 0x3323:00 (R357). -/
abbrev LearnControl : Nat := 0x332300
/-- LearnBlockState, 0x3324:00 (R357). -/
abbrev LearnBlockState : Nat := 0x332400
/-- QueueSetControl, 0x3400:01–30 (R400). -/
abbrev QueueSetControl : Nat := 0x340000
/-- QueueSetBlockState, 0x3401:01–30 (R400). -/
abbrev QueueSetBlockState : Nat := 0x340100
/-- QueueGateStates, 0x3402:01–30 (R400). -/
abbrev QueueGateStates : Nat := 0x340200
/-- QueuePausedMask, 0x3403:01–30 (R400). -/
abbrev QueuePausedMask : Nat := 0x340300
/-- ClassType, 0x3410:01–08 (R400). -/
abbrev ClassType : Nat := 0x341000
/-- ClassSchedMode, 0x3411:01–08 (R400). -/
abbrev ClassSchedMode : Nat := 0x341100
/-- ClassQuantum, 0x3412:01–08 (R400). -/
abbrev ClassQuantum : Nat := 0x341200
/-- ClassMinCells, 0x3413:01–08 (R400). -/
abbrev ClassMinCells : Nat := 0x341300
/-- ClassMaxCells, 0x3414:01–08 (R400). -/
abbrev ClassMaxCells : Nat := 0x341400
/-- ClassAlpha, 0x3415:01–08 (R400). -/
abbrev ClassAlpha : Nat := 0x341500
/-- ClassResidenceLimit, 0x3416:01–08 (R400). -/
abbrev ClassResidenceLimit : Nat := 0x341600
/-- EngineFrameClass, 0x3417:00 (R400). -/
abbrev EngineFrameClass : Nat := 0x341700
/-- QueueFill, 0x3440–0x3447:01–30 (R401). -/
abbrev QueueFill : Nat := 0x344000
/-- QueuePeakFill, 0x3448–0x344F:01–30 (R401). -/
abbrev QueuePeakFill : Nat := 0x344800
/-- QueueAdmittedCount, 0x3450–0x3457:01–30 (R401). -/
abbrev QueueAdmittedCount : Nat := 0x345000
/-- QueueAdmissionDropCount, 0x3458–0x345F:01–30 (R401). -/
abbrev QueueAdmissionDropCount : Nat := 0x345800
/-- QueueResidenceDropCount, 0x3460–0x3467:01–30 (R401). -/
abbrev QueueResidenceDropCount : Nat := 0x346000
/-- QueueLateDropCount, 0x3468–0x346F:01–30 (R401). -/
abbrev QueueLateDropCount : Nat := 0x346800
/-- QueueTxCount, 0x3470–0x3477:01–30 (R401). -/
abbrev QueueTxCount : Nat := 0x347000
/-- PauseRxMode, 0x3480:01–30 (R402). -/
abbrev PauseRxMode : Nat := 0x348000
/-- PfcRxMask, 0x3481:01–30 (R402). -/
abbrev PfcRxMask : Nat := 0x348100
/-- PauseTxMode, 0x3482:01–30 (R402). -/
abbrev PauseTxMode : Nat := 0x348200
/-- PfcTxMask, 0x3483:01–30 (R402). -/
abbrev PfcTxMask : Nat := 0x348300
/-- PauseXoffCells, 0x3484:01–30 (R402). -/
abbrev PauseXoffCells : Nat := 0x348400
/-- PauseXonCells, 0x3485:01–30 (R402). -/
abbrev PauseXonCells : Nat := 0x348500
/-- PauseTxQuanta, 0x3486:01–30 (R402). -/
abbrev PauseTxQuanta : Nat := 0x348600
/-- PauseHeadroomCells, 0x3487:01–30 (R402). -/
abbrev PauseHeadroomCells : Nat := 0x348700
/-- PauseRxFrameCount, 0x3488:01–30 (R402). -/
abbrev PauseRxFrameCount : Nat := 0x348800
/-- PauseTxFrameCount, 0x3489:01–30 (R402). -/
abbrev PauseTxFrameCount : Nat := 0x348900
/-- PauseIngressCells, 0x348A:01–30 (R402). -/
abbrev PauseIngressCells : Nat := 0x348A00
/-- PauseXoffState, 0x348B:01–30 (R402). -/
abbrev PauseXoffState : Nat := 0x348B00
/-- ArmatureControl, 0x3500:00 (R403). -/
abbrev ArmatureControl : Nat := 0x350000
/-- ArmatureBlockState, 0x3501:00 (R403). -/
abbrev ArmatureBlockState : Nat := 0x350100
/-- ArmatureListLength, 0x3502:01–30 (R403). -/
abbrev ArmatureListLength : Nat := 0x350200
/-- MaquetteListLength, 0x3503:01–30 (R403). -/
abbrev MaquetteListLength : Nat := 0x350300
/-- GateOpPort, 0x3504:00 (R403). -/
abbrev GateOpPort : Nat := 0x350400
/-- GateOpGroup, 0x3505:00 (R403). -/
abbrev GateOpGroup : Nat := 0x350500
/-- GateOpData, 0x3506:00 (R403). -/
abbrev GateOpData : Nat := 0x350600
/-- GateOpCmd, 0x3507:00 (R403). -/
abbrev GateOpCmd : Nat := 0x350700
/-- MaquetteStreamIndex, 0x3508:00 (R403). -/
abbrev MaquetteStreamIndex : Nat := 0x350800
/-- MaquetteStreamData, 0x3509:00 (R403). -/
abbrev MaquetteStreamData : Nat := 0x350900
/-- MaquetteStreamCmd, 0x350A:00 (R403). -/
abbrev MaquetteStreamCmd : Nat := 0x350A00
/-- MaquetteStreamStatus, 0x350B:00 (R403). -/
abbrev MaquetteStreamStatus : Nat := 0x350B00
/-- MaquetteCopyCmd, 0x350C:00 (R403). -/
abbrev MaquetteCopyCmd : Nat := 0x350C00
/-- MaquetteSwapAt, 0x350D:00 (R403). -/
abbrev MaquetteSwapAt : Nat := 0x350D00
/-- MaquetteSwapCmd, 0x350E:00 (R403). -/
abbrev MaquetteSwapCmd : Nat := 0x350E00
/-- MaquetteSwapResult, 0x350F:00 (R403). -/
abbrev MaquetteSwapResult : Nat := 0x350F00
/-- MaquetteSwapCount, 0x3510:00 (R403). -/
abbrev MaquetteSwapCount : Nat := 0x351000
/-- MaquetteLastSwapTurn, 0x3511:00 (R403). -/
abbrev MaquetteLastSwapTurn : Nat := 0x351100
/-- StreamBudgetDropCount, 0x3512:00 (R403). -/
abbrev StreamBudgetDropCount : Nat := 0x351200
/-- ArmatureCutCount, 0x3513:00 (R403). -/
abbrev ArmatureCutCount : Nat := 0x351300
/-- GateOverrunCount, 0x3514:00 (R403). -/
abbrev GateOverrunCount : Nat := 0x351400
/-- DeepStoreControl, 0x3600:00 (R404). -/
abbrev DeepStoreControl : Nat := 0x360000
/-- DeepStoreBlockState, 0x3601:00 (R404). -/
abbrev DeepStoreBlockState : Nat := 0x360100
/-- DeepPartitionPacket, 0x3602:00 (R404). -/
abbrev DeepPartitionPacket : Nat := 0x360200
/-- DeepPartitionReel, 0x3603:00 (R404). -/
abbrev DeepPartitionReel : Nat := 0x360300
/-- DeepPartitionDump, 0x3604:00 (R404). -/
abbrev DeepPartitionDump : Nat := 0x360400
/-- DeepPartitionScratch, 0x3605:00 (R404). -/
abbrev DeepPartitionScratch : Nat := 0x360500
/-- FastStoreFill, 0x3606:00 (R404). -/
abbrev FastStoreFill : Nat := 0x360600
/-- FastStorePeak, 0x3607:00 (R404). -/
abbrev FastStorePeak : Nat := 0x360700
/-- DeepStoreFill, 0x3608:00 (R404). -/
abbrev DeepStoreFill : Nat := 0x360800
/-- DeepStorePeak, 0x3609:00 (R404). -/
abbrev DeepStorePeak : Nat := 0x360900
/-- LandingFill, 0x360A:00 (R404). -/
abbrev LandingFill : Nat := 0x360A00
/-- FastStoreThreshold, 0x360B:00 (R404). -/
abbrev FastStoreThreshold : Nat := 0x360B00
/-- DeepStoreThreshold, 0x360C:00 (R404). -/
abbrev DeepStoreThreshold : Nat := 0x360C00
/-- HpMaxCells, 0x360D:00 (R404). -/
abbrev HpMaxCells : Nat := 0x360D00
/-- HpFill, 0x360E:00 (R404). -/
abbrev HpFill : Nat := 0x360E00
/-- FastSharedFree, 0x360F:00 (R404). -/
abbrev FastSharedFree : Nat := 0x360F00
/-- DeepSharedFree, 0x3610:00 (R404). -/
abbrev DeepSharedFree : Nat := 0x361000
/-- AdmissionDropByCause, 0x3611:01–06 (R404). -/
abbrev AdmissionDropByCause : Nat := 0x361100
/-- DeepEccDiscardCount, 0x3612:00 (R404). -/
abbrev DeepEccDiscardCount : Nat := 0x361200
/-- StoreEventCause, 0x3613:00 (R404). -/
abbrev StoreEventCause : Nat := 0x361300
/-- MirrorControl, 0x3700:00 (R405). -/
abbrev MirrorControl : Nat := 0x370000
/-- MirrorBlockState, 0x3701:00 (R405). -/
abbrev MirrorBlockState : Nat := 0x370100
/-- MirrorAnalysisPort, 0x3702:00 (R405). -/
abbrev MirrorAnalysisPort : Nat := 0x370200
/-- MirrorClass, 0x3703:00 (R405). -/
abbrev MirrorClass : Nat := 0x370300
/-- MirrorCopyCount, 0x3704:00 (R405). -/
abbrev MirrorCopyCount : Nat := 0x370400
/-- ReelControl, 0x3710:00 (R405). -/
abbrev ReelControl : Nat := 0x371000
/-- ReelBlockState, 0x3711:00 (R405). -/
abbrev ReelBlockState : Nat := 0x371100
/-- ReelMode, 0x3712:00 (R405). -/
abbrev ReelMode : Nat := 0x371200
/-- ReelSnapLength, 0x3713:00 (R405). -/
abbrev ReelSnapLength : Nat := 0x371300
/-- ReelPreTrigger, 0x3714:00 (R405). -/
abbrev ReelPreTrigger : Nat := 0x371400
/-- ReelCmd, 0x3715:00 (R405). -/
abbrev ReelCmd : Nat := 0x371500
/-- ReelState, 0x3716:00 (R405). -/
abbrev ReelState : Nat := 0x371600
/-- ReelEventCause, 0x3717:00 (R405). -/
abbrev ReelEventCause : Nat := 0x371700
/-- ReelTriggerControl, 0x3718:00 (R405). -/
abbrev ReelTriggerControl : Nat := 0x371800
/-- ReelTriggerBlockState, 0x3719:00 (R405). -/
abbrev ReelTriggerBlockState : Nat := 0x371900
/-- ReelTriggerCmd, 0x371A:00 (R405). -/
abbrev ReelTriggerCmd : Nat := 0x371A00
/-- ReelTriggerEventMask, 0x371B:00 (R405). -/
abbrev ReelTriggerEventMask : Nat := 0x371B00
/-- ReelTriggerStream, 0x371C:00 (R405). -/
abbrev ReelTriggerStream : Nat := 0x371C00
/-- ReelTriggerSeq, 0x371D:00 (R405). -/
abbrev ReelTriggerSeq : Nat := 0x371D00
/-- ReelTriggerTime, 0x371E:00 (R405). -/
abbrev ReelTriggerTime : Nat := 0x371E00
/-- ReelRecordCount, 0x371F:00 (R405). -/
abbrev ReelRecordCount : Nat := 0x371F00
/-- ReelLossCount, 0x3720:00 (R405). -/
abbrev ReelLossCount : Nat := 0x372000
/-- ReelOldestOffset, 0x3721:00 (R405). -/
abbrev ReelOldestOffset : Nat := 0x372100
/-- ReelWriteOffset, 0x3722:00 (R405). -/
abbrev ReelWriteOffset : Nat := 0x372200
/-- ReelReadOffset, 0x3723:00 (R405). -/
abbrev ReelReadOffset : Nat := 0x372300
/-- ReelReadData, 0x3724:00 (R405). -/
abbrev ReelReadData : Nat := 0x372400
/-- MacMaxFrameSize, 0x3100:01–31 (R427). -/
abbrev MacMaxFrameSize : Nat := 0x310000
/-- MacPortAddress, 0x3101:01–31 (R427). -/
abbrev MacPortAddress : Nat := 0x310100
/-- MacGroupHashFilter, 0x3102:01–31 (R427). -/
abbrev MacGroupHashFilter : Nat := 0x310200
/-- MacTxIpg, 0x3103:01–31 (R427). -/
abbrev MacTxIpg : Nat := 0x310300
/-- MacHalfDuplexRefusedCount, 0x3104:01–31 (R427). -/
abbrev MacHalfDuplexRefusedCount : Nat := 0x310400
/-- MacGroupFilterEnable, 0x3105:01–31 (R427). -/
abbrev MacGroupFilterEnable : Nat := 0x310500
/-- MacBaseAddress, 0x3110:00 (R427). -/
abbrev MacBaseAddress : Nat := 0x311000
/-- StatSnapshot, 0x3200:01–31 (R428). -/
abbrev StatSnapshot : Nat := 0x320000
/-- StatPeek, 0x3201:01–31 (R428). -/
abbrev StatPeek : Nat := 0x320100
/-- StatLastClearTurn, 0x3202:01–31 (R428). -/
abbrev StatLastClearTurn : Nat := 0x320200
/-- StatCounterCount, 0x3210:00 (R428). -/
abbrev StatCounterCount : Nat := 0x321000
/-- QuadControl, 0x4000:01–0C (R460). -/
abbrev QuadControl : Nat := 0x400000
/-- QuadBlockState, 0x4001:01–0C (R460). -/
abbrev QuadBlockState : Nat := 0x400100
/-- QuadMode, 0x4002:01–0C (R460). -/
abbrev QuadMode : Nat := 0x400200
/-- QuadPllRates, 0x4003:01–0C (R460). -/
abbrev QuadPllRates : Nat := 0x400300
/-- QuadPllLocked, 0x4004:01–0C (R460). -/
abbrev QuadPllLocked : Nat := 0x400400
/-- QuadEventCause, 0x4005:01–0C (R460). -/
abbrev QuadEventCause : Nat := 0x400500
/-- NqFecMode, 0x4008:01–0C (R460). -/
abbrev NqFecMode : Nat := 0x400800
/-- NqActiveTxSet, 0x4010:01–0C (R460). -/
abbrev NqActiveTxSet : Nat := 0x401000
/-- NqActiveRxSet, 0x4011:01–0C (R460). -/
abbrev NqActiveRxSet : Nat := 0x401100
/-- NqThinEnable, 0x4012:01–0C (R460). -/
abbrev NqThinEnable : Nat := 0x401200
/-- NqThinLow, 0x4013:01–0C (R460). -/
abbrev NqThinLow : Nat := 0x401300
/-- NqWidenHigh, 0x4014:01–0C (R460). -/
abbrev NqWidenHigh : Nat := 0x401400
/-- NqThinHold, 0x4015:01–0C (R460). -/
abbrev NqThinHold : Nat := 0x401500
/-- NqMinTxLanes, 0x4016:01–0C (R460). -/
abbrev NqMinTxLanes : Nat := 0x401600
/-- NqWidenCells, 0x4017:01–0C (R460). -/
abbrev NqWidenCells : Nat := 0x401700
/-- NqRetreatCount, 0x4018:01–0C (R460). -/
abbrev NqRetreatCount : Nat := 0x401800
/-- NqRetreatDiscardCount, 0x4019:01–0C (R460). -/
abbrev NqRetreatDiscardCount : Nat := 0x401900
/-- NqThinCount, 0x401A:01–0C (R460). -/
abbrev NqThinCount : Nat := 0x401A00
/-- NqRestoreHold, 0x401B:01–0C (R460). -/
abbrev NqRestoreHold : Nat := 0x401B00
/-- LaneControl, 0x4100:01–30 (R461). -/
abbrev LaneControl : Nat := 0x410000
/-- LaneBlockState, 0x4101:01–30 (R461). -/
abbrev LaneBlockState : Nat := 0x410100
/-- LanePortMode, 0x4102:01–30 (R461). -/
abbrev LanePortMode : Nat := 0x410200
/-- Lane25gFec, 0x4103:01–30 (R461). -/
abbrev Lane25gFec : Nat := 0x410300
/-- LaneTxInvert, 0x4104:01–30 (R461). -/
abbrev LaneTxInvert : Nat := 0x410400
/-- LaneRxPolarityAuto, 0x4105:01–30 (R461). -/
abbrev LaneRxPolarityAuto : Nat := 0x410500
/-- LaneRxInvertForced, 0x4106:01–30 (R461). -/
abbrev LaneRxInvertForced : Nat := 0x410600
/-- LaneTxPre, 0x4107:01–30 (R461). -/
abbrev LaneTxPre : Nat := 0x410700
/-- LaneTxMain, 0x4108:01–30 (R461). -/
abbrev LaneTxMain : Nat := 0x410800
/-- LaneTxPost, 0x4109:01–30 (R461). -/
abbrev LaneTxPost : Nat := 0x410900
/-- LaneTxSleepCmd, 0x410A:01–30 (R461). -/
abbrev LaneTxSleepCmd : Nat := 0x410A00
/-- LaneRxSleepCmd, 0x410B:01–30 (R461). -/
abbrev LaneRxSleepCmd : Nat := 0x410B00
/-- LaneHostCoeffs, 0x410C:01–30 (R461). -/
abbrev LaneHostCoeffs : Nat := 0x410C00
/-- LaneHostCoeffCmd, 0x410D:01–30 (R461). -/
abbrev LaneHostCoeffCmd : Nat := 0x410D00
/-- LaneAdaptControl, 0x410E:01–30 (R461). -/
abbrev LaneAdaptControl : Nat := 0x410E00
/-- LaneAdaptBlockState, 0x410F:01–30 (R461). -/
abbrev LaneAdaptBlockState : Nat := 0x410F00
/-- LaneBeaconEnable, 0x4110:01–30 (R461). -/
abbrev LaneBeaconEnable : Nat := 0x411000
/-- LoopCheckHold, 0x4111:01–30 (R461). -/
abbrev LoopCheckHold : Nat := 0x411100
/-- PtControl, 0x4200:01–30 (R462). -/
abbrev PtControl : Nat := 0x420000
/-- PtBlockState, 0x4201:01–30 (R462). -/
abbrev PtBlockState : Nat := 0x420100
/-- PtRate, 0x4202:01–30 (R462). -/
abbrev PtRate : Nat := 0x420200
/-- PtTxPattern, 0x4203:01–30 (R462). -/
abbrev PtTxPattern : Nat := 0x420300
/-- PtRxPattern, 0x4204:01–30 (R462). -/
abbrev PtRxPattern : Nat := 0x420400
/-- PtInvert, 0x4205:01–30 (R462). -/
abbrev PtInvert : Nat := 0x420500
/-- PtCheckerLocked, 0x4206:01–30 (R462). -/
abbrev PtCheckerLocked : Nat := 0x420600
/-- PtErrorCount, 0x4207:01–30 (R462). -/
abbrev PtErrorCount : Nat := 0x420700
/-- PtBitCount, 0x4208:01–30 (R462). -/
abbrev PtBitCount : Nat := 0x420800
/-- PtClearCmd, 0x4209:01–30 (R462). -/
abbrev PtClearCmd : Nat := 0x420900
/-- PtInjectCmd, 0x420A:01–30 (R462). -/
abbrev PtInjectCmd : Nat := 0x420A00
/-- PtLockLossCount, 0x420B:01–30 (R462). -/
abbrev PtLockLossCount : Nat := 0x420B00
/-- LaneRxState, 0x4300:01–30 (R463). -/
abbrev LaneRxState : Nat := 0x430000
/-- LaneTxState, 0x4301:01–30 (R463). -/
abbrev LaneTxState : Nat := 0x430100
/-- LaneSignalDetect, 0x4302:01–30 (R463). -/
abbrev LaneSignalDetect : Nat := 0x430200
/-- LaneRxInverted, 0x4303:01–30 (R463). -/
abbrev LaneRxInverted : Nat := 0x430300
/-- LaneLockCount, 0x4304:01–30 (R463). -/
abbrev LaneLockCount : Nat := 0x430400
/-- LaneLockLossCount, 0x4305:01–30 (R463). -/
abbrev LaneLockLossCount : Nat := 0x430500
/-- LaneRxCoeffs, 0x4306:01–30 (R463). -/
abbrev LaneRxCoeffs : Nat := 0x430600
/-- LaneCoeffSource, 0x4307:01–30 (R463). -/
abbrev LaneCoeffSource : Nat := 0x430700
/-- LaneBlockErrorCount, 0x4308:01–30 (R463). -/
abbrev LaneBlockErrorCount : Nat := 0x430800
/-- LaneHiBerCount, 0x4309:01–30 (R463). -/
abbrev LaneHiBerCount : Nat := 0x430900
/-- LaneFecCorrectedCount, 0x430A:01–30 (R463). -/
abbrev LaneFecCorrectedCount : Nat := 0x430A00
/-- LaneFecUncorrectedCount, 0x430B:01–30 (R463). -/
abbrev LaneFecUncorrectedCount : Nat := 0x430B00
/-- LaneLoopbackState, 0x430C:01–30 (R463). -/
abbrev LaneLoopbackState : Nat := 0x430C00
/-- LaneLastLockTurn, 0x430E:01–30 (R463). -/
abbrev LaneLastLockTurn : Nat := 0x430E00
/-- RedUnitState, 0x5100:01–04 (R495). -/
abbrev RedUnitState : Nat := 0x510000
/-- RedHealthRecord, 0x5101:01–04 (R495). -/
abbrev RedHealthRecord : Nat := 0x510100
/-- RedFaultCount, 0x5102:01–04 (R495). -/
abbrev RedFaultCount : Nat := 0x510200
/-- RedOutOfServiceCause, 0x5103:01–04 (R495). -/
abbrev RedOutOfServiceCause : Nat := 0x510300
/-- RedReturnCmd, 0x5104:01–04 (R495). -/
abbrev RedReturnCmd : Nat := 0x510400
/-- CoreControl, 0x5105:01–02 (R496). -/
abbrev CoreControl : Nat := 0x510500
/-- CoreBlockState, 0x5106:01–02 (R496). -/
abbrev CoreBlockState : Nat := 0x510600
/-- RedPreferred, 0x5110:01–02 (R496). -/
abbrev RedPreferred : Nat := 0x511000
/-- RedRevertHold, 0x5111:01–02 (R496). -/
abbrev RedRevertHold : Nat := 0x511100
/-- RedRevertRemaining, 0x5112:01–02 (R496). -/
abbrev RedRevertRemaining : Nat := 0x511200
/-- RedSwitchCmd, 0x5113:01–02 (R496). -/
abbrev RedSwitchCmd : Nat := 0x511300
/-- RedTakeoverCount, 0x5114:01–02 (R496). -/
abbrev RedTakeoverCount : Nat := 0x511400
/-- RedLastTakeoverTurn, 0x5115:01–02 (R496). -/
abbrev RedLastTakeoverTurn : Nat := 0x511500
/-- RedEventCause, 0x5116:01–02 (R496). -/
abbrev RedEventCause : Nat := 0x511600
/-- RedHbMissLimit, 0x5117:01–02 (R496). -/
abbrev RedHbMissLimit : Nat := 0x511700
/-- RedHbPathState, 0x5118:01–02 (R496). -/
abbrev RedHbPathState : Nat := 0x511800
/-- RedHbMissCountA, 0x5119:01–02 (R496). -/
abbrev RedHbMissCountA : Nat := 0x511900
/-- RedHbMissCountB, 0x511A:01–02 (R496). -/
abbrev RedHbMissCountB : Nat := 0x511A00
/-- RedMismatchCount, 0x511B:01–02 (R496). -/
abbrev RedMismatchCount : Nat := 0x511B00
/-- RedLastMismatchTurn, 0x511C:01–02 (R496). -/
abbrev RedLastMismatchTurn : Nat := 0x511C00
/-- RedFaultLimit, 0x511D:01–02 (R496). -/
abbrev RedFaultLimit : Nat := 0x511D00
/-- RedAutoReturn, 0x511E:01–02 (R496). -/
abbrev RedAutoReturn : Nat := 0x511E00
/-- FwRunningVersion, 0x5400:01–02 (R497). -/
abbrev FwRunningVersion : Nat := 0x540000
/-- FwPrimaryVersion, 0x5401:00 (R497). -/
abbrev FwPrimaryVersion : Nat := 0x540100
/-- FwFallbackVersion, 0x5402:00 (R497). -/
abbrev FwFallbackVersion : Nat := 0x540200
/-- FwMinVersion, 0x5403:00 (R497). -/
abbrev FwMinVersion : Nat := 0x540300
/-- FwStageOffset, 0x5404:00 (R497). -/
abbrev FwStageOffset : Nat := 0x540400
/-- FwStageData, 0x5405:00 (R497). -/
abbrev FwStageData : Nat := 0x540500
/-- FwStageLength, 0x5406:00 (R497). -/
abbrev FwStageLength : Nat := 0x540600
/-- FwUpdateCmd, 0x5407:00 (R497). -/
abbrev FwUpdateCmd : Nat := 0x540700
/-- FwUpdateAt, 0x5408:00 (R497). -/
abbrev FwUpdateAt : Nat := 0x540800
/-- FwUpdateState, 0x5409:00 (R497). -/
abbrev FwUpdateState : Nat := 0x540900
/-- FwUpdateResult, 0x540A:00 (R497). -/
abbrev FwUpdateResult : Nat := 0x540A00
/-- FwStagedVersion, 0x540B:00 (R497). -/
abbrev FwStagedVersion : Nat := 0x540B00
/-- FwFlashState, 0x540C:00 (R497). -/
abbrev FwFlashState : Nat := 0x540C00
/-- ProductCode, 0x1000:00 (R526). -/
abbrev ProductCode : Nat := 0x100000
/-- VendorName, 0x1001:00 (R526). -/
abbrev VendorName : Nat := 0x100100
/-- ProductName, 0x1002:00 (R526). -/
abbrev ProductName : Nat := 0x100200
/-- Grade, 0x1003:00 (R526). -/
abbrev Grade : Nat := 0x100300
/-- DieRevision, 0x1004:00 (R526). -/
abbrev DieRevision : Nat := 0x100400
/-- SerialNumber, 0x1005:00 (R526). -/
abbrev SerialNumber : Nat := 0x100500
/-- DictionaryVersion, 0x1006:00 (R526). -/
abbrev DictionaryVersion : Nat := 0x100600
/-- MdpVersionsServed, 0x1007:00 (R526). -/
abbrev MdpVersionsServed : Nat := 0x100700
/-- DictionarySheet, 0x1008:00 (R526). -/
abbrev DictionarySheet : Nat := 0x100800
/-- DictionarySheetDigest, 0x1009:00 (R526). -/
abbrev DictionarySheetDigest : Nat := 0x100900
/-- DeviceUserName, 0x100A:00 (R526). -/
abbrev DeviceUserName : Nat := 0x100A00
/-- DeviceLocation, 0x100B:00 (R526). -/
abbrev DeviceLocation : Nat := 0x100B00
/-- BenigWindowVersion, 0x100C:00 (R526). -/
abbrev BenigWindowVersion : Nat := 0x100C00
/-- PlaneStatus, 0x1010:01–04 (R526). -/
abbrev PlaneStatus : Nat := 0x101000
/-- LocalAccessLevel, 0x1100:00 (R527). -/
abbrev LocalAccessLevel : Nat := 0x110000
/-- MdpEnable, 0x1101:00 (R527). -/
abbrev MdpEnable : Nat := 0x110100
/-- MdpPortMask, 0x1102:00 (R527). -/
abbrev MdpPortMask : Nat := 0x110200
/-- MdpVlan, 0x1103:00 (R527). -/
abbrev MdpVlan : Nat := 0x110300
/-- MdpIpv4Address, 0x1104:00 (R527). -/
abbrev MdpIpv4Address : Nat := 0x110400
/-- MdpIpv6Address, 0x1105:00 (R527). -/
abbrev MdpIpv6Address : Nat := 0x110500
/-- MdpL0Open, 0x1106:00 (R527). -/
abbrev MdpL0Open : Nat := 0x110600
/-- MdpSessionTimeout, 0x1107:00 (R527). -/
abbrev MdpSessionTimeout : Nat := 0x110700
/-- MdpAuthLockout, 0x1108:00 (R527). -/
abbrev MdpAuthLockout : Nat := 0x110800
/-- MdpKey, 0x1109:01–02 (R527). -/
abbrev MdpKey : Nat := 0x110900
/-- MdpKeySet, 0x110A:01–03 (R527). -/
abbrev MdpKeySet : Nat := 0x110A00
/-- MdpAuthFailCount, 0x110B:00 (R527). -/
abbrev MdpAuthFailCount : Nat := 0x110B00
/-- MdpDatagramDiscardCount, 0x110C:00 (R527). -/
abbrev MdpDatagramDiscardCount : Nat := 0x110C00
/-- MdpSessionEventCause, 0x110D:00 (R527). -/
abbrev MdpSessionEventCause : Nat := 0x110D00
/-- MdpKeyRevoke, 0x110E:00 (R527). -/
abbrev MdpKeyRevoke : Nat := 0x110E00
/-- MdpRecoveredCount, 0x110F:00 (R527). -/
abbrev MdpRecoveredCount : Nat := 0x110F00
/-- MdpSessionControl, 0x1120:01–10 (R528). -/
abbrev MdpSessionControl : Nat := 0x112000
/-- MdpSessionBlockState, 0x1121:01–10 (R528). -/
abbrev MdpSessionBlockState : Nat := 0x112100
/-- MdpSessionState, 0x1122:01–10 (R528). -/
abbrev MdpSessionState : Nat := 0x112200
/-- MdpSessionLevel, 0x1123:01–10 (R528). -/
abbrev MdpSessionLevel : Nat := 0x112300
/-- MdpSessionVersion, 0x1124:01–10 (R528). -/
abbrev MdpSessionVersion : Nat := 0x112400
/-- MdpSessionPeer, 0x1125:01–10 (R528). -/
abbrev MdpSessionPeer : Nat := 0x112500
/-- MdpSessionLastSeq, 0x1126:01–10 (R528). -/
abbrev MdpSessionLastSeq : Nat := 0x112600
/-- MdpSessionOpenedTurn, 0x1127:01–10 (R528). -/
abbrev MdpSessionOpenedTurn : Nat := 0x112700
/-- ModeF0PtpEngine, 0x1200:01–30 (R529). -/
abbrev ModeF0PtpEngine : Nat := 0x120000
/-- ModeF1Servo, 0x1201:00 (R529). -/
abbrev ModeF1Servo : Nat := 0x120100
/-- ModeF2RefSelector, 0x1202:00 (R529). -/
abbrev ModeF2RefSelector : Nat := 0x120200
/-- ModeF3Learning, 0x1203:00 (R529). -/
abbrev ModeF3Learning : Nat := 0x120300
/-- ModeF4Calibration, 0x1204:00 (R529). -/
abbrev ModeF4Calibration : Nat := 0x120400
/-- ModeF5CounterDump, 0x1205:01–03 (R529). -/
abbrev ModeF5CounterDump : Nat := 0x120500
/-- ModeF6LaneAdapt, 0x1206:01–30 (R529). -/
abbrev ModeF6LaneAdapt : Nat := 0x120600
/-- ModeF7ReelTrigger, 0x1207:00 (R529). -/
abbrev ModeF7ReelTrigger : Nat := 0x120700
/-- EventStatus, 0x5000:01–40 (R563). -/
abbrev EventStatus : Nat := 0x500000
/-- EventAck, 0x5001:01–40 (R563). -/
abbrev EventAck : Nat := 0x500100
/-- EventEnable, 0x5002:01–40 (R563). -/
abbrev EventEnable : Nat := 0x500200
/-- EventRoute, 0x5003:01–40 (R563). -/
abbrev EventRoute : Nat := 0x500300
/-- EventRaiseTotal, 0x5004:01–40 (R563). -/
abbrev EventRaiseTotal : Nat := 0x500400
/-- EventLastRaiseTurn, 0x5005:01–40 (R563). -/
abbrev EventLastRaiseTurn : Nat := 0x500500
/-- BusErrorCount, 0x5010:00 (R564). -/
abbrev BusErrorCount : Nat := 0x501000
/-- BusErrorLastInfo, 0x5011:00 (R564). -/
abbrev BusErrorLastInfo : Nat := 0x501100
/-- BusErrorLastAddress, 0x5012:00 (R564). -/
abbrev BusErrorLastAddress : Nat := 0x501200
/-- IgnoredWriteCount, 0x5013:00 (R564). -/
abbrev IgnoredWriteCount : Nat := 0x501300
/-- IgnoredWriteLast, 0x5014:00 (R564). -/
abbrev IgnoredWriteLast : Nat := 0x501400
/-- MixedConfigCount, 0x5015:00 (R564). -/
abbrev MixedConfigCount : Nat := 0x501500
/-- MixedConfigLast, 0x5016:00 (R564). -/
abbrev MixedConfigLast : Nat := 0x501600
/-- MixedConfigActive, 0x5017:00 (R564). -/
abbrev MixedConfigActive : Nat := 0x501700
/-- BenigWindowEnable, 0x5018:00 (R564). -/
abbrev BenigWindowEnable : Nat := 0x501800
/-- DirectMapEnable, 0x5019:00 (R564). -/
abbrev DirectMapEnable : Nat := 0x501900
/-- PerfBankRun, 0x5200:01–03 (R585). -/
abbrev PerfBankRun : Nat := 0x520000
/-- PerfUserEnable, 0x5201:01–03 (R585). -/
abbrev PerfUserEnable : Nat := 0x520100
/-- PerfBankPeek, 0x5202:01–03 (R585). -/
abbrev PerfBankPeek : Nat := 0x520200
/-- PerfBankSnapshot, 0x5203:01–03 (R585). -/
abbrev PerfBankSnapshot : Nat := 0x520300
/-- PerfCounterConfig, 0x5204:01–18 (R585). -/
abbrev PerfCounterConfig : Nat := 0x520400
/-- PerfSamplePeriod, 0x5205:01–18 (R585). -/
abbrev PerfSamplePeriod : Nat := 0x520500
/-- PerfDumpControl, 0x5210:01–03 (R585). -/
abbrev PerfDumpControl : Nat := 0x521000
/-- PerfDumpBlockState, 0x5211:01–03 (R585). -/
abbrev PerfDumpBlockState : Nat := 0x521100
/-- PerfDumpPeriod, 0x5212:01–03 (R585). -/
abbrev PerfDumpPeriod : Nat := 0x521200
/-- PerfDumpHostRing, 0x5213:01–03 (R585). -/
abbrev PerfDumpHostRing : Nat := 0x521300
/-- PerfDumpWriteIndex, 0x5214:00 (R585). -/
abbrev PerfDumpWriteIndex : Nat := 0x521400
/-- PerfDumpReadIndex, 0x5215:00 (R585). -/
abbrev PerfDumpReadIndex : Nat := 0x521500
/-- PerfDumpRead, 0x5216:00 (R585). -/
abbrev PerfDumpRead : Nat := 0x521600
/-- PerfDumpHostMissCount, 0x5217:00 (R585). -/
abbrev PerfDumpHostMissCount : Nat := 0x521700
/-- PerfDumpLastTurn, 0x5218:00 (R585). -/
abbrev PerfDumpLastTurn : Nat := 0x521800
/-- PerfSampleFill, 0x5220:00 (R585). -/
abbrev PerfSampleFill : Nat := 0x522000
/-- PerfSampleWatermark, 0x5221:00 (R585). -/
abbrev PerfSampleWatermark : Nat := 0x522100
/-- PerfSampleRead, 0x5222:00 (R585). -/
abbrev PerfSampleRead : Nat := 0x522200
/-- PerfSampleLossCount, 0x5223:00 (R585). -/
abbrev PerfSampleLossCount : Nat := 0x522300
/-- SpoolControl, 0x5230:00 (R586). -/
abbrev SpoolControl : Nat := 0x523000
/-- SpoolBlockState, 0x5231:00 (R586). -/
abbrev SpoolBlockState : Nat := 0x523100
/-- SpoolImage, 0x5232:00 (R586). -/
abbrev SpoolImage : Nat := 0x523200
/-- SpoolTurnBudget, 0x5233:00 (R586). -/
abbrev SpoolTurnBudget : Nat := 0x523300
/-- SpoolAppliedBudget, 0x5234:00 (R586). -/
abbrev SpoolAppliedBudget : Nat := 0x523400
/-- SpoolAccessLevel, 0x5235:00 (R586). -/
abbrev SpoolAccessLevel : Nat := 0x523500
/-- SpoolLogRead, 0x5236:00 (R586). -/
abbrev SpoolLogRead : Nat := 0x523600
/-- SpoolLogLossCount, 0x5237:00 (R586). -/
abbrev SpoolLogLossCount : Nat := 0x523700
/-- SpoolSlotEnable, 0x5240:01–08 (R586). -/
abbrev SpoolSlotEnable : Nat := 0x524000
/-- SpoolSlotBudget, 0x5241:01–08 (R586). -/
abbrev SpoolSlotBudget : Nat := 0x524100
/-- SpoolSlotPeriod, 0x5242:01–08 (R586). -/
abbrev SpoolSlotPeriod : Nat := 0x524200
/-- SpoolSlotState, 0x5243:01–08 (R586). -/
abbrev SpoolSlotState : Nat := 0x524300
/-- SpoolSlotLastCycles, 0x5244:01–08 (R586). -/
abbrev SpoolSlotLastCycles : Nat := 0x524400
/-- SpoolSlotOverrunCount, 0x5245:01–08 (R586). -/
abbrev SpoolSlotOverrunCount : Nat := 0x524500
/-- SpoolSlotSkipCount, 0x5246:01–08 (R586). -/
abbrev SpoolSlotSkipCount : Nat := 0x524600
/-- SpoolSlotFaultCount, 0x5247:01–08 (R586). -/
abbrev SpoolSlotFaultCount : Nat := 0x524700
/-- SpoolSlotFaultCause, 0x5248:01–08 (R586). -/
abbrev SpoolSlotFaultCause : Nat := 0x524800
/-- SpoolSlotFaultPc, 0x5249:01–08 (R586). -/
abbrev SpoolSlotFaultPc : Nat := 0x524900
/-- SpoolFaultLimit, 0x524A:00 (R586). -/
abbrev SpoolFaultLimit : Nat := 0x524A00
/-- DieTemperature, 0x5500:01–04 (R612). -/
abbrev DieTemperature : Nat := 0x550000
/-- DieTemperaturePeak, 0x5501:00 (R612). -/
abbrev DieTemperaturePeak : Nat := 0x550100
/-- ThermalState, 0x5502:00 (R612). -/
abbrev ThermalState : Nat := 0x550200
/-- ThermalWarnLimit, 0x5503:00 (R612). -/
abbrev ThermalWarnLimit : Nat := 0x550300
/-- ThermalShutdownCount, 0x5504:00 (R612). -/
abbrev ThermalShutdownCount : Nat := 0x550400
/-- ThermalEventCause, 0x5505:00 (R612). -/
abbrev ThermalEventCause : Nat := 0x550500
/-- SupplyVoltage, 0x5510:01–08 (R612). -/
abbrev SupplyVoltage : Nat := 0x551000
/-- SupplyState, 0x5511:01–08 (R612). -/
abbrev SupplyState : Nat := 0x551100
/-- SupplyMinimum, 0x5512:01–08 (R612). -/
abbrev SupplyMinimum : Nat := 0x551200
/-- SupplyEventCause, 0x5513:00 (R612). -/
abbrev SupplyEventCause : Nat := 0x551300
/-- RefInPinStatus, 0x5520:01–04 (R612). -/
abbrev RefInPinStatus : Nat := 0x552000
/-- MrefPinStatus, 0x5521:00 (R612). -/
abbrev MrefPinStatus : Nat := 0x552100
/-- ClkOutPinStatus, 0x5522:01–08 (R612). -/
abbrev ClkOutPinStatus : Nat := 0x552200
/-- PulsePinStatus, 0x5523:01–10 (R612). -/
abbrev PulsePinStatus : Nat := 0x552300
/-- ClkOutMonitorInput, 0x5524:01–08 (R612). -/
abbrev ClkOutMonitorInput : Nat := 0x552400
/-- RefInSwapCorrect, 0x5525:01–04 (R612). -/
abbrev RefInSwapCorrect : Nat := 0x552500
/-- PinEventCause, 0x5526:00 (R612). -/
abbrev PinEventCause : Nat := 0x552600
/-- DramEccCorrectedCount, 0x5530:01–02 (R612). -/
abbrev DramEccCorrectedCount : Nat := 0x553000
/-- DramEccUncorrectedCount, 0x5531:01–02 (R612). -/
abbrev DramEccUncorrectedCount : Nat := 0x553100
/-- DeepStoreLost, 0x5532:00 (R612). -/
abbrev DeepStoreLost : Nat := 0x553200
/-- ResetCause, 0x5540:00 (R613). -/
abbrev ResetCause : Nat := 0x554000
/-- BootStraps, 0x5541:00 (R613). -/
abbrev BootStraps : Nat := 0x554100
/-- BootImageSlot, 0x5542:00 (R613). -/
abbrev BootImageSlot : Nat := 0x554200
/-- BootImageSource, 0x5543:00 (R613). -/
abbrev BootImageSource : Nat := 0x554300
/-- BootDuration, 0x5544:00 (R613). -/
abbrev BootDuration : Nat := 0x554400
/-- DeviceFaultCount, 0x5545:00 (R613). -/
abbrev DeviceFaultCount : Nat := 0x554500
/-- DeviceFaultLastCause, 0x5546:00 (R613). -/
abbrev DeviceFaultLastCause : Nat := 0x554600
/-- DeviceFaultPhase, 0x5547:00 (R613). -/
abbrev DeviceFaultPhase : Nat := 0x554700
/-- DeviceFaultLastTurn, 0x5548:00 (R613). -/
abbrev DeviceFaultLastTurn : Nat := 0x554800
/-- DeviceFaultLastUptime, 0x5549:00 (R613). -/
abbrev DeviceFaultLastUptime : Nat := 0x554900
/-- RecoveryLastDuration, 0x554A:00 (R613). -/
abbrev RecoveryLastDuration : Nat := 0x554A00
/-- ConfigLost, 0x554B:00 (R613). -/
abbrev ConfigLost : Nat := 0x554B00
/-- ConfigLostAck, 0x554C:00 (R613). -/
abbrev ConfigLostAck : Nat := 0x554C00
/-- DeviceResetCmd, 0x554D:00 (R613). -/
abbrev DeviceResetCmd : Nat := 0x554D00
/-- DeviceFaultLimit, 0x554E:00 (R613). -/
abbrev DeviceFaultLimit : Nat := 0x554E00
/-- DeviceRestartCmd, 0x554F:00 (R613). -/
abbrev DeviceRestartCmd : Nat := 0x554F00

end Obj

/-- Objects of 0x1000 to 0x10FF. -/
def objRows10 : List ObjRow := [
  ⟨0x1000, 0x1000, 0x0, 0x0, .u32, .ro, 0, .const 18504, .any⟩,
  ⟨0x1001, 0x1001, 0x0, 0x0, .vstring 32, .ro, 0, .text [70, 106, 97, 114, 100, 97, 110, 32, 83, 101, 109, 105, 99, 111, 110, 100, 117, 99, 116, 111, 114], .any⟩,
  ⟨0x1002, 0x1002, 0x0, 0x0, .vstring 32, .ro, 0, .text [84, 111, 108, 116, 111, 115, 116, 111, 32, 84, 84, 52, 56, 52, 56], .any⟩,
  ⟨0x1003, 0x1003, 0x0, 0x0, .u8, .ro, 0, .const 0, .any⟩,
  ⟨0x1004, 0x1004, 0x0, 0x0, .u8, .ro, 0, .const 0, .any⟩,
  ⟨0x1005, 0x1005, 0x0, 0x0, .octets 8, .ro, 0, .const 0, .any⟩,
  ⟨0x1006, 0x1006, 0x0, 0x0, .u32, .ro, 0, .const 0, .any⟩,
  ⟨0x1007, 0x1007, 0x0, 0x0, .u8, .ro, 0, .const 3, .any⟩,
  ⟨0x1008, 0x1008, 0x0, 0x0, .vstring 4294967295, .ro, 0, .const 0, .any⟩,
  ⟨0x1009, 0x1009, 0x0, 0x0, .octets 32, .ro, 0, .const 0, .any⟩,
  ⟨0x100A, 0x100A, 0x0, 0x0, .vstring 64, .rw, 1, .const 0, .any⟩,
  ⟨0x100B, 0x100B, 0x0, 0x0, .vstring 64, .rw, 1, .const 0, .any⟩,
  ⟨0x100C, 0x100C, 0x0, 0x0, .u32, .ro, 0, .const 0, .any⟩,
  ⟨0x1010, 0x1010, 0x1, 0x4, .u8, .ro, 0, .const 0, .any⟩]

/-- Objects of 0x1100 to 0x11FF. -/
def objRows11 : List ObjRow := [
  ⟨0x1100, 0x1100, 0x0, 0x0, .u8, .ro, 0, .const 3, .any⟩,
  ⟨0x1101, 0x1101, 0x0, 0x0, .bool, .rw, 2, .const 1, .any⟩,
  ⟨0x1102, 0x1102, 0x0, 0x0, .u64, .rw, 2, .const 562949953421311, .between 0 0x1FFFFFFFFFFFF⟩,
  ⟨0x1103, 0x1103, 0x0, 0x0, .u16, .rw, 2, .const 1, .between 1 4094⟩,
  ⟨0x1104, 0x1104, 0x0, 0x0, .octets 4, .rw, 2, .const 0, .any⟩,
  ⟨0x1105, 0x1105, 0x0, 0x0, .octets 16, .rw, 2, .const 0, .any⟩,
  ⟨0x1106, 0x1106, 0x0, 0x0, .bool, .rw, 2, .const 1, .any⟩,
  ⟨0x1107, 0x1107, 0x0, 0x0, .u32, .rw, 2, .const 60, .between 5 3600⟩,
  ⟨0x1108, 0x1108, 0x0, 0x0, .u32, .rw, 2, .const 60, .between 10 3600⟩,
  ⟨0x1109, 0x1109, 0x1, 0x2, .octets 32, .wo, 2, .const 0, .any⟩,
  ⟨0x1109, 0x1109, 0x3, 0x3, .octets 32, .wo, 3, .const 0, .any⟩,
  ⟨0x110A, 0x110A, 0x1, 0x3, .bool, .ro, 0, .const 0, .any⟩,
  ⟨0x110B, 0x110B, 0x0, 0x0, .u32, .ro, 0, .const 0, .any⟩,
  ⟨0x110C, 0x110C, 0x0, 0x0, .u32, .ro, 0, .const 0, .any⟩,
  ⟨0x110D, 0x110D, 0x0, 0x0, .u8, .ro, 0, .const 0, .any⟩,
  ⟨0x110E, 0x110E, 0x0, 0x0, .bool, .rw, 2, .const 0, .any⟩,
  ⟨0x110F, 0x110F, 0x0, 0x0, .u32, .ro, 0, .const 0, .any⟩,
  ⟨0x1120, 0x1120, 0x1, 0x10, .u8, .cmd, 2, .const 0, .oneOf [1, 2]⟩,
  ⟨0x1121, 0x1121, 0x1, 0x10, .u8, .ro, 0, .const 0, .any⟩,
  ⟨0x1122, 0x1122, 0x1, 0x10, .u8, .ro, 0, .const 0, .any⟩,
  ⟨0x1123, 0x1123, 0x1, 0x10, .u8, .ro, 0, .const 0, .any⟩,
  ⟨0x1124, 0x1124, 0x1, 0x10, .u8, .ro, 0, .const 0, .any⟩,
  ⟨0x1125, 0x1125, 0x1, 0x10, .octets 18, .ro, 0, .const 0, .any⟩,
  ⟨0x1126, 0x1126, 0x1, 0x10, .u32, .ro, 0, .const 0, .any⟩,
  ⟨0x1127, 0x1127, 0x1, 0x10, .u64, .ro, 0, .const 0, .any⟩]

/-- Objects of 0x1200 to 0x12FF. -/
def objRows12 : List ObjRow := [
  ⟨0x1200, 0x1200, 0x1, 0x30, .u8, .rwd, 2, .const 0, .between 0 1⟩,
  ⟨0x1201, 0x1201, 0x0, 0x0, .u8, .rwd, 2, .const 0, .between 0 1⟩,
  ⟨0x1202, 0x1202, 0x0, 0x0, .u8, .rwd, 2, .const 0, .between 0 1⟩,
  ⟨0x1203, 0x1203, 0x0, 0x0, .u8, .rwd, 2, .const 0, .between 0 1⟩,
  ⟨0x1204, 0x1204, 0x0, 0x0, .u8, .rwd, 2, .const 0, .between 0 1⟩,
  ⟨0x1205, 0x1205, 0x1, 0x3, .u8, .rwd, 2, .const 0, .between 0 1⟩,
  ⟨0x1206, 0x1206, 0x1, 0x30, .u8, .rwd, 2, .const 0, .between 0 1⟩,
  ⟨0x1207, 0x1207, 0x0, 0x0, .u8, .rwd, 2, .const 0, .between 0 1⟩]

/-- Objects of 0x1300 to 0x13FF. -/
def objRows13 : List ObjRow := [
  ⟨0x1300, 0x1300, 0x0, 0x0, .u32, .ro, 0, .const 62500, .any⟩,
  ⟨0x1301, 0x1301, 0x0, 0x0, .time96, .ro, 0, .const 0, .any⟩,
  ⟨0x1302, 0x1302, 0x0, 0x0, .u64, .ro, 0, .const 0, .any⟩,
  ⟨0x1303, 0x1303, 0x0, 0x0, .u64, .ro, 0, .const 0, .any⟩,
  ⟨0x1304, 0x1304, 0x0, 0x0, .bool, .ro, 0, .const 0, .any⟩,
  ⟨0x1305, 0x1305, 0x0, 0x0, .u32, .ro, 0, .const 0, .any⟩,
  ⟨0x1308, 0x1308, 0x0, 0x0, .u32, .rw, 2, .const 62500, .between 5000 5000000⟩,
  ⟨0x1309, 0x1309, 0x0, 0x0, .time96, .rw, 2, .const 0, .any⟩,
  ⟨0x130A, 0x130A, 0x0, 0x0, .u64, .rw, 2, .const 0, .any⟩,
  ⟨0x130B, 0x130B, 0x0, 0x0, .u64, .rw, 2, .const 0, .any⟩,
  ⟨0x130C, 0x130C, 0x0, 0x0, .u8, .cmd, 2, .const 0, .oneOf [1, 2, 3]⟩,
  ⟨0x130D, 0x130D, 0x0, 0x0, .u8, .ro, 0, .const 0, .any⟩,
  ⟨0x130E, 0x130E, 0x0, 0x0, .u32, .ro, 0, .const 0, .any⟩,
  ⟨0x130F, 0x130F, 0x0, 0x0, .u64, .ro, 0, .const 0, .any⟩,
  ⟨0x1310, 0x1310, 0x1, 0xD, .u32, .ro, 0, .const 0, .any⟩,
  ⟨0x1311, 0x1311, 0x1, 0xD, .u64, .ro, 0, .const 0, .any⟩,
  ⟨0x1312, 0x1312, 0x1, 0xD, .u8, .ro, 0, .const 0, .any⟩,
  ⟨0x1313, 0x1313, 0x1, 0xD, .u8, .cmd, 1, .const 0, .oneOf [1]⟩]

/-- Objects of 0x2000 to 0x20FF. -/
def objRows20 : List ObjRow := [
  ⟨0x2000, 0x2000, 0x0, 0x0, .time96, .ro, 0, .const 0, .any⟩,
  ⟨0x2001, 0x2001, 0x0, 0x0, .bool, .ro, 0, .const 0, .any⟩,
  ⟨0x2002, 0x2002, 0x0, 0x0, .u8, .ro, 0, .const 0, .any⟩,
  ⟨0x2003, 0x2003, 0x0, 0x0, .u8, .ro, 0, .const 255, .any⟩,
  ⟨0x2004, 0x2004, 0x0, 0x0, .u64, .ro, 0, .const 0, .any⟩,
  ⟨0x2005, 0x2005, 0x0, 0x0, .u64, .ro, 0, .const 0, .any⟩,
  ⟨0x2006, 0x2006, 0x0, 0x0, .bool, .rw, 2, .const 1, .any⟩,
  ⟨0x2008, 0x2008, 0x0, 0x0, .dur64, .rw, 2, .const 0, .any⟩,
  ⟨0x2009, 0x2009, 0x0, 0x0, .time96, .rw, 2, .const 0, .any⟩,
  ⟨0x200A, 0x200A, 0x0, 0x0, .u64, .rw, 2, .const 0, .any⟩,
  ⟨0x200B, 0x200B, 0x0, 0x0, .u8, .cmd, 2, .const 0, .oneOf [1, 2, 3]⟩,
  ⟨0x200C, 0x200C, 0x0, 0x0, .u32, .ro, 0, .const 0, .any⟩,
  ⟨0x200D, 0x200D, 0x0, 0x0, .dur64, .ro, 0, .const 0, .any⟩,
  ⟨0x200D, 0x200D, 0x1, 0x1, .bool, .ro, 0, .const 0, .any⟩,
  ⟨0x200E, 0x200E, 0x0, 0x0, .u64, .ro, 0, .const 0, .any⟩,
  ⟨0x2010, 0x2010, 0x0, 0x0, .u8, .cmd, 1, .const 0, .oneOf [1]⟩,
  ⟨0x2011, 0x2011, 0x1, 0x1, .u32, .ro, 0, .const 0, .any⟩,
  ⟨0x2011, 0x2011, 0x2, 0x2, .u32, .ro, 0, .const 0, .any⟩,
  ⟨0x2011, 0x2011, 0x3, 0x3, .u32, .ro, 0, .const 0, .any⟩,
  ⟨0x2011, 0x2011, 0x4, 0x4, .u32, .ro, 0, .const 0, .any⟩,
  ⟨0x2011, 0x2011, 0x5, 0x5, .u32, .ro, 0, .const 0, .any⟩,
  ⟨0x2011, 0x2011, 0x6, 0x6, .u32, .ro, 0, .const 0, .any⟩,
  ⟨0x2011, 0x2011, 0x7, 0x7, .u32, .ro, 0, .const 0, .any⟩,
  ⟨0x2011, 0x2011, 0x8, 0x8, .u32, .ro, 0, .const 0, .any⟩,
  ⟨0x2011, 0x2011, 0x9, 0x9, .u32, .ro, 0, .const 0, .any⟩,
  ⟨0x2011, 0x2011, 0xA, 0xA, .u32, .ro, 0, .const 0, .any⟩,
  ⟨0x2011, 0x2011, 0xB, 0xB, .u32, .ro, 0, .const 0, .any⟩]

/-- Objects of 0x2100 to 0x21FF. -/
def objRows21 : List ObjRow := [
  ⟨0x2100, 0x2100, 0x1, 0x2, .time96, .ro, 0, .const 0, .any⟩,
  ⟨0x2101, 0x2101, 0x1, 0x2, .u8, .ro, 0, .perSub [(1, 0), (2, 2)], .any⟩,
  ⟨0x2102, 0x2102, 0x1, 0x2, .u8, .ro, 0, .const 0, .any⟩,
  ⟨0x2103, 0x2103, 0x1, 0x2, .dfreq, .ro, 0, .const 0, .any⟩,
  ⟨0x2104, 0x2104, 0x1, 0x2, .dfreq, .ro, 0, .const 0, .any⟩,
  ⟨0x2105, 0x2105, 0x1, 0x2, .dfreq, .ro, 0, .const 0, .any⟩,
  ⟨0x2106, 0x2106, 0x1, 0x2, .u32, .ro, 0, .const 0, .any⟩,
  ⟨0x2107, 0x2107, 0x1, 0x2, .u8, .cmd, 2, .const 0, .oneOf [1, 2]⟩,
  ⟨0x2108, 0x2108, 0x1, 0x2, .u8, .ro, 0, .const 0, .any⟩,
  ⟨0x2109, 0x2109, 0x1, 0x2, .u8, .ro, 0, .const 0, .any⟩,
  ⟨0x2110, 0x2110, 0x0, 0x0, .dfreq, .rw, 2, .const 0, .between (-56294995342) 56294995342⟩,
  ⟨0x2111, 0x2111, 0x0, 0x0, .dfreq, .rw, 2, .const 0, .between (-281474977) 281474977⟩,
  ⟨0x2111, 0x2111, 0x1, 0x1, .bool, .ro, 0, .const 0, .any⟩,
  ⟨0x2112, 0x2112, 0x0, 0x0, .dfreq, .rwd, 2, .const 281474977, .between 0 281474977⟩,
  ⟨0x2113, 0x2113, 0x0, 0x0, .dfreq, .rwd, 2, .const 2814750, .between 0 2814750⟩,
  ⟨0x2114, 0x2114, 0x0, 0x0, .dfreq, .ro, 0, .const 56294995342, .any⟩,
  ⟨0x2115, 0x2115, 0x1, 0x2, .dur64, .ro, 0, .const 0, .any⟩]

/-- Objects of 0x2200 to 0x22FF. -/
def objRows22 : List ObjRow := [
  ⟨0x2200, 0x2200, 0x1, 0x65, .u8, .ro, 0, .const 0, .any⟩,
  ⟨0x2201, 0x2201, 0x1, 0x65, .u8, .rw, 2, .perSub [(4, 32), (52, 64), (100, 192), (101, 0)], .any⟩,
  ⟨0x2202, 0x2202, 0x1, 0x65, .u8, .ro, 0, .const 0, .any⟩,
  ⟨0x2203, 0x2203, 0x1, 0x65, .u8, .ro, 0, .const 0, .any⟩,
  ⟨0x2204, 0x2204, 0x1, 0x65, .dur64, .ro, 0, .const 0, .any⟩,
  ⟨0x2205, 0x2205, 0x1, 0x65, .dfreq, .ro, 0, .const 0, .any⟩,
  ⟨0x2206, 0x2206, 0x1, 0x65, .u8, .ro, 0, .const 11, .any⟩,
  ⟨0x2207, 0x2207, 0x1, 0x65, .bool, .rw, 2, .const 0, .any⟩,
  ⟨0x2208, 0x2208, 0x1, 0x65, .bool, .ro, 0, .const 0, .any⟩,
  ⟨0x2209, 0x2209, 0x1, 0x65, .u32, .ro, 0, .const 0, .any⟩,
  ⟨0x220A, 0x220A, 0x1, 0x65, .u32, .ro, 0, .const 0, .any⟩,
  ⟨0x220B, 0x220B, 0x1, 0x65, .u32, .ro, 0, .const 0, .any⟩,
  ⟨0x220C, 0x220C, 0x1, 0x65, .dur64, .rw, 2, .perSub [(4, 1310720), (100, 65536), (101, 1310720)], .between 6554 65536000⟩,
  ⟨0x2210, 0x2210, 0x0, 0x0, .u8, .ro, 0, .const 255, .any⟩,
  ⟨0x2211, 0x2211, 0x0, 0x0, .u8, .ro, 0, .const 0, .any⟩,
  ⟨0x2212, 0x2212, 0x0, 0x0, .bool, .rw, 2, .const 1, .any⟩,
  ⟨0x2213, 0x2213, 0x0, 0x0, .u32, .rw, 2, .const 300, .between 0 3600⟩,
  ⟨0x2214, 0x2214, 0x0, 0x0, .u32, .rw, 2, .const 10, .between 1 600⟩,
  ⟨0x2215, 0x2215, 0x0, 0x0, .u32, .rw, 2, .const 10, .between 1 600⟩,
  ⟨0x2216, 0x2216, 0x0, 0x0, .dfreq, .rw, 2, .const 562949953, .between 0 56294995342⟩,
  ⟨0x2217, 0x2217, 0x0, 0x0, .dfreq, .rw, 2, .const 1294784893, .between 0 56294995342⟩,
  ⟨0x2218, 0x2218, 0x0, 0x0, .u32, .rw, 2, .const 10, .between 1 1000⟩,
  ⟨0x2219, 0x2219, 0x0, 0x0, .bool, .rw, 2, .const 0, .any⟩,
  ⟨0x221A, 0x221A, 0x0, 0x0, .u8, .rw, 2, .const 255, .orElse 0 100 0xFF⟩,
  ⟨0x221B, 0x221B, 0x0, 0x0, .u32, .rw, 2, .const 1000, .between 0 60000⟩,
  ⟨0x221C, 0x221C, 0x0, 0x0, .u32, .rw, 2, .const 60, .between 1 3600⟩,
  ⟨0x221D, 0x221D, 0x0, 0x0, .u32, .ro, 0, .const 0, .any⟩,
  ⟨0x221E, 0x221E, 0x0, 0x0, .u8, .ro, 0, .const 0, .any⟩,
  ⟨0x221F, 0x221F, 0x0, 0x0, .u8, .cmd, 2, .const 0, .oneOf [1, 2]⟩,
  ⟨0x2220, 0x2220, 0x0, 0x0, .u8, .ro, 0, .const 0, .any⟩,
  ⟨0x2221, 0x2221, 0x0, 0x0, .u8, .rw, 2, .const 255, .orElse 0 100 0xFE⟩,
  ⟨0x2222, 0x2222, 0x0, 0x0, .u8, .cmd, 2, .const 0, .oneOf [1]⟩,
  ⟨0x2230, 0x2230, 0x1, 0x4, .u8, .cmd, 2, .const 0, .oneOf [1, 2]⟩,
  ⟨0x2231, 0x2231, 0x1, 0x4, .u8, .ro, 0, .const 0, .any⟩,
  ⟨0x2232, 0x2232, 0x1, 0x4, .u8, .rwd, 2, .const 0, .between 0 2⟩,
  ⟨0x2233, 0x2233, 0x1, 0x4, .u32, .rwd, 2, .const 10000000, .between 1 250000000⟩,
  ⟨0x2234, 0x2234, 0x1, 0x4, .dur64, .rw, 2, .const 0, .between 0 655360000⟩,
  ⟨0x2235, 0x2235, 0x1, 0x4, .u8, .rw, 2, .const 11, .oneOf [2, 4, 8, 11, 15]⟩,
  ⟨0x2236, 0x2236, 0x1, 0x4, .u32, .ro, 0, .const 0, .any⟩,
  ⟨0x2237, 0x2237, 0x1, 0x4, .time96, .ro, 0, .const 0, .any⟩,
  ⟨0x2238, 0x2238, 0x1, 0x4, .u32, .rw, 2, .const 0, .any⟩,
  ⟨0x2239, 0x2239, 0x1, 0x4, .u64, .rw, 2, .const 0, .between 0 281474976710655⟩,
  ⟨0x223A, 0x223A, 0x1, 0x4, .u8, .cmd, 2, .const 0, .oneOf [1, 2]⟩,
  ⟨0x223B, 0x223B, 0x1, 0x4, .bool, .ro, 0, .const 0, .any⟩,
  ⟨0x223C, 0x223C, 0x1, 0x4, .u8, .ro, 0, .const 0, .any⟩,
  ⟨0x2240, 0x2240, 0x0, 0x0, .time96, .rw, 2, .const 0, .any⟩,
  ⟨0x2241, 0x2241, 0x0, 0x0, .u64, .rw, 2, .const 0, .any⟩,
  ⟨0x2242, 0x2242, 0x0, 0x0, .u8, .cmd, 2, .const 0, .oneOf [1]⟩,
  ⟨0x2243, 0x2243, 0x0, 0x0, .u32, .rw, 2, .const 8000, .between 1 1000000⟩,
  ⟨0x2244, 0x2244, 0x0, 0x0, .u8, .rw, 2, .const 11, .oneOf [2, 4, 8, 11, 15]⟩,
  ⟨0x2250, 0x2250, 0x0, 0x0, .u8, .cmd, 2, .const 0, .oneOf [1, 2]⟩,
  ⟨0x2251, 0x2251, 0x0, 0x0, .u8, .ro, 0, .const 0, .any⟩,
  ⟨0x2252, 0x2252, 0x0, 0x0, .u8, .ro, 0, .const 255, .any⟩,
  ⟨0x2253, 0x2253, 0x0, 0x0, .u8, .rwd, 2, .const 2, .between 1 3⟩,
  ⟨0x2254, 0x2254, 0x0, 0x0, .dur64, .rwd, 2, .const 655360, .between 6554 65536000⟩,
  ⟨0x2255, 0x2255, 0x0, 0x0, .dur64, .rwd, 2, .const 6553600, .between 65536 6553600000⟩,
  ⟨0x2256, 0x2256, 0x0, 0x0, .dur64, .ro, 0, .const 0, .any⟩,
  ⟨0x2257, 0x2257, 0x0, 0x0, .u8, .rw, 2, .const 1, .oneOf [1, 2, 3]⟩,
  ⟨0x2260, 0x2260, 0x0, 0x0, .u32, .rwd, 2, .const 600, .between 180 3600⟩,
  ⟨0x2261, 0x2261, 0x0, 0x0, .u32, .rwd, 2, .const 60, .between 0 600⟩,
  ⟨0x2262, 0x2262, 0x0, 0x0, .u32, .rwd, 2, .const 120, .between 10 3600⟩,
  ⟨0x2263, 0x2263, 0x0, 0x0, .dur64, .rw, 2, .const 65536000, .between 655360 6553600000000⟩,
  ⟨0x2264, 0x2264, 0x0, 0x0, .u32, .rw, 2, .const 86400, .between 60 2592000⟩,
  ⟨0x2265, 0x2265, 0x0, 0x0, .dfreq, .rw, 2, .const 2815, .between 0 2814750⟩,
  ⟨0x2266, 0x2266, 0x0, 0x0, .dfreq, .rw, 2, .const 28147, .between 0 2814750⟩,
  ⟨0x2267, 0x2267, 0x0, 0x0, .dfreq, .ro, 0, .const 0, .any⟩,
  ⟨0x2268, 0x2268, 0x0, 0x0, .bool, .ro, 0, .const 0, .any⟩,
  ⟨0x2269, 0x2269, 0x0, 0x0, .u32, .ro, 0, .const 0, .any⟩,
  ⟨0x226A, 0x226A, 0x0, 0x0, .u32, .ro, 0, .const 0, .any⟩,
  ⟨0x226B, 0x226B, 0x0, 0x0, .dur64, .ro, 0, .const 0, .any⟩,
  ⟨0x226C, 0x226C, 0x0, 0x0, .dfreq, .ro, 0, .const 0, .any⟩]

/-- Objects of 0x2300 to 0x23FF. -/
def objRows23 : List ObjRow := [
  ⟨0x2300, 0x2300, 0x1, 0x30, .u8, .ro, 0, .const 0, .any⟩,
  ⟨0x2301, 0x2301, 0x1, 0x30, .u8, .ro, 0, .const 3, .any⟩,
  ⟨0x2302, 0x2302, 0x1, 0x30, .dur64, .ro, 0, .const 0, .any⟩,
  ⟨0x2303, 0x2303, 0x1, 0x30, .dur64, .ro, 0, .const 0, .any⟩,
  ⟨0x2304, 0x2304, 0x1, 0x30, .dfreq, .ro, 0, .const 0, .any⟩,
  ⟨0x2305, 0x2305, 0x1, 0x30, .u8, .cmd, 2, .const 0, .oneOf [1, 2]⟩,
  ⟨0x2306, 0x2306, 0x1, 0x30, .u8, .ro, 0, .const 0, .any⟩,
  ⟨0x2307, 0x2307, 0x1, 0x30, .u8, .rwd, 2, .const 0, .oneOf [0, 1, 2, 3]⟩,
  ⟨0x2308, 0x2308, 0x1, 0x30, .u8, .rwd, 2, .const 0, .oneOf [0, 1, 2]⟩,
  ⟨0x2309, 0x2309, 0x1, 0x30, .u8, .rwd, 2, .const 1, .oneOf [1, 2]⟩,
  ⟨0x230A, 0x230A, 0x1, 0x30, .u8, .rwd, 2, .const 0, .oneOf [0, 1]⟩,
  ⟨0x230B, 0x230B, 0x1, 0x30, .u8, .rwd, 2, .const 0, .oneOf [0, 1]⟩,
  ⟨0x230C, 0x230C, 0x1, 0x30, .i16, .rwd, 2, .const (-4), .between (-7) 1⟩,
  ⟨0x230D, 0x230D, 0x1, 0x30, .i16, .rwd, 2, .const (-4), .between (-7) 1⟩,
  ⟨0x230E, 0x230E, 0x1, 0x30, .i16, .rwd, 2, .const 0, .between (-3) 4⟩,
  ⟨0x230F, 0x230F, 0x1, 0x30, .u8, .rwd, 2, .const 3, .between 2 10⟩,
  ⟨0x2310, 0x2310, 0x1, 0x30, .u32, .rwd, 2, .const 800, .between 0 200000⟩,
  ⟨0x2311, 0x2311, 0x1, 0x30, .u64, .ro, 0, .const 0, .any⟩,
  ⟨0x2312, 0x2312, 0x1, 0x30, .u32, .ro, 0, .const 0, .any⟩,
  ⟨0x2313, 0x2313, 0x1, 0x30, .u32, .ro, 0, .const 0, .any⟩,
  ⟨0x2314, 0x2314, 0x1, 0x30, .u32, .ro, 0, .const 0, .any⟩,
  ⟨0x2315, 0x2315, 0x1, 0x30, .u32, .ro, 0, .const 0, .any⟩,
  ⟨0x2316, 0x2316, 0x1, 0x30, .dur64, .ro, 0, .const 0, .any⟩,
  ⟨0x2317, 0x2317, 0x1, 0x30, .dur64, .ro, 0, .const 0, .any⟩,
  ⟨0x2318, 0x2318, 0x1, 0x30, .dur64, .ro, 0, .const 0, .any⟩,
  ⟨0x2319, 0x2319, 0x1, 0x30, .u32, .ro, 0, .const 0, .any⟩,
  ⟨0x231A, 0x231A, 0x1, 0x30, .u8, .ro, 0, .byInst 1 0, .any⟩,
  ⟨0x231B, 0x231B, 0x1, 0x30, .dur64, .rw, 2, .const 0, .any⟩,
  ⟨0x231C, 0x231C, 0x1, 0x30, .dur64, .rw, 2, .const 0, .any⟩,
  ⟨0x231D, 0x231D, 0x1, 0x30, .u8, .cmd, 2, .const 0, .oneOf [1]⟩,
  ⟨0x231E, 0x231E, 0x1, 0x30, .u32, .ro, 0, .const 500, .any⟩,
  ⟨0x231F, 0x231F, 0x1, 0x30, .bool, .ro, 0, .const 0, .any⟩,
  ⟨0x2340, 0x2340, 0x1, 0x30, .bool, .rwd, 2, .const 1, .any⟩,
  ⟨0x2341, 0x2341, 0x1, 0x30, .u8, .ro, 0, .const 255, .any⟩,
  ⟨0x2342, 0x2342, 0x1, 0x30, .u8, .ro, 0, .const 11, .any⟩,
  ⟨0x2343, 0x2343, 0x1, 0x30, .u8, .rw, 2, .const 11, .oneOf [2, 4, 8, 11, 15]⟩,
  ⟨0x2344, 0x2344, 0x1, 0x30, .u32, .ro, 0, .const 0, .any⟩,
  ⟨0x2345, 0x2345, 0x1, 0x30, .u32, .ro, 0, .const 0, .any⟩,
  ⟨0x2320, 0x2320, 0x0, 0x0, .u8, .rwd, 2, .const 0, .between 0 255⟩,
  ⟨0x2321, 0x2321, 0x0, 0x0, .u8, .rwd, 2, .const 0, .between 0 15⟩,
  ⟨0x2322, 0x2322, 0x0, 0x0, .u8, .rw, 2, .const 128, .between 0 255⟩,
  ⟨0x2323, 0x2323, 0x0, 0x0, .u8, .rw, 2, .const 128, .between 0 255⟩,
  ⟨0x2324, 0x2324, 0x0, 0x0, .octets 8, .ro, 0, .const 0, .any⟩,
  ⟨0x2325, 0x2325, 0x0, 0x0, .u8, .ro, 0, .const 248, .any⟩,
  ⟨0x2326, 0x2326, 0x0, 0x0, .bool, .rwd, 2, .const 0, .any⟩,
  ⟨0x2327, 0x2327, 0x0, 0x0, .i16, .rw, 2, .const 37, .any⟩,
  ⟨0x2328, 0x2328, 0x0, 0x0, .bool, .rw, 2, .const 0, .any⟩,
  ⟨0x2329, 0x2329, 0x0, 0x0, .u8, .rw, 2, .const 160, .any⟩,
  ⟨0x232A, 0x232A, 0x0, 0x0, .u32, .ro, 0, .const 0, .any⟩,
  ⟨0x232B, 0x232B, 0x0, 0x0, .u32, .ro, 0, .const 0, .any⟩,
  ⟨0x2330, 0x2330, 0x1, 0x4, .u8, .cmd, 2, .const 0, .oneOf [1, 2]⟩,
  ⟨0x2331, 0x2331, 0x1, 0x4, .u8, .ro, 0, .const 0, .any⟩,
  ⟨0x2332, 0x2332, 0x1, 0x4, .u8, .rwd, 2, .const 0, .between 0 255⟩,
  ⟨0x2333, 0x2333, 0x1, 0x4, .u8, .rwd, 2, .const 0, .between 0 15⟩,
  ⟨0x2334, 0x2334, 0x1, 0x4, .u8, .rwd, 2, .const 1, .oneOf [1, 2]⟩,
  ⟨0x2335, 0x2335, 0x1, 0x4, .u32, .ro, 0, .const 0, .any⟩,
  ⟨0x2336, 0x2336, 0x1, 0x4, .u32, .ro, 0, .const 0, .any⟩,
  ⟨0x2350, 0x2350, 0x1, 0x30, .u8, .cmd, 2, .const 0, .oneOf [1, 2]⟩,
  ⟨0x2351, 0x2351, 0x1, 0x30, .u8, .ro, 0, .const 0, .any⟩,
  ⟨0x2352, 0x2352, 0x1, 0x30, .dur64, .ro, 0, .const 0, .any⟩,
  ⟨0x2353, 0x2353, 0x1, 0x30, .u32, .ro, 0, .const 0, .any⟩,
  ⟨0x2354, 0x2354, 0x1, 0x30, .bool, .ro, 0, .const 0, .any⟩]

/-- Objects of 0x2400 to 0x24FF. -/
def objRows24 : List ObjRow := [
  ⟨0x2400, 0x2400, 0x1, 0x18, .u8, .cmd, 2, .const 0, .oneOf [1, 2]⟩,
  ⟨0x2401, 0x2401, 0x1, 0x18, .u8, .ro, 0, .const 0, .any⟩,
  ⟨0x2403, 0x2403, 0x1, 0x18, .u8, .rwd, 2, .byInst 2 0, .between 0 47⟩,
  ⟨0x2404, 0x2404, 0x1, 0x18, .u8, .rwd, 2, .byInst 2 1, .between 0 47⟩,
  ⟨0x2405, 0x2405, 0x1, 0x18, .u8, .rwd, 2, .const 0, .oneOf [0, 1]⟩,
  ⟨0x2406, 0x2406, 0x1, 0x18, .i32, .rwd, 2, .const 0, .between (-10000000) 10000000⟩,
  ⟨0x2407, 0x2407, 0x1, 0x18, .u8, .ro, 0, .const 0, .any⟩,
  ⟨0x2408, 0x2408, 0x1, 0x18, .dur64, .ro, 0, .const 0, .any⟩,
  ⟨0x2409, 0x2409, 0x1, 0x18, .dur64, .ro, 0, .const 0, .any⟩,
  ⟨0x240A, 0x240A, 0x1, 0x18, .dur64, .ro, 0, .const 0, .any⟩,
  ⟨0x240B, 0x240B, 0x1, 0x18, .dur64, .ro, 0, .const 0, .any⟩,
  ⟨0x240C, 0x240C, 0x1, 0x18, .dur64, .ro, 0, .const 0, .any⟩,
  ⟨0x240D, 0x240D, 0x1, 0x18, .u64, .ro, 0, .const 0, .any⟩,
  ⟨0x240E, 0x240E, 0x1, 0x18, .u32, .ro, 0, .const 0, .any⟩,
  ⟨0x240F, 0x240F, 0x1, 0x18, .u8, .ro, 0, .const 0, .any⟩,
  ⟨0x2410, 0x2410, 0x1, 0x18, .dur64, .rw, 2, .const 6553600, .between 65536 9175040000000000⟩,
  ⟨0x2411, 0x2411, 0x1, 0x18, .dur64, .rw, 2, .const 3277, .between 655 655360⟩,
  ⟨0x2412, 0x2412, 0x1, 0x18, .dur64, .rw, 2, .const 13107, .between 3277 655360⟩,
  ⟨0x2413, 0x2413, 0x1, 0x18, .u32, .rwd, 2, .const 250, .between 0 10000⟩,
  ⟨0x2414, 0x2414, 0x1, 0x18, .u32, .ro, 0, .const 0, .any⟩,
  ⟨0x2420, 0x2420, 0x1, 0x30, .dur64, .rwd, 2, .const 0, .any⟩,
  ⟨0x2421, 0x2421, 0x1, 0x30, .i32, .rwd, 2, .const 0, .between (-10000000) 10000000⟩,
  ⟨0x2422, 0x2422, 0x1, 0x30, .dur64, .ro, 0, .const 0, .any⟩,
  ⟨0x2423, 0x2423, 0x1, 0x30, .u8, .ro, 0, .const 0, .any⟩,
  ⟨0x2424, 0x2424, 0x1, 0x30, .dur64, .rwd, 2, .const 13107, .between 3277 655360⟩,
  ⟨0x2425, 0x2425, 0x1, 0x30, .u32, .ro, 0, .const 0, .any⟩,
  ⟨0x2426, 0x2426, 0x1, 0x30, .dur64, .ro, 0, .const 0, .any⟩,
  ⟨0x2427, 0x2427, 0x1, 0x30, .u8, .ro, 0, .const 0, .any⟩,
  ⟨0x2428, 0x2428, 0x1, 0x30, .dur64, .ro, 0, .const 0, .any⟩,
  ⟨0x2429, 0x2429, 0x1, 0x30, .dur64, .rw, 2, .const 0, .any⟩,
  ⟨0x242A, 0x242A, 0x1, 0x30, .u8, .cmd, 2, .const 0, .oneOf [1, 2]⟩,
  ⟨0x242B, 0x242B, 0x1, 0x30, .u8, .rw, 2, .const 0, .oneOf [0, 1, 2]⟩,
  ⟨0x242C, 0x242C, 0x1, 0x30, .u32, .rw, 2, .const 10000, .between 0 600000⟩]

/-- Objects of 0x2500 to 0x25FF. -/
def objRows25 : List ObjRow := [
  ⟨0x2500, 0x2500, 0x0, 0x0, .u8, .ro, 0, .const 0, .any⟩,
  ⟨0x2501, 0x2501, 0x0, 0x0, .u8, .ro, 0, .const 0, .any⟩,
  ⟨0x2502, 0x2502, 0x0, 0x0, .u32, .ro, 0, .const 0, .any⟩,
  ⟨0x2503, 0x2503, 0x0, 0x0, .u32, .ro, 0, .const 0, .any⟩,
  ⟨0x2504, 0x2504, 0x0, 0x0, .u8, .ro, 0, .const 0, .any⟩,
  ⟨0x2505, 0x2505, 0x0, 0x0, .dfreq, .ro, 0, .const 0, .any⟩,
  ⟨0x2506, 0x2506, 0x0, 0x0, .bool, .ro, 0, .const 0, .any⟩,
  ⟨0x2510, 0x2510, 0x1, 0x4, .u8, .cmd, 2, .const 0, .oneOf [1, 2]⟩,
  ⟨0x2511, 0x2511, 0x1, 0x4, .u8, .ro, 0, .const 0, .any⟩,
  ⟨0x2512, 0x2512, 0x1, 0x4, .u8, .ro, 0, .const 0, .any⟩,
  ⟨0x2513, 0x2513, 0x1, 0x4, .u32, .ro, 0, .const 0, .any⟩,
  ⟨0x2514, 0x2514, 0x1, 0x4, .u16, .ro, 0, .const 0, .any⟩,
  ⟨0x2516, 0x2516, 0x1, 0x4, .dur64, .ro, 0, .const 0, .any⟩,
  ⟨0x2520, 0x2520, 0x1, 0x8, .u8, .cmd, 2, .const 0, .oneOf [1, 2]⟩,
  ⟨0x2521, 0x2521, 0x1, 0x8, .u8, .ro, 0, .const 0, .any⟩,
  ⟨0x2522, 0x2522, 0x1, 0x8, .u64, .rwd, 2, .const 500, .between 16 5000000000⟩,
  ⟨0x2523, 0x2523, 0x1, 0x8, .dur64, .rwd, 2, .const 0, .between 0 65536000000000⟩,
  ⟨0x2524, 0x2524, 0x1, 0x8, .u8, .rwd, 2, .const 0, .oneOf [0, 1, 2]⟩,
  ⟨0x2525, 0x2525, 0x1, 0x8, .dur64, .rw, 2, .const 0, .between 0 1310720⟩,
  ⟨0x2526, 0x2526, 0x1, 0x8, .dur64, .ro, 0, .const 0, .any⟩,
  ⟨0x2527, 0x2527, 0x1, 0x8, .bool, .ro, 0, .const 1, .any⟩,
  ⟨0x2528, 0x2528, 0x1, 0x8, .u8, .ro, 0, .const 1, .any⟩,
  ⟨0x2530, 0x2530, 0x1, 0x10, .u8, .cmd, 2, .const 0, .oneOf [1, 2]⟩,
  ⟨0x2531, 0x2531, 0x1, 0x10, .u8, .ro, 0, .const 0, .any⟩,
  ⟨0x2532, 0x2532, 0x1, 0x10, .u8, .rwd, 2, .const 0, .oneOf [0, 1, 2, 3]⟩,
  ⟨0x2533, 0x2533, 0x1, 0x10, .time96, .rwd, 2, .const 0, .any⟩,
  ⟨0x2534, 0x2534, 0x1, 0x10, .dur64, .rwd, 2, .const 65536000000000, .between 1048576 6553600000000000⟩,
  ⟨0x2535, 0x2535, 0x1, 0x10, .u32, .rwd, 2, .const 100000, .between 8 1000000000⟩,
  ⟨0x2536, 0x2536, 0x1, 0x10, .u32, .rwd, 2, .const 1, .between 1 1000000⟩,
  ⟨0x2537, 0x2537, 0x1, 0x10, .u32, .rwd, 2, .const 0, .between 0 999999⟩,
  ⟨0x2538, 0x2538, 0x1, 0x10, .dur64, .rwd, 2, .const 0, .between 0 655360000000⟩,
  ⟨0x2539, 0x2539, 0x1, 0x10, .bool, .rwd, 2, .const 0, .any⟩,
  ⟨0x253A, 0x253A, 0x1, 0x10, .dur64, .rw, 2, .const 0, .between 0 1310720⟩,
  ⟨0x253B, 0x253B, 0x1, 0x10, .dur64, .ro, 0, .const 0, .any⟩,
  ⟨0x253C, 0x253C, 0x1, 0x10, .u8, .ro, 0, .const 1, .any⟩,
  ⟨0x253D, 0x253D, 0x1, 0x10, .u32, .ro, 0, .const 0, .any⟩,
  ⟨0x253E, 0x253E, 0x1, 0x10, .u32, .ro, 0, .const 0, .any⟩,
  ⟨0x253F, 0x253F, 0x1, 0x10, .bool, .rwd, 2, .const 0, .any⟩,
  ⟨0x2540, 0x2540, 0x0, 0x0, .u32, .rw, 2, .const 0, .between 0 0xFFFFFF⟩,
  ⟨0x2541, 0x2541, 0x0, 0x0, .u64, .rw, 2, .const 0, .any⟩,
  ⟨0x2542, 0x2542, 0x0, 0x0, .u8, .cmd, 2, .const 0, .oneOf [1, 3]⟩,
  ⟨0x2543, 0x2543, 0x0, 0x0, .dur64, .rw, 2, .const 1311, .between 0 65536⟩,
  ⟨0x2544, 0x2544, 0x0, 0x0, .u32, .ro, 0, .const 0, .any⟩]

/-- Objects of 0x2600 to 0x26FF. -/
def objRows26 : List ObjRow := [
  ⟨0x2600, 0x2600, 0x1, 0x10, .u8, .cmd, 2, .const 0, .oneOf [1, 2]⟩,
  ⟨0x2601, 0x2601, 0x1, 0x10, .u8, .ro, 0, .const 0, .any⟩,
  ⟨0x2602, 0x2602, 0x1, 0x10, .u8, .rwd, 2, .const 0, .oneOf [0, 1]⟩,
  ⟨0x2603, 0x2603, 0x1, 0x10, .u8, .rwd, 2, .const 0, .oneOf [0, 1]⟩,
  ⟨0x2604, 0x2604, 0x1, 0x10, .u8, .rwd, 2, .const 0, .between 0 2⟩,
  ⟨0x2605, 0x2605, 0x1, 0x10, .i16, .rwd, 2, .const 1250, .between (-2000) 3000⟩,
  ⟨0x2606, 0x2606, 0x1, 0x10, .u16, .rwd, 2, .const 20, .between 0 200⟩,
  ⟨0x2607, 0x2607, 0x1, 0x10, .u8, .rwd, 2, .const 1, .oneOf [1, 2, 3]⟩,
  ⟨0x2608, 0x2608, 0x1, 0x10, .u8, .rwd, 2, .const 0, .oneOf [0, 1]⟩,
  ⟨0x2609, 0x2609, 0x1, 0x10, .dur64, .rw, 2, .const 0, .between 0 655360000⟩,
  ⟨0x260A, 0x260A, 0x1, 0x10, .u32, .rwd, 2, .const 1, .between 1 65536⟩,
  ⟨0x260B, 0x260B, 0x1, 0x10, .u16, .rw, 2, .const 256, .between 1 1024⟩,
  ⟨0x260C, 0x260C, 0x1, 0x10, .u16, .ro, 0, .const 0, .any⟩,
  ⟨0x260D, 0x260D, 0x1, 0x10, .octets 64, .ro, 1, .const 0, .any⟩,
  ⟨0x260E, 0x260E, 0x1, 0x10, .u32, .ro, 0, .const 0, .any⟩,
  ⟨0x260F, 0x260F, 0x1, 0x10, .u32, .ro, 0, .const 0, .any⟩,
  ⟨0x2610, 0x2610, 0x1, 0x10, .u32, .ro, 0, .const 0, .any⟩,
  ⟨0x2611, 0x2611, 0x1, 0x10, .u8, .rwd, 2, .const 32, .between 0 32⟩,
  ⟨0x2612, 0x2612, 0x1, 0x10, .u8, .rwd, 2, .const 1, .oneOf [1, 2]⟩,
  ⟨0x2613, 0x2613, 0x1, 0x10, .u8, .rwd, 2, .const 1, .between 1 32⟩,
  ⟨0x2614, 0x2614, 0x1, 0x10, .u32, .rwd, 2, .const 1000000, .between 1000 4000000000⟩,
  ⟨0x2615, 0x2615, 0x1, 0x10, .u8, .ro, 0, .const 0, .any⟩,
  ⟨0x2616, 0x2616, 0x1, 0x10, .octets 16, .ro, 1, .const 0, .any⟩,
  ⟨0x2617, 0x2617, 0x1, 0x10, .octets 64, .ro, 1, .const 0, .any⟩,
  ⟨0x2618, 0x2618, 0x1, 0x10, .octets 64, .ro, 1, .const 0, .any⟩,
  ⟨0x2619, 0x2619, 0x1, 0x10, .octets 64, .ro, 1, .const 0, .any⟩,
  ⟨0x261A, 0x261A, 0x1, 0x10, .octets 64, .ro, 1, .const 0, .any⟩,
  ⟨0x261B, 0x261B, 0x1, 0x10, .u32, .ro, 0, .const 0, .any⟩,
  ⟨0x261C, 0x261C, 0x1, 0x10, .u32, .ro, 0, .const 0, .any⟩,
  ⟨0x2620, 0x2620, 0x1, 0x10, .u32, .rw, 2, .const 10000000, .between 1 333000000⟩,
  ⟨0x2621, 0x2621, 0x1, 0x10, .u32, .rw, 2, .const 1000, .between 1 1000000⟩,
  ⟨0x2622, 0x2622, 0x1, 0x10, .u8, .cmd, 2, .const 0, .oneOf [1, 2, 3]⟩,
  ⟨0x2623, 0x2623, 0x1, 0x10, .dfreq, .ro, 0, .const 0, .any⟩,
  ⟨0x2624, 0x2624, 0x1, 0x10, .dfreq, .ro, 0, .const 0, .any⟩,
  ⟨0x2625, 0x2625, 0x1, 0x10, .u32, .ro, 0, .const 0, .any⟩,
  ⟨0x2626, 0x2626, 0x1, 0x10, .u32, .ro, 0, .const 0, .any⟩,
  ⟨0x2627, 0x2627, 0x1, 0x10, .time96, .ro, 0, .const 0, .any⟩,
  ⟨0x2628, 0x2628, 0x1, 0x10, .dur64, .ro, 0, .const 0, .any⟩,
  ⟨0x2629, 0x2629, 0x1, 0x10, .u8, .ro, 0, .const 0, .any⟩,
  ⟨0x262A, 0x262A, 0x1, 0x10, .u32, .ro, 0, .const 0, .any⟩,
  ⟨0x2630, 0x2630, 0x1, 0x10, .u8, .ro, 0, .const 0, .any⟩,
  ⟨0x2631, 0x2631, 0x1, 0x10, .bool, .rwd, 2, .const 1, .any⟩,
  ⟨0x2632, 0x2632, 0x1, 0x10, .u8, .rwd, 2, .const 2, .oneOf [0, 1, 2]⟩,
  ⟨0x2633, 0x2633, 0x1, 0x10, .u8, .ro, 0, .const 0, .any⟩,
  ⟨0x2634, 0x2634, 0x1, 0x10, .u8, .ro, 0, .const 0, .any⟩,
  ⟨0x2650, 0x2650, 0x0, 0x0, .u8, .cmd, 2, .const 0, .oneOf [1, 2]⟩,
  ⟨0x2651, 0x2651, 0x0, 0x0, .u8, .ro, 0, .const 0, .any⟩,
  ⟨0x2652, 0x2652, 0x0, 0x0, .u8, .rwd, 2, .const 0, .oneOf [0, 1]⟩,
  ⟨0x2653, 0x2653, 0x0, 0x0, .bool, .ro, 0, .const 0, .any⟩,
  ⟨0x2654, 0x2654, 0x0, 0x0, .time96, .ro, 0, .const 0, .any⟩,
  ⟨0x2655, 0x2655, 0x0, 0x0, .u8, .rwd, 2, .const 1, .oneOf [0, 1]⟩,
  ⟨0x2656, 0x2656, 0x0, 0x0, .u32, .ro, 0, .const 0, .any⟩,
  ⟨0x2657, 0x2657, 0x0, 0x0, .bool, .ro, 0, .const 0, .any⟩,
  ⟨0x2658, 0x2658, 0x0, 0x0, .u32, .ro, 0, .const 0, .any⟩]

/-- Objects of 0x2700 to 0x27FF. -/
def objRows27 : List ObjRow := [
  ⟨0x2700, 0x2700, 0x1, 0x10, .octets 256, .ro, 0, .const 0, .any⟩,
  ⟨0x2701, 0x2701, 0x1, 0x10, .octets 256, .ro, 0, .const 0, .any⟩,
  ⟨0x2702, 0x2702, 0x1, 0x30, .octets 256, .ro, 0, .const 0, .any⟩,
  ⟨0x2703, 0x2703, 0x1, 0x30, .u8, .ro, 0, .const 0, .any⟩,
  ⟨0x2710, 0x2710, 0x1, 0x30, .dur64, .rwd, 2, .const 0, .between 0 1310720⟩,
  ⟨0x2711, 0x2711, 0x1, 0x30, .dur64, .rwd, 2, .const 0, .between 0 1310720⟩,
  ⟨0x2712, 0x2712, 0x1, 0x30, .i16, .rwd, 2, .const 0, .between (-400) 1250⟩,
  ⟨0x2713, 0x2713, 0x1, 0x30, .i32, .rwd, 2, .const 0, .between (-10000) 10000⟩,
  ⟨0x2714, 0x2714, 0x1, 0x30, .i32, .rwd, 2, .const 0, .between (-10000) 10000⟩,
  ⟨0x2715, 0x2715, 0x1, 0x30, .dur64, .ro, 0, .const 0, .any⟩,
  ⟨0x2716, 0x2716, 0x1, 0x30, .dur64, .ro, 0, .const 0, .any⟩,
  ⟨0x2717, 0x2717, 0x1, 0x30, .u8, .ro, 0, .const 0, .any⟩,
  ⟨0x2718, 0x2718, 0x1, 0x30, .u64, .ro, 0, .const 0, .any⟩]

/-- Objects of 0x3000 to 0x30FF. -/
def objRows30 : List ObjRow := [
  ⟨0x3000, 0x3000, 0x1, 0x31, .u8, .cmd, 2, .const 0, .oneOf [1, 2]⟩,
  ⟨0x3001, 0x3001, 0x1, 0x31, .u8, .ro, 0, .const 0, .any⟩,
  ⟨0x3002, 0x3002, 0x1, 0x31, .bool, .ro, 0, .const 0, .any⟩,
  ⟨0x3003, 0x3003, 0x1, 0x31, .u32, .ro, 0, .const 0, .any⟩,
  ⟨0x3004, 0x3004, 0x1, 0x31, .u16, .rw, 2, .const 1, .between 1 4094⟩,
  ⟨0x3005, 0x3005, 0x1, 0x31, .u8, .rw, 2, .const 0, .oneOf [0, 1]⟩,
  ⟨0x3006, 0x3006, 0x1, 0x31, .u16, .rw, 2, .const 34984, .between 0x0600 0xFFFF⟩,
  ⟨0x3007, 0x3007, 0x1, 0x31, .u8, .rw, 2, .const 0, .oneOf [0, 1, 2]⟩,
  ⟨0x3008, 0x3008, 0x1, 0x31, .bool, .rw, 2, .const 1, .any⟩,
  ⟨0x3009, 0x3009, 0x1, 0x31, .u8, .rw, 2, .const 0, .between 0 7⟩,
  ⟨0x300A, 0x300A, 0x1, 0x31, .u32, .rw, 2, .const 1985229328, .any⟩,
  ⟨0x300B, 0x300B, 0x1, 0x31, .bool, .rw, 2, .const 1, .any⟩,
  ⟨0x300C, 0x300C, 0x1, 0x31, .bool, .rw, 2, .const 1, .any⟩,
  ⟨0x300D, 0x300D, 0x1, 0x31, .bool, .rw, 2, .const 0, .any⟩,
  ⟨0x300E, 0x300E, 0x1, 0x31, .bool, .rw, 2, .const 0, .any⟩,
  ⟨0x300F, 0x300F, 0x1, 0x31, .bool, .rw, 2, .perSub [(48, 1), (49, 0)], .any⟩,
  ⟨0x3010, 0x3010, 0x1, 0x31, .u8, .rw, 2, .const 1, .oneOf [0, 1]⟩,
  ⟨0x3011, 0x3011, 0x1, 0x31, .u8, .ro, 0, .perSub [(24, 0), (48, 1), (49, 0)], .any⟩,
  ⟨0x3012, 0x3012, 0x1, 0x31, .u32, .ro, 0, .const 0, .any⟩,
  ⟨0x3013, 0x3013, 0x1, 0x31, .u32, .ro, 0, .const 0, .any⟩,
  ⟨0x3014, 0x3014, 0x1, 0x31, .u32, .ro, 0, .const 0, .any⟩,
  ⟨0x3015, 0x3015, 0x1, 0x31, .u32, .ro, 0, .const 0, .any⟩]

/-- Objects of 0x3100 to 0x31FF. -/
def objRows31 : List ObjRow := [
  ⟨0x3100, 0x3100, 0x1, 0x31, .u16, .rwd, 2, .perSub [(48, 1522), (49, 9216)], .between 64 9216⟩,
  ⟨0x3101, 0x3101, 0x1, 0x31, .octets 6, .ro, 0, .const 0, .any⟩,
  ⟨0x3102, 0x3102, 0x1, 0x31, .octets 64, .rw, 2, .ones, .any⟩,
  ⟨0x3103, 0x3103, 0x1, 0x31, .u8, .rwd, 2, .const 12, .between 12 64⟩,
  ⟨0x3104, 0x3104, 0x1, 0x31, .u32, .ro, 0, .const 0, .any⟩,
  ⟨0x3105, 0x3105, 0x1, 0x31, .bool, .rw, 2, .const 0, .any⟩,
  ⟨0x3110, 0x3110, 0x0, 0x0, .octets 6, .ro, 0, .const 0, .any⟩]

/-- Objects of 0x3200 to 0x32FF. -/
def objRows32 : List ObjRow := [
  ⟨0x3200, 0x3200, 0x1, 0x31, .octets 352, .ro, 1, .const 0, .any⟩,
  ⟨0x3201, 0x3201, 0x1, 0x31, .octets 352, .ro, 0, .const 0, .any⟩,
  ⟨0x3202, 0x3202, 0x1, 0x31, .u64, .ro, 0, .const 0, .any⟩,
  ⟨0x3210, 0x3210, 0x0, 0x0, .u8, .ro, 0, .const 41, .any⟩]

/-- Objects of 0x3300 to 0x33FF. -/
def objRows33 : List ObjRow := [
  ⟨0x3300, 0x3300, 0x1, 0x4, .u8, .cmd, 2, .const 0, .oneOf [1, 2]⟩,
  ⟨0x3301, 0x3301, 0x1, 0x4, .u8, .ro, 0, .const 0, .any⟩,
  ⟨0x3302, 0x3302, 0x0, 0x0, .u8, .rw, 2, .const 0, .between 1 4⟩,
  ⟨0x3303, 0x3303, 0x0, 0x0, .u32, .rw, 2, .const 0, .any⟩,
  ⟨0x3304, 0x3304, 0x0, 0x0, .octets 64, .rw, 2, .const 0, .any⟩,
  ⟨0x3305, 0x3305, 0x0, 0x0, .u8, .cmd, 2, .const 0, .oneOf [1, 2, 3, 4, 5, 6]⟩,
  ⟨0x3306, 0x3306, 0x0, 0x0, .u8, .ro, 0, .const 0, .any⟩,
  ⟨0x3307, 0x3307, 0x0, 0x0, .u32, .ro, 0, .const 0, .any⟩,
  ⟨0x3308, 0x3308, 0x0, 0x0, .u32, .ro, 0, .const 0, .any⟩,
  ⟨0x3310, 0x3310, 0x0, 0x0, .u32, .rw, 2, .const 300, .zeroOr 10 1000000⟩,
  ⟨0x3311, 0x3311, 0x0, 0x0, .u32, .ro, 0, .const 0, .any⟩,
  ⟨0x3312, 0x3312, 0x0, 0x0, .u16, .ro, 0, .const 0, .any⟩,
  ⟨0x3313, 0x3313, 0x0, 0x0, .u32, .ro, 0, .const 0, .any⟩,
  ⟨0x3314, 0x3314, 0x0, 0x0, .u32, .ro, 0, .const 0, .any⟩,
  ⟨0x3315, 0x3315, 0x0, 0x0, .u32, .ro, 0, .const 0, .any⟩,
  ⟨0x3316, 0x3316, 0x0, 0x0, .u32, .ro, 0, .const 0, .any⟩,
  ⟨0x3317, 0x3317, 0x0, 0x0, .u16, .ro, 0, .const 0, .any⟩,
  ⟨0x3318, 0x3318, 0x0, 0x0, .u32, .ro, 0, .const 0, .any⟩,
  ⟨0x3319, 0x3319, 0x0, 0x0, .octets 64, .ro, 2, .const 0, .any⟩,
  ⟨0x331A, 0x331A, 0x0, 0x0, .u32, .ro, 0, .const 0, .any⟩,
  ⟨0x3320, 0x3320, 0x0, 0x0, .u16, .ro, 0, .const 0, .any⟩,
  ⟨0x3321, 0x3321, 0x0, 0x0, .u16, .ro, 0, .const 0, .any⟩,
  ⟨0x3322, 0x3322, 0x1, 0x2, .u32, .ro, 0, .const 0, .any⟩,
  ⟨0x3323, 0x3323, 0x0, 0x0, .u8, .cmd, 2, .const 0, .oneOf [1, 2]⟩,
  ⟨0x3324, 0x3324, 0x0, 0x0, .u8, .ro, 0, .const 0, .any⟩]

/-- Objects of 0x3400 to 0x34FF. -/
def objRows34 : List ObjRow := [
  ⟨0x3400, 0x3400, 0x1, 0x30, .u8, .cmd, 2, .const 0, .oneOf [1, 2]⟩,
  ⟨0x3401, 0x3401, 0x1, 0x30, .u8, .ro, 0, .const 0, .any⟩,
  ⟨0x3402, 0x3402, 0x1, 0x30, .u8, .ro, 0, .const 255, .any⟩,
  ⟨0x3403, 0x3403, 0x1, 0x30, .u8, .ro, 0, .const 0, .any⟩,
  ⟨0x3410, 0x3410, 0x1, 0x8, .u8, .rwd, 2, .perSub [(6, 0), (7, 1), (8, 2)], .oneOf [0, 1, 2]⟩,
  ⟨0x3411, 0x3411, 0x1, 0x8, .u8, .rwd, 2, .perSub [(6, 0), (8, 1)], .oneOf [0, 1]⟩,
  ⟨0x3412, 0x3412, 0x1, 0x8, .u16, .rw, 2, .const 1536, .between 64 65535⟩,
  ⟨0x3413, 0x3413, 0x1, 0x8, .u32, .rw, 2, .perSub [(6, 16), (8, 64)], .any⟩,
  ⟨0x3414, 0x3414, 0x1, 0x8, .u32, .rw, 2, .perSub [(6, 262144), (8, 4096)], .between 1 12582912⟩,
  ⟨0x3415, 0x3415, 0x1, 0x8, .u8, .rw, 2, .const 6, .between 0 9⟩,
  ⟨0x3416, 0x3416, 0x1, 0x8, .u32, .rw, 2, .perSub [(6, 10000), (7, 1000), (8, 0)], .between 0 1000000⟩,
  ⟨0x3417, 0x3417, 0x0, 0x0, .u8, .rw, 2, .const 6, .between 0 7⟩,
  ⟨0x3440, 0x3447, 0x1, 0x30, .u32, .ro, 0, .const 0, .any⟩,
  ⟨0x3448, 0x344F, 0x1, 0x30, .u32, .ro, 0, .const 0, .any⟩,
  ⟨0x3450, 0x3457, 0x1, 0x30, .u32, .ro, 0, .const 0, .any⟩,
  ⟨0x3458, 0x345F, 0x1, 0x30, .u32, .ro, 0, .const 0, .any⟩,
  ⟨0x3460, 0x3467, 0x1, 0x30, .u32, .ro, 0, .const 0, .any⟩,
  ⟨0x3468, 0x346F, 0x1, 0x30, .u32, .ro, 0, .const 0, .any⟩,
  ⟨0x3470, 0x3477, 0x1, 0x30, .u32, .ro, 0, .const 0, .any⟩,
  ⟨0x3480, 0x3480, 0x1, 0x30, .u8, .rw, 2, .const 0, .oneOf [0, 1, 2]⟩,
  ⟨0x3481, 0x3481, 0x1, 0x30, .u8, .rw, 2, .const 255, .any⟩,
  ⟨0x3482, 0x3482, 0x1, 0x30, .u8, .rw, 2, .const 0, .oneOf [0, 1, 2]⟩,
  ⟨0x3483, 0x3483, 0x1, 0x30, .u8, .rw, 2, .const 255, .any⟩,
  ⟨0x3484, 0x3484, 0x1, 0x30, .u32, .rw, 2, .const 2048, .between 1 12582912⟩,
  ⟨0x3485, 0x3485, 0x1, 0x30, .u32, .rw, 2, .const 1024, .any⟩,
  ⟨0x3486, 0x3486, 0x1, 0x30, .u16, .rw, 2, .const 65535, .between 1 65535⟩,
  ⟨0x3487, 0x3487, 0x1, 0x30, .u32, .rw, 2, .const 512, .between 0 65536⟩,
  ⟨0x3488, 0x3488, 0x1, 0x30, .u32, .ro, 0, .const 0, .any⟩,
  ⟨0x3489, 0x3489, 0x1, 0x30, .u32, .ro, 0, .const 0, .any⟩,
  ⟨0x348A, 0x348A, 0x1, 0x30, .u32, .ro, 0, .const 0, .any⟩,
  ⟨0x348B, 0x348B, 0x1, 0x30, .u8, .ro, 0, .const 0, .any⟩]

/-- Objects of 0x3500 to 0x35FF. -/
def objRows35 : List ObjRow := [
  ⟨0x3500, 0x3500, 0x0, 0x0, .u8, .cmd, 2, .const 0, .oneOf [1, 2]⟩,
  ⟨0x3501, 0x3501, 0x0, 0x0, .u8, .ro, 0, .const 0, .any⟩,
  ⟨0x3502, 0x3502, 0x1, 0x30, .u8, .ro, 0, .const 0, .any⟩,
  ⟨0x3503, 0x3503, 0x1, 0x30, .u8, .rw, 2, .const 0, .between 0 64⟩,
  ⟨0x3504, 0x3504, 0x0, 0x0, .u8, .rw, 2, .const 0, .between 0 47⟩,
  ⟨0x3505, 0x3505, 0x0, 0x0, .u8, .rw, 2, .const 0, .between 0 7⟩,
  ⟨0x3506, 0x3506, 0x0, 0x0, .octets 64, .rw, 2, .const 0, .any⟩,
  ⟨0x3507, 0x3507, 0x0, 0x0, .u8, .cmd, 2, .const 0, .oneOf [1, 2, 3]⟩,
  ⟨0x3508, 0x3508, 0x0, 0x0, .u16, .rw, 2, .const 0, .between 0 4095⟩,
  ⟨0x3509, 0x3509, 0x0, 0x0, .octets 64, .rw, 2, .const 0, .any⟩,
  ⟨0x350A, 0x350A, 0x0, 0x0, .u8, .cmd, 2, .const 0, .oneOf [1, 2]⟩,
  ⟨0x350B, 0x350B, 0x0, 0x0, .u8, .ro, 0, .const 0, .any⟩,
  ⟨0x350C, 0x350C, 0x0, 0x0, .u8, .cmd, 2, .const 0, .oneOf [1]⟩,
  ⟨0x350D, 0x350D, 0x0, 0x0, .u64, .rw, 2, .const 0, .any⟩,
  ⟨0x350E, 0x350E, 0x0, 0x0, .u8, .cmd, 2, .const 0, .oneOf [1, 3]⟩,
  ⟨0x350F, 0x350F, 0x0, 0x0, .u8, .ro, 0, .const 0, .any⟩,
  ⟨0x3510, 0x3510, 0x0, 0x0, .u32, .ro, 0, .const 0, .any⟩,
  ⟨0x3511, 0x3511, 0x0, 0x0, .u64, .ro, 0, .const 0, .any⟩,
  ⟨0x3512, 0x3512, 0x0, 0x0, .u32, .ro, 0, .const 0, .any⟩,
  ⟨0x3513, 0x3513, 0x0, 0x0, .u32, .ro, 0, .const 0, .any⟩,
  ⟨0x3514, 0x3514, 0x0, 0x0, .u32, .ro, 0, .const 0, .any⟩]

/-- Objects of 0x3600 to 0x36FF. -/
def objRows36 : List ObjRow := [
  ⟨0x3600, 0x3600, 0x0, 0x0, .u8, .cmd, 2, .const 0, .oneOf [1, 2]⟩,
  ⟨0x3601, 0x3601, 0x0, 0x0, .u8, .ro, 0, .const 0, .any⟩,
  ⟨0x3602, 0x3602, 0x0, 0x0, .u32, .rwd, 2, .const 3072, .between 512 3968⟩,
  ⟨0x3603, 0x3603, 0x0, 0x0, .u32, .rwd, 2, .const 896, .between 0 3456⟩,
  ⟨0x3604, 0x3604, 0x0, 0x0, .u32, .rwd, 2, .const 64, .between 64 3456⟩,
  ⟨0x3605, 0x3605, 0x0, 0x0, .u32, .rwd, 2, .const 64, .between 64 3456⟩,
  ⟨0x3606, 0x3606, 0x0, 0x0, .u32, .ro, 0, .const 0, .any⟩,
  ⟨0x3607, 0x3607, 0x0, 0x0, .u32, .ro, 0, .const 0, .any⟩,
  ⟨0x3608, 0x3608, 0x0, 0x0, .u32, .ro, 0, .const 0, .any⟩,
  ⟨0x3609, 0x3609, 0x0, 0x0, .u32, .ro, 0, .const 0, .any⟩,
  ⟨0x360A, 0x360A, 0x0, 0x0, .u16, .ro, 0, .const 0, .any⟩,
  ⟨0x360B, 0x360B, 0x0, 0x0, .u8, .rw, 2, .const 80, .between 10 99⟩,
  ⟨0x360C, 0x360C, 0x0, 0x0, .u8, .rw, 2, .const 80, .between 10 99⟩,
  ⟨0x360D, 0x360D, 0x0, 0x0, .u32, .rw, 2, .const 4096, .between 64 45056⟩,
  ⟨0x360E, 0x360E, 0x0, 0x0, .u32, .ro, 0, .const 0, .any⟩,
  ⟨0x360F, 0x360F, 0x0, 0x0, .u32, .ro, 0, .const 83968, .any⟩,
  ⟨0x3610, 0x3610, 0x0, 0x0, .u32, .ro, 0, .const 12578304, .any⟩,
  ⟨0x3611, 0x3611, 0x1, 0x6, .u32, .ro, 0, .const 0, .any⟩,
  ⟨0x3612, 0x3612, 0x0, 0x0, .u32, .ro, 0, .const 0, .any⟩,
  ⟨0x3613, 0x3613, 0x0, 0x0, .u8, .ro, 0, .const 0, .any⟩]

/-- Objects of 0x3700 to 0x37FF. -/
def objRows37 : List ObjRow := [
  ⟨0x3700, 0x3700, 0x0, 0x0, .u8, .cmd, 2, .const 0, .oneOf [1, 2]⟩,
  ⟨0x3701, 0x3701, 0x0, 0x0, .u8, .ro, 0, .const 0, .any⟩,
  ⟨0x3702, 0x3702, 0x0, 0x0, .u8, .rwd, 2, .const 255, .orElse 0 48 0xFF⟩,
  ⟨0x3703, 0x3703, 0x0, 0x0, .u8, .rwd, 2, .const 0, .between 0 7⟩,
  ⟨0x3704, 0x3704, 0x0, 0x0, .u32, .ro, 0, .const 0, .any⟩,
  ⟨0x3710, 0x3710, 0x0, 0x0, .u8, .cmd, 2, .const 0, .oneOf [1, 2]⟩,
  ⟨0x3711, 0x3711, 0x0, 0x0, .u8, .ro, 0, .const 0, .any⟩,
  ⟨0x3712, 0x3712, 0x0, 0x0, .u8, .rwd, 2, .const 0, .oneOf [0, 1]⟩,
  ⟨0x3713, 0x3713, 0x0, 0x0, .u16, .rwd, 2, .const 9216, .between 64 9216⟩,
  ⟨0x3714, 0x3714, 0x0, 0x0, .u8, .rwd, 2, .const 50, .between 5 95⟩,
  ⟨0x3715, 0x3715, 0x0, 0x0, .u8, .cmd, 2, .const 0, .oneOf [1, 2, 3]⟩,
  ⟨0x3716, 0x3716, 0x0, 0x0, .u8, .ro, 0, .const 0, .any⟩,
  ⟨0x3717, 0x3717, 0x0, 0x0, .u8, .ro, 0, .const 0, .any⟩,
  ⟨0x3718, 0x3718, 0x0, 0x0, .u8, .cmd, 2, .const 0, .oneOf [1, 2]⟩,
  ⟨0x3719, 0x3719, 0x0, 0x0, .u8, .ro, 0, .const 0, .any⟩,
  ⟨0x371A, 0x371A, 0x0, 0x0, .u8, .cmd, 1, .const 0, .oneOf [1]⟩,
  ⟨0x371B, 0x371B, 0x0, 0x0, .u64, .rw, 2, .const 0, .any⟩,
  ⟨0x371C, 0x371C, 0x0, 0x0, .u16, .rw, 2, .const 65535, .orElse 0 4095 0xFFFF⟩,
  ⟨0x371D, 0x371D, 0x0, 0x0, .u32, .ro, 0, .const 0, .any⟩,
  ⟨0x371E, 0x371E, 0x0, 0x0, .time96, .ro, 0, .const 0, .any⟩,
  ⟨0x371F, 0x371F, 0x0, 0x0, .u32, .ro, 0, .const 0, .any⟩,
  ⟨0x3720, 0x3720, 0x0, 0x0, .u32, .ro, 0, .const 0, .any⟩,
  ⟨0x3721, 0x3721, 0x0, 0x0, .u32, .ro, 0, .const 0, .any⟩,
  ⟨0x3722, 0x3722, 0x0, 0x0, .u32, .ro, 0, .const 0, .any⟩,
  ⟨0x3723, 0x3723, 0x0, 0x0, .u32, .rw, 1, .const 0, .any⟩,
  ⟨0x3724, 0x3724, 0x0, 0x0, .octets 64, .ro, 1, .const 0, .any⟩]

/-- Objects of 0x4000 to 0x40FF. -/
def objRows40 : List ObjRow := [
  ⟨0x4000, 0x4000, 0x1, 0xC, .u8, .cmd, 2, .const 0, .oneOf [1, 2]⟩,
  ⟨0x4001, 0x4001, 0x1, 0xC, .u8, .ro, 0, .const 0, .any⟩,
  ⟨0x4002, 0x4002, 0x1, 0xC, .u8, .rwd, 2, .const 0, .between 0 3⟩,
  ⟨0x4003, 0x4003, 0x1, 0xC, .u16, .ro, 0, .const 65535, .any⟩,
  ⟨0x4004, 0x4004, 0x1, 0xC, .u8, .ro, 0, .const 0, .any⟩,
  ⟨0x4005, 0x4005, 0x1, 0xC, .u16, .ro, 0, .const 0, .any⟩,
  ⟨0x4008, 0x4008, 0x1, 0xC, .u8, .rwd, 2, .const 0, .oneOf [0, 1]⟩,
  ⟨0x4010, 0x4010, 0x1, 0xC, .u8, .ro, 0, .const 0, .any⟩,
  ⟨0x4011, 0x4011, 0x1, 0xC, .u8, .ro, 0, .const 0, .any⟩,
  ⟨0x4012, 0x4012, 0x1, 0xC, .bool, .rw, 2, .const 1, .any⟩,
  ⟨0x4013, 0x4013, 0x1, 0xC, .u8, .rw, 2, .const 60, .between 10 90⟩,
  ⟨0x4014, 0x4014, 0x1, 0xC, .u8, .rw, 2, .const 90, .between 20 100⟩,
  ⟨0x4015, 0x4015, 0x1, 0xC, .u32, .rw, 2, .const 100, .between 10 600000⟩,
  ⟨0x4016, 0x4016, 0x1, 0xC, .u8, .rw, 2, .const 1, .oneOf [1, 2, 4]⟩,
  ⟨0x4017, 0x4017, 0x1, 0xC, .u32, .rw, 2, .const 1024, .between 16 262144⟩,
  ⟨0x4018, 0x4018, 0x1, 0xC, .u32, .ro, 0, .const 0, .any⟩,
  ⟨0x4019, 0x4019, 0x1, 0xC, .u32, .ro, 0, .const 0, .any⟩,
  ⟨0x401A, 0x401A, 0x1, 0xC, .u32, .ro, 0, .const 0, .any⟩,
  ⟨0x401B, 0x401B, 0x1, 0xC, .u32, .rw, 2, .const 1000, .between 10 600000⟩]

/-- Objects of 0x4100 to 0x41FF. -/
def objRows41 : List ObjRow := [
  ⟨0x4100, 0x4100, 0x1, 0x30, .u8, .cmd, 2, .const 0, .oneOf [1, 2]⟩,
  ⟨0x4101, 0x4101, 0x1, 0x30, .u8, .ro, 0, .const 0, .any⟩,
  ⟨0x4102, 0x4102, 0x1, 0x30, .u8, .rwd, 2, .const 0, .between 0 4⟩,
  ⟨0x4103, 0x4103, 0x1, 0x30, .u8, .rwd, 2, .const 0, .oneOf [0, 1, 2]⟩,
  ⟨0x4104, 0x4104, 0x1, 0x30, .bool, .rwd, 2, .const 0, .any⟩,
  ⟨0x4105, 0x4105, 0x1, 0x30, .bool, .rwd, 2, .const 1, .any⟩,
  ⟨0x4106, 0x4106, 0x1, 0x30, .bool, .rwd, 2, .const 0, .any⟩,
  ⟨0x4107, 0x4107, 0x1, 0x30, .u8, .rwd, 2, .const 0, .between 0 15⟩,
  ⟨0x4108, 0x4108, 0x1, 0x30, .u8, .rwd, 2, .const 63, .between 20 63⟩,
  ⟨0x4109, 0x4109, 0x1, 0x30, .u8, .rwd, 2, .const 0, .between 0 31⟩,
  ⟨0x410A, 0x410A, 0x1, 0x30, .u8, .cmd, 2, .const 0, .oneOf [1, 2]⟩,
  ⟨0x410B, 0x410B, 0x1, 0x30, .u8, .cmd, 2, .const 0, .oneOf [1, 2]⟩,
  ⟨0x410C, 0x410C, 0x1, 0x30, .octets 16, .rw, 2, .const 0, .any⟩,
  ⟨0x410D, 0x410D, 0x1, 0x30, .u8, .cmd, 2, .const 0, .oneOf [1]⟩,
  ⟨0x410E, 0x410E, 0x1, 0x30, .u8, .cmd, 2, .const 0, .oneOf [1, 2]⟩,
  ⟨0x410F, 0x410F, 0x1, 0x30, .u8, .ro, 0, .const 0, .any⟩,
  ⟨0x4110, 0x4110, 0x1, 0x30, .bool, .rw, 2, .const 1, .any⟩,
  ⟨0x4111, 0x4111, 0x1, 0x30, .u32, .rw, 2, .const 1, .between 0 1000⟩]

/-- Objects of 0x4200 to 0x42FF. -/
def objRows42 : List ObjRow := [
  ⟨0x4200, 0x4200, 0x1, 0x30, .u8, .cmd, 2, .const 0, .oneOf [1, 2]⟩,
  ⟨0x4201, 0x4201, 0x1, 0x30, .u8, .ro, 0, .const 0, .any⟩,
  ⟨0x4202, 0x4202, 0x1, 0x30, .u8, .rwd, 2, .const 2, .oneOf [0, 1, 2, 3]⟩,
  ⟨0x4203, 0x4203, 0x1, 0x30, .u8, .rwd, 2, .const 0, .between 0 5⟩,
  ⟨0x4204, 0x4204, 0x1, 0x30, .u8, .rwd, 2, .const 0, .between 0 5⟩,
  ⟨0x4205, 0x4205, 0x1, 0x30, .bool, .rwd, 2, .const 0, .any⟩,
  ⟨0x4206, 0x4206, 0x1, 0x30, .bool, .ro, 0, .const 0, .any⟩,
  ⟨0x4207, 0x4207, 0x1, 0x30, .u64, .ro, 0, .const 0, .any⟩,
  ⟨0x4208, 0x4208, 0x1, 0x30, .u64, .ro, 0, .const 0, .any⟩,
  ⟨0x4209, 0x4209, 0x1, 0x30, .u8, .cmd, 1, .const 0, .oneOf [1]⟩,
  ⟨0x420A, 0x420A, 0x1, 0x30, .u8, .cmd, 2, .const 0, .oneOf [1]⟩,
  ⟨0x420B, 0x420B, 0x1, 0x30, .u32, .ro, 0, .const 0, .any⟩]

/-- Objects of 0x4300 to 0x43FF. -/
def objRows43 : List ObjRow := [
  ⟨0x4300, 0x4300, 0x1, 0x30, .u8, .ro, 0, .const 0, .any⟩,
  ⟨0x4301, 0x4301, 0x1, 0x30, .u8, .ro, 0, .const 0, .any⟩,
  ⟨0x4302, 0x4302, 0x1, 0x30, .bool, .ro, 0, .const 0, .any⟩,
  ⟨0x4303, 0x4303, 0x1, 0x30, .bool, .ro, 0, .const 0, .any⟩,
  ⟨0x4304, 0x4304, 0x1, 0x30, .u32, .ro, 0, .const 0, .any⟩,
  ⟨0x4305, 0x4305, 0x1, 0x30, .u32, .ro, 0, .const 0, .any⟩,
  ⟨0x4306, 0x4306, 0x1, 0x30, .octets 16, .ro, 0, .const 0, .any⟩,
  ⟨0x4307, 0x4307, 0x1, 0x30, .u8, .ro, 0, .const 2, .any⟩,
  ⟨0x4308, 0x4308, 0x1, 0x30, .u32, .ro, 0, .const 0, .any⟩,
  ⟨0x4309, 0x4309, 0x1, 0x30, .u32, .ro, 0, .const 0, .any⟩,
  ⟨0x430A, 0x430A, 0x1, 0x30, .u32, .ro, 0, .const 0, .any⟩,
  ⟨0x430B, 0x430B, 0x1, 0x30, .u32, .ro, 0, .const 0, .any⟩,
  ⟨0x430C, 0x430C, 0x1, 0x30, .u8, .ro, 0, .const 0, .any⟩,
  ⟨0x430E, 0x430E, 0x1, 0x30, .u64, .ro, 0, .const 0, .any⟩]

/-- Objects of 0x5000 to 0x50FF. -/
def objRows50 : List ObjRow := [
  ⟨0x5000, 0x5000, 0x1, 0x40, .u32, .ro, 0, .const 0, .any⟩,
  ⟨0x5001, 0x5001, 0x1, 0x40, .u16, .cmd, 1, .const 0, .between 0 4095⟩,
  ⟨0x5002, 0x5002, 0x1, 0x40, .bool, .rw, 2, .perSub [(63, 0), (64, 1)], .any⟩,
  ⟨0x5003, 0x5003, 0x1, 0x40, .u8, .rw, 2, .const 0, .oneOf [0, 1]⟩,
  ⟨0x5004, 0x5004, 0x1, 0x40, .u32, .ro, 0, .const 0, .any⟩,
  ⟨0x5005, 0x5005, 0x1, 0x40, .u64, .ro, 0, .const 0, .any⟩,
  ⟨0x5010, 0x5010, 0x0, 0x0, .u32, .ro, 0, .const 0, .any⟩,
  ⟨0x5011, 0x5011, 0x0, 0x0, .u32, .ro, 0, .const 0, .any⟩,
  ⟨0x5012, 0x5012, 0x0, 0x0, .u32, .ro, 0, .const 0, .any⟩,
  ⟨0x5013, 0x5013, 0x0, 0x0, .u32, .ro, 0, .const 0, .any⟩,
  ⟨0x5014, 0x5014, 0x0, 0x0, .u32, .ro, 0, .const 0, .any⟩,
  ⟨0x5015, 0x5015, 0x0, 0x0, .u32, .ro, 0, .const 0, .any⟩,
  ⟨0x5016, 0x5016, 0x0, 0x0, .u32, .ro, 0, .const 0, .any⟩,
  ⟨0x5017, 0x5017, 0x0, 0x0, .bool, .ro, 0, .const 0, .any⟩,
  ⟨0x5018, 0x5018, 0x0, 0x0, .bool, .rw, 2, .const 1, .any⟩,
  ⟨0x5019, 0x5019, 0x0, 0x0, .bool, .rw, 2, .const 1, .any⟩]

/-- Objects of 0x5100 to 0x51FF. -/
def objRows51 : List ObjRow := [
  ⟨0x5100, 0x5100, 0x1, 0x4, .u8, .ro, 0, .perSub [(1, 3), (2, 0), (3, 3), (4, 0)], .any⟩,
  ⟨0x5101, 0x5101, 0x1, 0x4, .octets 32, .ro, 0, .const 0, .any⟩,
  ⟨0x5102, 0x5102, 0x1, 0x4, .u32, .ro, 0, .const 0, .any⟩,
  ⟨0x5103, 0x5103, 0x1, 0x4, .u8, .ro, 0, .const 0, .any⟩,
  ⟨0x5104, 0x5104, 0x1, 0x4, .u8, .cmd, 2, .const 0, .oneOf [1]⟩,
  ⟨0x5105, 0x5105, 0x1, 0x2, .u8, .cmd, 2, .const 0, .oneOf [1, 2]⟩,
  ⟨0x5106, 0x5106, 0x1, 0x2, .u8, .ro, 0, .const 0, .any⟩,
  ⟨0x5110, 0x5110, 0x1, 0x2, .u8, .rw, 2, .const 0, .oneOf [0, 1, 2]⟩,
  ⟨0x5111, 0x5111, 0x1, 0x2, .u32, .rw, 2, .const 60, .between 10 3600⟩,
  ⟨0x5112, 0x5112, 0x1, 0x2, .u32, .ro, 0, .const 0, .any⟩,
  ⟨0x5113, 0x5113, 0x1, 0x2, .u8, .cmd, 2, .const 0, .oneOf [1]⟩,
  ⟨0x5114, 0x5114, 0x1, 0x2, .u32, .ro, 0, .const 0, .any⟩,
  ⟨0x5115, 0x5115, 0x1, 0x2, .u64, .ro, 0, .const 0, .any⟩,
  ⟨0x5116, 0x5116, 0x1, 0x2, .u8, .ro, 0, .const 0, .any⟩,
  ⟨0x5117, 0x5117, 0x1, 0x2, .u8, .rw, 2, .const 3, .between 1 255⟩,
  ⟨0x5118, 0x5118, 0x1, 0x2, .u8, .ro, 0, .const 0, .any⟩,
  ⟨0x5119, 0x5119, 0x1, 0x2, .u32, .ro, 0, .const 0, .any⟩,
  ⟨0x511A, 0x511A, 0x1, 0x2, .u32, .ro, 0, .const 0, .any⟩,
  ⟨0x511B, 0x511B, 0x1, 0x2, .u32, .ro, 0, .const 0, .any⟩,
  ⟨0x511C, 0x511C, 0x1, 0x2, .u64, .ro, 0, .const 0, .any⟩,
  ⟨0x511D, 0x511D, 0x1, 0x2, .u8, .rw, 2, .const 3, .between 1 255⟩,
  ⟨0x511E, 0x511E, 0x1, 0x2, .bool, .rw, 2, .const 1, .any⟩]

/-- Objects of 0x5200 to 0x52FF. -/
def objRows52 : List ObjRow := [
  ⟨0x5200, 0x5200, 0x1, 0x3, .bool, .rw, 2, .const 1, .any⟩,
  ⟨0x5201, 0x5201, 0x1, 0x3, .bool, .rw, 2, .const 0, .any⟩,
  ⟨0x5202, 0x5202, 0x1, 0x3, .octets 128, .ro, 1, .const 0, .any⟩,
  ⟨0x5203, 0x5203, 0x1, 0x3, .octets 128, .ro, 2, .const 0, .any⟩,
  ⟨0x5204, 0x5204, 0x1, 0x18, .u32, .rw, 2, .const 0, .any⟩,
  ⟨0x5205, 0x5205, 0x1, 0x18, .u32, .rw, 2, .const 65536, .between 4096 4294967295⟩,
  ⟨0x5210, 0x5210, 0x1, 0x3, .u8, .cmd, 2, .const 0, .oneOf [1, 2]⟩,
  ⟨0x5211, 0x5211, 0x1, 0x3, .u8, .ro, 0, .const 0, .any⟩,
  ⟨0x5212, 0x5212, 0x1, 0x3, .u32, .rwd, 2, .const 8000, .between 1 1000000⟩,
  ⟨0x5213, 0x5213, 0x1, 0x3, .u8, .rwd, 2, .const 255, .orElse 0 3 0xFF⟩,
  ⟨0x5214, 0x5214, 0x0, 0x0, .u32, .ro, 0, .const 0, .any⟩,
  ⟨0x5215, 0x5215, 0x0, 0x0, .u32, .rw, 1, .const 0, .any⟩,
  ⟨0x5216, 0x5216, 0x0, 0x0, .octets 128, .ro, 1, .const 0, .any⟩,
  ⟨0x5217, 0x5217, 0x0, 0x0, .u32, .ro, 0, .const 0, .any⟩,
  ⟨0x5218, 0x5218, 0x0, 0x0, .u64, .ro, 0, .const 0, .any⟩,
  ⟨0x5220, 0x5220, 0x0, 0x0, .u16, .ro, 0, .const 0, .any⟩,
  ⟨0x5221, 0x5221, 0x0, 0x0, .u16, .rw, 2, .const 1, .between 1 4096⟩,
  ⟨0x5222, 0x5222, 0x0, 0x0, .octets 64, .ro, 1, .const 0, .any⟩,
  ⟨0x5223, 0x5223, 0x0, 0x0, .u32, .ro, 0, .const 0, .any⟩,
  ⟨0x5230, 0x5230, 0x0, 0x0, .u8, .cmd, 2, .const 0, .oneOf [1, 2]⟩,
  ⟨0x5231, 0x5231, 0x0, 0x0, .u8, .ro, 0, .const 0, .any⟩,
  ⟨0x5232, 0x5232, 0x0, 0x0, .octets 262144, .rwd, 2, .const 0, .any⟩,
  ⟨0x5233, 0x5233, 0x0, 0x0, .u32, .rw, 2, .const 50000, .between 0 9994160⟩,
  ⟨0x5234, 0x5234, 0x0, 0x0, .u32, .ro, 0, .const 50000, .any⟩,
  ⟨0x5235, 0x5235, 0x0, 0x0, .u8, .rwd, 2, .const 1, .between 0 2⟩,
  ⟨0x5236, 0x5236, 0x0, 0x0, .octets 64, .ro, 1, .const 0, .any⟩,
  ⟨0x5237, 0x5237, 0x0, 0x0, .u32, .ro, 0, .const 0, .any⟩,
  ⟨0x5240, 0x5240, 0x1, 0x8, .bool, .rw, 2, .const 0, .any⟩,
  ⟨0x5241, 0x5241, 0x1, 0x8, .u32, .rw, 2, .const 0, .between 0 9994160⟩,
  ⟨0x5242, 0x5242, 0x1, 0x8, .u32, .rw, 2, .const 1, .between 1 65536⟩,
  ⟨0x5243, 0x5243, 0x1, 0x8, .u8, .ro, 0, .const 0, .any⟩,
  ⟨0x5244, 0x5244, 0x1, 0x8, .u32, .ro, 0, .const 0, .any⟩,
  ⟨0x5245, 0x5245, 0x1, 0x8, .u32, .ro, 0, .const 0, .any⟩,
  ⟨0x5246, 0x5246, 0x1, 0x8, .u32, .ro, 0, .const 0, .any⟩,
  ⟨0x5247, 0x5247, 0x1, 0x8, .u32, .ro, 0, .const 0, .any⟩,
  ⟨0x5248, 0x5248, 0x1, 0x8, .u8, .ro, 0, .const 0, .any⟩,
  ⟨0x5249, 0x5249, 0x1, 0x8, .u32, .ro, 0, .const 0, .any⟩,
  ⟨0x524A, 0x524A, 0x0, 0x0, .u8, .rw, 2, .const 3, .between 1 255⟩]

/-- Objects of 0x5300 to 0x53FF. -/
def objRows53 : List ObjRow := [
  ⟨0x5300, 0x5300, 0x0, 0x0, .u8, .cmd, 2, .const 0, .oneOf [1, 2]⟩,
  ⟨0x5301, 0x5301, 0x0, 0x0, .u8, .ro, 0, .const 0, .any⟩,
  ⟨0x5302, 0x5302, 0x0, 0x0, .u8, .cmd, 2, .const 0, .oneOf [1, 2, 3]⟩,
  ⟨0x5303, 0x5303, 0x0, 0x0, .bool, .rw, 2, .const 0, .any⟩,
  ⟨0x5304, 0x5304, 0x0, 0x0, .bool, .rw, 2, .const 1, .any⟩,
  ⟨0x5305, 0x5305, 0x0, 0x0, .u16, .rw, 2, .const 50, .between 10 200⟩,
  ⟨0x5306, 0x5306, 0x0, 0x0, .u32, .rw, 2, .const 60, .between 60 86400⟩,
  ⟨0x5307, 0x5307, 0x1, 0x4, .i16, .ro, 0, .const 0, .any⟩,
  ⟨0x5308, 0x5308, 0x0, 0x0, .bool, .ro, 0, .const 0, .any⟩,
  ⟨0x5309, 0x5309, 0x0, 0x0, .u16, .rw, 2, .const 65535, .any⟩,
  ⟨0x530A, 0x530A, 0x0, 0x0, .u32, .rw, 2, .const 4294967295, .any⟩,
  ⟨0x530B, 0x530B, 0x0, 0x0, .u32, .rw, 2, .const 65535, .between 0 0xFFFF⟩,
  ⟨0x530C, 0x530C, 0x1, 0x10, .u8, .rw, 2, .const 0, .oneOf [0, 1, 2]⟩,
  ⟨0x530D, 0x530D, 0x0, 0x0, .u8, .rw, 2, .const 0, .oneOf [0, 1, 2]⟩,
  ⟨0x530E, 0x530E, 0x0, 0x0, .u32, .rw, 2, .const 10000, .between 100 600000⟩,
  ⟨0x530F, 0x530F, 0x0, 0x0, .dur64, .rw, 2, .const 983, .between 328 6554⟩,
  ⟨0x5310, 0x5310, 0x0, 0x0, .u32, .ro, 0, .const 0, .any⟩,
  ⟨0x5311, 0x5311, 0x0, 0x0, .u32, .ro, 0, .const 0, .any⟩,
  ⟨0x5312, 0x5312, 0x0, 0x0, .u8, .ro, 0, .const 0, .any⟩,
  ⟨0x5313, 0x5313, 0x0, 0x0, .u16, .ro, 0, .const 0, .any⟩,
  ⟨0x5314, 0x5314, 0x0, 0x0, .u64, .ro, 0, .const 0, .any⟩,
  ⟨0x5320, 0x5320, 0x0, 0x0, .u8, .rw, 2, .const 0, .between 0 47⟩,
  ⟨0x5321, 0x5321, 0x0, 0x0, .u8, .rw, 2, .const 1, .oneOf [1, 2]⟩,
  ⟨0x5322, 0x5322, 0x0, 0x0, .u8, .rw, 2, .const 0, .between 0 3⟩,
  ⟨0x5323, 0x5323, 0x0, 0x0, .u8, .rw, 2, .const 0, .between 0 15⟩,
  ⟨0x5324, 0x5324, 0x0, 0x0, .dur64, .rw, 2, .const 0, .between 0 65536000⟩,
  ⟨0x5325, 0x5325, 0x0, 0x0, .dur64, .rw, 2, .const 0, .between 0 65536000⟩,
  ⟨0x5326, 0x5326, 0x0, 0x0, .dur64, .rw, 2, .const 0, .between (-65536000) 65536000⟩,
  ⟨0x5327, 0x5327, 0x0, 0x0, .u32, .rw, 2, .const 64, .between 16 3600⟩,
  ⟨0x5328, 0x5328, 0x0, 0x0, .dur64, .rw, 2, .const 655360, .between 6554 1310720⟩,
  ⟨0x5329, 0x5329, 0x0, 0x0, .dur64, .rw, 2, .const 1966, .between 328 65536⟩,
  ⟨0x532A, 0x532A, 0x0, 0x0, .u8, .ro, 0, .const 0, .any⟩,
  ⟨0x532B, 0x532B, 0x0, 0x0, .u8, .cmd, 2, .const 0, .oneOf [1]⟩,
  ⟨0x532C, 0x532C, 0x0, 0x0, .dur64, .ro, 0, .const 0, .any⟩,
  ⟨0x532D, 0x532D, 0x0, 0x0, .dur64, .ro, 0, .const 0, .any⟩,
  ⟨0x532E, 0x532E, 0x0, 0x0, .dur64, .ro, 0, .const 0, .any⟩,
  ⟨0x532F, 0x532F, 0x0, 0x0, .dur64, .ro, 0, .const 0, .any⟩,
  ⟨0x5330, 0x5330, 0x0, 0x0, .u16, .rw, 2, .const 0, .any⟩,
  ⟨0x5331, 0x5331, 0x0, 0x0, .u8, .cmd, 2, .const 0, .oneOf [1, 2, 3, 4, 5, 6, 7, 8, 9]⟩,
  ⟨0x5332, 0x5332, 0x0, 0x0, .u8, .ro, 0, .const 0, .any⟩]

/-- Objects of 0x5400 to 0x54FF. -/
def objRows54 : List ObjRow := [
  ⟨0x5400, 0x5400, 0x1, 0x2, .u32, .ro, 0, .const 0, .any⟩,
  ⟨0x5401, 0x5401, 0x0, 0x0, .u32, .ro, 0, .const 0, .any⟩,
  ⟨0x5402, 0x5402, 0x0, 0x0, .u32, .ro, 0, .const 0, .any⟩,
  ⟨0x5403, 0x5403, 0x0, 0x0, .u32, .ro, 0, .const 0, .any⟩,
  ⟨0x5404, 0x5404, 0x0, 0x0, .u32, .rw, 2, .const 0, .any⟩,
  ⟨0x5405, 0x5405, 0x0, 0x0, .octets 64, .wo, 2, .const 0, .any⟩,
  ⟨0x5406, 0x5406, 0x0, 0x0, .u32, .rw, 2, .const 0, .between 1 8388608⟩,
  ⟨0x5407, 0x5407, 0x0, 0x0, .u8, .cmd, 2, .const 0, .oneOf [1, 2, 3, 4]⟩,
  ⟨0x5408, 0x5408, 0x0, 0x0, .u64, .rw, 2, .const 0, .any⟩,
  ⟨0x5409, 0x5409, 0x0, 0x0, .u8, .ro, 0, .const 0, .any⟩,
  ⟨0x540A, 0x540A, 0x0, 0x0, .u8, .ro, 0, .const 0, .any⟩,
  ⟨0x540B, 0x540B, 0x0, 0x0, .u32, .ro, 0, .const 0, .any⟩,
  ⟨0x540C, 0x540C, 0x0, 0x0, .u8, .ro, 0, .const 0, .any⟩]

/-- Objects of 0x5500 to 0x55FF. -/
def objRows55 : List ObjRow := [
  ⟨0x5500, 0x5500, 0x1, 0x4, .i16, .ro, 0, .const 0, .any⟩,
  ⟨0x5501, 0x5501, 0x0, 0x0, .i16, .ro, 0, .const 0, .any⟩,
  ⟨0x5502, 0x5502, 0x0, 0x0, .u8, .ro, 0, .const 0, .any⟩,
  ⟨0x5503, 0x5503, 0x0, 0x0, .i16, .rw, 2, .const 1050, .between 700 1050⟩,
  ⟨0x5504, 0x5504, 0x0, 0x0, .u32, .ro, 0, .const 0, .any⟩,
  ⟨0x5505, 0x5505, 0x0, 0x0, .u8, .ro, 0, .const 0, .any⟩,
  ⟨0x5510, 0x5510, 0x1, 0x8, .u16, .ro, 0, .const 0, .any⟩,
  ⟨0x5511, 0x5511, 0x1, 0x8, .u8, .ro, 0, .const 0, .any⟩,
  ⟨0x5512, 0x5512, 0x1, 0x8, .u16, .ro, 0, .const 0, .any⟩,
  ⟨0x5513, 0x5513, 0x0, 0x0, .u16, .ro, 0, .const 0, .any⟩,
  ⟨0x5520, 0x5520, 0x1, 0x4, .u8, .ro, 0, .const 0, .any⟩,
  ⟨0x5521, 0x5521, 0x0, 0x0, .u8, .ro, 0, .const 0, .any⟩,
  ⟨0x5522, 0x5522, 0x1, 0x8, .u8, .ro, 0, .const 0, .any⟩,
  ⟨0x5523, 0x5523, 0x1, 0x10, .u8, .ro, 0, .const 0, .any⟩,
  ⟨0x5524, 0x5524, 0x1, 0x8, .u8, .rw, 2, .const 255, .orElse 0 15 0xFF⟩,
  ⟨0x5525, 0x5525, 0x1, 0x4, .bool, .rw, 2, .const 1, .any⟩,
  ⟨0x5526, 0x5526, 0x0, 0x0, .u16, .ro, 0, .const 0, .any⟩,
  ⟨0x5530, 0x5530, 0x1, 0x2, .u32, .ro, 0, .const 0, .any⟩,
  ⟨0x5531, 0x5531, 0x1, 0x2, .u32, .ro, 0, .const 0, .any⟩,
  ⟨0x5532, 0x5532, 0x0, 0x0, .bool, .ro, 0, .const 0, .any⟩,
  ⟨0x5540, 0x5540, 0x0, 0x0, .u8, .ro, 0, .const 0, .any⟩,
  ⟨0x5541, 0x5541, 0x0, 0x0, .u8, .ro, 0, .const 0, .any⟩,
  ⟨0x5542, 0x5542, 0x0, 0x0, .u8, .ro, 0, .const 0, .any⟩,
  ⟨0x5543, 0x5543, 0x0, 0x0, .u8, .ro, 0, .const 0, .any⟩,
  ⟨0x5544, 0x5544, 0x0, 0x0, .u32, .ro, 0, .const 0, .any⟩,
  ⟨0x5545, 0x5545, 0x0, 0x0, .u32, .ro, 0, .const 0, .any⟩,
  ⟨0x5546, 0x5546, 0x0, 0x0, .u8, .ro, 0, .const 0, .any⟩,
  ⟨0x5547, 0x5547, 0x0, 0x0, .u8, .ro, 0, .const 0, .any⟩,
  ⟨0x5548, 0x5548, 0x0, 0x0, .u64, .ro, 0, .const 0, .any⟩,
  ⟨0x5549, 0x5549, 0x0, 0x0, .u64, .ro, 0, .const 0, .any⟩,
  ⟨0x554A, 0x554A, 0x0, 0x0, .u32, .ro, 0, .const 0, .any⟩,
  ⟨0x554B, 0x554B, 0x0, 0x0, .bool, .ro, 0, .const 0, .any⟩,
  ⟨0x554C, 0x554C, 0x0, 0x0, .u8, .cmd, 2, .const 0, .oneOf [1]⟩,
  ⟨0x554D, 0x554D, 0x0, 0x0, .u8, .cmd, 3, .const 0, .oneOf [1]⟩,
  ⟨0x554E, 0x554E, 0x0, 0x0, .u8, .rw, 2, .const 4, .between 1 255⟩,
  ⟨0x554F, 0x554F, 0x0, 0x0, .u8, .cmd, 2, .const 0, .oneOf [1]⟩]

/-- The object rows of one page of 256 indices (R501); reserved ranges hold none. -/
def objPage : Nat → List ObjRow
  | 0x10 => objRows10
  | 0x11 => objRows11
  | 0x12 => objRows12
  | 0x13 => objRows13
  | 0x20 => objRows20
  | 0x21 => objRows21
  | 0x22 => objRows22
  | 0x23 => objRows23
  | 0x24 => objRows24
  | 0x25 => objRows25
  | 0x26 => objRows26
  | 0x27 => objRows27
  | 0x30 => objRows30
  | 0x31 => objRows31
  | 0x32 => objRows32
  | 0x33 => objRows33
  | 0x34 => objRows34
  | 0x35 => objRows35
  | 0x36 => objRows36
  | 0x37 => objRows37
  | 0x40 => objRows40
  | 0x41 => objRows41
  | 0x42 => objRows42
  | 0x43 => objRows43
  | 0x50 => objRows50
  | 0x51 => objRows51
  | 0x52 => objRows52
  | 0x53 => objRows53
  | 0x54 => objRows54
  | 0x55 => objRows55
  | _ => []

end Sys2Proof.Machine
end

