-- ==== Sys2Proof/Machine/Sparse.lean ====
section
/-! DEFINITION. Sparse stores. A store is a list of key and value pairs over a rule that says what an unlisted key
reads as. Its canonical form: keys strictly rising, and no entry equal to what its key would read unlisted. -/

namespace Sys2Proof.Machine

/-- The value at a key: the listed one, else what the rule gives. -/
def Sparse.get {β : Type} (unlisted : Nat → β) : List (Nat × β) → Nat → β
  | [], k => unlisted k
  | (k', v) :: rest, k => if k' = k then v else Sparse.get unlisted rest k

/-- Put an entry at its place in a rising list, replacing an entry of the same key. -/
def Sparse.put {β : Type} : List (Nat × β) → Nat → β → List (Nat × β)
  | [], k, v => [(k, v)]
  | (k', v') :: rest, k, v =>
    if k < k' then (k, v) :: (k', v') :: rest
    else if k = k' then (k, v) :: rest
    else (k', v') :: Sparse.put rest k v

/-- Remove the entry of a key. -/
def Sparse.drop {β : Type} : List (Nat × β) → Nat → List (Nat × β)
  | [], _ => []
  | (k', v') :: rest, k => if k' = k then Sparse.drop rest k else (k', v') :: Sparse.drop rest k

/-- Write a key: writing what the key would read unlisted removes its entry. -/
def Sparse.set {β : Type} [DecidableEq β] (unlisted : Nat → β) (l : List (Nat × β)) (k : Nat) (v : β) :
    List (Nat × β) :=
  if v = unlisted k then Sparse.drop l k else Sparse.put l k v

/-- All keys of a list lie above `k`, rising strictly. -/
def Sparse.rising {β : Type} : List (Nat × β) → Bool
  | [] => true
  | [_] => true
  | (k, _) :: (k', v') :: rest => decide (k < k') && Sparse.rising ((k', v') :: rest)

/-- The canonical form of a store. -/
def Sparse.wf {β : Type} [DecidableEq β] (unlisted : Nat → β) (l : List (Nat × β)) : Bool :=
  Sparse.rising l && l.all (fun e => !decide (e.2 = unlisted e.1))

end Sys2Proof.Machine
end

