-- ==== Sys2Proof/Machine/State.lean ====
section
/-! DEFINITION. The state of the block: the object dictionary, every other register, FIFO, buffer, counter and mode the
spec gives it, and the queue of commands that wait. Plain data. -/

namespace Sys2Proof.Machine

/-- A value of the object dictionary (R10). Every numeric type is held as one integer: a BOOL as 0 or 1, a TIME96
as its count of 2^-16 ns, a DUR64 in units of 2^-16 ns, a DFREQ in units of 2^-48. Octet strings and texts are bytes. -/
inductive Val where
  | num (v : Int)
  | oct (bs : List Byte)
deriving DecidableEq, Repr, Inhabited

/-- The numeric reading of a value; an octet string has none and reads 0. -/
def Val.toInt : Val → Int
  | .num v => v
  | .oct _ => 0

/-- The octets of a value; a numeric value has none. -/
def Val.bytes : Val → List Byte
  | .num _ => []
  | .oct bs => bs

/-- The blocks (R18 to R23): what their control and state objects do not show. -/
structure BlockSt where
  /-- By control object, the command a block acts on at the next Turn boundary: 1 enable, 2 disable (R19). -/
  cmds : List (Nat × Nat) := []
  /-- By block state object, the fault counter and the cause of the last fault (R18, R23). -/
  faults : List (Nat × Nat) := []
  causes : List (Nat × Nat) := []
  /-- By block state object, the blocks that a restart put into ENABLING (R600): they resume what they held. -/
  resumed : List Nat := []
deriving DecidableEq, Repr


/-- What a change in the Turn change queue does when its Turn comes (R50). The values a change needs are captured
when it is armed (R54). -/
inductive ChangeKind where
  /-- TurnChangeCmd 1: the new period (R54). -/
  | period (p : Nat)
  /-- TurnChangeCmd 2: the new period, anchor time (2^-16 ns) and anchor number (R55). -/
  | reanchor (p : Nat) (ta : Int) (na : Nat)
  /-- TimeStepCmd 1: a relative step in 2^-16 ns (R78). -/
  | stepRel (v : Int)
  /-- TimeStepCmd 2: the time at the boundary becomes the value (R78). -/
  | stepAbs (v : Int)
  /-- The initial step of R88 or the set of R183: the value, with the TimeSource and instance it names. -/
  | stepOwn (v : Int) (source inst : Nat)
  /-- A Maquette swap (R385). -/
  | swap
  /-- A re-alignment of the outputs of the mask (R243). -/
  | realign (mask : Nat)
  /-- The firmware handover (R491). -/
  | handover
deriving DecidableEq, Repr

/-- One entry of the Turn change queue (R50): the Turn it is named for and what it does. -/
structure Change where
  turn : Nat
  kind : ChangeKind
deriving DecidableEq, Repr

/-- Turns started with consecutive numbers one period apart: the first and last number, the boundary time of the first, and the
period (R182). -/
structure TurnRun where
  first : Nat
  last : Nat
  start : Int
  period : Nat
deriving DecidableEq, Repr

/-- The Turn sequencer's own state (R37 to R61); the period, the anchor and the counts are dictionary objects. -/
structure TurnSt where
  /-- The number of the last Turn started, none before the first (R39). -/
  last : Option Nat := none
  /-- A Turn is in progress; false before the first Turn, in a gap (R59) and while a device-level fault holds. -/
  running : Bool := false
  /-- The number of the next Turn to start (R37, R58). -/
  next : Nat := 0
  /-- The device is in the gap after a discontinuity (R58). -/
  gap : Bool := false
  /-- Work items of the Turn in progress that have neither finished nor been abandoned (R46). -/
  openItems : List Nat := []
  /-- The Turn and the open work items at the moment a device-level fault stopped the device (R58). -/
  cut : Option (Nat × List Nat) := none
  /-- The Turn change queue in arming order (R50, R52). -/
  queue : List Change := []
  /-- UptimeNs at the last boundary, to count the CCLK cycles of a Turn (R42, R91). -/
  upMark : Nat := 0
  /-- Boundary instant of the Turn in progress in spindle time, and its count. -/
  start : Int := 0
  /-- Start and length of the Turn before, in 2^-16 ns (R124). -/
  before : Option (Int × Nat) := none
  /-- Turns started since reset, by which deadlines are counted (R31, R59). -/
  started : Nat := 0
  /-- The Turns with an overrun for which EV18 has still to be raised, and the last Turn counted among those with one, by the
  count of Turns started (R47). -/
  owed : Nat := 0
  owedAt : Option Nat := none
  /-- The last 1,024 Turns started, newest run first (R182). -/
  runs : List TurnRun := []
deriving DecidableEq, Repr

/-- A spindle's counter and NCO (R67, R68); its words in force are dictionary objects. -/
structure SpindleSt where
  /-- The counter: the TIME96 value and the 32 bits below FRACTION, as one count of 2^-48 ns (R67). -/
  cnt : Nat := 0
  /-- The NCO word produced for the next Turn: frequency and phase terms (R71). -/
  nextWord : Option (Int × Int) := none
deriving DecidableEq, Repr

/-- The time base (R67 to R95). -/
structure TimeSt where
  /-- Spindle A (0) and B (1). -/
  spindles : List (Nat × SpindleSt) := []
  /-- The counters have begun to count: the steered synth has locked since reset (R594). -/
  counting : Bool := false
  /-- TCLK comes from the steered synth (R70, R216). -/
  tclkSteered : Bool := false
  /-- Both synths are unlocked with the Plinth present: the counters advance per Plinth cycle (R220). -/
  perPlinth : Bool := false
  /-- They do so until both synths are LOCKED, the Plinth having returned after a loss (R219). -/
  untilBoth : Bool := false
  /-- The active word at the moment the steered synth lost lock (R70). -/
  yHeld : Int := 0
  /-- The last Turn in which the NCO clamp acted, by the count of Turns started (R69). -/
  clampAt : Option Nat := none
  /-- A snapshot has been commanded and not yet captured (R93). -/
  snapPending : Bool := false
  /-- Nanoseconds since RESET_N was released, and what has passed of the next one, in 2^-48 ns (R91). -/
  uptime : Nat := 0
  upRest : Nat := 0
  /-- The word the host delivered in the Turn in progress, frequency and phase terms, and the last one it delivered (R35, R75). -/
  hostWord : Option (Int × Int) := none
  hostLast : Option (Int × Int) := none
  /-- Consecutive Turns without an NCO word, and of the first of them UptimeNs at its start and the frequency term of the Turn
  before (R31, R202). -/
  hostMisses : Nat := 0
  missAt : Nat × Int := (0, 0)
  /-- SpindleState of the active spindle before the F1 fallback (R34). -/
  fallbackFrom : Option Int := none
deriving DecidableEq, Repr


/-- A whorl: the unwrapped Turn averages of its lane (R122 to R125). -/
structure WhorlSt where
  /-- Locks of the lane, counted: the phase series restarts at each (R125). -/
  epoch : Nat := 0
  /-- The count of Turns started when the last average was delivered. -/
  got : Nat := 0
  /-- a of Turn n-1, of n-2 and of n-3. -/
  a1 : Option Int := none
  a2 : Option Int := none
  a3 : Option Int := none
  /-- Phase change and length of each of the last 32 Turns, newest last (R102). -/
  slopes : List (Int × Nat) := []
  /-- The last 32 Turn values of the rate ratio (R133). -/
  ratios : List Int := []
  /-- The reading that revealed a path step, by the count of Turns started at its delivery: it is not used (R167). -/
  refused : Option Nat := none
deriving DecidableEq, Repr

/-- A receive stamp that waits for its refinement, or has it (R124). -/
structure StampSt where
  rx : RxStamp
  /-- The instantaneous stamp t_inst. -/
  tInst : Int
  /-- The Turn it was taken in, by the count of Turns started. -/
  turn : Nat
  /-- The lock of the timing lane and the count of steps it was taken under (R131). -/
  epoch : Nat
  steps : Nat
  /-- The steered synth was not LOCKED (R131). -/
  holding : Bool := false
  /-- The refined stamp. -/
  ref : Option Int := none
deriving DecidableEq, Repr

/-- A Sync received (R129): `fup` holds origin and correction of its Follow_Up, and the count of Turns started at which the
exchange completed. -/
structure SyncX where
  seq : Nat
  origin : Int
  corr : Int
  source : Nat
  t2 : StampSt
  /-- UptimeNs at its reception, against which its Follow_Up is timed (R131). -/
  at_ : Nat
  corrFup : Int := 0
  complete : Option Nat := none
deriving DecidableEq, Repr

/-- A Delay_Req sent, and its response (R129). -/
structure DreqX where
  seq : Nat
  t3 : Int
  epoch : Nat
  steps : Nat
  /-- t4 and the correction of the response. -/
  resp : Option (Int × Int) := none
  complete : Option Nat := none
deriving DecidableEq, Repr

/-- A Pdelay_Req sent, and its responses (R129). -/
structure PdelayX where
  seq : Nat
  t1 : Int
  epoch : Nat
  steps : Nat
  /-- t2 and the correction of Pdelay_Resp, and the stamp t4. -/
  resp : Option (Int × Int) := none
  t4 : Option StampSt := none
  /-- t3 and the correction of Pdelay_Resp_Follow_Up. -/
  fup : Int × Int := (0, 0)
  complete : Option Nat := none
deriving DecidableEq, Repr

/-- A request that waits for the device's response (R113, R114, R141). -/
structure AnswerDue where
  /-- The request's type: 1 Delay_Req, 2 Pdelay_Req. -/
  type : Nat
  seq : Nat
  requester : Nat
  corr : Int
  /-- The transparent clock domain that answers it, none for the boundary clock (R141). -/
  domain : Option Nat
  stamp : StampSt
deriving DecidableEq, Repr

/-- A foreign master heard on a port (R116): its port identity, its last Announce, and UptimeNs of the last two. -/
structure Foreign where
  source : Nat
  msg : AnnounceMsg
  last : Nat
  before : Option Nat := none
deriving DecidableEq, Repr

/-- A valid Sync of the Turn before, as work item 2 leaves it for the ply solution (R157). -/
structure RawSync where
  seq : Nat
  source : Nat
  /-- The raw offset with A = 0, and that without the mean path delay. -/
  off : Int
  bare : Int := 0
  /-- A stamp of it was taken while the steered synth was not LOCKED (R131). -/
  holding : Bool := false
  /-- The Turn its stamp was taken in, by the count of Turns started. -/
  turn : Nat := 0
deriving DecidableEq, Repr

/-- What the measuring phase of a port run collects of a port (R302): t2, t2 - t1 - c and the offset of each valid Sync, and
the valid round trips. -/
structure CalWatch where
  syncs : List (Int × Int × Int) := []
  rts : List Int := []
deriving DecidableEq, Repr

/-- Link timing of a port (R98 to R135, R165 to R171). -/
structure LinkSt where
  syncs : List SyncX := []
  dreqs : List DreqX := []
  pdelays : List PdelayX := []
  answers : List AnswerDue := []
  /-- The last valid Sync: t2 - t1 - c_sync, with its lock and count of steps (R129). -/
  forward : Option (Int × Nat × Nat) := none
  /-- The last 16 valid round trips, newest last (R129). -/
  rts : List Int := []
  /-- Valid round trips since RANGING was entered, and since the last path step (R133, R168). -/
  ranged : Nat := 0
  sinceStep : Nat := 0
  /-- Valid Syncs of the Turn before. -/
  raw : List RawSync := []
  /-- The latency fold of R126 is complete. -/
  folded : Bool := false
  /-- LinkOffset before a relock, to report its shift (R127). -/
  beforeRelock : Option Int := none
  /-- Sequence numbers of Sync, Delay_Req or Pdelay_Req, Announce and Signaling. -/
  seqSync : Nat := 0
  seqReq : Nat := 0
  seqAnn : Nat := 0
  seqSig : Nat := 0
  /-- The counts of Turns started in which the last Sync and the last request were sent, plus one (R111). -/
  syncSent : Nat := 0
  reqSent : Nat := 0
  foreign : List Foreign := []
  /-- Whether the peer reports L1_SYNC_UP, once it has reported (R115). -/
  peerL1 : Option Bool := none
  /-- A host record waits for the boundary: offset and mean path delay (R120). -/
  hostRecord : Option (Int × Int) := none
  /-- Consecutive missed deadlines of F0 (R31). -/
  f0Misses : Nat := 0
  /-- LinkOffset before the first of the path steps that are open (R167, R171). -/
  frozen : Option Int := none
  /-- A path step decision waits for the boundary (R168). -/
  decision : Option Nat := none
  /-- UptimeNs of the last path step, and the count of Turns started in which it was declared. -/
  stepAt : Option (Nat × Nat) := none
  /-- The round trip median held on leaving TRACKING or BRIDGING, and UptimeNs then (R165). -/
  left : Option (Int × Nat) := none
  /-- The unwrapped whorl phase at the last record, the count of Turns started in which it was produced, and its
  holding flag (R131, R132, R184). -/
  recA : Int := 0
  recAt : Nat := 0
  recHolding : Bool := false
  /-- Steps applied since the Sync of the last record (R186). -/
  moved : Int := 0
  /-- A port run measures the port. -/
  cal : Option CalWatch := none
deriving DecidableEq, Repr

/-- A ply link (R150 to R162). -/
structure PlySt where
  /-- The last 16 values of K, newest last. -/
  ks : List Int := []
  /-- psi of Turn n-1 and the locks of the two lanes it was formed under. -/
  psi : Option Int := none
  epochs : Nat × Nat := (0, 0)
  /-- The asymmetry delta of the previous solution. -/
  last : Option Int := none
  /-- Consecutive solutions within the mismatch limit, and member a withdrawn (R161). -/
  goodRun : Nat := 0
  /-- The alarm conditions that hold, bit by cause (R161). -/
  alarms : Nat := 0
  withdrawn : Bool := false
  /-- The relock window runs (R160). -/
  window : Bool := false
  /-- The member that stayed up in SPLIT (R159). -/
  survivor : Option Nat := none
  /-- The link time has been formed since the last solution of a Sync pair that was awaited (R157). -/
  formed : Bool := false
  /-- The relock Sync pair has still to be sent or solved. -/
  relock : Bool := false
  /-- The sourcePortIdentity held for each member (R160). -/
  peers : Option (Nat × Nat) := none
deriving DecidableEq, Repr

/-- Link timing of all ports (chapters 04 and 05). -/
structure TimingSt where
  whorls : List (Nat × WhorlSt) := []
  links : List (Nat × LinkSt) := []
  plies : List (Nat × PlySt) := []
  /-- The clockClass the device has announced from, kept for HOLDOVER and LOST (R117). -/
  classMemory : Nat := 248
deriving DecidableEq, Repr


/-- A reference candidate (R177 to R195). -/
structure CandSt where
  /-- What its last measurement was made from: the link record and whorl average (counts of Turns started), or edges. -/
  takenRec : Nat := 0
  takenGot : Nat := 0
  /-- The count of Turns started at its last measurement, and whether that revealed a jump (R186, R198). -/
  measured : Nat := 0
  jumped : Bool := false
  /-- A pulse of a 1PPS had been stamped since the measurement before (R88, R178). -/
  byPulse : Bool := false
  /-- The phase-jump detector's last 16 values: UptimeNs and value against the Plinth (R186). -/
  line : List (Nat × Int) := []
  /-- The frequency monitor's values over its window, against the Plinth (R187). -/
  mon : List (Nat × Int) := []
  /-- The causes of its disqualification that have not cleared, bit by number; bit 5 is the fallback of F0 (R31, R189). -/
  causes : Nat := 0
  /-- The hold-off since the last jump or path step has passed (R168, R189), and the path step it began with. -/
  heldOff : Bool := false
  step : Option (Nat × Nat) := none
  /-- Measurements since QUALIFYING was entered (R188). -/
  count : Nat := 0
  /-- Seconds at or below the soft limit, and within the hard limit, in a row (R187, R188). -/
  softSecs : Nat := 0
  hardSecs : Nat := 0
  /-- Phase at selection or last qualification, for a frequency candidate (R184). -/
  zero : Int := 0
  /-- The candidate has completed its wait-to-restore, and UptimeNs at which its wait began (R195). -/
  served : Bool := false
  waitFrom : Option Nat := none
deriving DecidableEq, Repr

/-- A reference input (R178 to R181). -/
structure RefInSt where
  /-- Edges have been arriving (R185). -/
  present : Bool := false
  /-- Stamps of the last 16 pulses with their sequence numbers, newest last (R180). -/
  pulses : List (Nat × Int) := []
  /-- The label offset K in seconds, and that by which θ has been formed since the last boundary (R180). -/
  label : Option Int := none
  known : Option Int := none
  /-- A label was applied or cleared and takes its effect on the candidate at the boundary (R180). -/
  relabelled : Bool := false
  /-- Compared edges of the Turn in progress: their count, the first one's stamp, and the sum of how far the others lie
  from it modulo the comparison period (R184); and the newest edge. -/
  edges : Nat := 0
  first : Int := 0
  phases : Int := 0
  newest : Int := 0
  /-- The same of the last Turn that held an edge, and whether that has not been measured yet. -/
  turnEdges : Nat := 0
  turnFirst : Int := 0
  turnPhases : Int := 0
  fresh : Bool := false
  /-- The last time θ of the 1PPS, and the 10 MHz phase of the Turn of its pulse (R184, mode 2); and that this Turn has not ended. -/
  pps : Option Int := none
  pair0 : Int := 0
  pairDue : Bool := false
  /-- A pulse has been stamped since the last measurement (R88). -/
  pulsed : Bool := false
  /-- Consecutive 1PPS edges within 25 ns of a 10 MHz edge (R189), and a misalignment to report (R178). -/
  aligned : Nat := 0
  /-- Stamps of the pulses of a port run's measuring phase (R302). -/
  calPulses : Option (List Int) := none
  /-- The input is inverted, and is to be from the next boundary (R608). -/
  inverted : Bool := false
  invertNext : Bool := false
deriving DecidableEq, Repr

/-- A one-second bin of the frequency term (R202). -/
structure Bin where
  second : Nat
  y : Int
  valid : Bool
deriving DecidableEq, Repr

/-- Reference selection, servo and holdover (chapter 06). -/
structure RefSt where
  cands : List (Nat × CandSt) := []
  ins : List (Nat × RefInSt) := []
  /-- θ of the host-supplied time, and the count of Turns started at its command (R182, R185). -/
  host : Option (Int × Nat) := none
  /-- A selection waits for its boundary: a candidate, or 101 to deselect (R193, R206). -/
  next : Option Nat := none
  /-- The switch in progress has begun, in UptimeNs (R194). -/
  switchAt : Nat := 0
  /-- The selected reference was not eligible when last looked at, under R30 or R206. -/
  strayed : Bool := false
  /-- F2 has asked the host for a choice: the count of Turns started then (R31). -/
  asked : Option Nat := none
  /-- The frequency term of the servo in units of 2^-96 (R198). -/
  yf : Int := 0
  /-- There is a frequency term from an earlier lock or from the host (R77). -/
  hasTerm : Bool := false
  /-- The narrow-band value (R200). -/
  narrow : Option Int := none
  /-- UptimeNs at which the ladder step was entered, and of the last |θ| beyond the step's limit and beyond the lock window
  (R199, R200). -/
  stepSince : Nat := 0
  overLimit : Nat := 0
  overWindow : Nat := 0
  /-- Consecutive measurements above the unlock threshold (R200). -/
  unlockRun : Nat := 0
  /-- Turn lengths of the servo's history: yf summed over the Turns of the second in progress, their number, and whether
  each was fit for a valid bin (R202). -/
  binSum : Int := 0
  binCount : Nat := 0
  binValid : Bool := true
  bins : List Bin := []
  /-- ServoPhaseError of the Turns of the last second: UptimeNs and value (R202). -/
  errors : List (Nat × Int) := []
  /-- UptimeNs and frequency term of the Turn before the loss of the selected reference (R202). -/
  lossAt : Option (Nat × Int) := none
  /-- e0 of the holdover in progress (R202), and UptimeNs at its entry (R203). -/
  e0 : Int := 0
  holdSince : Nat := 0
  /-- The state held before the host's fallback (R34), and a HostServoState written and not yet in effect (R205). -/
  hostState : Option Nat := none
  /-- The servo starts on step 0 when it next enters ACQUIRING (R35). -/
  fromHost : Bool := false
  /-- The mode F1 last ran in, and F2. -/
  f1Host : Bool := false
  /-- The frequency term in force in the Turn before (R202). -/
  yfBefore : Int := 0
  /-- The set of R183 has still to be armed. -/
  hostSet : Bool := false
  /-- The initial step measured and refused, to be armed in the next Turn: the offset, and TimeSource with its instance; and the
  Turn, by the count of Turns started, in which the host cancelled it (R88, R89). -/
  initial : Option (Int × Nat × Nat) := none
  cancelled : Option Nat := none
  /-- The REFIN candidate that a port run excludes from selection (R301). -/
  excluded : Option Nat := none
  /-- UptimeNs at the completion of the last switch (R195). -/
  switchDone : Nat := 0
  /-- Phase accumulated by the active NCO word since reset, in 2^-48 ns (R186). -/
  ncoPhase : Int := 0
deriving DecidableEq, Repr


/-- A pulse output (R231 to R244). -/
structure PulseSt where
  /-- A pulse is being driven (R232). -/
  active : Bool := false
  /-- Drive instant of the last rising edge, in spindle time (R234). -/
  lastRise : Option Int := none
  /-- The newest programmed instant that has been dealt with. -/
  lastAt : Option Int := none
  /-- The last 16 programmed instants that were not omitted by case 4 of R234, newest last. -/
  accepted : List Int := []
  /-- Programmed instants of mode 2 whose drive instants have not come (R235). -/
  due : List Int := []
  /-- A re-alignment has been made since the last rising edge (R234). -/
  realigned : Bool := false
  /-- A re-alignment is awaited after a steered relock: cause 4 (R242). -/
  awaits : Bool := false
  /-- The pulse of mode 3 has been driven or omitted since the enable (R231). -/
  done : Bool := false
deriving DecidableEq, Repr

/-- A clock output (R226 to R230). Its instants are spindle times in fifths of 2^-16 ns, in which 200 ps is a whole number. -/
structure ClkSt where
  /-- The first rising edge since it was last squelched or re-aligned; none while it is squelched (R239, R244). -/
  runs : Option Int := none
  /-- The last rising edge before that one (R230). -/
  rose : Option Int := none
  /-- The cycle that began there was not ended by a squelch: a re-alignment lengthens it (R244). -/
  kept : Bool := false
deriving DecidableEq, Repr

/-- Alignment lines and outputs (chapter 07). -/
structure OutputSt where
  pulses : List (Nat × PulseSt) := []
  clks : List (Nat × ClkSt) := []
  /-- The next lock of the line follows a loss of the steered synth (R240). -/
  steeredReturn : List Nat := []
deriving DecidableEq, Repr


/-- A stamp record of an EVIN channel (R268). -/
structure StampRec where
  t : Int
  flags : Nat
  seq : Nat
deriving DecidableEq, Repr

/-- What an EVIN stamp that waits for its conversion to the MREF base is for (R262, R271). -/
inductive StampUse where
  /-- A stamp of stamp mode, with its prescaled edge index and SEQ. -/
  | stamp (index seq : Nat)
  /-- A start; whether its source is internal. -/
  | start (internal : Bool)
  | stop
deriving DecidableEq, Repr

/-- A network stamp that waits for its conversion (R262): its instant in thousandths of 2^-16 ns, not rounded. -/
structure WaitSt where
  t : Int
  flags : Nat
  use : StampUse
deriving DecidableEq, Repr

/-- An open measurement (R271 to R273). -/
structure MeasSt where
  start : Int
  stops : List Int := []
  /-- FLAGS of its result record (R274). -/
  flags : Nat
  /-- Steps applied since the start. -/
  steps : Int := 0
deriving DecidableEq, Repr

/-- A result record (R274). -/
structure ResultRec where
  start : Int
  stops : List Int
  flags : Nat
  mseq : Nat
deriving DecidableEq, Repr

/-- An open frequency gate with its sums (R278). -/
structure GateSt where
  /-- When it opened, in spindle time (R277). -/
  opened : Int := 0
  /-- Stamp and prescaled edge index of the first edge. -/
  t0 : Option Int := none
  i0 : Nat := 0
  count : Nat := 0
  sn : Int := 0
  snn : Int := 0
  su : Int := 0
  snu : Int := 0
  suu : Int := 0
  last : Int := 0
  /-- Steps applied since t0. -/
  steps : Int := 0
  /-- Edges were lost to dead time; the steered synth was not LOCKED; every stamp so far was traced (R279). -/
  dead : Bool := false
  holding : Bool := false
  traced : Bool := true
deriving DecidableEq, Repr

/-- An EVIN channel (chapter 08). -/
structure EvinSt where
  /-- Time of the previous edge, delays not removed (R266). -/
  lastEdge : Option Int := none
  /-- Edges of accepted slopes counted since enable (R266). -/
  edges : Nat := 0
  /-- The instant the front-end buffer will have drained (R267). -/
  busy : Int := 0
  waits : List WaitSt := []
  fifo : List StampRec := []
  /-- What FLAGS [4], [6] and [7] of the next record say (R268). -/
  discont : Bool := false
  lost : Bool := false
  turned : Bool := false
  /-- The comparator is inverted, and from the next boundary on (R256). -/
  inverted : Bool := false
  invertNext : Bool := false
  /-- Stamps formed and measurements closed since enable. -/
  seq : Nat := 0
  mseq : Nat := 0
  meas : Option MeasSt := none
  /-- When the last measurement closed (R272). -/
  closed : Option Int := none
  results : List ResultRec := []
  /-- Frequency fit: 0 idle, 1 one gate, 2 continuous gates; and the open gate (R277). -/
  fit : Nat := 0
  gate : Option GateSt := none
deriving DecidableEq, Repr


/-- A bin table from calibration: 128 centres in 1/16 ps, and its source, 1 code density or 2 dither (R299). -/
structure BinTab where
  centres : List Nat
  source : Nat
deriving DecidableEq, Repr

/-- A target of a bin run that collects: its number (0-15 EVIN rising, 16-31 EVIN falling, 32-79 whorls), whether from
dither, whether it is line b that is measured, the two half histograms once complete, and whether the collection limit has passed in vain (R295, R296). -/
structure CalTarget where
  id : Nat
  dither : Bool
  lineB : Bool := false
  hist : Option (List Nat × List Nat) := none
  failed : Bool := false
deriving DecidableEq, Repr

/-- A port run (R300 to R304). -/
structure PortRun where
  port : Nat
  method : Nat
  ref : Nat
  pulse : Nat
  /-- RefInPulseSeq, relocks and path steps of the port when it began. -/
  seq0 : Nat
  locks0 : Nat
  steps0 : Nat
  /-- Sensor values when the measuring phase began, whether one has moved too far, and the sum and count of samples. -/
  temps : List Int := []
  warmed : Bool := false
  tempSum : Int := 0
  tempCount : Nat := 0
  /-- An accepted result: the new delays and the reference temperature. -/
  result : Option (Int × Int × Int) := none
deriving DecidableEq, Repr

/-- A table ready to commit at the boundary: target, line, centres in 1/16 ps, from dither (R299). -/
structure TableDue where
  id : Nat
  lineB : Bool
  table : List Nat
  dither : Bool
deriving DecidableEq, Repr

/-- The calibration sequencer (chapter 09). -/
structure CalSt where
  /-- A bin run is armed and has not begun to collect. -/
  armed : Bool := false
  /-- The targets of the bin run in progress that are not evaluated. -/
  targets : Option (List CalTarget) := none
  port : Option PortRun := none
  /-- A bin run is due at the first boundary (R293). -/
  due : Bool := false
  /-- Tables accepted in this Turn. -/
  commits : List TableDue := []
  /-- The port result commits at the boundary (R304). -/
  portCommit : Bool := false
  /-- UptimeNs at which the last run started (R305). -/
  lastStart : Option Nat := none
  /-- Work item 7 overran in the Turn before with this step (R48). -/
  repeated : Bool := false
  /-- Host steps: the target that collects, the step that completes in work item 7 or, a commit, at the boundary, the table evaluated, and the count of
  Turns started when the last step completed (R309). -/
  host : Option CalTarget := none
  hostStep : Nat := 0
  hostTable : Option TableDue := none
  hostDone : Option Nat := none
  /-- The EVIN channels, and the whorl targets, whose line b serves; and the calibrated tables of both lines by target, those of
  line b under the target plus 128 (R299). -/
  lineB : List Nat := []
  tables : List (Nat × Option BinTab) := []
deriving DecidableEq, Repr

/-- A learn event (R331, R335): source address and FID, ingress port, 1 new or 2 move, and the Turn it was queued in. -/
structure LearnEvent where
  mac : Nat
  fid : Nat
  port : Nat
  type : Nat
  turn : Nat
  /-- That Turn by the count of Turns started, by which it ages (R31). -/
  started : Nat := 0
deriving DecidableEq, Repr

/-- What the parser extracts of IP (R319). -/
structure IpInfo where
  v6 : Bool
  sa : List Byte
  da : List Byte
  proto : Nat
  /-- Source and destination port, as on the wire; none for fragments and truncated headers. -/
  ports : Option (List Byte × List Byte) := none
  /-- Offset of the transport header. -/
  l4 : Nat
deriving DecidableEq, Repr

/-- A PTP header: messageType, majorSdoId, domainNumber and its offset (R319). -/
structure PtpInfo where
  type : Nat
  sdo : Nat
  domain : Nat
  at_ : Nat
deriving DecidableEq, Repr

/-- What the parser found (R317 to R319). -/
structure Parsed where
  da : List Byte
  sa : List Byte
  sTag : Option Nat := none
  cTag : Option Nat := none
  /-- Offset of the EtherType after the tags. -/
  at_ : Nat
  ethertype : Nat
  ip : Option IpInfo := none
  ptp : Option PtpInfo := none
deriving DecidableEq, Repr

/-- A copy the forwarding decision calls for (R337 to R342): where it goes, its class, and how it leaves. -/
structure CopyPlan where
  /-- Output: P0-P47, 48 for HP. -/
  out : Nat
  cls : Nat
  /-- The mirror copy: the frame as received (R341). -/
  mirror : Bool := false
  /-- The offset of the classification tag, where it is removed (R339). -/
  untag : Option Nat := none
  /-- A tag is added: its TPID and its TCI, after the source address or after an S-tag (R339). -/
  addTag : Option (Nat × Nat × Bool) := none
  /-- Launch offset and late tolerance of its scheduled stream entry, in ns (R377, R378). -/
  launch : Option (Nat × Nat) := none
  /-- Launch time in spindle time and late tolerance of a direct-mode host frame (R378). -/
  launchAt : Option (Int × Nat) := none
  /-- Reasons for delivery to HP (R355). -/
  reasons : Nat := 0
  /-- The transmit stamp is inserted as the frame leaves (R112, R551). -/
  oneStep : Bool := false
deriving DecidableEq, Repr

/-- What the forwarding decision gave a frame, and what the stages before it read, which the frame keeps (R315). -/
structure Decision where
  /-- What the parser found, with the port objects of its binding cycle (R315). -/
  parsed : Option Parsed := none
  plans : List CopyPlan := []
  /-- The stream it matched (R320). -/
  stream : Option Nat := none
  /-- A Reel copy is made (R342). -/
  reel : Bool := false
  /-- The provisional learn event (R331). -/
  learn : Option LearnEvent := none
  /-- Its source hit a STATIC entry of another port (R331). -/
  staticViolation : Bool := false
  /-- The whole frame had arrived at pipeline entry (R365). -/
  whole : Bool := false
  /-- Classification VID (R324), reported in receive descriptors (R553). -/
  vid : Nat := 0
  /-- Classification PCP, by which PFC counts cells (R391). -/
  pcp : Nat := 0
  /-- The transparent clock domain whose event message it is (R138). -/
  tcDomain : Option Nat := none
  /-- Path delay and asymmetry of its ingress port as it arrived, which a Sync of a P2P domain gains (R141). -/
  tcAdd : Int := 0
deriving DecidableEq, Repr

/-- A frame from its first byte until its last copy is gone. -/
structure Frame where
  /-- Ingress port, 48 for a frame injected on HP. -/
  port : Nat
  /-- The bytes on the line from the destination address to the FCS. -/
  bytes : List Byte
  /-- The PCS reported an error or the frame was cut short (R415). -/
  codeErr : Bool := false
  /-- The group filter in force when its destination address was complete discards it (R417). -/
  filtered : Bool := false
  /-- Its first byte found the ingress FIFO full: it is discarded whole (R314). -/
  overflowed : Bool := false
  /-- Receive stamp t_inst in 2^-16 ns (R124), and the refined stamp of a PTP event message for the host (R553). -/
  stamp : Int := 0
  refined : Option Int := none
  /-- The stamp of such a message before its refinement (R119). -/
  awaits : Option StampSt := none
  /-- The Turn it was received in (R395). -/
  turn : Nat := 0
  /-- Traced, and steered synth not LOCKED, at its stamp (R395). -/
  traced : Bool := false
  holding : Bool := false
  entered : Bool := false
  ended : Bool := false
  truncated : Bool := false
  bad : Bool := false
  /-- A host frame padded as it was taken in (R418). -/
  padded : Bool := false
  decision : Option Decision := none
  replicated : Bool := false
  /-- Landing cells its Reel copy holds until its record is written (R394). -/
  reelCells : Nat := 0
  /-- Copies that exist in a queue or in transmission. -/
  copies : Nat := 0
  /-- The transmit ring and descriptor it came from (R551). -/
  ring : Option (Nat × Nat) := none
deriving DecidableEq, Repr

/-- A table operation as it was commanded: TableOpCmd, TableOpTable, TableOpIndex and the entry TableOpData spells (R348, R350). -/
structure TableOp where
  code : Nat
  table : Nat
  index : Nat
  entry : Nat
deriving DecidableEq, Repr

/-- The four tables and the learn queue (R320 to R350). An entry is held as the number its bytes spell. -/
structure FwdSt where
  /-- Frames by number, and the number of the next. -/
  frames : List (Nat × Option Frame) := []
  nextFrame : Nat := 0
  /-- The frame being received on each port, plus one; 0 for none. -/
  receiving : List (Nat × Nat) := []
  /-- Frames in each port's ingress FIFO, oldest first (R314). -/
  fifo : List (Nat × List Nat) := []
  /-- Frames ahead of the replication stage of each pipeline, in entry order (R315). -/
  stage : List (Nat × List Nat) := []
  /-- The port that entered each pipeline last, plus one; 0 for none (R313). -/
  lastEntered : List (Nat × Nat) := []
  mac : List (Nat × Nat) := []
  vlan : List (Nat × Nat) := []
  stream : List (Nat × Nat) := []
  skein : List (Nat × Nat) := []
  learnQueue : List LearnEvent := []
  /-- The table operation that runs (R350). -/
  tableOp : Option TableOp := none
  /-- Frames of each stream that have passed the decision in the Turn in progress (R382). -/
  budgetUsed : List (Nat × Nat) := []
deriving DecidableEq, Repr

/-- A PTP message the device sends (R111 to R114): its messageType and sequenceId, its timestamp field and
correctionField in 2^-16 ns, and the requester it answers. -/
structure PtpMsg where
  type : Nat
  seq : Nat
  time : Int := 0
  corr : Int := 0
  requester : Nat := 0
  /-- The receive stamp of the request, from which the turnaround is formed (R114). -/
  t2 : Int := 0
  twoStep : Bool := false
  /-- The transparent clock domain it belongs to, none for the boundary clock (R141). -/
  domain : Option Nat := none
deriving DecidableEq, Repr

/-- A frame the device's engines send (R364, R391, R442, R507, R509): what it says. -/
inductive EngineMsg where
  /-- A PTP message. -/
  | ptp (m : PtpMsg)
  /-- Announce: sequenceId and what it says. -/
  | announce (seq : Nat) (m : AnnounceMsg)
  /-- Signaling with an L1_SYNC TLV, and whether it reports L1_SYNC_UP (R115). -/
  | l1Sync (seq : Nat) (up : Bool)
  /-- ESMC information or event PDU with its SSM code (R105). -/
  | esmc (event : Bool) (ql : Nat)
  /-- A loopback beacon (R442). -/
  | beacon
  /-- A response of the dictionary server, or its answer to a request for an address (R507, R508): the frame up to its FCS. -/
  | reply (frame : List Byte)
deriving DecidableEq, Repr

/-- What a copy carries: a frame of the store, or a frame an engine made. -/
inductive Payload where
  | frame (id : Nat)
  | engine (m : EngineMsg) (len : Nat)
deriving DecidableEq, Repr

/-- The pool a copy's cells came from (R358 to R360). -/
inductive Pool where
  | fastGuarantee | fastShared | deepGuarantee | deepShared | hp
deriving DecidableEq, Repr

/-- A copy in a queue or in transmission (R343). -/
structure Copy where
  payload : Payload
  plan : CopyPlan
  pool : Pool
  /-- Cells it holds or has reserved (R365). -/
  cells : Nat
  /-- Landing cells it holds (R361). -/
  landing : Nat := 0
  /-- The port whose ingress cells it counts in, none for engine frames (R391). -/
  ingress : Option Nat := none
  /-- The classification PCP it counts under (R391). -/
  pcp : Nat := 0
  /-- Admission instant in UptimeNs (R370). -/
  admitted : Nat := 0
  /-- Launch time in spindle time and late tolerance in ns, fixed at admission (R378). -/
  launch : Option (Int × Nat) := none
  cut : Bool := false
  /-- Found to hold an uncorrectable ECC error (R362). -/
  ecc : Bool := false
deriving DecidableEq, Repr

/-- A transmission in progress: the copy and the bytes as they leave. -/
structure TxSt where
  copy : Copy
  bytes : List Byte := []
  /-- The transmit stamp at the stamp point (R121). -/
  stamp : Int := 0
  stomped : Bool := false
  truncated : Bool := false
  padded : Bool := false
deriving DecidableEq, Repr

/-- A PAUSE or PFC frame due: XOFF or XON, for all priorities or for one (R391). -/
structure PauseDue where
  xoff : Bool
  prio : Option Nat
deriving DecidableEq, Repr

/-- What each port keeps for its transmitter, its gates and its pauses. -/
structure EgressSt where
  /-- The transmission in progress. -/
  tx : Option TxSt := none
  /-- The DRR class served last (R372). -/
  lastDrr : Nat := 7
  /-- Priorities paused by the peer: bits 0-7 by PFC, bit 8 by PAUSE (R389, R390). -/
  paused : Nat := 0
  /-- Headroom cells in use (R366). -/
  headroom : Nat := 0
  /-- PAUSE and PFC frames due (R391). -/
  due : List PauseDue := []
deriving DecidableEq, Repr

/-- Queues, schedules, the Reel and the statistics (R358 to R398, R420). -/
structure BufSt where
  /-- Queue c of port p at key 8 p + c; the copies for HP at key 384. -/
  queues : List (Nat × List Copy) := []
  ports : List (Nat × EgressSt) := []
  /-- DRR deficits at key 8 p + c (R372). -/
  deficit : List (Nat × Nat) := []
  /-- Cells held by copies received on a port, by classification PCP, at key 8 p + pcp (R391). -/
  pfcCells : List (Nat × Nat) := []
  /-- Gate list entries of the Armature and of the Maquette at key 64 p + i (R373, R383). -/
  armGates : List (Nat × Nat) := []
  maqGates : List (Nat × Nat) := []
  /-- The stream image of the Maquette (R383). -/
  maqStream : List (Nat × Nat) := []
  /-- A Maquette copy runs (R386). -/
  copying : Bool := false
  /-- Cells in use of the fast shared and of the deep shared pool (R358, R359). -/
  fastSharedUsed : Int := 0
  deepSharedUsed : Int := 0
  /-- The two store fills stand above their thresholds (R369). -/
  fastAbove : Bool := false
  deepAbove : Bool := false
  /-- The Reel partition (R394). -/
  reel : List Host.Cell := []
  /-- SEQ of the next record, records lost since the last one, and a step since the last one (R395). -/
  reelSeq : Nat := 0
  reelLost : Bool := false
  reelStep : Bool := false
  /-- A trigger waits for the first record written after it (R397). -/
  reelTrigger : Bool := false
  /-- Bytes written since the trigger, and bytes kept before it (R396). -/
  reelSince : Nat := 0
  reelHeld : Nat := 0
  /-- A Reel command waiting for the boundary (R396). -/
  reelCmd : Option Nat := none
  /-- Event sources raised, and streams recorded, in the Turn in progress and in the one before (R397). -/
  raisedNow : Nat := 0
  raisedBefore : Nat := 0
  recordedNow : List Nat := []
  recordedBefore : List Nat := []
  /-- MAC statistics: counter k of port p at key 64 p + k, the saturation mask at key 64 p + 41 (R420, R422). -/
  stats : List (Nat × Nat) := []
deriving DecidableEq, Repr


/-- A lane (R431 to R447). -/
structure LaneSt where
  /-- The lane PLL it uses, 0 A or 1 B (R431). -/
  pll : Option Nat := none
  /-- CDR_ACQUIRE was entered from SLEEP (R434). -/
  fromSleep : Bool := false
  /-- A coefficient set of the host, and the factory preset, that wait for the boundary (R439, R458). -/
  hostSet : Option (List Byte) := none
  preset : Bool := false
  /-- The host has delivered a set since CDR_ACQUIRE was entered (R31). -/
  delivered : Bool := false
  /-- Coefficients that work item 8 has adapted wait for the boundary (R44). -/
  adapted : Option (List Byte) := none
  /-- The last set the host delivered, and the mode F6 last ran in (R35). -/
  lastHost : Option (List Byte) := none
  f6Host : Bool := false
  /-- RxSlip, RxGearbox and FEC, deskew or codeword position of the last lock, and TxGearbox of the last transmit lock
  (R126). -/
  rxPos : Nat × Nat × Nat := (0, 0, 0)
  txPos : Nat := 0
deriving DecidableEq, Repr

/-- The Native Quad of a quad (R449 to R456), lanes as masks of four bits. -/
structure NqSt where
  /-- Lanes good at this receiver, lanes lost and not restored, and lanes the peer reports good. -/
  good : Nat := 0
  lost : Nat := 0
  peerGood : Nat := 15
  /-- The transmit set named for a coming marker, and whether it is a retreat. -/
  txNext : Option (Nat × Bool) := none
  /-- The set a widening aims at, while its lanes wake. -/
  widening : Option Nat := none
  /-- The peer's transmit set named for a coming marker. -/
  rxNext : Option Nat := none
  /-- Windows at or below the thinning threshold in a row since the last set change. -/
  low : Nat := 0
  /-- SEQ of the lane-set blocks sent (R450). -/
  seq : Nat := 0
deriving DecidableEq, Repr

/-- Lanes, quads and port links (chapter 13). -/
structure LineSt where
  lanes : List (Nat × LaneSt) := []
  nqs : List (Nat × NqSt) := []
  /-- Ports whose LoopCheckHold has passed since their lanes locked (R444). -/
  checked : List Nat := []
deriving DecidableEq, Repr



/-- What a pair does at the next Turn boundary (R476). -/
inductive PairAct where
  /-- A takeover: the RedEventCause, and the cause with which the former active unit goes out of service. -/
  | take (event oos : Nat)
  /-- The standby is removed with a cause. -/
  | remove (cause : Nat)
deriving DecidableEq, Repr

/-- A unit of a redundant pair (R464 to R486). -/
structure UnitSt where
  /-- The checker flag (R469). -/
  checker : Bool := false
  /-- HEALTH bit [40] (R481). -/
  passed : Bool := false
  /-- Held by the fault limit (R485), and a return that waits for its isolated self-test (R484). -/
  held : Bool := false
  returning : Bool := false
  /-- SYNCING and in step with the active unit's record (R486), the count of Turns started at the entry into SYNCING, and
  matching comparisons in a row. -/
  loaded : Bool := false
  since : Nat := 0
  agreed : Nat := 0
  /-- What the health record holds (R483). -/
  passMask : Nat := 0
  failMask : Nat := 0
  lastPass : Nat := 0
  corrected : Nat := 0
  uncorrected : Nat := 0
  cycles : Nat := 0
  faults : List Nat := []
  /-- Heartbeat count and the last word sent (R471). -/
  seq : Nat := 0
  word : Nat := 0
deriving DecidableEq, Repr

/-- A heartbeat path of a pair (R474, R476): Turns in a row with slot 0 missed, with slot 0 received, and with slot 1
missed while slot 0 was received. -/
structure PathSt where
  missed : Nat := 0
  received : Nat := 0
  missed1 : Nat := 0
deriving DecidableEq, Repr

/-- A redundant pair. -/
structure PairSt where
  act : Option PairAct := none
  /-- A revert is due at the boundary, and UptimeNs since which the standby has been IN_STEP without a break (R487). -/
  revert : Bool := false
  holdFrom : Option Nat := none
  a : PathSt := {}
  b : PathSt := {}
deriving DecidableEq, Repr

/-- An image header (R592): what the device uses of it. -/
structure ImageSt where
  version : Nat := 0
  handover : Nat := 0
  handoverMin : Nat := 0
deriving DecidableEq, Repr

/-- Firmware, update and boot flash (R490 to R493, R590 to R593). -/
structure FwSt where
  /-- The firmware scratch partition where images are staged (R490). -/
  scratch : List Host.Cell := []
  verifying : Bool := false
  /-- The staged image, once verified, the running one, and the old one while a handover can fall back. -/
  staged : Option ImageSt := none
  running : ImageSt := {}
  before : Option ImageSt := none
  /-- The count of Turns started in the handover Turn, and whether the new core has been silent in it (R492). -/
  handedAt : Option Nat := none
  silent : Bool := false
  /-- The image that a reload of the cores reads from the flash when the copy in scratch fails (R600). -/
  flash : ImageSt := {}
  /-- Slot and GENERATION of the boot record in force (R591). -/
  slot : Nat := 0
  generation : Nat := 0
  /-- An update runs the second core into step (R491). -/
  completing : Bool := false
deriving DecidableEq, Repr

/-- Redundancy and firmware (chapter 14). -/
structure RedSt where
  /-- Units 0 spindle A, 1 spindle B, 2 core A, 3 core B. -/
  units : List (Nat × UnitSt) := []
  pairs : List (Nat × PairSt) := []
deriving DecidableEq, Repr


/-- A segmented transfer (R520, R521): a captured value, an object read in place, or a write with the bytes supplied so far
by offset. -/
inductive Transfer where
  | read (value : List Byte)
  | inPlace (key : Nat)
  | write (key total : Nat) (cells : List (Nat × Byte))
deriving DecidableEq, Repr

/-- What a session slot holds beside its objects (R514 to R522). -/
structure SessionSt where
  /-- The port or HP it runs over (R25). -/
  port : Nat := 0
  /-- Its datagrams carry a tag (R513, R514). -/
  secure : Bool := false
  /-- The nonces of an OPEN that awaits its PROVE, and the session key (R514, R515). -/
  nc : List Byte := []
  nd : List Byte := []
  ks : List Byte := []
  /-- Responses kept, by sequence number, the last 16 (R519). -/
  stored : List (Nat × List Byte) := []
  transfer : Option Transfer := none
  /-- A device-level fault has still to be reported to the client (R522). -/
  recover : Bool := false
deriving DecidableEq, Repr

/-- A datagram the server has taken (R506): the port it came by, its source MAC address, its source as MdpSessionPeer codes it,
the address it was sent to, and its UDP payload. -/
structure Datagram where
  port : Nat
  mac : List Byte
  peer : List Byte
  local_ : List Byte
  bytes : List Byte
deriving DecidableEq, Repr

/-- A request that waits for the dictionary server (R503). -/
inductive Waiting where
  | datagram (g : Datagram)
  | mailbox (n : Nat)
deriving DecidableEq, Repr

/-- A mailbox (R540 to R543). -/
structure MailboxSt where
  op : Nat := 0
  notify : Bool := false
  index : Nat := 0
  subindex : Nat := 0
  offset : Nat := 0
  length : Nat := 0
  total : Nat := 0
  valid : Bool := false
  busy : Bool := false
  code : Nat := 0
  seq : Nat := 0
  data : List Byte := List.replicate 64 0
  transfer : Option Transfer := none
  /-- The operation has executed: its code, its data area, and the MB_LENGTH and MB_TOTAL it leaves. -/
  done : Option (Nat × List Byte × Nat × Nat) := none
  /-- A device-level fault discarded its operation or transfer (R543). -/
  lost : Bool := false
deriving DecidableEq, Repr

/-- A failed PROVE (R516): UptimeNs and the source address. -/
structure Failure where
  time : Nat
  address : List Byte
deriving DecidableEq, Repr

/-- The dictionary server (R498 to R529, R540 to R546). -/
structure DictSt where
  /-- SERVER_READY (R535). -/
  ready : Bool := false
  sessions : List (Nat × SessionSt) := []
  boxes : List (Nat × MailboxSt) := []
  queue : List Waiting := []
  /-- The keys of L1 to L3, in OTP-backed storage (R517). -/
  keys : List (Nat × List Byte) := []
  failures : List Failure := []
  /-- Source addresses locked out (R516). -/
  lockouts : List (List Byte) := []
  /-- Values stored by window writes that their inconsistent groups do not use (R546). -/
  mixed : List (Nat × Val) := []
deriving DecidableEq, Repr


/-- What PCIe or SPI sees of its last transaction on the local map (R530 to R537): the model's own field, an output. -/
structure BusSt where
  /-- The words a read returned, before any in error. -/
  words : List Nat := []
  /-- It ended in a bus error: UR on PCIe, ERROR on SPI. -/
  error : Bool := false
  /-- The bytes of SDO from the fourth on, of an SPI transaction. -/
  sdo : List Byte := []
deriving DecidableEq, Repr

/-- A transmit descriptor the device has fetched and not yet written back (R550, R552). -/
structure TxPend where
  index : Nat
  notify : Bool
  /-- Written back only when the frame ends transmission or is discarded (R552). -/
  late : Bool
  status : Option Nat := none
  /-- Transmit stamp to report, where STAMP asks for it (R551). -/
  wantStamp : Bool := false
  stamp : Option Int := none
deriving DecidableEq, Repr

/-- A descriptor as it is written back (R552, R553): the fields its direction has. -/
structure DescBack where
  index : Nat
  status : Nat := 0
  length : Nat := 0
  flags : Nat := 0
  cls : Nat := 0
  port : Nat := 0
  reason : Nat := 0
  vid : Nat := 0
  stamp : Option Int := none
  frameLen : Nat := 0
  /-- The bytes written to its buffer (R553). -/
  data : List Byte := []
deriving DecidableEq, Repr

/-- A descriptor ring (R548): TX0-TX3 are rings 0-3, RX0-RX3 rings 4-7. -/
structure RingSt where
  baseLo : Nat := 0
  baseHi : Nat := 0
  enable : Bool := false
  active : Bool := false
  sizeLog2 : Nat := 4
  attnEn : Bool := false
  attnRoute : Nat := 0
  bufUnits : Nat := 8
  coalesce : Nat := 0
  tail : Nat := 0
  head : Nat := 0
  done : Nat := 0
  attention : Bool := false
  halted : Bool := false
  haltCause : Nat := 0
  seq : Nat := 0
  /-- Descriptors fetched and not written back, in ring order. -/
  fetched : List TxPend := []
  /-- Descriptors have completed since the last attention (R556). -/
  coalescing : Bool := false
  /-- TAIL was advanced to DONE while descriptors were outstanding: the ring counts as empty (R550). -/
  overrun : Bool := false
  /-- The descriptors written back at the latest time that any was, in ring order (R552, R553, R555). -/
  written : List DescBack := []
  /-- Receive rings: the copy in delivery and the bytes of it already written (R553). -/
  delivering : Option (Copy × Nat) := none
deriving DecidableEq, Repr


/-- The performance counters (R566 to R576). Counter k of bank b has key 8 b + k. -/
structure PerfSt where
  /-- Counts of the programmable counters, their configurations in force, and those written and not yet in force (R567). -/
  counts : List (Nat × Nat) := []
  cfg : List (Nat × Nat) := []
  staged : List Nat := []
  /-- WRAP, FLAGS [1], [2], [3] and [5] of the interval, records made, and SNAP_SEQ of each bank. -/
  wrap : List (Nat × Nat) := []
  flags : List (Nat × Nat) := []
  records : List (Nat × Nat) := []
  snaps : List (Nat × Nat) := []
  /-- TCLK cycles since reset (R566). -/
  tclk : Nat := 0
  /-- Events counted since SAMPLE_PERIOD was last reloaded, and sampling interrupts raised and not yet taken, of each counter
  (R576). -/
  since : List (Nat × Nat) := []
  raised : List (Nat × Nat) := []
  /-- Records captured at the boundary that work item 6 has to write: bank, record, and the counts it took (R572, R573). -/
  due : List (Nat × List Byte × List Nat) := []
  /-- The dump area: record at each place of its ring. -/
  dump : List (Nat × List Byte) := []
  /-- The sample buffer, oldest first (R576). -/
  samples : List (List Byte) := []
  /-- A bank has been read by the host since its last deadline (R575). -/
  read : List Nat := []
deriving DecidableEq, Repr

/-- A dictionary request of a spool program (R581): its slot, the object, the buffer, the largest length of a read or the
bytes of a write. -/
structure SpoolReq where
  slot : Nat
  key : Nat
  buffer : Nat
  max : Nat
  value : Option (List Byte)
deriving DecidableEq, Repr

/-- The run in progress: its slot, the limit it has and the CCLK cycles used, where it began, and what the device puts into a0
and a1: at the start what R579 says, and in a0 then the result of each system call (R580). -/
structure SpoolRun where
  slot : Nat
  limit : Nat
  used : Nat := 0
  entry : Nat := 0
  a0 : Int := 0
  a1 : Nat := 0
deriving DecidableEq, Repr

/-- The spool sandbox (R578 to R584). -/
structure SpoolSt where
  /-- The image written by segmented transfer, and the sandbox memory. -/
  image : List Host.Cell := []
  memory : List Host.Cell := []
  /-- How the last run of each slot ended, as its next a0: 0 done, 1 budget, 2 fault; 3 at the first run, the value of an
  unlisted slot (R579). -/
  endings : List (Nat × Nat) := []
  /-- Faulted runs in a row (R583). -/
  faulted : List (Nat × Nat) := []
  run : Option SpoolRun := none
  /-- Slots that have still to run in the Turn, and what is left of the applied budget (R582). -/
  ready : List Nat := []
  left : Nat := 0
  requests : List SpoolReq := []
  /-- Log entries, oldest first (R580). -/
  log : List (List Byte) := []
deriving DecidableEq, Repr


/-- Start-up and faults (chapter 18). -/
structure BootSt where
  /-- The last reset has ended (R587, R589). -/
  released : Bool := false
  /-- An image has been accepted and copied; both images were refused, so INTA_N is held asserted (R594). -/
  loaded : Bool := false
  refused : Bool := false
  /-- The PCIe function has started link training (R595). -/
  pcie : Bool := false
  /-- UptimeNs of the device-level faults of the last 3,600 s (R603), and of the detection of the latest (R600). -/
  faults : List Nat := []
  detected : Nat := 0
  /-- Causes whose conditions the restart waits for (R598, R611). -/
  held : List Nat := []
  /-- The cores are reloaded by the restart, and the spindle pair under cause 5 (R600). -/
  reloadCores : Bool := false
  reloadSpindles : Bool := false
  /-- Outputs limited to the test level: CLKOUT 0-7, PULSE at 8-23 (R608). -/
  limited : List Nat := []
  /-- UptimeNs of the last 1,000 corrected DRAM errors, oldest first (R610). -/
  eccTimes : List Nat := []
  /-- Temperatures and supply voltages have been sampled since reset (R612). -/
  tempSeen : Bool := false
  supplySeen : Bool := false
  /-- The firmware copy has an uncorrectable error (R610). -/
  scratchBad : Bool := false
deriving DecidableEq, Repr


/-- Everything the spec gives the block except the queue of waiting commands. -/
structure Dev where
  /-- The object dictionary (R498): every object whose value differs from its default. -/
  objs : List (Nat × Val) := [(0x210801, .num 2), (0x510601, .num 2)]
  /-- Registers that are no dictionary object, by local address (R534). -/
  regs : List (Nat × Nat) := []
  /-- Turn event sources recorded and not yet raised by work item 5 (R560). -/
  turnEvents : List Nat := []
  /-- How many free values the block has drawn so far: the model's own field, no part of the spec. -/
  freeCount : Nat := 0
  turn : TurnSt := {}
  time : TimeSt := {}
  timing : TimingSt := {}
  ref : RefSt := {}
  out : OutputSt := {}
  evins : List (Nat × EvinSt) := []
  cal : CalSt := {}
  line : LineSt := {}
  red : RedSt := {}
  fw : FwSt := {}
  perf : PerfSt := {}
  spool : SpoolSt := {}
  fwd : FwdSt := {}
  buf : BufSt := {}
  /-- The descriptor rings (R547). -/
  rings : List (Nat × RingSt) := []
  block : BlockSt := {}
  dict : DictSt := {}
  boot : BootSt := {}
  /-- What the last transaction on the local map answered. -/
  bus : BusSt := {}
deriving DecidableEq, Repr

/-- The state: the block and the commands that wait, first in, first out. -/
structure State where
  dev : Dev
  pending : List Instr
deriving DecidableEq, Repr

/-- Why the block would stop: the spec gives every command an effect, so nothing raises a fault. Safe. -/
inductive Fault where
deriving DecidableEq, Repr

/-- Why a command has no meaning. -/
inductive Refusal where
  /-- The command named has no meaning yet: raised by its arm of `exec` alone. Safe. -/
  | notModelled (mnemonic : String)
deriving DecidableEq, Repr

/-- The machine right after reset: every object at its default, spindle A and core A enabled (R464, R596), nothing
waiting. -/
def State.reset : State := { dev := {}, pending := [] }

end Sys2Proof.Machine
end

