-- ==== Sys2Proof/Machine/Bytes.lean ====
section
/-! DEFINITION. Bit fields, bytes and the time formats (R10, R62 to R65). -/

namespace Sys2Proof.Machine

/-- The field of `w` bits at bit `lo` of a number. -/
def bits (v lo w : Nat) : Nat := v / 2 ^ lo % 2 ^ w

/-- One bit of a number. -/
def bit (v n : Nat) : Bool := bits v n 1 == 1

/-- Set or clear one bit of a number. -/
def setBit (v n : Nat) (b : Bool) : Nat :=
  let cleared := v - bits v n 1 * 2 ^ n
  if b then cleared + 2 ^ n else cleared

/-- Read `n` bytes of a sparse memory. -/
def readBytes (m : List Host.Cell) (a n : Nat) : List Byte :=
  (List.range n).map fun i => Sparse.get (fun _ => 0) m (a + i)

/-- A number as 0 or 1. -/
def ofBool (b : Bool) : Nat := if b then 1 else 0

/-- The low `n` bytes of a number, least significant byte first (R62, R63). -/
def leBytes : Nat → Nat → List Byte
  | 0, _ => []
  | n + 1, v => BitVec.ofNat 8 v :: leBytes n (v / 256)

/-- The number bytes spell, least significant byte first. -/
def leNat : List Byte → Nat
  | [] => 0
  | b :: rest => b.toNat + 256 * leNat rest

/-- The low `n` bytes of a number, most significant byte first (network order). -/
def beBytes (n v : Nat) : List Byte := (leBytes n v).reverse

/-- The number bytes spell, most significant byte first. -/
def beNat (bs : List Byte) : Nat := leNat bs.reverse

/-- An integer as a two's-complement field of `w` bits. -/
def toField (w : Nat) (v : Int) : Nat := (v % (2 ^ w : Int)).toNat

/-- The integer a two's-complement field of `w` bits stands for. -/
def ofField (w : Nat) (v : Nat) : Int := if v < 2 ^ (w - 1) then v else (v : Int) - 2 ^ w

/-- One nanosecond in units of 2^-16 ns (R63). -/
abbrev nsT : Int := 65536

/-- One second in units of 2^-16 ns. -/
abbrev secT : Int := 65536000000000

/-- The largest time the device forms, 2^48 - 1 s (R65). -/
abbrev maxT : Int := (2 ^ 48 - 1) * secT

/-- The 12 bytes of a TIME96 value: FRACTION, NANOSECONDS, SECONDS (R62). -/
def timeBytes (t : Int) : List Byte :=
  leBytes 2 (t % 65536).toNat ++ leBytes 4 (t / 65536 % 1000000000).toNat ++ leBytes 6 (t / secT).toNat

/-- The TIME96 value of 12 bytes; none where the nanoseconds reach 1,000,000,000 (R62). -/
def timeOfBytes (bs : List Byte) : Option Int :=
  let ns := leNat ((bs.drop 2).take 4)
  if ns < 1000000000 then
    some (leNat (bs.drop 6 |>.take 6) * secT + ns * 65536 + leNat (bs.take 2))
  else none

/-- The value nearest to `v` within two bounds. -/
def clampI (lo hi v : Int) : Int := if v < lo then lo else if hi < v then hi else v

/-- A duration as a DUR64 (R63). One outside its range has no DUR64, and the spec does not say what is kept of it: a free value
of the range, by the duration (log entry 45). -/
def dur (v : Int) : Int :=
  if -(2 ^ 63) < v && v < 2 ^ 63 then v else clampI (1 - 2 ^ 63) (2 ^ 63 - 1) (Config.wideDur v)

/-- `num / den` to an integer, rounded up or down as `Config.roundsUp` says where it is no integer. -/
def quot (up : Int → Nat → Bool) (num : Int) (den : Nat) : Int :=
  num / den + (if num % den != 0 && up num den then 1 else 0)

/-- The quotient rounded to the nearest integer, halves upwards. -/
def nearest (num : Int) (den : Nat) : Int := (2 * num + den) / (2 * den)

/-- The quotient rounded up. -/
def ceilDiv (num : Int) (den : Int) : Int := -((-num) / den)

end Sys2Proof.Machine
end

