-- ==== Sys2Proof/Machine/Ops.lean ====
section
/-! DEFINITION. The named operations every meaning uses: reading and writing the object dictionary, counters, bit
fields, free values, event latches and block states. -/

namespace Sys2Proof.Machine

/-! ## The object dictionary -/

/-- The row of the object tables that holds a key, if any (R498). -/
def objRow (k : Nat) : Option ObjRow :=
  let idx := k / 256
  let sub := k % 256
  (objPage (idx / 256)).find? fun r =>
    decide (r.idxLo ≤ idx) && decide (idx ≤ r.idxHi) && decide (r.subLo ≤ sub) && decide (sub ≤ r.subHi)

/-- The highest subindex of the array object of an index, 0 where it is no array (R499). -/
def highestSub (idx : Nat) : Nat :=
  (objPage (idx / 256)).foldl
    (fun m r => if decide (r.idxLo ≤ idx) && decide (idx ≤ r.idxHi) && decide (1 ≤ r.subLo) then max m r.subHi else m) 0

/-- The default a row gives to the instance at a subindex. -/
def ObjRow.defaultAt (r : ObjRow) (sub : Nat) : Val :=
  match r.dflt, r.ty with
  | .ones, .octets n => .oct (List.replicate n 0xFF)
  | .text cs, _ => .oct (cs.map (BitVec.ofNat 8))
  | .const _, .octets n => .oct (List.replicate n 0)
  | .const _, .vstring _ => .oct []
  | .const v, _ => .num v
  | .byInst a b, _ => .num (a * ((sub : Int) - 1) + b)
  | .perSub l, _ => .num (match l.find? (fun e => decide (sub ≤ e.1)) with | some e => e.2 | none => 0)
  | .ones, _ => .num 0

/-- What an object reads as while nothing has changed it: its default; subindex 0 of an array reads its highest
subindex (R499). -/
def objDefault (k : Nat) : Val :=
  match objRow k with
  | some r => r.defaultAt (k % 256)
  | none => .num (if k % 256 = 0 then highestSub (k / 256) else 0)

/-- The value of an object. -/
def Dev.rdV (d : Dev) (k : Nat) : Val := Sparse.get objDefault d.objs k

/-- The value of a numeric object. -/
def Dev.rd (d : Dev) (k : Nat) : Int := (d.rdV k).toInt

/-- The value of an unsigned object. -/
def Dev.rdN (d : Dev) (k : Nat) : Nat := (d.rd k).toNat

/-- The value of a BOOL object. -/
def Dev.rdB (d : Dev) (k : Nat) : Bool := d.rd k != 0

/-- Write an object. -/
def Dev.wrV (d : Dev) (k : Nat) (v : Val) : Dev := { d with objs := Sparse.set objDefault d.objs k v }

/-- Write a numeric object. -/
def Dev.wr (d : Dev) (k : Nat) (v : Int) : Dev := d.wrV k (.num v)

/-- Write a BOOL object. -/
def Dev.wrB (d : Dev) (k : Nat) (b : Bool) : Dev := d.wr k (if b then 1 else 0)

/-- Add to a U32 counter that wraps. -/
def Dev.add32 (d : Dev) (k n : Nat) : Dev := d.wr k ((d.rdN k + n) % 2 ^ 32 : Nat)

/-- Count one in a U32 counter that wraps. -/
def Dev.inc (d : Dev) (k : Nat) : Dev := d.add32 k 1

/-- Write a list of objects in order. -/
def Dev.wrs (d : Dev) : List (Nat × Int) → Dev
  | [] => d
  | (k, v) :: rest => (d.wr k v).wrs rest

/-- A register that is no dictionary object; it reads 0 until written. -/
def Dev.reg (d : Dev) (a : Nat) : Nat := Sparse.get (fun _ => 0) d.regs a

/-- Write a register that is no dictionary object. -/
def Dev.setReg (d : Dev) (a v : Nat) : Dev := { d with regs := Sparse.set (fun _ => 0) d.regs a v }

/-- Do something for each number of a list, in order. -/
def Dev.forEach (d : Dev) (f : Nat → Dev → Dev) : List Nat → Dev
  | [] => d
  | n :: rest => (f n d).forEach f rest

/-- Do something when a condition holds. -/
def Dev.when (d : Dev) (c : Bool) (f : Dev → Dev) : Dev := if c then f d else d

/-! ## Free values -/

/-- Draw the next free value: a number nothing constrains (the spec leaves it open). -/
def Dev.free (d : Dev) : Int := Config.freeValue d.freeCount

/-- Count the free value drawn, so that the next one is another. -/
def Dev.drawn (d : Dev) : Dev := { d with freeCount := d.freeCount + 1 }

/-! ## The outcome of a command -/

/-- A command whose effect on the block is `f`: the queue is not its concern. -/
def State.effect (s : State) (f : Dev → Dev) : Host.Outcome State Fault Refusal := .next { s with dev := f s.dev }

/-! ## Event latches (R557 to R561) -/

/-- Whether any source that is enabled and routed to a pin is pending (R559), ring attentions apart. -/
def Dev.eventPin (d : Dev) (route : Int) : Bool :=
  (List.range 64).any fun n =>
    decide (2 ^ 31 ≤ d.rdN (inst Obj.EventStatus n)) && d.rdB (inst Obj.EventEnable n)
      && (d.rd (inst Obj.EventRoute n) == route)

/-- The latch after one more raise: PENDING set, COUNT saturating at 255, SEQ modulo 4,096 (R557). -/
def latchRaise (st : Nat) : Nat :=
  2 ^ 31 + min 255 (st / 2 ^ 16 % 256 + 1) * 2 ^ 16 + (st % 4096 + 1) % 4096

/-- Raise an instant event source (R557, R560). -/
def Dev.raise (d : Dev) (n : Nat) : Dev :=
  let d := ((d.wr (inst Obj.EventStatus n) (latchRaise (d.rdN (inst Obj.EventStatus n)))).inc
    (inst Obj.EventRaiseTotal n)).wr (inst Obj.EventLastRaiseTurn n) (d.rd Obj.TurnNumber)
  { d with buf := { d.buf with raisedNow := d.buf.raisedNow ||| 2 ^ n } }

/-- Record the condition of a Turn event source: work item 5 raises it (R560). -/
def Dev.record (d : Dev) (n : Nat) : Dev :=
  { d with turnEvents := if d.turnEvents.contains n then d.turnEvents else d.turnEvents ++ [n] }

end Sys2Proof.Machine

namespace Sys2Proof

open Machine

/-! ## Blocks (R15, R18) -/

/-- How many instances a kind of block has (R15). -/
def BlockKind.count : BlockKind → Nat
  | .spindle | .core => 2
  | .refIn | .alignLine | .tcDomain | .table | .i2c => 4
  | .clkOut => 8
  | .pulse | .evin | .mdpSession => 16
  | .quad => 12
  | .ply => 24
  | .ptpEngine | .whorl | .queueSet | .lane | .laneAdapt | .patternTest => 48
  | .port => 49
  | .counterBank | .perfDump => 3
  | .servo | .refSelector | .mref | .calSequencer | .learning | .armature | .deepStore | .mirror | .reel
  | .reelTrigger | .spool => 1

/-- The control object of a kind of block, and its block state object. The spec gives the counter banks and the I2C masters
none: they have keys outside the dictionary's indices, which no access reaches (log entry 43). -/
def BlockKind.objs : BlockKind → Nat × Nat
  | .spindle => (Obj.SpindleControl, Obj.SpindleBlockState)
  | .servo => (Obj.ServoControl, Obj.ServoBlockState)
  | .refSelector => (Obj.RefSelectorControl, Obj.RefSelectorBlockState)
  | .refIn => (Obj.RefInControl, Obj.RefInBlockState)
  | .ptpEngine => (Obj.PtpEngineControl, Obj.PtpEngineBlockState)
  | .whorl => (Obj.WhorlControl, Obj.WhorlBlockState)
  | .ply => (Obj.PlyControl, Obj.PlyBlockState)
  | .tcDomain => (Obj.TcDomainControl, Obj.TcDomainBlockState)
  | .alignLine => (Obj.AlControl, Obj.AlBlockState)
  | .clkOut => (Obj.ClkOutControl, Obj.ClkOutBlockState)
  | .pulse => (Obj.PulseControl, Obj.PulseBlockState)
  | .evin => (Obj.EvinControl, Obj.EvinBlockState)
  | .mref => (Obj.MrefControl, Obj.MrefBlockState)
  | .calSequencer => (Obj.CalControl, Obj.CalBlockState)
  | .port => (Obj.PortControl, Obj.PortBlockState)
  | .queueSet => (Obj.QueueSetControl, Obj.QueueSetBlockState)
  | .table => (Obj.TableControl, Obj.TableBlockState)
  | .learning => (Obj.LearnControl, Obj.LearnBlockState)
  | .armature => (Obj.ArmatureControl, Obj.ArmatureBlockState)
  | .deepStore => (Obj.DeepStoreControl, Obj.DeepStoreBlockState)
  | .mirror => (Obj.MirrorControl, Obj.MirrorBlockState)
  | .reel => (Obj.ReelControl, Obj.ReelBlockState)
  | .reelTrigger => (Obj.ReelTriggerControl, Obj.ReelTriggerBlockState)
  | .quad => (Obj.QuadControl, Obj.QuadBlockState)
  | .lane => (Obj.LaneControl, Obj.LaneBlockState)
  | .laneAdapt => (Obj.LaneAdaptControl, Obj.LaneAdaptBlockState)
  | .patternTest => (Obj.PtControl, Obj.PtBlockState)
  | .core => (Obj.CoreControl, Obj.CoreBlockState)
  | .mdpSession => (Obj.MdpSessionControl, Obj.MdpSessionBlockState)
  | .counterBank => (0x0F0000, 0x0F0100)
  | .i2c => (0x0F0200, 0x0F0300)
  | .perfDump => (Obj.PerfDumpControl, Obj.PerfDumpBlockState)
  | .spool => (Obj.SpoolControl, Obj.SpoolBlockState)

/-- Whether a kind of block has one instance, whose objects then use subindex 0 (R499). -/
def BlockKind.single (k : BlockKind) : Bool := k.count == 1

/-- The key of an object of a block. -/
def BlockId.key (b : BlockId) (o : Nat) : Nat := if b.kind.single then o else inst o b.n

/-- The key of a block's control object. -/
def BlockId.ctrl (b : BlockId) : Nat := b.key b.kind.objs.1

/-- The key of a block's state object. -/
def BlockId.state (b : BlockId) : Nat := b.key b.kind.objs.2

/-- Whether the block exists. -/
def BlockId.ok (b : BlockId) : Bool := decide (b.n < b.kind.count)

end Sys2Proof

namespace Sys2Proof.Machine

/-- The state of a block: 0 DISABLED, 1 ENABLING, 2 ENABLED, 3 DISABLING, 4 FAULTED (R18). -/
def Dev.blk (d : Dev) (k : BlockKind) (n : Nat) : Int := d.rd (BlockId.state ⟨k, n⟩)

/-- The block is ENABLED. -/
def Dev.on (d : Dev) (k : BlockKind) (n : Nat) : Bool := d.blk k n == 2

end Sys2Proof.Machine
end

