-- ==== Sys2Proof/Machine/TimeBase.lean ====
section
/-! DEFINITION. The time base (chapter 03) and the arming of changes at a named Turn (chapter 02): counters, steps,
the Turn change queue, snapshots and overrun records. -/

namespace Sys2Proof.Machine

/-! ## Performance counters (R566, R567) -/

/-- A number held for each key, 0 where none is. -/
def numAt (l : List (Nat × Nat)) (k : Nat) : Nat := Sparse.get (fun _ => 0) l k

/-- Set a number held for a key. -/
def setNum (l : List (Nat × Nat)) (k v : Nat) : List (Nat × Nat) := Sparse.set (fun _ => 0) l k v

/-- A counter with SAMPLE set counts `n` events down from its period, of which a value below 4,096 acts as 4,096; each time it
reaches 0 it raises a sampling interrupt and reloads (R568, R576). -/
def perfSampled (i n : Nat) (d : Dev) : Dev :=
  let p := max (d.rdN (inst Obj.PerfSamplePeriod i)) 4096
  let s := numAt d.perf.since i + n
  { d with perf := { d.perf with since := setNum d.perf.since i (s % p),
                                 raised := setNum d.perf.raised i (numAt d.perf.raised i + s / p) } }

/-- One counter counts `n` events if it is enabled for them: it wraps modulo 2^48 and a wrap sets its bit of WRAP. -/
def perfCounter (b event i n k : Nat) (d : Dev) : Dev :=
  let c := numAt d.perf.cfg (8 * b + k)
  if bit c 16 && bits c 0 8 == event && (bits c 8 8 == 0xFF || bits c 8 8 == i) then
    let v := numAt d.perf.counts (8 * b + k) + n
    let w := numAt d.perf.wrap b
    let d := d.when (bit c 17) (perfSampled (8 * b + k) n)
    { d with perf := { d.perf with counts := setNum d.perf.counts (8 * b + k) (v % 2 ^ 48),
                                   wrap := if 2 ^ 48 ≤ v then setNum d.perf.wrap b (setBit w k true) else d.perf.wrap } }
  else d

/-- `n` events of a code happen at an instance; the counters of a bank that is ENABLED and runs count them (R15, R568). -/
def Dev.counted (d : Dev) (b event i n : Nat) : Dev :=
  if n != 0 && d.on .counterBank b && d.rdB (inst Obj.PerfBankRun b) then d.forEach (perfCounter b event i n) (List.range 8) else d

/-- Set FLAGS bits of the interval of every bank (R570). -/
def Dev.perfFlags (d : Dev) (m : Nat) : Dev :=
  { d with perf := { d.perf with
      flags := (List.range 3).foldl (fun l b => setNum l b (numAt l b ||| m)) d.perf.flags } }

/-! ## Spindles and their counters (R67 to R72) -/

/-- The counter and NCO of spindle `u` (0 A, 1 B). -/
def Dev.spindle (d : Dev) (u : Nat) : SpindleSt := Sparse.get (fun _ => {}) d.time.spindles u

/-- Change the counter and NCO of spindle `u`. -/
def Dev.setSpindle (d : Dev) (u : Nat) (f : SpindleSt → SpindleSt) : Dev :=
  { d with time := { d.time with spindles := Sparse.set (fun _ => {}) d.time.spindles u (f (d.spindle u)) } }

/-- The active spindle, 0 or 1 (SpindleRole, R97). -/
def Dev.active (d : Dev) : Nat := if d.rd (inst Obj.SpindleRole 1) == 0 then 1 else 0

/-- The other spindle. -/
def Dev.standby (d : Dev) : Nat := 1 - d.active

/-- A spindle's time as a TIME96 value: the 32 further bits are never reported (R67). -/
def Dev.spindleTime (d : Dev) (u : Nat) : Int := ((d.spindle u).cnt / 2 ^ 32 : Nat)

/-- The time of the device: the active spindle's (R96). -/
def Dev.now (d : Dev) : Int := d.spindleTime d.active

/-- A unit of the redundant pairs: 0 spindle A, 1 spindle B, 2 core A, 3 core B (R464). -/
def Dev.unit (d : Dev) (u : Nat) : UnitSt := Sparse.get (fun _ => {}) d.red.units u

/-- Change a unit. -/
def Dev.setUnit (d : Dev) (u : Nat) (f : UnitSt → UnitSt) : Dev :=
  { d with red := { d.red with units := Sparse.set (fun _ => {}) d.red.units u (f (d.unit u)) } }

/-- RedUnitState of a unit (R464). -/
def Dev.unitState (d : Dev) (u : Nat) : Int := d.rd (inst Obj.RedUnitState u)

/-- The counter of a spindle counts, unless the spindle is DISABLED (R15, R70, R72). -/
def Dev.spindleRuns (d : Dev) (u : Nat) : Bool := d.blk .spindle u != 0

/-- The counters count: they have begun, and PLINTH_IN is present (R72, R219). -/
def Dev.counting (d : Dev) : Bool := d.time.counting && d.rdB Obj.PlinthPresent

/-- The increment of spindle `u` in units of 2^-48 ns for each cycle that advances it: a TCLK cycle of the steered
synth, a TCLK cycle of the fixed synth, or a Plinth cycle while both synths are unlocked (R70, R220). -/
def Dev.increment (d : Dev) (u : Nat) : Nat :=
  let ns : Int := if d.time.perPlinth && !d.time.tclkSteered then 40 else 2
  let base : Int := ns * 2 ^ 48 + (if d.time.tclkSteered then 0 else ns * d.time.yHeld)
  let apart : Int :=
    if u == d.active then 0
    else ns * (d.rd (inst Obj.NcoWord u) - d.rd (inst Obj.NcoWord d.active))
  (base + apart).toNat

/-- Advance both counters by `n` cycles; the counter of a DISABLED spindle stops (R15, R70). The active word accumulates phase
(R186). -/
def Dev.advance (d : Dev) (n : Nat) : Dev :=
  if d.counting then
    let incs := (d.increment 0, d.increment 1)
    let bump (u i : Nat) (d : Dev) : Dev :=
      d.when (d.spindleRuns u) fun d => d.setSpindle u fun s => { s with cnt := s.cnt + n * i }
    let cycle := if d.time.perPlinth && !d.time.tclkSteered then 40 else 2
    let d := { d with
      ref := { d.ref with ncoPhase := d.ref.ncoPhase + d.rd (inst Obj.NcoWord d.active) * (n * cycle : Nat) },
      perf := if cycle = 40 then d.perf else { d.perf with tclk := (d.perf.tclk + n) % 2 ^ 64 } }
    let d := d.when (cycle != 40 && d.rd Obj.SteeredSynthState != 1) fun d => d.counted 1 0x09 0 n
    bump 1 incs.2 (bump 0 incs.1 d)
  else d

/-- Advance to the first cycle in which the active spindle's time equals or exceeds a time (R38). -/
def Dev.advanceTo (d : Dev) (t : Int) : Dev :=
  d.advance (ceilDiv (t * 2 ^ 32 - (d.spindle d.active).cnt) (d.increment d.active)).toNat

/-- The steered synth is in service: LOCKED, with TCLK on it (R215, R217). -/
def Dev.steered (d : Dev) : Bool := d.rd Obj.SteeredSynthState == 1 && d.time.tclkSteered

/-- Nanoseconds of a cycle that advances the counters (R70, R220). -/
def Dev.cycleNs (d : Dev) : Nat := if d.time.perPlinth && !d.time.tclkSteered then 40 else 2

/-- How long `n` cycles last by the fixed synth, in 2^-48 ns: a TCLK cycle of the steered synth is shorter by the active word
(R69, R91). -/
def Dev.lasts (d : Dev) (n : Nat) : Nat :=
  if d.time.tclkSteered then n * 2 ^ 97 / (2 ^ 48 + d.rd (inst Obj.NcoWord d.active)).toNat else n * d.cycleNs * 2 ^ 48

/-- UptimeNs advances by a time in 2^-48 ns (R91). -/
def Dev.ages (d : Dev) (t : Nat) : Dev :=
  let whole := d.time.upRest + t
  { d with time := { d.time with uptime := d.time.uptime + whole / 2 ^ 48, upRest := whole % 2 ^ 48 } }

/-- Time passes for `n` cycles: the counters and UptimeNs advance (R70, R91). -/
def Dev.pass (d : Dev) (n : Nat) : Dev := (d.advance n).ages (d.lasts n)

/-- What the block does when no command waits: one cycle of its clocks, once its reset has ended (log entry 4). -/
def idle (d : Dev) : Dev := d.when d.boot.released (·.pass 1)

/-- Time passes until the active spindle's time reaches an instant; it never runs back. -/
def Dev.until (d : Dev) (t : Int) : Dev :=
  if d.counting && decide (0 < d.increment d.active) then
    d.pass (ceilDiv (t * 2 ^ 32 - (d.spindle d.active).cnt) (d.increment d.active)).toNat
  else d

/-! ## Turns and their boundaries (R36 to R39) -/

/-- The boundary time of Turn `n` under the numbering of a period, an anchor time and an anchor number (R37). -/
def boundaryOf (p : Nat) (ta : Int) (na n : Nat) : Int := ta + ((n : Int) - na) * p * (2 * nsT)

/-- The first Turn whose boundary lies at or after a time, under such a numbering (R37, R58). -/
def firstAtOf (p : Nat) (ta : Int) (na : Nat) (t : Int) : Nat :=
  na + (ceilDiv (t - ta) (p * (2 * nsT))).toNat

/-- The boundary time of Turn `n` under the numbering in force (R37). -/
def Dev.boundaryTime (d : Dev) (n : Nat) : Int :=
  boundaryOf (d.rdN Obj.TurnPeriod) (d.rd Obj.TurnAnchorTime) (d.rdN Obj.TurnAnchorNumber) n

/-- A Turn starts: it joins the newest run, or begins one (R182). -/
def turnStarted (n period : Nat) (t : Int) : List TurnRun → List TurnRun
  | [] => [⟨n, n, t, period⟩]
  | r :: rest =>
    if n == r.last + 1 && period == r.period && t == boundaryOf period r.start r.first n then { r with last := n } :: rest
    else ⟨n, n, t, period⟩ :: r :: rest

/-- The runs that hold the last `left` Turns. -/
def lastTurns : Nat → List TurnRun → List TurnRun
  | _, [] => []
  | left, r :: rest => if left = 0 then [] else r :: lastTurns (left - (r.last + 1 - r.first)) rest

/-- The boundary time of Turn `n`, if it is one of the last `left` started (R182). -/
def startedAt (n : Nat) : Nat → List TurnRun → Option Int
  | _, [] => none
  | left, r :: rest =>
    if r.first ≤ n then (if n ≤ r.last && r.last < n + left then some (boundaryOf r.period r.start r.first n) else none)
    else startedAt n (left - (r.last + 1 - r.first)) rest

/-- The number of the first Turn that may start at or after a time: Turn numbers increase strictly (R39, R58). -/
def Dev.firstTurnAt (d : Dev) (t : Int) : Nat :=
  max (firstAtOf (d.rdN Obj.TurnPeriod) (d.rd Obj.TurnAnchorTime) (d.rdN Obj.TurnAnchorNumber) t)
    (match d.turn.last with | some l => l + 1 | none => 0)

/-! ## Overrun records (R46 to R49) -/

/-- EV18 is owed for the Turn in progress: once, however many items overran (R47). -/
def Dev.owesEvent (d : Dev) : Dev :=
  if d.turn.owedAt == some d.turn.started then d
  else { d with turn := { d.turn with owed := d.turn.owed + 1, owedAt := some d.turn.started } }

/-- Record an overrun of a work item with its cause, and EV18 for item 5 to raise (R46, R47). -/
def Dev.overrun (d : Dev) (item : Nat) (cause : Int) (turn : Nat) : Dev :=
  (((d.inc (inst Obj.OverrunCount item)).wr (inst Obj.OverrunLastTurn item) turn).wr
    (inst Obj.OverrunCause item) cause).owesEvent

/-- Clear the overrun record of a work item (R61). -/
def overrunClear (item : Nat) (d : Dev) : Dev :=
  d.wrs [(inst Obj.OverrunCount item, 0), (inst Obj.OverrunLastTurn item, 0), (inst Obj.OverrunCause item, 0)]

/-- A work item is done or abandoned: it is no longer open in its Turn. -/
def Dev.closeItem (d : Dev) (item : Nat) : Dev :=
  { d with turn := { d.turn with openItems := d.turn.openItems.filter (· != item) } }

/-- The slots of spool programs due in the Turn in progress, in ascending order (R579). -/
def Dev.dueSlots (d : Dev) : List Nat :=
  (List.range (leNat (readBytes d.spool.image 6 1))).filter fun s =>
    d.rdB (inst Obj.SpoolSlotEnable s) && d.rd (inst Obj.SpoolSlotState s) == 1
      && d.rdN Obj.TurnNumber % max (d.rdN (inst Obj.SpoolSlotPeriod s)) 1 == 0

/-- A step of calibration waits for work item 7 (R307, R309). -/
def Dev.calStepWaits (d : Dev) : Bool :=
  d.cal.hostStep == 3 || d.cal.hostStep == 6 || (d.on .calSequencer 0 && (d.cal.armed || (match d.cal.targets with
    | some ts => ts.isEmpty || ts.any fun t => t.hist.isSome || t.failed
    | none => false)))

/-- Whether an instance of a work item has work in this Turn, so that it is unfinished as long as it is open (R43, R46): its
block is ENABLED, and something waits for it (log entry 46). -/
def Dev.itemActive (d : Dev) (item : Nat) : Bool :=
  let some48 (k : BlockKind) : Bool := (List.range 48).any (d.on k)
  match item with
  | 1 => some48 .whorl
  | 2 => some48 .ptpEngine
  | 3 => d.on .servo 0 && !d.rdB Obj.ModeF1Servo && d.steered
  | 4 => d.on .refSelector 0 || (List.range 4).any (d.on .refIn) || some48 .ptpEngine || d.ref.host.isSome
  | 5 => !d.turnEvents.isEmpty || d.turn.owed != 0
  | 6 => !d.perf.due.isEmpty
  | 7 => d.calStepWaits
  | 8 => (List.range 48).any fun l => d.on .laneAdapt l && !d.rdB (inst Obj.ModeF6LaneAdapt l)
  | 9 => d.on .learning 0 && !d.rdB Obj.ModeF3Learning && !d.fwd.learnQueue.isEmpty
  | 10 => d.on .reelTrigger 0 && !d.rdB Obj.ModeF7ReelTrigger
  | 11 => true
  | 12 => d.on .spool 0 && (d.spool.run.isSome || !d.spool.ready.isEmpty || !d.dueSlots.isEmpty)
  | _ => false

/-- The work items of the Turn in progress that are unfinished (R46). -/
def Dev.unfinished (d : Dev) : List Nat := d.turn.openItems.filter d.itemActive

/-- The work items on which one depends: it starts after their latest end (R43). -/
def startsAfter (item : Nat) : List Nat :=
  match item with
  | 2 | 4 => [1]
  | 3 => [2, 4]
  | 7 | 12 => [3]
  | _ => []

/-- A work item can be done now: it is open, and no item that it depends on is unfinished (R43). -/
def Dev.itemStarts (d : Dev) (item : Nat) : Bool :=
  d.turn.openItems.contains item && (startsAfter item).all fun i => !d.unfinished.contains i

/-- Do a work item of the Turn in progress, which then is finished (R43); one that is finished or abandoned is not done
again. -/
def Dev.workItem (d : Dev) (item : Nat) (f : Dev → Dev) : Dev :=
  if d.itemStarts item then (f d).closeItem item else d

/-! ## The Turn change queue (R50 to R56) -/

/-- A Turn parameter change (R54, R55). -/
def Change.isParam (c : Change) : Bool :=
  match c.kind with
  | .period _ | .reanchor _ _ _ => true
  | _ => false

/-- A step of time (R78, R88). -/
def Change.isStep (c : Change) : Bool :=
  match c.kind with
  | .stepRel _ | .stepAbs _ | .stepOwn _ _ _ => true
  | _ => false

/-- The initial step the device armed itself (R88); the set of R183 names the host as its source. -/
def Change.isInitialStep (c : Change) : Bool :=
  match c.kind with
  | .stepOwn _ source _ => source != 3
  | _ => false

/-- Arming for Turn `n` is open and the queue has room (R51, R52). -/
def Dev.canArm (d : Dev) (n : Nat) : Bool :=
  (match d.turn.last with | some l => decide (l + 1 < n) | none => true) && decide (d.turn.queue.length < 16)

/-- Put a change at the end of the queue (R53). -/
def Dev.arm (d : Dev) (n : Nat) (k : ChangeKind) : Dev :=
  { d with turn := { d.turn with queue := d.turn.queue ++ [⟨n, k⟩] } }

/-- Take out of the queue every change that `p` selects. -/
def Dev.disarm (d : Dev) (p : Change → Bool) : Dev :=
  { d with turn := { d.turn with queue := d.turn.queue.filter (fun c => !p c) } }

/-- Arm a Turn parameter change for Turn TurnChangeAt (R51, R52, R54, R80), where `ok` is the check its own rule adds. -/
def armParam (k : ChangeKind) (ok : Bool) (d : Dev) : Dev :=
  let n := d.rdN Obj.TurnChangeAt
  if d.canArm n && !d.turn.queue.any Change.isParam && !d.turn.queue.any (fun c => c.isStep && c.turn == n) && ok then
    (d.arm n k).wr Obj.TurnChangeCmd 1
  else d.wr Obj.TurnChangeCmd 0x80

/-- TurnChangeCmd 1: a new period with continuous numbering (R54). -/
def armPeriod (d : Dev) : Dev := armParam (.period (d.rdN Obj.TurnStagedPeriod)) true d

/-- TurnChangeCmd 2: a re-anchor, refused when its first boundary would number below N (R55). -/
def armReanchor (d : Dev) : Dev :=
  let n := d.rdN Obj.TurnChangeAt
  let p := d.rdN Obj.TurnStagedPeriod
  let ta := d.rd Obj.TurnStagedAnchorTime
  let na := d.rdN Obj.TurnStagedAnchorNumber
  armParam (.reanchor p ta na) (decide (n ≤ firstAtOf p ta na (d.boundaryTime n))) d

/-- TurnChangeCmd 3: cancel the pending Turn parameter change (R56). -/
def cancelParam (d : Dev) : Dev := (d.disarm Change.isParam).wr Obj.TurnChangeCmd 0

/-! ## Arming a step (R78, R79, R89) -/

/-- Arm a host step for Turn TimeStepAt. It is checked as if the initial step of R88 were not pending, and takes its
place when it passes (R79, R89). `result` is the time the step would give at the boundary. -/
def armStep (k : ChangeKind) (result : Int) (ok : Bool) (d : Dev) : Dev :=
  let n := d.rdN Obj.TimeStepAt
  let d' := d.disarm Change.isInitialStep
  if d'.canArm n && !d'.turn.queue.any Change.isStep && !d'.turn.queue.any (fun c => c.isParam && c.turn == n)
      && decide (0 ≤ result) && decide (result ≤ maxT) && ok then
    (d'.arm n k).wr Obj.TimeStepCmd 1
  else d.wr Obj.TimeStepCmd 0x80

/-- TimeStepCmd 1: a relative step; zero is refused (R79). The value is captured as the step is armed, as R54 says of a Turn
parameter change (log entry 47). -/
def armStepRel (d : Dev) : Dev :=
  let v := d.rd Obj.TimeStepValue
  armStep (.stepRel v) (d.boundaryTime (d.rdN Obj.TimeStepAt) + v) (v != 0) d

/-- TimeStepCmd 2: an absolute set (R78), its value captured as it is armed (log entry 47). -/
def armStepAbs (d : Dev) : Dev :=
  let v := d.rd Obj.TimeSetValue
  armStep (.stepAbs v) v true d

/-- TimeStepCmd 3: cancel a pending step (R78). The initial step, when it is cancelled, is armed again in a later Turn (R89). -/
def cancelStep (d : Dev) : Dev :=
  let own := d.turn.queue.any Change.isInitialStep
  let d := (d.disarm Change.isStep).wr Obj.TimeStepCmd 0
  d.when own fun d => { d with ref := { d.ref with initial := none, cancelled := some d.turn.started } }

/-! ## The outputs: clocks, squelch and suppression (R226 to R230, R237, R239) -/

/-- Pulse output `n`. -/
def Dev.pulseSt (d : Dev) (n : Nat) : PulseSt := Sparse.get (fun _ => {}) d.out.pulses n

/-- Change pulse output `n`. -/
def Dev.setPulse (d : Dev) (n : Nat) (f : PulseSt → PulseSt) : Dev :=
  { d with out := { d.out with pulses := Sparse.set (fun _ => {}) d.out.pulses n (f (d.pulseSt n)) } }

/-- Clock output `n`. -/
def Dev.clkSt (d : Dev) (n : Nat) : ClkSt := Sparse.get (fun _ => {}) d.out.clks n

/-- Change clock output `n`. -/
def Dev.setClk (d : Dev) (n : Nat) (f : ClkSt → ClkSt) : Dev :=
  { d with out := { d.out with clks := Sparse.set (fun _ => {}) d.out.clks n (f (d.clkSt n)) } }

/-- The cycle of a clock output in fifths of 2^-16 ns: ClkOutDivider cycles of 200 ps (R226, R227). -/
def Dev.clkCycle (d : Dev) (n : Nat) : Int := d.rd (inst Obj.ClkOutDivider n) * 65536

/-- Its high phase: half the cycle, and of an odd divider half a VCO cycle more (R226). -/
def Dev.clkHigh (d : Dev) (n : Nat) : Int := (d.rd (inst Obj.ClkOutDivider n) + 1) / 2 * 65536

/-- The first rising edge of a clock output, a programmed one plus m, at or after an instant (R227). -/
def Dev.clkEdgeFrom (d : Dev) (n : Nat) (t : Int) : Int :=
  let e := 5 * (d.rd (inst Obj.ClkOutPhaseOffset n) + d.rd (inst Obj.ClkOutMisalignment n))
  e + ceilDiv (t - e) (d.clkCycle n) * d.clkCycle n

/-- The clock output has begun its series of edges. -/
def Dev.clkBegun (d : Dev) (n : Nat) : Bool := match (d.clkSt n).runs with
  | some r => decide (r ≤ 5 * d.now)
  | none => false

/-- The last rising edge that a clock output has driven (R230). -/
def Dev.clkRose (d : Dev) (n : Nat) : Option Int :=
  if d.clkBegun n then some (d.clkEdgeFrom n (5 * d.now + 1) - d.clkCycle n) else (d.clkSt n).rose

/-- What a clock output drives: high in the high phase of the cycle in progress, else low (R226, R229, R238). -/
def Dev.clkLevel (d : Dev) (n : Nat) : Bool :=
  (d.clkBegun n || ((d.clkSt n).kept && (d.clkSt n).runs.isSome)) &&
    (d.clkRose n).any fun r => decide (5 * d.now - r < d.clkHigh n)

/-- A squelch: low at once (R238). -/
def Dev.clkSquelch (d : Dev) (n : Nat) : Dev :=
  let rose := d.clkRose n
  d.when (d.clkSt n).runs.isSome fun d => d.setClk n fun _ => { rose := rose }

/-- A clock output is to run, from its first rising edge that comes no sooner than 0.999 of a cycle after the last one it drove
(R229, R230, R239, log entry 54). -/
def Dev.clkRuns (d : Dev) (n : Nat) : Dev :=
  let soonest := match (d.clkSt n).rose with
    | some r => max (5 * d.now) (r + ceilDiv (999 * d.clkCycle n) 1000)
    | none => 5 * d.now
  d.setClk n fun c => { c with runs := some (d.clkEdgeFrom n soonest) }

/-- A device-level fault is in progress (R599). -/
def Dev.stopped (d : Dev) : Bool := d.rd Obj.DeviceFaultPhase != 0

/-- The alignment line of an output: outputs are numbered as in OutputPendingMask (R221, R241). -/
def lineOf (o : Nat) : Nat := if o < 4 then 0 else if o < 8 then 1 else if o < 16 then 2 else 3

/-- The block of an output, numbered as in OutputPendingMask, is ENABLED. -/
def Dev.outOn (d : Dev) (o : Nat) : Bool := if o < 8 then d.on .clkOut o else d.on .pulse (o - 8)

/-- The lowest-numbered cause that squelches or suppresses an output (R237). -/
def Dev.outCause (d : Dev) (o : Nat) : Int :=
  if !d.outOn o then 1
  else if d.rd Obj.SteeredSynthState != 1 then 2
  else if d.rd (inst Obj.AlLockState (lineOf o)) != 2 then 3
  else if 8 ≤ o && (d.pulseSt (o - 8)).awaits then 4
  else if 8 ≤ o && d.rdB (inst Obj.PulseRequireInPhase (o - 8)) && !d.rdB Obj.TurnInPhase then 5
  else if d.stopped then 6
  else 0

/-- Keep an output and the cause it reports current: a clock output runs while no cause holds (R237 to R239). -/
def refreshOut (o : Nat) (d : Dev) : Dev :=
  let c := d.outCause o
  if o < 8 then
    let d := (d.wr (inst Obj.ClkOutSquelchCause o) c).wrB (inst Obj.ClkOutSquelched o) (c != 0)
    if c != 0 then d.clkSquelch o else d.when (d.clkSt o).runs.isNone (·.clkRuns o)
  else d.wr (inst Obj.PulseSuppressCause (o - 8)) c

/-- Keep all outputs current. -/
def Dev.refreshOuts (d : Dev) : Dev := d.forEach refreshOut (List.range 24)

/-! ## Making a step (R81 to R86) -/

/-- Set SpindleEventCause of both spindles and raise EV24 and EV25. -/
def Dev.raiseSpindles (d : Dev) (cause : Int) : Dev :=
  (((d.wr (inst Obj.SpindleEventCause 0) cause).wr (inst Obj.SpindleEventCause 1) cause).raise 24).raise 25

/-- Add an amount to a counter; the 32 internal bits are kept (R81). -/
def Dev.stepCounter (u : Nat) (amount : Int) (d : Dev) : Dev :=
  d.setSpindle u fun s => { s with cnt := ((s.cnt : Int) + amount * 2 ^ 32).toNat }

/-- TurnInPhase: the time is valid and the active spindle LOCKED or in HOLDOVER (R41); the pulse outputs that require it follow
(R236). -/
def Dev.refreshPhase (d : Dev) : Dev :=
  let st := d.rd (inst Obj.SpindleState d.active)
  (d.wrB Obj.TurnInPhase (d.rdB Obj.TimeValid && (st == 2 || st == 3))).refreshOuts

/-- The time becomes valid from a source at the boundary of Turn `n` (R84, R87). -/
def Dev.learnTime (d : Dev) (source inst : Int) (n : Nat) : Dev :=
  (((d.when (!d.rdB Obj.TimeValid) (·.wr Obj.TimeLearnedTurn n)).wr Obj.TimeValid 1).wrs
    [(Obj.TimeSource, source), (Obj.TimeSourceInstance, inst)]).refreshPhase

/-- The amount of a step named for Turn `n`, an absolute set's from the boundary time of that Turn (R86). -/
def Dev.stepAmount (d : Dev) (n : Nat) (k : ChangeKind) : Int :=
  match k with
  | .stepRel v => v
  | .stepAbs v | .stepOwn v _ _ => v - d.boundaryTime n
  | _ => 0

/-- Apply a step named for Turn `n` at the boundary of Turn `m`, which is a later one where a discontinuity skipped Turn `n`:
both counters move, and the step is recorded (R60, R81, R83, R84, R86). -/
def Dev.applyStep (d : Dev) (n m : Nat) (k : ChangeKind) : Dev :=
  let amount := d.stepAmount n k
  let d := (d.stepCounter 0 amount |> Dev.stepCounter 1 amount).inc Obj.TimeStepCount
  let kept := clampI (1 - 2 ^ 63) (2 ^ 63 - 1) amount
  let d := ((d.wr Obj.TimeLastStep kept).wrB Obj.TimeLastStepSaturated (kept != amount)).wr Obj.TimeLastStepTurn n
  let d := match k with
    | .stepAbs _ => d.learnTime 3 0xFF m
    | .stepOwn _ source i => d.learnTime source i m
    | _ => d
  (d.wr Obj.TimeStepCmd 2).raiseSpindles 2

/-! ## Discontinuities (R57, R58) -/

/-- A discontinuity: the Turn in progress has ended, and the gap to Turn `m` begins (R57, R58). -/
def Dev.discontinuity (d : Dev) (m : Nat) : Dev :=
  let d := ((d.inc Obj.TurnDiscontinuityCount).wr Obj.TurnLastDiscontinuity m).perfFlags 4
  { d with turn := { d.turn with running := false, gap := true, next := m, openItems := [] } }

/-! ## The NCO word (R69, R73 to R77) -/

/-- The clamp of R69: the phase term gives way first, then the frequency term. -/
def clampWord (yf yp : Int) : Int × Int :=
  let lim : Int := 56294995342
  let yf' := clampI (-lim) lim yf
  if yf' != yf then (yf', 0) else (yf, clampI (-lim - yf) (lim - yf) yp)

/-- The limit on the phase term in a spindle state (R73). -/
def Dev.slewLimit (d : Dev) (state : Int) : Int :=
  if state == 1 then d.rd Obj.SlewLimitAcquiring else if state == 2 then d.rd Obj.SlewLimitLocked else 0

/-- The clamp of R69 acts in the Turn in progress: counted once per Turn, with its events in the first of a run of Turns. -/
def Dev.noteClamp (d : Dev) : Dev :=
  let now := d.turn.started
  if d.time.clampAt == some now then d
  else
    let goesOn := d.time.clampAt.map (· + 1) == some now
    let d := { d with time := { d.time with clampAt := some now } }
    let d := (d.inc (inst Obj.NcoClampCount 0)).inc (inst Obj.NcoClampCount 1)
    d.when (!goesOn) (·.raiseSpindles 4)

/-- Stage the word for the next Turn for both spindles, clamped (R69, R71). -/
def Dev.stageWord (d : Dev) (yf yp : Int) : Dev :=
  let w := clampWord yf yp
  let d := d.when (decide (w ≠ (yf, yp))) (·.noteClamp)
  (d.setSpindle 0 fun s => { s with nextWord := some w }).setSpindle 1 fun s => { s with nextWord := some w }

/-- Put a staged word in force at the boundary (R71); without one the last word holds. -/
def Dev.wordInForce (u : Nat) (d : Dev) : Dev :=
  match (d.spindle u).nextWord with
  | none => d
  | some (yf, yp) =>
    (d.wrs [(inst Obj.NcoWord u, yf + yp), (inst Obj.NcoFrequencyTerm u, yf), (inst Obj.NcoPhaseTerm u, yp)]).setSpindle u
      fun s => { s with nextWord := none }

/-- Servo control is ENABLED with F1 host-assisted (R205). -/
def Dev.servoHost (d : Dev) : Bool := d.on .servo 0 && d.rdB Obj.ModeF1Servo

/-- A write of a phase term to HostNcoPhase: while F1 is in host-assisted mode it delivers the host's word for the next Turn, with
the frequency term as it stands at that write (R75, R97, log entry 48). -/
def hostNcoPhaseWrite (v : Int) (d : Dev) : Dev :=
  let d := d.wr Obj.HostNcoPhase v
  let word := (d.rd Obj.HostNcoFrequency, v)
  d.when d.servoHost fun d => { d with time := { d.time with hostWord := some word, hostLast := some word } }

/-! ## Snapshots (R93, R94) -/

/-- A snapshot command; one that comes before the previous capture has completed is ignored (R93). -/
def snapshotCmd (d : Dev) : Dev :=
  if d.time.snapPending then d
  else { d.wr Obj.TimeSnapshotCmd 1 with time := { d.time with snapPending := true } }

/-- The capture: both times, the Turn number, UptimeNs and TimeValid, with a new sequence (R93, R94, R96). -/
def snapshotCapture (d : Dev) : Dev :=
  if d.time.snapPending then
    let t := d.now
    let sec := (t / secT).toNat
    let diff := clampI (-2 ^ 31) (2 ^ 31 - 1) (d.spindleTime d.standby - t)
    let seq := (bits (d.rdN Obj.SnapshotStatus) 0 16 + 1) % 2 ^ 16
    let n := d.rdN Obj.TurnNumber
    let up := d.time.uptime
    let d := d.wrs [(Obj.SnapActiveSecondsHigh, (bits sec 32 16 : Nat)), (Obj.SnapActiveSecondsLow, (bits sec 0 32 : Nat)),
      (Obj.SnapActiveNanoseconds, t / 65536 % 1000000000), (Obj.SnapActiveFraction, t % 65536),
      (Obj.SnapStandbyMinusActive, (toField 32 diff : Nat)), (Obj.SnapTurnLow, (bits n 0 32 : Nat)),
      (Obj.SnapTurnHigh, (bits n 32 32 : Nat)), (Obj.SnapUptimeLow, (bits up 0 32 : Nat)),
      (Obj.SnapUptimeHigh, (bits up 32 32 : Nat)), (Obj.SnapTimeValid, d.rd Obj.TimeValid),
      (Obj.SnapshotStatus, (2 ^ 31 + seq : Nat)), (Obj.TimeSnapshotCmd, 0)]
    { d with time := { d.time with snapPending := false } }
  else d

/-! ## Meanings -/

/-- TURN_CHANGE_CONTINUOUS (R54). -/
def execTurnChangeContinuous (s : State) : Host.Outcome State Fault Refusal := s.effect armPeriod

/-- TURN_REANCHOR (R55). -/
def execTurnReanchor (s : State) : Host.Outcome State Fault Refusal := s.effect armReanchor

/-- TURN_CHANGE_CANCEL (R56). -/
def execTurnChangeCancel (s : State) : Host.Outcome State Fault Refusal := s.effect cancelParam

/-- OVERRUN_CLEAR (R61). -/
def execOverrunClear (item : Fin 13) (s : State) : Host.Outcome State Fault Refusal := s.effect (overrunClear item)

/-- TIME_STEP_RELATIVE (R78, R79). -/
def execTimeStepRelative (s : State) : Host.Outcome State Fault Refusal := s.effect armStepRel

/-- TIME_SET_ABSOLUTE (R78, R79). -/
def execTimeSetAbsolute (s : State) : Host.Outcome State Fault Refusal := s.effect armStepAbs

/-- TIME_STEP_CANCEL (R78, R89). -/
def execTimeStepCancel (s : State) : Host.Outcome State Fault Refusal := s.effect cancelStep

/-- TIME_SNAPSHOT_CMD (R93). -/
def execTimeSnapshotCmd (s : State) : Host.Outcome State Fault Refusal := s.effect snapshotCmd

/-- TIME_SNAPSHOT_CAPTURE (R93, R94). -/
def execTimeSnapshotCapture (s : State) : Host.Outcome State Fault Refusal := s.effect snapshotCapture

/-- HOST_NCO_PHASE_WRITE (R75). -/
def execHostNcoPhaseWrite (v : Int) (s : State) : Host.Outcome State Fault Refusal := s.effect (hostNcoPhaseWrite v)

end Sys2Proof.Machine
end

