-- ==== Sys2Proof/Machine/Rings.lean ====
section
/-! DEFINITION. The descriptor rings (R547 to R556): what fetches, completions and attentions do to a ring. The host's
memory is outside the block: its descriptors come with the commands, and what is written to it is seen in DONE and `written`. -/

namespace Sys2Proof.Machine

/-- A ring: TX0-TX3 are 0-3, RX0-RX3 are 4-7. -/
def Dev.ring (d : Dev) (r : Nat) : RingSt := Sparse.get (fun _ => {}) d.rings r

/-- Change a ring. -/
def Dev.setRing (d : Dev) (r : Nat) (f : RingSt → RingSt) : Dev :=
  { d with rings := Sparse.set (fun _ => {}) d.rings r (f (d.ring r)) }

/-- The number of descriptors of a ring (R548). -/
def RingSt.size (g : RingSt) : Nat := 2 ^ g.sizeLog2

/-- An index of a ring moved on, modulo its size (R547). -/
def RingSt.next (g : RingSt) (i n : Nat) : Nat := (i + n) % g.size

/-- Descriptors handed over and not yet fetched, from HEAD up to TAIL (R550). -/
def RingSt.waiting (g : RingSt) : Nat := if g.overrun then 0 else (g.tail + g.size - g.head) % g.size

/-- Whether any ring holds a pending attention that asserts a pin (R556, R559). -/
def Dev.ringPin (d : Dev) (route : Nat) : Bool :=
  (List.range 8).any fun r => (d.ring r).attention && (d.ring r).attnEn && (d.ring r).attnRoute == route

/-- Raise an attention: ATTENTION is set and SEQ counts (R556). -/
def RingSt.attend (g : RingSt) : RingSt :=
  { g with attention := true, seq := (g.seq + 1) % 4096, coalescing := false }

/-- A descriptor completes: at once with NOTIFY or COALESCE 0, else the coalescing time starts (R556). -/
def RingSt.completed (g : RingSt) (notify : Bool) : RingSt :=
  if notify || g.coalesce == 0 then g.attend else { g with coalescing := true }

/-- A descriptor is written back: DONE passes it (R550). -/
def RingSt.back (g : RingSt) (x : DescBack) (notify : Bool) : RingSt :=
  { g with done := g.next x.index 1, written := g.written ++ [x] }.completed notify

/-- What a fetched transmit descriptor is written back with (R552). -/
def TxPend.back (t : TxPend) : DescBack := { index := t.index, status := t.status.getD 0, stamp := t.stamp }

/-- Write back the fetched transmit descriptors whose status is known, in ring order (R550, R552). -/
def RingSt.writeBack (g : RingSt) (l : List TxPend) : RingSt :=
  let ready := l.takeWhile (·.status.isSome)
  let g := { g with fetched := l.drop ready.length, written := if ready.isEmpty then g.written else [] }
  ready.foldl (fun g t => g.back t.back t.notify) g

/-- A transmit descriptor's outcome becomes known (R552). -/
def Dev.txStatus (d : Dev) (r index status : Nat) (stamp : Option Int) : Dev :=
  d.setRing r fun g =>
    g.writeBack (g.fetched.map fun t =>
      if t.index == index && t.status.isNone then { t with status := some status, stamp := if t.wantStamp then stamp else none } else t)

/-- The outcome of a frame that came from a ring, if it did. -/
def Dev.txOutcome (d : Dev) (ring : Option (Nat × Nat)) (status : Nat) (stamp : Option Int) : Dev :=
  match ring with
  | some (r, i) => d.txStatus r i status stamp
  | none => d

/-- Halt a ring with a cause (R548, R550). -/
def RingSt.halt (g : RingSt) (cause : Nat) : RingSt := { g with halted := true, haltCause := cause }

end Sys2Proof.Machine
end

