-- ==== Sys2Proof/Machine/Crc.lean ====
section
/-! DEFINITION. The CRC-32 of IEEE 802.3 and its uses: the frame check sequence, the sets of the MAC table (R328) and
the bins of the group filter (R416). -/

namespace Sys2Proof.Machine

/-- One bit of the reflected CRC-32. -/
def crcBit (c : Nat) : Nat := if c % 2 = 1 then (c / 2) ^^^ 0xEDB88320 else c / 2

/-- One byte of the reflected CRC-32. -/
def crcByte (c : Nat) (b : Byte) : Nat :=
  crcBit (crcBit (crcBit (crcBit (crcBit (crcBit (crcBit (crcBit (c ^^^ b.toNat))))))))

/-- The reflected CRC-32 register after a list of bytes. -/
def crcRun : Nat → List Byte → Nat
  | c, [] => c
  | c, b :: rest => crcRun (crcByte c b) rest

/-- The CRC-32 of IEEE 802.3 with an initial value, complemented. -/
def crc32 (init : Nat) (bs : List Byte) : Nat := crcRun init bs ^^^ 0xFFFFFFFF

/-- The four FCS bytes a frame body needs, in transmission order. -/
def fcsOf (body : List Byte) : List Byte := leBytes 4 (crc32 0xFFFFFFFF body)

/-- The bitwise inverse of that FCS, which every receiver rejects (R346). -/
def fcsInverted (body : List Byte) : List Byte := leBytes 4 (crc32 0xFFFFFFFF body ^^^ 0xFFFFFFFF)

/-- A frame without its FCS. -/
def bodyOf (bs : List Byte) : List Byte := bs.take (bs.length - 4)

/-- The FCS of a frame checks. -/
def fcsGood (bs : List Byte) : Bool := bs.drop (bs.length - 4) == fcsOf (bodyOf bs)

/-- The low `n` bits of a number in reverse order. -/
def revBits : Nat → Nat → Nat
  | 0, _ => 0
  | n + 1, v => (v % 2) * 2 ^ n + revBits n (v / 2)

/-- The filter bin of a destination address: x^31 to x^23 of the FCS of the address alone (R416). -/
def filterBin (da : List Byte) : Nat := revBits 9 (crc32 0xFFFFFFFF da % 2 ^ 9)

/-- The set of a MAC address and FID in a way of the MAC table (R328). -/
def macSet (way : Nat) (mac fid : Nat) : Nat :=
  let init := match way with
    | 0 => 0xFFFFFFFF
    | 1 => 0x0F0F0F0F
    | 2 => 0x33333333
    | _ => 0x55555555
  crc32 init (leBytes 6 mac ++ beBytes 2 fid) % 8192

end Sys2Proof.Machine
end

