-- ==== Sys2Proof/Machine/Tables.lean ====
section
/-! DEFINITION. The four tables of the forwarding decision: their entries, the table operations, learning and ageing
(R320 to R335, R340, R348 to R350). -/

namespace Sys2Proof.Machine

/-! ## Reading entries -/

/-- What a VLAN entry reads as after reset: entry 1 has every port, untagged, FID 1 and LEARN (R326). -/
def vlanReset (vid : Nat) : Nat :=
  if vid = 1 then (2 ^ 49 - 1) + (2 ^ 49 - 1) * 2 ^ 49 + 2 ^ 98 + 2 ^ 110 + 2 ^ 111 else 0

def Dev.macAt (d : Dev) (loc : Nat) : Nat := Sparse.get (fun _ => 0) d.fwd.mac loc
def Dev.vlanAt (d : Dev) (vid : Nat) : Nat := Sparse.get vlanReset d.fwd.vlan vid
def Dev.streamAt (d : Dev) (i : Nat) : Nat := Sparse.get (fun _ => 0) d.fwd.stream i
def Dev.skeinAt (d : Dev) (i : Nat) : Nat := Sparse.get (fun _ => 0) d.fwd.skein i

/-- A table block is ENABLED: 0 MAC, 1 VLAN, 2 stream, 3 skein (R357). -/
def Dev.tableOn (d : Dev) (i : Nat) : Bool := d.on .table i

/-- The key of a MAC entry: address and FID (R328, R329). -/
def macKey (mac fid : Nat) : Nat := mac % 2 ^ 48 + fid % 2 ^ 12 * 2 ^ 48

/-- The ports a skein stands for; none while it is not VALID or the skein table not ENABLED (R336, R340). -/
def Dev.skeinPorts (d : Dev) (i : Nat) : Nat :=
  let e := d.skeinAt i
  if d.tableOn 3 && bit e 49 then bits e 0 49 else 0

/-! ## Writing entries -/

/-- Write a MAC location, keeping MacEntryCount and MacOverflowFill (R357). -/
def Dev.setMac (d : Dev) (loc e : Nat) : Dev :=
  let was := ofBool (bit (d.macAt loc) 60)
  let is := ofBool (bit e 60)
  let d := d.wr Obj.MacEntryCount (d.rd Obj.MacEntryCount + is - was)
  let d := d.when (decide (32768 ≤ loc)) fun d => d.wr Obj.MacOverflowFill (d.rd Obj.MacOverflowFill + is - was)
  { d with fwd := { d.fwd with mac := Sparse.set (fun _ => 0) d.fwd.mac loc e } }

/-- An entry of the MAC table is written or removed: one commit (R349, R567). -/
def Dev.commitMac (d : Dev) (loc e : Nat) : Dev := (d.counted 0 0x0C 1 1).setMac loc e

/-- Write a VLAN entry. -/
def Dev.setVlan (d : Dev) (vid e : Nat) : Dev :=
  { d with fwd := { d.fwd with vlan := Sparse.set vlanReset d.fwd.vlan vid e } }

/-- Write a stream entry, keeping StreamEntryCount and StreamScheduledCount (R357). -/
def Dev.setStream (d : Dev) (i e : Nat) : Dev :=
  let old := d.streamAt i
  let d := d.wr Obj.StreamEntryCount (d.rd Obj.StreamEntryCount + ofBool (bit e 0) - ofBool (bit old 0))
  let d := d.wr Obj.StreamScheduledCount (d.rd Obj.StreamScheduledCount + ofBool (bit e 4) - ofBool (bit old 4))
  { d with fwd := { d.fwd with stream := Sparse.set (fun _ => 0) d.fwd.stream i e } }

def Dev.setSkein (d : Dev) (i e : Nat) : Dev :=
  { d with fwd := { d.fwd with skein := Sparse.set (fun _ => 0) d.fwd.skein i e } }

/-! ## Searching the MAC table -/

/-- The four candidate locations of a key (R328). -/
def macWays (mac fid : Nat) : List Nat := (List.range 4).map fun w => w * 8192 + macSet w mac fid

/-- The location that holds a key, in its four ways or in the overflow store (R328). -/
def Dev.macFind (d : Dev) (mac fid : Nat) : Option Nat :=
  let hit (loc : Nat) : Bool := bit (d.macAt loc) 60 && d.macAt loc % 2 ^ 60 == macKey mac fid
  match (macWays mac fid).find? hit with
  | some loc => some loc
  | none => ((d.fwd.mac.map (·.1)).filter (fun loc => decide (32768 ≤ loc))).find? hit

/-- The first free way of a key, else the first free overflow location (R332, R348). -/
def Dev.macFree (d : Dev) (mac fid : Nat) : Option Nat :=
  let free (loc : Nat) : Bool := !bit (d.macAt loc) 60
  match (macWays mac fid).find? free with
  | some loc => some loc
  | none => ((List.range 256).map (· + 32768)).find? free

/-- A lookup as the pipeline makes it: it misses while the MAC table is not ENABLED (R15). -/
def Dev.macLookup (d : Dev) (mac fid : Nat) : Option (Nat × Nat) :=
  if d.tableOn 0 then (d.macFind mac fid).map fun loc => (loc, d.macAt loc) else none

/-- A dynamic VALID entry. -/
def macDynamic (e : Nat) : Bool := bit e 60 && !bit e 61

/-- The DEST of a MAC entry, when it names a port. -/
def macPort (e : Nat) : Option Nat := if bit e 62 then none else some (bits e 63 12)

/-- An entry with another AGE (R329). -/
def macWithAge (e age : Nat) : Nat := e - bits e 75 3 * 2 ^ 75 + age * 2 ^ 75

/-- A dynamic entry for a key that names a port, AGE 4 (R332). -/
def macLearned (mac fid port : Nat) : Nat := macKey mac fid + 2 ^ 60 + port * 2 ^ 63 + 4 * 2 ^ 75

/-- A dynamic entry whose key has moved to a port: DEST replaced, AGE 4 (R332). -/
def macMoved (e port : Nat) : Nat := macLearned (e % 2 ^ 48) (bits e 48 12) port + bits e 78 2 * 2 ^ 78

/-! ## Table operations (R348 to R350) -/

/-- The number of locations of a table (R348). -/
def tableSize : Nat → Nat
  | 1 => 33024
  | 2 => 4096
  | 3 => 4096
  | 4 => 2048
  | _ => 0

/-- The entry at a location of a table. -/
def Dev.tableAt (d : Dev) (t loc : Nat) : Nat :=
  match t with
  | 1 => d.macAt loc
  | 2 => d.vlanAt loc
  | 3 => d.streamAt loc
  | 4 => d.skeinAt loc
  | _ => 0

/-- The entry that TableOpData spells, as the table keeps it: reserved bits 0, AGE written as 4 (R322 to R340). -/
def entryOf (t : Nat) (bs : List Byte) : Nat :=
  let v := leNat bs
  match t with
  | 1 => macWithAge (v % 2 ^ 80) 4
  | 2 => v % 2 ^ 124
  | 3 =>
    let a := v % 2 ^ 14 + bits v 16 12 * 2 ^ 16 + bits v 32 7 * 2 ^ 32 + bits v 48 15 * 2 ^ 48 + bits v 64 8 * 2 ^ 64
    let b := bits v 80 32 * 2 ^ 80 + bits v 128 256 * 2 ^ 128
    let c := bits v 384 48 * 2 ^ 384 + bits v 432 1 * 2 ^ 432 + bits v 448 32 * 2 ^ 448
    a + b + c
  | _ => v % 2 ^ 51

/-- A DEST field names a port above 48 or a skein above 2,047 (R350). -/
def badDest (isSkein : Bool) (dest : Nat) : Bool :=
  if isSkein then decide (2047 < dest) else decide (48 < dest)

/-- A stream entry breaks status code 6 (R350). -/
def badStream (e : Nat) : Bool :=
  (bit e 0 && (bits e 1 3 == 0 || decide (4 < bits e 1 3))) || badDest (bit e 13) (bits e 16 12)

/-- A MAC entry breaks status code 6 wherever it is placed (R350). -/
def badMac (e : Nat) : Bool := badDest (bit e 62) (bits e 63 12)

/-- Changing an entry to or from a scheduled one is refused while the Armature is not DISABLED (R323). -/
def Dev.schedLocked (d : Dev) (old new : Nat) : Bool := (bit old 4 || bit new 4) && d.blk .armature 0 != 0

/-- The status of writing an entry at a location (R323, R325, R329, R350). -/
def Dev.writeStatus (d : Dev) (t loc e : Nat) : Nat :=
  if tableSize t ≤ loc then 5
  else match t with
    | 1 =>
      let mac := bits e 0 48
      let fid := bits e 48 12
      let misplaced := decide (loc < 32768) && !(macWays mac fid).contains loc
      let second := match d.macFind mac fid with
        | some l => l != loc
        | none => false
      if badMac e || (bit e 60 && (misplaced || second)) then 6 else 0
    | 2 => if (loc == 0 || loc == 4095) && bit e 110 then 6 else 0
    | 3 => if d.schedLocked (d.streamAt loc) e then 4 else if badStream e then 6 else 0
    | _ => 0

/-- Commit an entry at a location of a table (R349). -/
def Dev.writeEntry (d : Dev) (t loc e : Nat) : Dev :=
  let d := d.counted 0 0x0C t 1
  match t with
  | 1 => d.setMac loc e
  | 2 => d.setVlan loc e
  | 3 => d.setStream loc e
  | 4 => d.setSkein loc e
  | _ => d

/-- An operation begins, with the operands its objects hold; a command written while one runs is refused (R350). -/
def tableOpStart (code : Nat) (d : Dev) : Dev :=
  if d.fwd.tableOp.isSome then d.wr Obj.TableOpCmd 0x80
  else
    let t := d.rdN Obj.TableOpTable
    let op : TableOp := { code := code, table := t, index := d.rdN Obj.TableOpIndex, entry := entryOf t (d.rdV Obj.TableOpData).bytes }
    { d.wr Obj.TableOpCmd 1 with fwd := { d.fwd with tableOp := some op } }

/-- What an operation reports: its status (R350), its result index and its result data (R348). -/
structure TableOut where
  status : Nat := 0
  index : Option Nat := none
  data : Option Nat := none
deriving DecidableEq, Repr

/-- Operation 1: read a location. -/
def tableRead (d : Dev) (o : TableOp) : Dev × TableOut :=
  (d, if o.index < tableSize o.table then { data := some (d.tableAt o.table o.index) } else { status := 5 })

/-- Operation 2: write a location. -/
def tableWrite (d : Dev) (o : TableOp) : Dev × TableOut :=
  let st := d.writeStatus o.table o.index o.entry
  (if st = 0 then d.writeEntry o.table o.index o.entry else d, { status := st })

/-- Operation 3: insert by key. -/
def tableInsert (d : Dev) (o : TableOp) : Dev × TableOut :=
  let mac := bits o.entry 0 48
  let fid := bits o.entry 48 12
  if o.table ≠ 1 then (d, { status := 5 })
  else if !bit o.entry 60 || badMac o.entry then (d, { status := 6 })
  else match (d.macFind mac fid).or (d.macFree mac fid) with
    | some loc => (d.commitMac loc o.entry, { index := some loc })
    | none => (d, { status := 3 })

/-- Operation 4: delete by key. -/
def tableDelete (d : Dev) (o : TableOp) : Dev × TableOut :=
  if o.table ≠ 1 then (d, { status := 5 })
  else match d.macFind (bits o.entry 0 48) (bits o.entry 48 12) with
    | some loc => (d.commitMac loc 0, { index := some loc })
    | none => (d, { status := 2 })

/-- Operation 5: search by key. -/
def tableSearch (d : Dev) (o : TableOp) : Dev × TableOut :=
  if o.table ≠ 1 then (d, { status := 5 })
  else match d.macFind (bits o.entry 0 48) (bits o.entry 48 12) with
    | some loc => (d, { index := some loc, data := some (d.macAt loc) })
    | none => (d, { status := 2 })

/-- Remove the dynamic entries of a port (255 any) and a FID (65,535 any); the number removed (R348). -/
def Dev.macFlush (d : Dev) (port fid : Nat) : Dev × Nat :=
  let hits := d.fwd.mac.filter fun (_, e) =>
    macDynamic e && (port == 0xFF || macPort e == some port) && (fid == 0xFFFF || bits e 48 12 == fid)
  (d.forEach (fun loc d => d.commitMac loc 0) (hits.map (·.1)), hits.length)

/-- Operation 6: flush dynamic entries by port and FID. -/
def tableFlush (d : Dev) (o : TableOp) : Dev × TableOut :=
  if o.table ≠ 1 then (d, { status := 5 })
  else
    let r := d.macFlush (bits o.index 0 8) (bits o.index 8 16)
    (r.1, { index := some r.2 })

/-- An operation is carried out (R348). -/
def Dev.tableRun (d : Dev) (o : TableOp) : Dev × TableOut :=
  match o.code with
  | 1 => tableRead d o
  | 2 => tableWrite d o
  | 3 => tableInsert d o
  | 4 => tableDelete d o
  | 5 => tableSearch d o
  | _ => tableFlush d o

/-- The outcome of an operation as its objects report it (R350). -/
def Dev.tableReport (d : Dev) (out : TableOut) : Dev :=
  let d := d.wrs [(Obj.TableOpCmd, 0), (Obj.TableOpStatus, out.status)]
  let d := match out.index with
    | some i => d.wr Obj.TableOpResultIndex i
    | none => d
  let d := match out.data with
    | some e => d.wrV Obj.TableOpData (.oct (leBytes 64 e))
    | none => d
  (d.inc Obj.TableOpCount).when (out.status == 3) (·.raise 16)

/-- The operation that runs commits whole, completes and reports its outcome (R349, R350). Until then nothing is committed
(R599). -/
def tableComplete (d : Dev) : Dev :=
  match d.fwd.tableOp with
  | none => d
  | some o =>
    let r := ({ d with fwd := { d.fwd with tableOp := none } } : Dev).tableRun o
    r.1.tableReport r.2

/-! ## Learning and ageing (R331 to R335) -/

/-- Keep LearnQueueFill beside the queue. -/
def Dev.setLearnQueue (d : Dev) (q : List LearnEvent) : Dev :=
  { d.wr Obj.LearnQueueFill (q.length : Nat) with fwd := { d.fwd with learnQueue := q } }

/-- Queue a learn event unless its key is queued; a full queue discards it and counts (R331, R332). -/
def Dev.queueLearn (d : Dev) (e : LearnEvent) : Dev :=
  if d.fwd.learnQueue.any (fun x => x.mac == e.mac && x.fid == e.fid) then d
  else if 256 ≤ d.fwd.learnQueue.length then (d.inc Obj.LearnDropCount).record 16
  else d.setLearnQueue (d.fwd.learnQueue ++ [e])

/-- Treat one event as work item 9 does (R332). -/
def Dev.learn (d : Dev) (e : LearnEvent) : Dev :=
  match d.macFind e.mac e.fid with
  | some loc =>
    let x := d.macAt loc
    if macDynamic x && macPort x != some e.port then
      (d.commitMac loc (macMoved x e.port)).inc Obj.MacMoveCount
    else d
  | none =>
    match d.macFree e.mac e.fid with
    | some loc => (d.commitMac loc (macLearned e.mac e.fid e.port)).inc Obj.MacLearnCount
    | none => (d.inc Obj.LearnDropCount).record 16

/-- Treat a list of events, oldest first. -/
def Dev.learnAll (d : Dev) : List LearnEvent → Dev
  | [] => d
  | e :: rest => (d.learn e).learnAll rest

/-- Work item 9: in hardware mode of F3 with the learning engine ENABLED, up to 256 events are treated (R332, R335). -/
def addressLearning (d : Dev) : Dev :=
  d.workItem 9 fun d =>
    if d.on .learning 0 && !d.rdB Obj.ModeF3Learning then
      let batch := d.fwd.learnQueue.take 256
      (d.setLearnQueue (d.fwd.learnQueue.drop 256)).learnAll batch
    else d

/-- The record of a learn event (R335). -/
def learnRecord (e : LearnEvent) : List Byte :=
  leBytes 6 e.mac ++ leBytes 2 e.fid ++ leBytes 1 e.port ++ leBytes 1 e.type ++ leBytes 2 0 ++ leBytes 4 e.turn

/-- A read of LearnQueueRead: up to four events in host-assisted mode, none in hardware mode (R335). The octets read
are left in the object. -/
def learnQueueRead (d : Dev) : Dev :=
  if d.rdB Obj.ModeF3Learning then
    let batch := d.fwd.learnQueue.take 4
    let recs := (batch.map learnRecord).flatten
    (d.setLearnQueue (d.fwd.learnQueue.drop 4)).wrV Obj.LearnQueueRead (.oct (recs ++ List.replicate (64 - recs.length) 0))
  else d.wrV Obj.LearnQueueRead (.oct (List.replicate 64 0))

/-- The ager visits one entry (R333). -/
def Dev.ageEntry (loc : Nat) (d : Dev) : Dev :=
  let e := d.macAt loc
  if macDynamic e then
    if bits e 75 3 = 0 then (d.commitMac loc 0).inc Obj.MacAgedCount
    else d.setMac loc (macWithAge e (bits e 75 3 - 1))
  else d

/-- The ager visits every dynamic entry; with MacAgeTime 0 nothing is aged (R333). -/
def macAgeing (d : Dev) : Dev :=
  if d.rd Obj.MacAgeTime = 0 then d else d.forEach Dev.ageEntry (d.fwd.mac.map (·.1))

/-! ## Meanings -/

/-- TABLE_OP_READ (R348). -/
def execTableOpRead (s : State) : Host.Outcome State Fault Refusal := s.effect (tableOpStart 1)

/-- TABLE_OP_WRITE (R348). -/
def execTableOpWrite (s : State) : Host.Outcome State Fault Refusal := s.effect (tableOpStart 2)

/-- TABLE_OP_INSERT (R348). -/
def execTableOpInsert (s : State) : Host.Outcome State Fault Refusal := s.effect (tableOpStart 3)

/-- TABLE_OP_DELETE (R348). -/
def execTableOpDelete (s : State) : Host.Outcome State Fault Refusal := s.effect (tableOpStart 4)

/-- TABLE_OP_SEARCH (R348). -/
def execTableOpSearch (s : State) : Host.Outcome State Fault Refusal := s.effect (tableOpStart 5)

/-- TABLE_OP_FLUSH (R348). -/
def execTableOpFlush (s : State) : Host.Outcome State Fault Refusal := s.effect (tableOpStart 6)

/-- TABLE_OP_COMPLETE (R350). -/
def execTableOpComplete (s : State) : Host.Outcome State Fault Refusal := s.effect tableComplete

/-- ADDRESS_LEARNING (R332). -/
def execAddressLearning (s : State) : Host.Outcome State Fault Refusal := s.effect addressLearning

/-- LEARN_QUEUE_READ (R335). -/
def execLearnQueueRead (s : State) : Host.Outcome State Fault Refusal := s.effect learnQueueRead

/-- MAC_AGEING_VISIT (R333). -/
def execMacAgeingVisit (s : State) : Host.Outcome State Fault Refusal := s.effect macAgeing

end Sys2Proof.Machine
end

