-- ==== Sys2Proof/Machine/Buffers.lean ====
section
/-! DEFINITION. Stores, queues and admission (R358 to R369), the pause frames the block calls for (R391, R392), and the
statistics counters (R420, R422). -/

namespace Sys2Proof.Machine

/-! ## Statistics (R420, R422) -/

/-- Counter `k` of a port, or its saturation mask at 41. -/
def Dev.statAt (d : Dev) (p k : Nat) : Nat := Sparse.get (fun _ => 0) d.buf.stats (64 * p + k)

/-- Set counter `k` of a port. -/
def Dev.setStat (d : Dev) (p k v : Nat) : Dev :=
  { d with buf := { d.buf with stats := Sparse.set (fun _ => 0) d.buf.stats (64 * p + k) v } }

/-- Counters that have no meaning for HP (R421). -/
def hpSilent (k : Nat) : Bool := [6, 7, 8, 10, 15, 28, 29, 30].contains k

/-- Add to counter `k`: it saturates at 2^40 - 1 and sets its bit of the saturation mask (R421, R422). -/
def Dev.count (d : Dev) (p k n : Nat) : Dev :=
  if p == 48 && hpSilent k then d
  else
    let v := d.statAt p k + n
    if v < 2 ^ 40 then d.setStat p k v
    else (d.setStat p k (2 ^ 40 - 1)).setStat p 41 (setBit (d.statAt p 41) k true)

/-- The size bin of a length: 0 for 64 bytes up to 6 above 1,518 (R420). -/
def sizeBin (len : Nat) : Nat :=
  if len ≤ 64 then 0 else if len ≤ 127 then 1 else if len ≤ 255 then 2 else if len ≤ 511 then 3
  else if len ≤ 1023 then 4 else if len ≤ 1518 then 5 else 6

/-! ## Frames, queues and transmitters -/

/-- A frame of the store. -/
def Dev.frame (d : Dev) (id : Nat) : Option Frame := Sparse.get (fun _ => none) d.fwd.frames id

/-- Put or remove a frame. -/
def Dev.putFrame (d : Dev) (id : Nat) (f : Option Frame) : Dev :=
  { d with fwd := { d.fwd with frames := Sparse.set (fun _ => none) d.fwd.frames id f } }

/-- Change a frame that exists. -/
def Dev.onFrame (d : Dev) (id : Nat) (f : Frame → Frame) : Dev :=
  match d.frame id with
  | some x => d.putFrame id (some (f x))
  | none => d

/-- Take a frame into the store under the next number. -/
def Dev.newFrame (d : Dev) (f : Frame) : Dev :=
  let d := d.putFrame d.fwd.nextFrame (some f)
  { d with fwd := { d.fwd with nextFrame := d.fwd.nextFrame + 1 } }

/-- A frame is gone once it has ended, its copies have been made and none is left. -/
def Dev.reapFrame (d : Dev) (id : Nat) : Dev :=
  match d.frame id with
  | some f => d.when (f.ended && f.replicated && f.copies == 0) fun d => d.putFrame id none
  | none => d

/-- The key of a queue: class `c` of a port, or the copies for HP. -/
def queueKey (p c : Nat) : Nat := if 48 ≤ p then 384 else 8 * p + c

/-- The copies of a queue, oldest first. -/
def Dev.queue (d : Dev) (k : Nat) : List Copy := Sparse.get (fun _ => []) d.buf.queues k

/-- Set the copies of a queue; an empty queue has no deficit (R372). -/
def Dev.setQueue (d : Dev) (k : Nat) (q : List Copy) : Dev :=
  { d with buf := { d.buf with
    queues := Sparse.set (fun _ => []) d.buf.queues k q,
    deficit := if q.isEmpty then Sparse.set (fun _ => 0) d.buf.deficit k 0 else d.buf.deficit } }

/-- What a port keeps for its transmitter. -/
def Dev.egress (d : Dev) (p : Nat) : EgressSt := Sparse.get (fun _ => {}) d.buf.ports p

/-- Change what a port keeps for its transmitter. -/
def Dev.setEgress (d : Dev) (p : Nat) (f : EgressSt → EgressSt) : Dev :=
  { d with buf := { d.buf with ports := Sparse.set (fun _ => {}) d.buf.ports p (f (d.egress p)) } }

/-- The object of class `c` at port `p` in an array of queue counters (R401). -/
def queueObj (o p c : Nat) : Nat := inst (o + 256 * c) p

/-- The largest frame of a port, HP included (R410, R427). -/
def Dev.maxFrame (d : Dev) (p : Nat) : Nat := d.rdN (inst Obj.MacMaxFrameSize p)

/-- The port can take copies: its link is up, and port and queue set are ENABLED (R337, R366). HP has no queue set. -/
def Dev.portTakes (d : Dev) (p : Nat) : Bool :=
  if p == 48 then d.on .port 48
  else d.rdB (inst Obj.PortLinkUp p) && d.on .port p && d.on .queueSet p

/-! ## Cells (R358 to R361, R369) -/

/-- Classes of a kind: the home store is the fast one for types 1 and 2 (R363). -/
def Dev.fastClass (d : Dev) (c : Nat) : Bool := d.rd (inst Obj.ClassType c) != 0

/-- The guarantees of a store: 48 queues of each class whose home it is (R358, R359). -/
def Dev.guarantees (d : Dev) (fast : Bool) : Int :=
  ((List.range 8).map fun c => if d.fastClass c == fast then 48 * d.rd (inst Obj.ClassMinCells c) else 0).sum

/-- Cells free in the fast shared pool (R358). -/
def Dev.fastSharedFree (d : Dev) : Int := 98304 - 8192 - d.guarantees true - d.buf.fastSharedUsed

/-- Cells of the packet buffer (R359). -/
def Dev.packetCells (d : Dev) : Int := 4096 * d.rd Obj.DeepPartitionPacket

/-- Cells free in the deep shared pool (R359). -/
def Dev.deepSharedFree (d : Dev) : Int := d.packetCells - d.guarantees false - d.buf.deepSharedUsed

/-- Add to an object, and keep its highest value in another. -/
def Dev.addPeak (d : Dev) (o peak : Nat) (n : Int) : Dev :=
  let d := d.wr o (d.rd o + n)
  d.when (decide (d.rd peak < d.rd o)) fun d => d.wr peak (d.rd o)

/-- One store against its threshold: the event of a crossing upwards, or downwards by 5 points (R369). -/
def Dev.crossing (d : Dev) (above : Bool) (fill threshold cells : Int) (ev : Nat) (cause : Int) : Dev × Bool :=
  if !above && decide (threshold * cells < fill * 100) then ((d.wr Obj.StoreEventCause cause).raise ev, true)
  else if above && decide (fill * 100 < (threshold - 5) * cells) then
    ((d.wr Obj.StoreEventCause (cause + 1)).raise ev, false)
  else (d, above)

/-- Both stores against their thresholds (R369). -/
def Dev.checkStores (d : Dev) : Dev :=
  let f := d.crossing d.buf.fastAbove (d.rd Obj.FastStoreFill) (d.rd Obj.FastStoreThreshold) 98304 12 1
  let g := f.1.crossing d.buf.deepAbove (d.rd Obj.DeepStoreFill) (d.rd Obj.DeepStoreThreshold) d.packetCells 13 3
  { g.1 with buf := { g.1.buf with fastAbove := f.2, deepAbove := g.2 } }

/-- Take landing cells, or give them back (R361). -/
def Dev.addLanding (d : Dev) (n : Int) : Dev :=
  (d.wr Obj.LandingFill (d.rd Obj.LandingFill + n)).addPeak Obj.FastStoreFill Obj.FastStorePeak n

/-- Take cells of a pool for a queue, or give them back with a negative number (R358 to R360, R401). -/
def Dev.addCells (d : Dev) (p c : Nat) (pool : Pool) (n : Int) : Dev :=
  let d := if p == 48 then d.wr Obj.HpFill (d.rd Obj.HpFill + n)
    else d.addPeak (queueObj Obj.QueueFill p c) (queueObj Obj.QueuePeakFill p c) n
  let d := match pool with
    | .deepGuarantee | .deepShared => (d.counted 0 0x07 0 n.toNat).addPeak Obj.DeepStoreFill Obj.DeepStorePeak n
    | _ => (d.counted 0 0x06 0 n.toNat).addPeak Obj.FastStoreFill Obj.FastStorePeak n
  match pool with
  | .fastShared | .hp => { d with buf := { d.buf with fastSharedUsed := d.buf.fastSharedUsed + n } }
  | .deepShared => { d with buf := { d.buf with deepSharedUsed := d.buf.deepSharedUsed + n } }
  | _ => d

/-! ## Pause frames to send (R391, R392) -/

/-- Cells held by copies received on a port with a classification PCP. -/
def Dev.pfcCells (d : Dev) (p prio : Nat) : Nat := Sparse.get (fun _ => 0) d.buf.pfcCells (8 * p + prio)

/-- The count a pause decision looks at: all cells, or those of a priority (R391). -/
def Dev.pauseCount (d : Dev) (p : Nat) (prio : Option Nat) : Int :=
  match prio with
  | none => d.rd (inst Obj.PauseIngressCells p)
  | some k => d.pfcCells p k

/-- XOFF is held for PAUSE, or for a priority (PauseXoffState, R402). -/
def Dev.xoffHeld (d : Dev) (p : Nat) (prio : Option Nat) : Bool :=
  match prio with
  | none => d.rd (inst Obj.PauseXoffState p) == 0xFF
  | some k => bit (d.rdN (inst Obj.PauseXoffState p)) k

/-- A port holds XOFF (R392). -/
def Dev.holdsXoff (d : Dev) (p : Nat) : Bool := d.rd (inst Obj.PauseXoffState p) != 0

/-- Call for XOFF above PauseXoffCells and for XON at or below PauseXonCells (R391). -/
def Dev.pauseCheck (d : Dev) (p : Nat) (prio : Option Nat) : Dev :=
  let n := d.pauseCount p prio
  let dueOff := (d.egress p).due.any (fun x => x.xoff && x.prio == prio)
  let dueOn := (d.egress p).due.any (fun x => !x.xoff && x.prio == prio)
  let held := d.xoffHeld p prio
  if decide (d.rd (inst Obj.PauseXoffCells p) < n) && ((!held && !dueOff) || dueOn) then
    d.setEgress p fun e => { e with due := e.due.filter (fun x => x.prio != prio) ++ [⟨true, prio⟩] }
  else if decide (n ≤ d.rd (inst Obj.PauseXonCells p)) && (dueOff || (held && !dueOn)) then
    d.setEgress p fun e =>
      { e with due := e.due.filter (fun x => x.prio != prio) ++ (if held then [⟨false, prio⟩] else []) }
  else d

/-- Count cells of copies received on a port, and call for XOFF or XON as PauseTxMode says (R391). -/
def Dev.addIngress (d : Dev) (i : Option Nat) (prio : Nat) (n : Int) : Dev :=
  match i with
  | none => d
  | some i =>
    if 48 ≤ i then d
    else
      let d := d.wr (inst Obj.PauseIngressCells i) (d.rd (inst Obj.PauseIngressCells i) + n)
      let d := { d with buf := { d.buf with
        pfcCells := Sparse.set (fun _ => 0) d.buf.pfcCells (8 * i + prio) ((d.pfcCells i prio : Int) + n).toNat } }
      let mode := d.rd (inst Obj.PauseTxMode i)
      if mode = 1 then d.pauseCheck i none
      else if mode = 2 && bit (d.rdN (inst Obj.PfcTxMask i)) prio then d.pauseCheck i (some prio)
      else d

/-! ## Admission (R360, R365 to R367) -/

/-- Cells a copy reserves: `len` is Li of R365, `added` the tag it gains, and `le` the egress maximum. -/
def cellsFor (len added le : Nat) : Nat := (min (len + added) le + 255) / 256

/-- The store a copy of a class goes to: deep or fast, and whether it is the home store of the class (R360). -/
def Dev.storeOf (d : Dev) (c : Nat) (cut : Bool) : Bool × Bool :=
  if d.fastClass c then (false, true)
  else if cut then (false, false)
  else if d.on .deepStore 0 then (true, true)
  else (false, false)

/-- The admission decision of R366: the pool and the landing and headroom cells taken, or the cause of refusal. -/
def Dev.admitCopy (d : Dev) (p c : Nat) (cut : Bool) (r : Nat) (ingress : Option Nat) : Except Nat (Pool × Nat × Nat) :=
  if p == 48 then
    if decide (d.rd Obj.HpMaxCells < d.rd Obj.HpFill + r) || decide (d.fastSharedFree < r) then .error 5
    else .ok (.hp, 0, 0)
  else
    let (deep, home) := d.storeOf c cut
    let landing := if deep then r else 0
    if deep && decide (8192 < d.rd Obj.LandingFill + r) then .error 4
    else
      let fill := d.rd (queueObj Obj.QueueFill p c)
      let g : Int := if home then d.rd (inst Obj.ClassMinCells c) else 0
      let free := if deep then d.deepSharedFree else d.fastSharedFree
      let shared : Pool := if deep then .deepShared else .fastShared
      let xoff := match ingress with
        | some i => decide (i < 48) && d.holdsXoff i
        | none => false
      if fill + r ≤ g then .ok (if deep then .deepGuarantee else .fastGuarantee, landing, 0)
      else if d.rd (inst Obj.ClassMaxCells c) < fill + r then .error 1
      else if free < r then .error 3
      else if (fill + r - g) * 64 ≤ 2 ^ d.rdN (inst Obj.ClassAlpha c) * (free - r) then .ok (shared, landing, 0)
      else match xoff, ingress with
        | true, some i =>
          if ((d.egress i).headroom + r : Nat) ≤ d.rd (inst Obj.PauseHeadroomCells i) then .ok (shared, landing, r)
          else .error 6
        | _, _ => .error 2

/-- Count a refusal with its cause, and EV14 for the Turn (R367). -/
def Dev.refuse (d : Dev) (p c cause : Nat) : Dev :=
  let d := (d.counted 0 0x03 p 1).when (p != 48) fun d => d.inc (queueObj Obj.QueueAdmissionDropCount p c)
  (d.inc (inst Obj.AdmissionDropByCause (cause - 1))).record 14

/-- A copy that a port cannot take, or loses to a flush, is counted there (R352, R420). -/
def Dev.countFlushed (d : Dev) (p : Nat) : Dev := (d.inc (inst Obj.PortFlushedFrameCount p)).count p 40 1

/-- Enqueue an admitted copy with its cells (R343, R366, R401). -/
def Dev.enqueue (d : Dev) (x : Copy) (headroom : Nat) : Dev :=
  let p := x.plan.out
  let c := x.plan.cls
  let d := (d.counted 0 0x02 p 1).addCells p c x.pool x.cells
  let d := d.when (x.landing != 0) fun d => d.addLanding x.landing
  let d := match x.ingress with
    | some i => d.when (headroom != 0) fun d => d.setEgress i fun e => { e with headroom := e.headroom + headroom }
    | none => d
  let d := d.addIngress x.ingress x.pcp x.cells
  let d := d.when (p != 48) fun d => d.inc (queueObj Obj.QueueAdmittedCount p c)
  (d.setQueue (queueKey p c) (d.queue (queueKey p c) ++ [x])).checkStores

/-- The launch time of a copy: the lowest Turn whose boundary plus the offset is not earlier than its admission, fixed
in spindle time (R378). -/
def Dev.launchOf (d : Dev) (plan : CopyPlan) (t : Int) : Option (Int × Nat) :=
  match plan.launchAt, plan.launch with
  | some l, _ => some l
  | none, some (offset, tol) =>
    let p := d.rdN Obj.TurnPeriod
    let m := firstAtOf p (d.rd Obj.TurnAnchorTime) (d.rdN Obj.TurnAnchorNumber) (t - offset * nsT)
    some (d.boundaryTime m + offset * nsT, tol)
  | none, none => none

/-- A frame an engine sends: enqueued directly in EngineFrameClass of its port, admitted under R366 (R364). -/
def Dev.engineSend (d : Dev) (p : Nat) (m : EngineMsg) (len : Nat) : Dev :=
  let c := d.rdN Obj.EngineFrameClass
  let reasons := if p == 48 then 1 else 0
  if !d.portTakes p then d.countFlushed p
  else
    let r := cellsFor len 0 (d.maxFrame p)
    match d.admitCopy p c false r none with
    | .error cause => d.refuse p c cause
    | .ok (pool, _, _) =>
      -- the whole frame exists at once, so its landing cells are freed at once (R361)
      d.enqueue { payload := .engine m len, plan := { out := p, cls := c, reasons := reasons }, pool := pool, cells := r,
                  admitted := d.time.uptime } 0

/-! ## Freeing (R352, R361, R365) -/

/-- Free the cells of a copy that leaves its queue or its transmitter for good. -/
def Dev.freeCopy (d : Dev) (x : Copy) : Dev :=
  let d := d.addCells x.plan.out x.plan.cls x.pool (-(x.cells : Int))
  let d := d.when (x.landing != 0) fun d => d.addLanding (-(x.landing : Int))
  let d := (d.addIngress x.ingress x.pcp (-(x.cells : Int))).checkStores
  match x.payload with
  | .frame id => (d.onFrame id fun f => { f with copies := f.copies - 1 }).reapFrame id
  | .engine _ _ => d

/-- The ring descriptor a copy's frame came from. -/
def Dev.copyRing (d : Dev) (x : Copy) : Option (Nat × Nat) :=
  match x.payload with
  | .frame id => (d.frame id).bind (·.ring)
  | .engine _ _ => none

/-- Discard copies, with the status their descriptors take. -/
def Dev.discardAll (d : Dev) (status : Nat) : List Copy → Dev
  | [] => d
  | x :: rest => ((d.txOutcome (d.copyRing x) status none).freeCopy x).discardAll status rest

/-- A port-down flush: every copy queued for the port is discarded, its cells freed, the pause timers and XOFF state
cleared (R352, R399). -/
def Dev.portFlush (d : Dev) (p : Nat) : Dev :=
  let keys := if p == 48 then [384] else (List.range 8).map (queueKey p)
  let lost := (keys.map d.queue).flatten
  let d := d.forEach (fun k d => d.setQueue k []) keys
  let d := (d.inc (inst Obj.PortFlushCount p)).add32 (inst Obj.PortFlushedFrameCount p) lost.length
  let d := (d.count p 40 lost.length).discardAll 6 lost
  if p == 48 then d
  else
    let d := d.setEgress p fun e => { e with paused := 0, headroom := 0, due := [] }
    d.wrs [(inst Obj.QueuePausedMask p, 0), (inst Obj.PauseXoffState p, 0)]

/-- Take from the queues every copy of a kind, wherever it waits: what is left, and what was taken. -/
def takeCopies (p : Copy → Bool) : List (Nat × List Copy) → List (Nat × List Copy) × List Copy
  | [] => ([], [])
  | (k, q) :: rest =>
    let r := takeCopies p rest
    let kept := q.filter (fun x => !p x)
    (if kept.isEmpty then r.1 else (k, kept) :: r.1, q.filter p ++ r.2)

/-- Discard every queued copy of a kind, with the status their descriptors take; a queue left empty has no deficit (R372). -/
def Dev.discardCopies (d : Dev) (p : Copy → Bool) (status : Nat) : Dev :=
  let r := takeCopies p d.buf.queues
  let deficit := d.buf.deficit.filter fun e => r.1.any fun q => q.1 == e.1
  ({ d with buf := { d.buf with queues := r.1, deficit := deficit } }).discardAll status r.2

end Sys2Proof.Machine
end

