-- ==== Sys2Proof/Machine/Gates.lean ====
section
/-! DEFINITION. The Armature: gate lists, the gates at an instant, and the open-time rule (R59, R373 to R376, R379). -/

namespace Sys2Proof.Machine

/-! ## Gate lists (R373) -/

/-- Entry `i` of a port's Armature list or Maquette list, as the number its 8 bytes spell. -/
def Dev.gateEntry (d : Dev) (maq : Bool) (p i : Nat) : Nat :=
  Sparse.get (fun _ => 0) (if maq then d.buf.maqGates else d.buf.armGates) (64 * p + i)

/-- The entries of a port's list within its length: INTERVAL in ns and GATES. -/
def Dev.gateList (d : Dev) (maq : Bool) (p : Nat) : List (Nat × Nat) :=
  let len := d.rdN (inst (if maq then Obj.MaquetteListLength else Obj.ArmatureListLength) p)
  (List.range len).map fun i =>
    let e := d.gateEntry maq p i
    (bits e 0 32, bits e 32 8)

/-- The gates of scheduled classes are closed and all others open: the gates in a gap (R59, R363). -/
def Dev.gapGates (d : Dev) : Nat :=
  ((List.range 8).map fun c => if d.rd (inst Obj.ClassType c) == 2 then 0 else 2 ^ c).sum

/-! ## The Turns a computation meets (R375) -/

/-- A stretch of time with the gates in force over it. -/
structure GateSpan where
  start : Int
  stop : Int
  gates : Nat
deriving DecidableEq, Repr

/-- The stretches of one Turn from `start` to `stop`: each entry at the sum of the intervals before it, the last one up
to the end; an entry that would start at or after the end is not run (R374, R376). -/
def spansOf : List (Nat × Nat) → Int → Int → List GateSpan
  | [], a, b => [⟨a, b, 0xFF⟩]
  | [(_, g)], a, b => if a < b then [⟨a, b, g⟩] else []
  | (i, g) :: rest, a, b =>
    if a < b then ⟨a, min b (a + i * nsT), g⟩ :: spansOf rest (a + i * nsT) b else []

/-- The numbering under which a Turn runs, once an armed Turn parameter change has taken effect (R375). -/
structure Numbering where
  period : Nat
  anchor : Int
  number : Nat
deriving DecidableEq, Repr

def Numbering.boundary (u : Numbering) (n : Nat) : Int := boundaryOf u.period u.anchor u.number n

/-- The numbering in force. -/
def Dev.numbering (d : Dev) : Numbering :=
  ⟨d.rdN Obj.TurnPeriod, d.rd Obj.TurnAnchorTime, d.rdN Obj.TurnAnchorNumber⟩

/-- What an armed Turn parameter change will do: its Turn, and the numbering from there (R54, R55). -/
def Dev.comingNumbering (d : Dev) : Option (Nat × Numbering) :=
  (d.turn.queue.find? Change.isParam).map fun c =>
    (c.turn, match c.kind with
      | .period p => ⟨p, d.boundaryTime c.turn, c.turn⟩
      | .reanchor p ta na => ⟨p, ta, na⟩
      | _ => d.numbering)

/-- The Turn of an armed swap (R375). -/
def Dev.swapTurn (d : Dev) : Option Nat := (d.turn.queue.find? (fun c => c.kind == .swap)).map (·.turn)

/-- The stretches from Turn `n` on, Turn by Turn, for at most `fuel` Turns (R375). -/
def Dev.spansFrom (d : Dev) (p : Nat) : Nat → Numbering → Option (Nat × Numbering) → Nat → List GateSpan
  | 0, _, _, _ => []
  | fuel + 1, u, coming, n =>
    let maq := match d.swapTurn with
      | some s => decide (s ≤ n)
      | none => false
    match coming with
    | some (at_, v) =>
      if at_ ≤ n then
        -- the change falls at this boundary: a gap runs up to the first boundary of the new numbering (R55, R59)
        let here := u.boundary n
        let m := max n (firstAtOf v.period v.anchor v.number here)
        let first := v.boundary m
        (if here < first then [⟨here, first, d.gapGates⟩] else []) ++ d.spansFrom p fuel v none m
      else spansOf (d.gateList maq p) (u.boundary n) (u.boundary (n + 1)) ++ d.spansFrom p fuel u coming (n + 1)
    | none => spansOf (d.gateList maq p) (u.boundary n) (u.boundary (n + 1)) ++ d.spansFrom p fuel u none (n + 1)

/-- The stretches that cover an interval from `t` of length `tau`: those of the Turn in progress and the Turns after
it; in a gap, the gap up to the next Turn first (R59, R375, R376). -/
def Dev.spans (d : Dev) (p : Nat) (t tau : Int) : List GateSpan :=
  let u := d.numbering
  let fuel := (tau / (5000 * (2 * nsT))).toNat + 4
  if d.turn.gap then
    [⟨min t d.now, u.boundary d.turn.next, d.gapGates⟩] ++
      (if d.on .armature 0 then d.spansFrom p fuel u d.comingNumbering d.turn.next
       else [⟨u.boundary d.turn.next, t + tau + 1, 0xFF⟩])
  else if d.on .armature 0 then d.spansFrom p fuel u d.comingNumbering (d.rdN Obj.TurnNumber)
  else [⟨min t d.now, t + tau + 1, 0xFF⟩]

/-- Gate `c` is open throughout `t` to `t + tau`: every stretch that meets the interval has it open; a copy may end as the
gate closes (R375). -/
def Dev.gateOpen (d : Dev) (p c : Nat) (t tau : Int) : Bool :=
  (d.spans p t tau).all fun s => decide (s.stop ≤ t) || decide (max (t + 1) (t + tau) ≤ s.start) || bit s.gates c

/-- The gates in force at an instant. -/
def Dev.gatesAt (d : Dev) (p : Nat) (t : Int) : Nat :=
  match (d.spans p t 0).find? (fun s => decide (s.start ≤ t) && decide (t < s.stop)) with
  | some s => s.gates
  | none => 0xFF

/-- QueueGateStates shows the gates in force from an instant on (R374). A copy in transmission whose gate closes finishes, and
counts in GateOverrunCount (R399). -/
def Dev.showGates (p : Nat) (t : Int) (d : Dev) : Dev :=
  let was := d.rdN (inst Obj.QueueGateStates p)
  let now := d.gatesAt p t
  let d := d.wr (inst Obj.QueueGateStates p) now
  match (d.egress p).tx with
  | some x => d.when (bit was x.copy.plan.cls && !bit now x.copy.plan.cls) fun d => d.inc Obj.GateOverrunCount
  | none => d

/-- The gates of every port from an instant on: a Turn or a gap has begun, or the Armature has entered or left ENABLED (R59,
R374, R376). -/
def Dev.showAllGates (d : Dev) (t : Int) : Dev := d.forEach (fun p d => d.showGates p t) (List.range 48)

/-- Transmission time of a copy of `len` bytes with preamble and gap at a line rate in Mb/s, in 2^-16 ns (R375). -/
def txTime (len rate : Nat) : Int := ceilDiv (((len : Int) + 20) * 8 * 1000 * nsT) (max rate 1)

/-- The line rate of a port in Mb/s. -/
def Dev.lineRate (d : Dev) (p : Nat) : Nat := d.rdN (inst Obj.PortLineRate p)

/-- The launch guard: the copy ends no later than every later launch time of a head copy of another queue of the port
whose gate will be open then (R379). -/
def Dev.launchGuard (d : Dev) (p : Nat) (own : Option Nat) (t tau : Int) : Bool :=
  (List.range 8).all fun c =>
    if own == some c then true
    else match (d.queue (queueKey p c)).head? with
      | some x => match x.launch with
        | some (l, _) => decide (l ≤ t) || decide (t + tau ≤ l) || !d.gateOpen p c l 0
        | none => true
      | none => true

/-- GATE_ENTRY_START: an entry's start is reached and the gates change (R374). -/
def gateEntryStart (p : Nat) (t : Int) (d : Dev) : Dev := (d.until t).showGates p t

/-- GATE_ENTRY_START (R374). -/
def execGateEntryStart (p : Port) (t : Int) (s : State) : Host.Outcome State Fault Refusal :=
  s.effect (gateEntryStart p t)

end Sys2Proof.Machine
end

