-- ==== Sys2Proof/Machine/Parse.lean ====
section
/-! DEFINITION. Parsing (R317 to R319), the frame keys of the stream table (R321), and which frames belong to the
engines and to the dictionary server (R336, R409, R442, R506). -/

namespace Sys2Proof.Machine

/-- Bytes `at_` to `at_ + n - 1` of a frame, or none where they do not lie wholly within it. -/
def slice (bs : List Byte) (at_ n : Nat) : Option (List Byte) :=
  if at_ + n ≤ bs.length then some ((bs.drop at_).take n) else none

/-- A big-endian field of a frame; 0 where it does not lie wholly within it. -/
def be (bs : List Byte) (at_ n : Nat) : Nat :=
  match slice bs at_ n with
  | some x => beNat x
  | none => 0

/-- The fields of a PTP header at an offset, when its first 5 bytes are there. -/
def ptpAt (bs : List Byte) (o : Nat) : Option PtpInfo :=
  (slice bs o 5).map fun _ =>
    { type := be bs o 1 % 16, sdo := be bs o 1 / 16, domain := be bs (o + 4) 1, at_ := o }

/-- The length of a transport header: that of TCP by its data offset, at least 20 bytes (R319). -/
def l4Header (bs : List Byte) (proto o : Nat) : Nat :=
  if proto = 6 then max 20 (be bs (o + 12) 1 / 16 * 4) else if proto = 17 then 8 else if proto = 132 then 12 else 0

/-- The ports of TCP, UDP and SCTP when the whole transport header is there (R319). -/
def portsAt (bs : List Byte) (proto o : Nat) : Option (List Byte × List Byte) :=
  let need := l4Header bs proto o
  if need = 0 then none
  else (slice bs o need).map fun h => (h.take 2, (h.drop 2).take 2)

/-- IPv4 at an offset (R319). -/
def ipv4At (bs : List Byte) (o : Nat) : Option IpInfo :=
  let vihl := be bs o 1
  if vihl / 16 = 4 && decide (5 ≤ vihl % 16) && (slice bs o 20).isSome then
    let frag := be bs (o + 6) 2
    let proto := be bs (o + 9) 1
    let l4 := o + 4 * (vihl % 16)
    some { v6 := false, sa := (slice bs (o + 12) 4).getD [], da := (slice bs (o + 16) 4).getD [], proto := proto, l4 := l4,
           ports := if bits frag 0 13 != 0 || bit frag 13 then none else portsAt bs proto l4 }
  else none

/-- The next header after at most two extension headers: its number, its offset, and whether a fragment header stood
among them (R319). -/
def v6Walk (bs : List Byte) : Nat → Nat → Nat → Bool → Nat × Nat × Bool
  | 0, next, o, frag => (next, o, frag)
  | n + 1, next, o, frag =>
    if (slice bs o 8).isNone then (next, o, frag)
    else if next = 44 then v6Walk bs n (be bs o 1) (o + 8) true
    else if next = 0 || next = 43 || next = 60 then v6Walk bs n (be bs o 1) (o + 8 * (be bs (o + 1) 1 + 1)) frag
    else (next, o, frag)

/-- IPv6 at an offset (R319). -/
def ipv6At (bs : List Byte) (o : Nat) : Option IpInfo :=
  if (slice bs o 40).isSome then
    let (proto, l4, frag) := v6Walk bs 2 (be bs (o + 6) 1) (o + 40) false
    some { v6 := true, sa := (slice bs (o + 8) 16).getD [], da := (slice bs (o + 24) 16).getD [], proto := proto, l4 := l4,
           ports := if frag then none else portsAt bs proto l4 }
  else none

/-- Parse the first 128 bytes (R317 to R319). -/
def parse (sTpid : Nat) (frame : List Byte) : Parsed :=
  let bs := frame.take 128
  let s := be bs 12 2 == sTpid && (slice bs 12 4).isSome
  let o1 := if s then 16 else 12
  let c := be bs o1 2 == 0x8100 && (slice bs o1 4).isSome
  let o := if c then o1 + 4 else o1
  let et := be bs o 2
  let ip := if et = 0x0800 then ipv4At bs (o + 2) else if et = 0x86DD then ipv6At bs (o + 2) else none
  let udpPtp := match ip with
    | some i => match i.ports with
      | some (_, dp) => if i.proto = 17 && (beNat dp = 319 || beNat dp = 320) then ptpAt bs (i.l4 + 8) else none
      | none => none
    | none => none
  { da := bs.take 6, sa := (bs.drop 6).take 6,
    sTag := if s then some (be bs 14 2) else none, cTag := if c then some (be bs (o1 + 2) 2) else none,
    at_ := o, ethertype := et, ip := ip, ptp := if et = 0x88F7 then ptpAt bs (o + 2) else udpPtp }

/-- Parse a frame with the port objects of its ingress port. -/
def Dev.parse (d : Dev) (p : Nat) (bs : List Byte) : Parsed := Machine.parse (d.rdN (inst Obj.PortSTagTpid p)) bs

/-- The classification tag of a frame: its TCI (R318). -/
def Dev.classTag (d : Dev) (p : Nat) (x : Parsed) : Option Nat :=
  if d.rd (inst Obj.PortTagMode p) == 0 then x.cTag else x.sTag

/-- VID and PCP as the stream keys take them: the tag's, else PortPvid and PortDefaultPcp (R321). -/
def Dev.streamVid (d : Dev) (p : Nat) (x : Parsed) : Nat × Nat :=
  match d.classTag p x with
  | some tci => (tci % 4096, tci / 8192)
  | none => (d.rdN (inst Obj.PortPvid p), d.rdN (inst Obj.PortDefaultPcp p))

/-- Classification VID and PCP: VID 0 stands for PortPvid (R324). -/
def Dev.classVid (d : Dev) (p : Nat) (x : Parsed) : Nat × Nat :=
  let v := d.streamVid p x
  (if v.1 = 0 then d.rdN (inst Obj.PortPvid p) else v.1, v.2)

/-! ## Stream keys (R320, R321) -/

/-- A field takes part only when its FIELDMASK bit is 1. -/
def fieldOk (mask b : Nat) (eq : Bool) : Bool := !bit mask b || eq

/-- A stream entry matches a frame (R321). -/
def streamMatch (e port vid pcp : Nat) (x : Parsed) : Bool :=
  let m := bits e 32 7
  let common := fieldOk m 0 (bits e 48 12 == vid) && fieldOk m 1 (bits e 60 3 == pcp)
  let ports (i : IpInfo) : Bool := match i.ports with
    | some (sp, dp) => fieldOk m 3 (bits e 80 16 == leNat sp) && fieldOk m 4 (bits e 96 16 == leNat dp)
    | none => !bit m 3 && !bit m 4
  let ipKey (i : IpInfo) (w : Nat) : Bool :=
    fieldOk m 2 (bits e 64 8 == i.proto) && ports i && fieldOk m 5 (bits e 128 w == leNat i.sa)
      && fieldOk m 6 (bits e 256 w == leNat i.da)
  bit e 0 && common && match bits e 1 3 with
    | 1 => fieldOk m 5 (bits e 128 48 == leNat x.da)
    | 2 => match x.ip with
      | some i => !i.v6 && ipKey i 32
      | none => false
    | 3 => match x.ip with
      | some i => i.v6 && ipKey i 128
      | none => false
    | 4 => fieldOk m 2 (bits e 64 8 == port)
    | _ => false

/-- The matching entry of lowest index; lookups miss while the stream table is not ENABLED (R15, R320). -/
def Dev.streamLookup (d : Dev) (p : Nat) (x : Parsed) : Option (Nat × Nat) :=
  let v := d.streamVid p x
  if d.tableOn 2 then d.fwd.stream.find? fun (_, e) => streamMatch e p v.1 v.2 x else none

/-! ## Frames that belong to the device -/

/-- A group address (IEEE 802.3). -/
def isGroup (mac : List Byte) : Bool := match mac with
  | b :: _ => b.toNat % 2 == 1
  | [] => false

/-- The broadcast address. -/
def isBroadcast (mac : List Byte) : Bool := mac == List.replicate 6 0xFF

/-- An address from 01-80-C2-00-00-00 to 01-80-C2-00-00-0F. -/
def isLinkLocal (mac : List Byte) : Bool := mac.take 5 == [0x01, 0x80, 0xC2, 0x00, 0x00] && be mac 5 1 < 16

/-- MacPortAddress of a port: MacBaseAddress plus its number (R409). -/
def Dev.portMac (d : Dev) (p : Nat) : List Byte :=
  beBytes 6 (beNat (d.rdV Obj.MacBaseAddress).bytes + p)

/-- One of the device's 49 addresses (R336, R409). -/
def Dev.isOwnMac (d : Dev) (mac : List Byte) : Bool :=
  let base := beNat (d.rdV Obj.MacBaseAddress).bytes
  decide (base ≤ beNat mac) && decide (beNat mac ≤ base + 48)

/-- A loopback beacon, which the MAC consumes (R442, R443). -/
def isBeacon (bs : List Byte) : Bool := be bs 12 2 == 0x88B5 && be bs 14 4 == 0x54544C42

/-- A MAC Control frame, which the MAC consumes (R388). -/
def isMacControl (bs : List Byte) : Bool := be bs 12 2 == 0x8808

/-- Group addresses the filter never discards (R417). -/
def filterExempt (da : List Byte) : Bool :=
  isBroadcast da || isLinkLocal da || da == [0x01, 0x1B, 0x19, 0, 0, 0]
    || da == [0x01, 0x00, 0x5E, 0x00, 0x01, 0x81] || da == [0x01, 0x00, 0x5E, 0x00, 0x00, 0x6B]
    || da == [0x33, 0x33, 0, 0, 0x01, 0x81] || da == [0x33, 0x33, 0, 0, 0, 0x6B]

/-- The group filter discards a frame (R417). It does not apply on HP. -/
def Dev.groupFiltered (d : Dev) (p : Nat) (bs : List Byte) : Bool :=
  let da := bs.take 6
  let bin := filterBin da
  p != 48 && d.rdB (inst Obj.MacGroupFilterEnable p) && isGroup da && !filterExempt da
    && !bit (((d.rdV (inst Obj.MacGroupHashFilter p)).bytes.getD (bin / 8) 0).toNat) (bin % 8)

/-- An ESMC PDU (R105). -/
def isEsmc (x : Parsed) (bs : List Byte) : Bool :=
  x.da == [0x01, 0x80, 0xC2, 0x00, 0x00, 0x02] && x.ethertype == 0x8809 && be bs (x.at_ + 2) 1 == 0x0A

/-- A frame of the boundary-clock domain (R136, R137). -/
def Dev.isBoundaryPtp (d : Dev) (i : PtpInfo) : Bool :=
  d.rdN Obj.PtpDomainNumber == i.domain && d.rdN Obj.PtpMajorSdoId == i.sdo

/-- The ENABLED transparent clock domain a PTP frame matches (R137). -/
def Dev.tcDomainOf (d : Dev) (i : PtpInfo) : Option Nat :=
  (List.range 4).find? fun n =>
    d.on .tcDomain n && d.rdN (inst Obj.TcDomainNumber n) == i.domain && d.rdN (inst Obj.TcDomainMajorSdoId n) == i.sdo

/-- The link-local IPv6 address formed from MacBaseAddress by modified EUI-64 (R506). -/
def Dev.linkLocalIp (d : Dev) : List Byte :=
  match (d.rdV Obj.MacBaseAddress).bytes with
  | [a, b, c, x, y, z] => [0xFE, 0x80, 0, 0, 0, 0, 0, 0, a ^^^ 2, b, c, 0xFF, 0xFE, x, y, z]
  | _ => []

/-- Whether a frame is an MDP datagram addressed to the device; where only its port or VLAN fails, `some false` (R506). -/
def Dev.mdpTaken (d : Dev) (p vid : Nat) (x : Parsed) : Option Bool :=
  let toUs (i : IpInfo) : Bool :=
    if i.v6 then
      i.da == (d.rdV Obj.MdpIpv6Address).bytes || i.da == d.linkLocalIp
    else i.da == (d.rdV Obj.MdpIpv4Address).bytes && i.da != List.replicate 4 0
  match x.ip with
  | some i =>
    match i.ports with
    | some (_, dp) =>
      if d.rdB Obj.MdpEnable && d.isOwnMac x.da && i.proto == 17 && beNat dp == 31744 && toUs i then
        some (bit (d.rdN Obj.MdpPortMask) p && d.rdN Obj.MdpVlan == vid)
      else none
    | none => none
  | none => none

end Sys2Proof.Machine
end

