-- ==== Sys2Proof/Machine/EngineFrames.lean ====
section
/-! DEFINITION. The frames the device's engines send, as bytes: PTP messages in the three mappings of R109, ESMC PDUs (R105) and
loopback beacons (R442). What R105, R109, R112 to R115 and R442 leave to the standards they name, the layouts of IEEE 1588, IEEE
802.1AS, ITU-T G.8264, Ethernet and IP, is PRESUMED (log entry 31). -/

namespace Sys2Proof.Machine

/-! ## Identities (R116, R117) -/

/-- The clock identity: the EUI-64 of the device's MAC address (PRESUMED, log entry 30). -/
def Dev.clockIdentity (d : Dev) : Nat :=
  let mac := beNat (d.rdV Obj.MacBaseAddress).bytes
  bits mac 24 24 * 2 ^ 40 + 0xFFFE * 2 ^ 24 + bits mac 0 24

/-- The port identity a port sends: clock identity and port number, counted from 1. -/
def Dev.portIdentity (d : Dev) (p : Nat) : Nat := d.clockIdentity * 65536 + (p + 1)

/-- The port's engine is one of the 802.1AS family (R110). -/
def Dev.ptpAs (d : Dev) (p : Nat) : Bool := d.rd (inst Obj.PtpProfile p) == 3

/-! ## PTP messages (R109, R112 to R115) -/

/-- A Timestamp: six bytes of seconds, four of nanoseconds; its fraction travels in correctionField (R112). -/
def ptpTime (t : Int) : List Byte := beBytes 6 (t / secT).toNat ++ beBytes 4 (t / nsT % 1000000000).toNat

/-- A PTP header: majorSdoId with messageType, the versions, the length, the domain, the flags, correctionField, the sender, the
sequenceId, controlField and logMessageInterval (R109, R111). `domain` is the transparent clock domain of the message, none for the
boundary clock; the length is that of header and body. -/
def Dev.ptpHeader (d : Dev) (p type len flags : Nat) (corr : Int) (seq : Nat) (interval : Int) (domain : Option Nat) : List Byte :=
  let (sdo, number) := match domain with
    | some n => (d.rdN (inst Obj.TcDomainMajorSdoId n), d.rdN (inst Obj.TcDomainNumber n))
    | none => (d.rdN Obj.PtpMajorSdoId, d.rdN Obj.PtpDomainNumber)
  let minor := if d.rd (inst Obj.PtpVersionMode p) == 0 then 1 else 0
  let control := if d.ptpAs p then 0 else if type == 0 then 0 else if type == 1 then 1 else if type == 8 then 2
    else if type == 9 then 3 else 5
  beBytes 1 (sdo % 16 * 16 + type) ++ beBytes 1 (minor * 16 + 2) ++ beBytes 2 len ++ beBytes 1 number ++ beBytes 1 0
    ++ beBytes 2 flags ++ beBytes 8 (toField 64 corr) ++ beBytes 4 0 ++ beBytes 10 (d.portIdentity p) ++ beBytes 2 seq
    ++ beBytes 1 control ++ beBytes 1 (toField 8 interval)

/-- The flags that every message of the 802.1AS family carries: ptpTimescale. -/
def Dev.asFlags (d : Dev) (p : Nat) : Nat := if d.ptpAs p then 0x0008 else 0

/-- The follow-up information TLV of 802.1AS (R109): the device's time runs at the grandmaster's rate, so its rate offset is 0. -/
def followUpInfo : List Byte :=
  beBytes 2 3 ++ beBytes 2 28 ++ [0x00, 0x80, 0xC2, 0x00, 0x00, 0x01] ++ List.replicate 22 0

/-- The path trace TLV of 802.1AS (R109). -/
def pathTrace (path : List Nat) : List Byte :=
  beBytes 2 8 ++ beBytes 2 (8 * path.length) ++ (path.map (beBytes 8)).flatten

/-- The body of a PTP message after its header, TLVs included. -/
def Dev.ptpBody (d : Dev) (p : Nat) (m : PtpMsg) : List Byte :=
  let info := d.ptpAs p && (m.type == 8 || (m.type == 0 && !m.twoStep))
  let rest : List Byte := match m.type with
    | 2 => List.replicate 10 0
    | 3 | 9 | 10 => beBytes 10 m.requester
    | _ => []
  ptpTime m.time ++ rest ++ (if info then followUpInfo else [])

/-- A PTP message with its header (R112 to R114). -/
def Dev.ptpMessage (d : Dev) (p : Nat) (m : PtpMsg) : List Byte :=
  let body := d.ptpBody p m
  let interval : Int := match m.type with
    | 0 | 8 => d.rd (inst Obj.LogSyncInterval p)
    | 9 => d.rd (inst Obj.LogMinDelayReqInterval p)
    | 2 => if d.ptpAs p then d.rd (inst Obj.LogMinDelayReqInterval p) else 0x7F
    | _ => 0x7F
  let flags := (if m.twoStep then 0x0200 else 0) + d.asFlags p
  -- the correction of a two-step Pdelay_Resp travels in its Follow_Up (R114)
  let corr := if m.type == 3 && m.twoStep then 0 else m.corr
  d.ptpHeader p m.type (34 + body.length) flags corr m.seq interval m.domain ++ body

/-- An Announce message (R109, R117). -/
def Dev.announceMessage (d : Dev) (p seq : Nat) (m : AnnounceMsg) : List Byte :=
  let body := ptpTime 0 ++ beBytes 2 (toField 16 m.utcOffset) ++ beBytes 1 0 ++ beBytes 1 m.priority1 ++ beBytes 1 m.clockClass
    ++ beBytes 1 m.clockAccuracy ++ beBytes 2 m.variance ++ beBytes 1 m.priority2 ++ beBytes 8 m.grandmaster
    ++ beBytes 2 m.stepsRemoved ++ beBytes 1 m.timeSource ++ (if d.ptpAs p then pathTrace m.path else [])
  let flags := 0x0008 + (if m.utcValid then 0x0004 else 0)
  d.ptpHeader p 11 (34 + body.length) flags 0 seq (d.rd (inst Obj.LogAnnounceInterval p)) none ++ body

/-- A Signaling message with an L1_SYNC TLV: TCR, RCR and CR are true, and the state bits tell L1_SYNC_UP (R115). -/
def Dev.l1SyncMessage (d : Dev) (p seq : Nat) (up : Bool) : List Byte :=
  let body := List.replicate 10 0xFF ++ beBytes 2 0x8001 ++ beBytes 2 2 ++ beBytes 1 7 ++ beBytes 1 (if up then 7 else 0)
  d.ptpHeader p 12 (34 + body.length) 0 0 seq 0x7F none ++ body

/-! ## Mappings (R109) -/

/-- The 16-bit words of an even number of bytes. -/
def words16 : List Byte → List Nat
  | a :: b :: rest => (a.toNat * 256 + b.toNat) :: words16 rest
  | _ => []

/-- The one's complement sum of a list of 16-bit words, folded. -/
def onesSum (l : List Nat) : Nat :=
  let s := l.sum
  let s := s % 65536 + s / 65536
  s % 65536 + s / 65536

/-- The internet checksum of bytes, padded to whole words. -/
def inetSum (bs : List Byte) : Nat := 65535 - onesSum (words16 (bs ++ [0]))

/-- The message is one of the peer delay mechanism, which has group addresses of its own. -/
def peerDelay (type : Nat) : Bool := type == 2 || type == 3 || type == 10

/-- A UDP datagram in IPv4 or IPv6 from the device's address on a port, as the bytes from the EtherType on. -/
def udpFrame (v6 : Bool) (sa da : List Byte) (sport dport hops : Nat) (payload : List Byte) : List Byte :=
  let len := 8 + payload.length
  let head (sum : Nat) : List Byte := beBytes 2 sport ++ beBytes 2 dport ++ beBytes 2 len ++ beBytes 2 sum
  if v6 then
    let sum := inetSum (sa ++ da ++ beBytes 4 len ++ beBytes 4 17 ++ head 0 ++ payload)
    beBytes 2 0x86DD ++ beBytes 4 0x60000000 ++ beBytes 2 len ++ beBytes 1 17 ++ beBytes 1 hops ++ sa ++ da
      ++ head (if sum = 0 then 65535 else sum) ++ payload
  else
    let ip (sum : Nat) : List Byte := beBytes 2 0x4500 ++ beBytes 2 (20 + len) ++ beBytes 2 0 ++ beBytes 2 0x4000
      ++ beBytes 1 hops ++ beBytes 1 17 ++ beBytes 2 sum ++ sa ++ da
    beBytes 2 0x0800 ++ ip (inetSum (ip 0)) ++ head 0 ++ payload

/-- A PTP message in the mapping of its port, from the destination address on (R109): Ethernet, UDP/IPv4 or UDP/IPv6. The 802.1AS
family uses Ethernet and the address of peer delay for every message. -/
def Dev.ptpFrame (d : Dev) (p type : Nat) (message : List Byte) : List Byte :=
  let peer := peerDelay type
  let port := if type < 4 then 319 else 320
  let hops := if peer then 1 else 64
  match d.ptpAs p, d.rd (inst Obj.PtpMapping p) with
  | false, 1 =>
    let ip : List Byte := if peer then [224, 0, 0, 107] else [224, 0, 1, 129]
    [0x01, 0x00, 0x5E, ip.getD 1 0, ip.getD 2 0, ip.getD 3 0] ++ d.portMac p
      ++ udpFrame false (d.rdV Obj.MdpIpv4Address).bytes ip port port hops message
  | false, 2 =>
    let ip : List Byte := if peer then [0xFF, 0x02] ++ List.replicate 13 0 ++ [0x6B]
      else [0xFF, 0x0E] ++ List.replicate 12 0 ++ [0x01, 0x81]
    [0x33, 0x33] ++ ip.drop 12 ++ d.portMac p ++ udpFrame true d.linkLocalIp ip port port hops (message ++ [0, 0])
  | as, _ =>
    (if as || peer then [0x01, 0x80, 0xC2, 0x00, 0x00, 0x0E] else [0x01, 0x1B, 0x19, 0x00, 0x00, 0x00])
      ++ d.portMac p ++ beBytes 2 0x88F7 ++ message

/-! ## Other engines (R105, R442) -/

/-- An ESMC PDU (R105). -/
def Dev.esmcFrame (d : Dev) (p : Nat) (event : Bool) (ql : Nat) : List Byte :=
  [0x01, 0x80, 0xC2, 0x00, 0x00, 0x02] ++ d.portMac p ++ beBytes 2 0x8809 ++ [0x0A, 0x00, 0x19, 0xA7] ++ beBytes 2 0x0001
    ++ beBytes 4 (0x10000000 + (if event then 0x08000000 else 0)) ++ beBytes 1 0x01 ++ beBytes 2 4 ++ beBytes 1 (ql % 16)

/-- A loopback beacon (R442). -/
def Dev.beaconFrame (d : Dev) (p : Nat) : List Byte :=
  [0x01, 0x80, 0xC2, 0x00, 0x00, 0x0F] ++ d.portMac p ++ beBytes 2 0x88B5 ++ [0x54, 0x54, 0x4C, 0x42] ++ beBytes 1 p

/-- A frame padded to the least length, with its FCS (R413). -/
def closeFrame (body : List Byte) : List Byte :=
  let padded := body ++ List.replicate (60 - body.length) 0
  padded ++ fcsOf padded

/-- The frame an engine sends from a port. -/
def Dev.engineFrame (d : Dev) (p : Nat) (m : EngineMsg) : List Byte :=
  match m with
  | .ptp m => closeFrame (d.ptpFrame p m.type (d.ptpMessage p m))
  | .announce seq m => closeFrame (d.ptpFrame p 11 (d.announceMessage p seq m))
  | .l1Sync seq up => closeFrame (d.ptpFrame p 12 (d.l1SyncMessage p seq up))
  | .esmc event ql => closeFrame (d.esmcFrame p event ql)
  | .beacon => closeFrame (d.beaconFrame p)
  | .reply frame => closeFrame frame

/-- An engine sends a frame from a port (R364). -/
def Dev.sendEngine (d : Dev) (p : Nat) (m : EngineMsg) : Dev := d.engineSend p m (d.engineFrame p m).length

end Sys2Proof.Machine
end

