-- ==== Sys2Proof/Machine/Bmca.lean ====
section
/-! DEFINITION. Port roles (R110, R116, R134, R155): the best master clock algorithm of IEEE 1588, the clockClass of R117,
and what link timing keeps for a port. -/

namespace Sys2Proof.Machine

/-! ## What link timing keeps -/

/-- Link timing of port `p`. -/
def Dev.link (d : Dev) (p : Nat) : LinkSt := Sparse.get (fun _ => {}) d.timing.links p

/-- Change the link timing of port `p`. -/
def Dev.setLink (d : Dev) (p : Nat) (f : LinkSt → LinkSt) : Dev :=
  { d with timing := { d.timing with links := Sparse.set (fun _ => {}) d.timing.links p (f (d.link p)) } }

/-- The whorl of lane `l`. -/
def Dev.whorl (d : Dev) (l : Nat) : WhorlSt := Sparse.get (fun _ => {}) d.timing.whorls l

/-- Change the whorl of lane `l`. -/
def Dev.setWhorl (d : Dev) (l : Nat) (f : WhorlSt → WhorlSt) : Dev :=
  { d with timing := { d.timing with whorls := Sparse.set (fun _ => {}) d.timing.whorls l (f (d.whorl l)) } }

/-- Ply link `n`. -/
def Dev.ply (d : Dev) (n : Nat) : PlySt := Sparse.get (fun _ => {}) d.timing.plies n

/-- Change ply link `n`. -/
def Dev.setPly (d : Dev) (n : Nat) (f : PlySt → PlySt) : Dev :=
  { d with timing := { d.timing with plies := Sparse.set (fun _ => {}) d.timing.plies n (f (d.ply n)) } }

/-- LinkTimingState of a port: 0 IDLE, 1 SYNTONIZING, 2 RANGING, 3 TRACKING, 4 BRIDGING (R133). -/
def Dev.linkState (d : Dev) (p : Nat) : Int := d.rd (inst Obj.LinkTimingState p)

/-- PtpPortState of a port (R146). -/
def Dev.role (d : Dev) (p : Nat) : Int := d.rd (inst Obj.PtpPortState p)

/-- The members of ply link `n` (R150). -/
def Dev.members (d : Dev) (n : Nat) : Nat × Nat := (d.rdN (inst Obj.PlyPortA n), d.rdN (inst Obj.PlyPortB n))

/-- The ENABLED ply link a port is a member of, and whether it is member b. -/
def Dev.plyOf (d : Dev) (p : Nat) : Option (Nat × Bool) :=
  ((List.range 24).find? fun n => d.on .ply n && ((d.members n).1 == p || (d.members n).2 == p)).map
    fun n => (n, (d.members n).1 != p)

/-- The port that stands for a port in the best master clock algorithm: member a of its ENABLED ply link, else itself (R155). -/
def Dev.ptpPort (d : Dev) (p : Nat) : Nat :=
  match d.plyOf p with
  | some (n, true) => (d.members n).1
  | _ => p

/-- PlyState (R159). -/
def Dev.plyState (d : Dev) (n : Nat) : Int := d.rd (inst Obj.PlyState n)

/-- 2^log seconds in ns, for the logarithms of the message intervals (R111). -/
def logIntervalNs (log : Int) : Nat := 1000000000 * 2 ^ (log + 7).toNat / 128

/-- The Sync interval in force, in Turns: at least one (R111). The spec does not say how a number of Turns that is no integer is rounded
(log entry 2). -/
def Dev.effectiveSyncTurns (d : Dev) (p : Nat) : Nat :=
  (max 1 (quot Config.roundsUp (logIntervalNs (d.rd (inst Obj.LogSyncInterval p))) (2 * d.rdN Obj.TurnPeriod))).toNat

/-- The engine of a port runs in hardware: ENABLED, and F0 not host-assisted (R119). -/
def Dev.ptpHere (d : Dev) (p : Nat) : Bool := d.on .ptpEngine p && !d.rdB (inst Obj.ModeF0PtpEngine p)

/-- QuadMode of a quad. -/
def Dev.quadMode (d : Dev) (q : Nat) : Int := d.rd (inst Obj.QuadMode q)

/-- The timing lane of a port: the port's own number outside Native Quad, which names lane 4n for a port of a whole quad; in Native
Quad the one it has moved to (R99). -/
def Dev.timingLane (d : Dev) (p : Nat) : Nat :=
  if p % 4 == 0 && d.quadMode (p / 4) == 3 then d.rdN (inst Obj.TimingLane p) else p

/-- The port is in SGMII mode, which is not timing-capable (R98). -/
def Dev.isSgmii (d : Dev) (p : Nat) : Bool := d.quadMode (p / 4) == 0 && d.rd (inst Obj.LanePortMode p) == 2

/-- The rate code of a lane, as in PtRate; none for an unused lane (R429, R445). -/
def Dev.rateCode (d : Dev) (l : Nat) : Option Nat :=
  if d.on .patternTest l then some (d.rdN (inst Obj.PtRate l))
  else match d.quadMode (l / 4) with
    | 0 => match d.rd (inst Obj.LanePortMode l) with
      | 1 | 2 => some 0
      | 3 => some 1
      | 4 => some 2
      | _ => none
    | 1 => some 1
    | _ => some 2

/-- `n` unit intervals at a rate code, in 2^-16 ns. -/
def unitIntervals (code : Nat) (n : Nat) : Int :=
  let r : Nat × Nat := match code with
    | 0 => (4, 5)
    | 1 => (16, 165)
    | 2 => (32, 825)
    | _ => (8, 225)
  quot Config.roundsUp ((n : Int) * 65536 * r.1) r.2

/-- RxLatency of a port: the folded lane latency and the calibrated delay in force (R121, R124, R306). -/
def Dev.rxLatency (d : Dev) (p : Nat) : Int := d.rd (inst Obj.RxLatencyFolded p) + d.rd (inst Obj.CalPortRxInForce p)

/-- TxLatency of a port (R121, R124, R306). -/
def Dev.txLatency (d : Dev) (p : Nat) : Int := d.rd (inst Obj.TxLatencyFolded p) + d.rd (inst Obj.CalPortTxInForce p)

/-- `n` unit intervals at the rate of the timing lane of a port (R122). -/
def Dev.portBits (d : Dev) (p n : Nat) : Int := unitIntervals ((d.rateCode (d.timingLane p)).getD 0) n

/-- The instantaneous receive stamp t_inst (R124). -/
def Dev.rxInst (d : Dev) (p : Nat) (st : RxStamp) : Int := st.tm + st.phi + d.portBits p st.bits - d.rxLatency p

/-- The transmit stamp t_tx (R124). -/
def Dev.txInst (d : Dev) (p : Nat) (marker : Int) (bits : Nat) : Int := marker + d.portBits p bits + d.txLatency p

/-- timestampCorrectionPortDS of a port: its egressLatency and ingressLatency (R109, R130). -/
def Dev.timestampCorrectionPortDS (d : Dev) (p : Nat) : Int × Int := (d.txLatency p, d.rxLatency p)

/-- asymmetryCorrectionPortDS of a port: its delayAsymmetry (R109, R130). -/
def Dev.asymmetryCorrectionPortDS (d : Dev) (p : Nat) : Int := d.rd (inst Obj.AsymmetryInForce p)

/-- The Turn a local marker edge falls in, by the count of Turns started: that in progress, or the one before where the edge lies
before the boundary (R124, R125). -/
def Dev.turnOf (d : Dev) (t : Int) : Nat :=
  if d.turn.running && decide (t < d.turn.start) then d.turn.started - 1 else d.turn.started

/-- A stamp taken now on the timing lane of a port (R124, R131). -/
def Dev.stampNow (d : Dev) (p : Nat) (st : RxStamp) : StampSt :=
  { rx := st, tInst := d.rxInst p st, turn := d.turnOf st.tm, epoch := (d.whorl (d.timingLane p)).epoch,
    steps := d.rdN Obj.TimeStepCount, holding := d.rd Obj.SteeredSynthState != 1 }

/-! ## Clock data sets (R116, R117) -/

/-- The clockClass by the state of the active spindle, and the class kept for HOLDOVER and LOST (R117). -/
def Dev.classNow (d : Dev) : Nat × Nat :=
  let st := d.rd (inst Obj.SpindleState d.active)
  let ref := d.rdN Obj.RefSelected
  let kept := d.timing.classMemory
  let refTime := ref < 4 && d.rdB (inst Obj.RefInSecondsKnown ref)
  if st == 2 && refTime then (6, 6)
  else if st == 3 && (kept == 6 || kept == 7) then (7, 7)
  else if st == 4 && (kept == 6 || kept == 7 || kept == 52) then (52, 52)
  else (248, 248)

/-- Keep ClockClass current (R117). -/
def Dev.updateClass (d : Dev) : Dev :=
  let c := d.classNow
  { d.wr Obj.ClockClass (if d.rdB Obj.SlaveOnly then 255 else c.1) with timing := { d.timing with classMemory := c.2 } }

/-- What the device announces of itself as grandmaster (R117). The accuracy and variance fields are those of an unknown
clock (PRESUMED, log entry 30). -/
def Dev.ownAnnounce (d : Dev) : AnnounceMsg :=
  { priority1 := d.rdN Obj.Priority1, clockClass := d.rdN Obj.ClockClass, clockAccuracy := 0xFE, variance := 0xFFFF,
    priority2 := d.rdN Obj.Priority2, grandmaster := d.clockIdentity, stepsRemoved := 0,
    timeSource := d.rdN Obj.TimeSourceAnnounced, utcOffset := d.rd Obj.CurrentUtcOffset,
    utcValid := d.rdB Obj.CurrentUtcOffsetValid, path := [d.clockIdentity] }

/-! ## The best master clock algorithm of IEEE 1588 (R116; PRESUMED, log entry 30) -/

/-- A data set in comparison: what was announced, by whom, and the port that heard it. -/
structure DataSet where
  msg : AnnounceMsg
  sender : Nat
  receiver : Nat
deriving DecidableEq, Repr

/-- The outcome of a comparison of A with B. -/
inductive Better where
  | a | aTopology | b | bTopology | same
deriving DecidableEq, Repr

/-- Compare number by number: the first that differs decides, the lower the better. -/
def firstLower : List (Nat × Nat) → Better
  | [] => .same
  | (x, y) :: rest => if x < y then .a else if y < x then .b else firstLower rest

/-- The data set comparison algorithm. -/
def compareSets (x y : DataSet) : Better :=
  if x.msg.grandmaster ≠ y.msg.grandmaster then
    firstLower [(x.msg.priority1, y.msg.priority1), (x.msg.clockClass, y.msg.clockClass),
      (x.msg.clockAccuracy, y.msg.clockAccuracy), (x.msg.variance, y.msg.variance), (x.msg.priority2, y.msg.priority2),
      (x.msg.grandmaster, y.msg.grandmaster)]
  else if x.msg.stepsRemoved + 1 < y.msg.stepsRemoved then .a
  else if y.msg.stepsRemoved + 1 < x.msg.stepsRemoved then .b
  else if y.msg.stepsRemoved < x.msg.stepsRemoved then
    if x.receiver / 65536 < x.sender / 65536 then .b else .bTopology
  else if x.msg.stepsRemoved < y.msg.stepsRemoved then
    if y.receiver / 65536 < y.sender / 65536 then .a else .aTopology
  else if x.sender < y.sender then .aTopology
  else if y.sender < x.sender then .bTopology
  else if x.receiver % 65536 < y.receiver % 65536 then .aTopology
  else if y.receiver % 65536 < x.receiver % 65536 then .bTopology
  else .same

/-- A is better, by its data or by topology. -/
def Better.isA : Better → Bool
  | .a | .aTopology => true
  | _ => false

/-- The best of a list of data sets. -/
def bestOf : List DataSet → Option DataSet
  | [] => none
  | x :: rest => match bestOf rest with
    | none => some x
    | some y => if (compareSets y x).isA then some y else some x

/-- A foreign master is qualified: two Announce messages within four intervals under IEEE 1588; the first under
802.1AS. -/
def Dev.qualified (d : Dev) (p : Nat) (f : Foreign) : Bool :=
  if d.rd (inst Obj.PtpProfile p) == 3 then true
  else match f.before with
    | some b => decide (f.last ≤ b + 4 * logIntervalNs (d.rd (inst Obj.LogAnnounceInterval p)))
    | none => false

/-- A port of the 802.1AS family takes part while the path delay it has measured is within NeighborPropDelayThresh (R146;
PRESUMED, log entry 30). -/
def Dev.asCapable (d : Dev) (p : Nat) : Bool :=
  !(d.ptpAs p && d.rdB (inst Obj.LinkPathDelayValid p)
    && decide (d.rd (inst Obj.NeighborPropDelayThresh p) * nsT < d.rd (inst Obj.LinkMeanPathDelay p)))

/-- Erbest of a port; member b of a ply link has none of its own (R155). -/
def Dev.erBest (d : Dev) (p : Nat) : Option DataSet :=
  if d.ptpHere p && d.ptpPort p == p && d.asCapable p then
    bestOf (((d.link p).foreign.filter (d.qualified p)).map fun f =>
      { msg := { f.msg with stepsRemoved := f.msg.stepsRemoved + 1 }, sender := f.source, receiver := d.portIdentity p })
  else none

/-- The roles are decided for this port by its ply link: member b takes those of member a, and a relock window holds
them (R155, R160). -/
def Dev.roleHeld (d : Dev) (p : Nat) : Bool :=
  match d.plyOf p with
  | some (n, isB) => isB || (d.ply n).window
  | none => false

/-- Ebest: the best of all ports. -/
def Dev.eBest (d : Dev) : Option DataSet := bestOf ((List.range 48).filterMap d.erBest)

/-- The priority vector of 802.1AS, compared number by number (PRESUMED, log entry 30). -/
def DataSet.vector (x : DataSet) : List Nat :=
  [x.msg.priority1, x.msg.clockClass, x.msg.clockAccuracy, x.msg.variance, x.msg.priority2, x.msg.grandmaster,
    x.msg.stepsRemoved, x.sender, x.receiver % 65536]

/-- A vector is better than another. -/
def DataSet.betterAs (x y : DataSet) : Bool := (firstLower (x.vector.zip y.vector)).isA

/-- The best of some data sets by their vectors. -/
def bestAs : List DataSet → Option DataSet
  | [] => none
  | x :: rest => match bestAs rest with
    | none => some x
    | some y => if y.betterAs x then some y else some x

/-- The role 802.1AS gives a port: SLAVE where the best vector was received on it, MASTER where what the device would announce on it
is better than what it received, else PASSIVE (R116; PRESUMED, log entry 30). -/
def Dev.recommendedAs (d : Dev) (p : Nat) (own : DataSet) : Int :=
  let best := (bestAs (own :: (List.range 48).filterMap d.erBest)).getD own
  if best.receiver == d.portIdentity p then 9
  else match d.erBest p with
    | none => 6
    | some x =>
      let offered : DataSet := { msg := best.msg, sender := d.portIdentity p, receiver := d.portIdentity p }
      let received : DataSet := { x with msg := { x.msg with stepsRemoved := x.msg.stepsRemoved - 1 } }
      if offered.betterAs received then 6 else 7

/-- The role the state decision recommends for a port: 6 MASTER, 7 PASSIVE, 9 SLAVE, 4 to stay in LISTENING. -/
def Dev.recommended (d : Dev) (p : Nat) (eBest : Option DataSet) : Int :=
  let own : DataSet := { msg := d.ownAnnounce, sender := d.clockIdentity * 65536, receiver := d.clockIdentity * 65536 }
  let er := d.erBest p
  let beatsD0 (e : Option DataSet) : Bool := match e with
    | some x => (compareSets x own).isA
    | none => false
  if er.isNone && d.role p == 4 then 4
  else if d.ptpAs p && !d.rdB Obj.SlaveOnly then d.recommendedAs p own
  else if d.rdB Obj.SlaveOnly then
    match eBest with
    | some x => if x.receiver == d.portIdentity p then 9 else 4
    | none => 4
  else if own.msg.clockClass < 128 then (if beatsD0 er then 7 else 6)
  else if !beatsD0 eBest then 6
  else match eBest with
    | none => 6
    | some e =>
      if e.receiver == d.portIdentity p then 9
      else match er with
        | none => 6
        | some x => if compareSets e x == .aTopology then 7 else 6

/-- Take a recommended role: MASTER comes by way of PRE_MASTER under IEEE 1588, SLAVE by way of UNCALIBRATED (R134). -/
def Dev.takeRole (d : Dev) (p : Nat) (wanted : Int) : Dev :=
  let r := d.role p
  let new : Int :=
    if wanted == 6 then (if r == 6 || r == 5 then r else if d.rd (inst Obj.PtpProfile p) == 3 then 6 else 5)
    else if wanted == 9 then (if r == 9 || r == 8 then r else 8)
    else wanted
  d.wr (inst Obj.PtpPortState p) new

/-- Member b of a ply link takes the role of member a while its own link is up (R155). -/
def Dev.bTakesRole (d : Dev) (n : Nat) : Dev :=
  let (a, b) := d.members n
  d.when (d.rdB (inst Obj.PortLinkUp b)) fun d => d.wr (inst Obj.PtpPortState b) (d.role a)

/-- The state decision of every port that takes part: its engine runs in hardware and its link is up. -/
def Dev.bmca (d : Dev) : Dev :=
  let e := d.eBest
  let d' := d.forEach (fun p s =>
    s.when (d.ptpHere p && 4 ≤ d.role p && !d.roleHeld p) fun s => s.takeRole p (d.recommended p e)) (List.range 48)
  d'.forEach (fun n s =>
    s.when (s.on .ply n && !(s.ply n).window) fun s =>
      s.bTakesRole n) (List.range 24)

/-- The master a SLAVE port listens to; member b of a ply link listens to that of member a (R155). -/
def Dev.parent (d : Dev) (p : Nat) : Option Foreign :=
  match d.erBest (d.ptpPort p) with
  | some x => (d.link (d.ptpPort p)).foreign.find? (fun f => f.source == x.sender)
  | none => none

/-- A message comes from the master a port follows. The peer's member b is another port of the same clock (R155), and during a relock
window the ply link itself checks who sends (R160). -/
def Dev.fromMaster (d : Dev) (p source : Nat) : Bool :=
  let (held, isB) := match d.plyOf p with
    | some (n, b) => ((d.ply n).window, b)
    | none => (false, false)
  held || match d.parent p with
    | some f => if isB then f.source / 65536 == source / 65536 else f.source == source
    | none => false

/-- What the device announces: its own attributes as grandmaster, else those of the grandmaster it follows, with itself at the
end of the path (R109, R117). -/
def Dev.announces (d : Dev) : AnnounceMsg :=
  match (List.range 48).find? (fun p => d.ptpHere p && (d.role p == 9 || d.role p == 8)) with
  | some p => match d.parent p with
    | some f => { f.msg with stepsRemoved := f.msg.stepsRemoved + 1, path := f.msg.path ++ [d.clockIdentity] }
    | none => d.ownAnnounce
  | none => d.ownAnnounce

/-! ## Announce messages and their timers -/

/-- ANNOUNCE_RX: the foreign master is recorded and the roles decided anew (R116). Only a port whose engine runs and
whose link is up takes it, member a for a ply link (R155); a message of the device itself, or one that has passed it, is
ignored. -/
def announceRx (p source : Nat) (m : AnnounceMsg) (d : Dev) : Dev :=
  if !d.ptpHere p || d.role p < 4 || source / 65536 == d.clockIdentity || 255 ≤ m.stepsRemoved
      || (d.ptpAs p && m.path.contains d.clockIdentity) then d
  else
    let p := d.ptpPort p
    let now := d.time.uptime
    let fs := (d.link p).foreign
    let entry : Foreign := match fs.find? (fun f => f.source == source) with
      | some f => { source := source, msg := m, last := now, before := some f.last }
      | none => { source := source, msg := m, last := now }
    (d.setLink p fun k => { k with foreign := fs.filter (fun f => f.source != source) ++ [entry] }).updateClass.bmca

/-- ANNOUNCE_RECEIPT_TIMEOUT: the masters of the port are forgotten; a port that may be master becomes one (R111,
R116). -/
def announceReceiptTimeout (p : Nat) (d : Dev) : Dev :=
  if !d.ptpHere p || d.role p < 4 || d.roleHeld p then d
  else
    let d := d.setLink p fun k => { k with foreign := [] }
    let r := d.role p
    let d := d.when (r == 4 || 7 ≤ r) fun d => d.wr (inst Obj.PtpPortState p) (if d.rdB Obj.SlaveOnly then 4 else 6)
    d.updateClass.bmca

/-- PRE_MASTER_QUALIFICATION_TIMEOUT: PRE_MASTER becomes MASTER (R116). -/
def preMasterTimeout (p : Nat) (d : Dev) : Dev :=
  if d.role p == 5 then
    let d := d.wr (inst Obj.PtpPortState p) 6
    match d.plyOf p with
    | some (n, false) => d.bTakesRole n
    | _ => d
  else d

/-- ANNOUNCE_TX: a MASTER port announces; member b of a ply link does not (R111, R117, R155). -/
def announceTx (p : Nat) (d : Dev) : Dev :=
  let d := d.updateClass
  let isB := match d.plyOf p with
    | some (_, b) => b
    | none => false
  if d.ptpHere p && d.role p == 6 && d.asCapable p && !isB then
    let k := d.link p
    (d.sendEngine p (.announce k.seqAnn d.announces)).setLink p fun k => { k with seqAnn := (k.seqAnn + 1) % 65536 }
  else d

/-! ## Meanings -/

/-- ANNOUNCE_RX (R116). -/
def execAnnounceRx (p : Port) (source : Nat) (m : AnnounceMsg) (s : State) : Host.Outcome State Fault Refusal :=
  s.effect (announceRx p source m)

/-- ANNOUNCE_RECEIPT_TIMEOUT (R111). -/
def execAnnounceReceiptTimeout (p : Port) (s : State) : Host.Outcome State Fault Refusal :=
  s.effect (announceReceiptTimeout p)

/-- PRE_MASTER_QUALIFICATION_TIMEOUT (R116). -/
def execPreMasterQualificationTimeout (p : Port) (s : State) : Host.Outcome State Fault Refusal :=
  s.effect (preMasterTimeout p)

/-- ANNOUNCE_TX (R117). -/
def execAnnounceTx (p : Port) (s : State) : Host.Outcome State Fault Refusal := s.effect (announceTx p)

end Sys2Proof.Machine
end

