-- ==== Sys2Proof/Machine/Reel.lean ====
section
/-! DEFINITION. The Reel: records, states, commands, triggers and reads (R394 to R398). -/

namespace Sys2Proof.Machine

/-! ## The Reel partition -/

/-- Size of the Reel partition in bytes (R359). -/
def Dev.reelSize (d : Dev) : Nat := d.rdN Obj.DeepPartitionReel * 2 ^ 20

/-- A byte of the Reel partition; one that nothing has written reads 0 (log entry on unwritten memory). -/
def Dev.reelByte (d : Dev) (a : Nat) : Byte := Sparse.get (fun _ => 0) d.buf.reel a

/-- Write bytes into a sparse memory from an address on. -/
def writeBytes : List Host.Cell → Nat → List Byte → List Host.Cell
  | m, _, [] => m
  | m, a, b :: rest => writeBytes (Sparse.set (fun _ => 0) m a b) (a + 1) rest

/-- Bytes of the record of `cap` captured bytes: a 32-byte header and the bytes padded to a multiple of 32 (R395). -/
def recordSize (cap : Nat) : Nat := 32 + (cap + 31) / 32 * 32

/-- Bytes taken by the record or the pad that starts at an offset; a pad that took no record's place reaches to `wrap`
(R395, R610). -/
def Dev.reelStep (d : Dev) (a wrap : Nat) : Nat :=
  let cap := (d.reelByte (a + 18)).toNat + 256 * (d.reelByte (a + 19)).toNat
  if d.reelByte (a + 12) == 0xFF && cap == 0 then wrap - a else recordSize cap

/-- Drop oldest records until `need` more bytes fit within `wrap` (R396). -/
def Dev.reelRoom (d : Dev) (need wrap : Nat) : Nat → Dev
  | 0 => d
  | fuel + 1 =>
    if d.buf.reelHeld + need ≤ wrap then d
    else
      let a := d.rdN Obj.ReelOldestOffset
      let n := d.reelStep a wrap
      let d := d.wr Obj.ReelOldestOffset (if a + n < wrap then a + n else 0 : Nat)
      let d := { d with buf := { d.buf with reelHeld := d.buf.reelHeld - n } }
      d.reelRoom need wrap fuel

/-- The stretch of the partition that records go round: all of it in ring mode, ReelPreTrigger % of it while a trigger
is awaited in trigger mode (R396). -/
def Dev.reelWrap (d : Dev) : Nat :=
  if d.rd Obj.ReelMode == 1 && d.rd Obj.ReelState == 1 then
    d.reelSize * d.rdN Obj.ReelPreTrigger / 100 / 32 * 32
  else d.reelSize

/-- Put bytes at an offset of the partition and move the write offset behind them. -/
def Dev.reelPut (d : Dev) (a : Nat) (bs : List Byte) (wrap : Nat) : Dev :=
  let d := { d with buf := { d.buf with reel := writeBytes d.buf.reel a bs, reelHeld := d.buf.reelHeld + bs.length } }
  d.wr Obj.ReelWriteOffset (if a + bs.length < wrap then a + bs.length else 0 : Nat)

/-- The state and cause of the Reel, with its event (R396). -/
def Dev.reelEnter (d : Dev) (state cause : Int) (event : Bool) : Dev :=
  (d.wrs [(Obj.ReelState, state), (Obj.ReelEventCause, cause)]).when event (·.raise 19)

/-- A stop cause (R396): thermal 3, command 4. Only a stop by another cause than command raises EV19. -/
def Dev.reelStop (d : Dev) (cause : Int) : Dev :=
  d.when (d.rd Obj.ReelState != 0) fun d => d.reelEnter 0 cause (cause != 4)

/-- The Reel leaves ENABLED, or the device loses its work: STOPPED, contents kept. A recording that this stops raises EV19; the
spec gives such a stop no ReelEventCause, which keeps its value (R396, R399, log entry 56). -/
def Dev.reelQuiet (d : Dev) : Dev :=
  let recording := d.rd Obj.ReelState == 1 || d.rd Obj.ReelState == 2
  (d.wr Obj.ReelState 0).when recording (·.raise 19)

/-- The header of a record (R395). -/
def reelHeader (stamp : Int) (port flags stream frameLen cap seq turn : Nat) : List Byte :=
  timeBytes stamp ++ leBytes 1 port ++ leBytes 1 flags ++ leBytes 2 stream ++ leBytes 2 frameLen ++ leBytes 2 cap
    ++ leBytes 4 seq ++ leBytes 8 turn

/-- Write the record of a frame of a stream (R394 to R397): `stored` are the bytes the store holds of it. -/
def Dev.reelRecord (d : Dev) (f : Frame) (stream : Nat) (stored : List Byte) : Dev :=
  if !(d.on .reel 0 && (d.rd Obj.ReelState == 1 || d.rd Obj.ReelState == 2)) then d
  else
    let cap := min stored.length (d.rdN Obj.ReelSnapLength)
    let size := recordSize cap
    let wrap := d.reelWrap
    let at_ := d.rdN Obj.ReelWriteOffset
    let fits := decide (at_ + size ≤ wrap)
    if d.rd Obj.ReelState == 2 && !fits then d.reelEnter 3 2 true
    else
      let need := size + (if fits then 0 else wrap - at_)
      let d := d.when (d.rd Obj.ReelState == 1) fun d => d.reelRoom need wrap (d.buf.reelHeld / 64 + 2)
      let pad := reelHeader 0 0xFF 0 0 0 0 0 0
      let d := if fits || at_ == wrap then d
        else
          let d := d.reelPut at_ pad wrap
          { d with buf := { d.buf with reelHeld := d.buf.reelHeld + (wrap - at_ - 32) } }
      let start := if fits then at_ else 0
      let trig := d.buf.reelTrigger
      let flags := ofBool (decide (cap < stored.length)) + 2 * ofBool f.bad + 4 * ofBool f.truncated + 8 * ofBool f.traced
        + 16 * ofBool f.holding + 32 * ofBool d.buf.reelLost + 64 * ofBool trig + 128 * ofBool d.buf.reelStep
      let seq := d.buf.reelSeq % 2 ^ 32
      let bytes := stored.take cap
      let d := d.reelPut start (reelHeader f.stamp f.port flags stream f.bytes.length cap seq f.turn ++ bytes
        ++ List.replicate (size - 32 - cap) 0) wrap
      let d := d.when trig fun d => d.wr Obj.ReelTriggerSeq seq
      let d := d.inc Obj.ReelRecordCount
      let d := { d with buf := { d.buf with
        reelSeq := d.buf.reelSeq + 1, reelLost := false, reelStep := false, reelTrigger := false,
        reelSince := d.buf.reelSince + size,
        recordedNow := if d.buf.recordedNow.contains stream then d.buf.recordedNow else stream :: d.buf.recordedNow } }
      d.when (d.rd Obj.ReelState == 2 && decide (d.rdN Obj.ReelWriteOffset = 0)) fun d => d.reelEnter 3 2 true

/-- A Reel copy is lost: it is counted, its SEQ is spent, and the next record carries the loss flag (R394 to R396). -/
def Dev.reelLose (d : Dev) : Dev :=
  let d := (d.inc Obj.ReelLossCount).when (!d.buf.reelLost) fun d => d.wr Obj.ReelEventCause 5
  { d with buf := { d.buf with reelLost := true, reelSeq := d.buf.reelSeq + 1 } }

/-- A trigger (R397): outside RECORDING it is ignored; in trigger mode the rest of the partition follows (R396). -/
def reelTrigger (d : Dev) : Dev :=
  if d.rd Obj.ReelState != 1 then d
  else
    let region := d.reelWrap
    let d := { (d.wr Obj.ReelTriggerTime d.now) with buf := { d.buf with reelTrigger := true, reelSince := 0 } }
    if d.rd Obj.ReelMode == 1 then (d.wr Obj.ReelWriteOffset region).reelEnter 2 1 true
    else d.reelEnter 1 1 true

/-- ReelCmd: 3 is refused while FULL or while the thermal warning holds; the rest waits for the boundary (R396). -/
def reelCommand (n : Nat) (d : Dev) : Dev :=
  if n == 3 && (d.rd Obj.ReelState == 3 || d.rd Obj.ThermalState != 0) then d.wr Obj.ReelCmd 0x80
  else { d.wr Obj.ReelCmd n with buf := { d.buf with reelCmd := some n } }

/-- A Reel command takes effect at the boundary (R396). -/
def Dev.reelBoundary (d : Dev) : Dev :=
  match d.buf.reelCmd with
  | none => d
  | some n =>
    let d := { d with buf := { d.buf with reelCmd := none } }
    if n == 2 then d.reelStop 4
    else if !d.on .reel 0 then d
    else if n == 1 then
      let d := d.wrs [(Obj.ReelState, 1), (Obj.ReelOldestOffset, 0), (Obj.ReelWriteOffset, 0), (Obj.ReelRecordCount, 0)]
      { d with buf := { d.buf with reel := [], reelHeld := 0, reelSeq := 0, reelLost := false, reelTrigger := false } }
    else if d.rd Obj.ReelState == 0 && d.rd Obj.ThermalState == 0 then d.wr Obj.ReelState 1
    else d

/-- Work item 10: in hardware mode of F7, with its block ENABLED, trigger on the events and the stream of the previous
Turn (R397). -/
def reelEvaluation (d : Dev) : Dev :=
  d.workItem 10 fun d =>
    if d.on .reelTrigger 0 && !d.rdB Obj.ModeF7ReelTrigger
        && ((d.buf.raisedBefore &&& d.rdN Obj.ReelTriggerEventMask) != 0
            || d.buf.recordedBefore.contains (d.rdN Obj.ReelTriggerStream)) then
      reelTrigger d
    else d

/-- A read of ReelReadData: 64 bytes at the read offset, which moves on and wraps (R398). -/
def reelRead (d : Dev) : Dev :=
  let a := d.rdN Obj.ReelReadOffset
  let size := d.reelSize
  let d := d.wrV Obj.ReelReadData (.oct (readBytes d.buf.reel a 64))
  d.wr Obj.ReelReadOffset (if a + 64 < size then a + 64 else 0 : Nat)

/-! ## Meanings -/

/-- REEL_START (R396). -/
def execReelStart (s : State) : Host.Outcome State Fault Refusal := s.effect (reelCommand 1)

/-- REEL_STOP (R396). -/
def execReelStop (s : State) : Host.Outcome State Fault Refusal := s.effect (reelCommand 2)

/-- REEL_RESUME (R396). -/
def execReelResume (s : State) : Host.Outcome State Fault Refusal := s.effect (reelCommand 3)

/-- REEL_TRIGGER_CMD (R397). -/
def execReelTriggerCmd (s : State) : Host.Outcome State Fault Refusal := s.effect reelTrigger

/-- REEL_TRIGGER_EVALUATION (R397). -/
def execReelTriggerEvaluation (s : State) : Host.Outcome State Fault Refusal := s.effect reelEvaluation

/-- REEL_READ (R398). -/
def execReelRead (s : State) : Host.Outcome State Fault Refusal := s.effect reelRead

end Sys2Proof.Machine
end

