-- ==== Sys2Proof/Machine/Pipeline.lean ====
section
/-! DEFINITION. The ingress side: reception, the pipeline and its forwarding decision, replication and admission, and
the end of a frame (R313 to R316, R324, R327, R330, R331, R336 to R347, R378, R382, R394, R410 to R417). -/

namespace Sys2Proof.Machine

/-! ## The forwarding decision (R336 to R341) -/

/-- The ports of a mask, in ascending order. -/
def portsOf (mask : Nat) : List Nat := (List.range 49).filter (bit mask)

/-- The class of a copy (R338). -/
def Dev.copyClass (d : Dev) (p pcp : Nat) (stream : Option (Nat × Nat)) : Nat :=
  match stream with
  | some (_, e) => if bit e 8 then bits e 9 3 else bits (d.rdN (inst Obj.PortPcpClassMap p)) (4 * pcp) 3
  | none => bits (d.rdN (inst Obj.PortPcpClassMap p)) (4 * pcp) 3

/-- How a copy to a port leaves: without its classification tag, which stands at an offset, or with a tag added (R339). -/
def Dev.tagging (d : Dev) (p : Nat) (x : Parsed) (vlan vid : Nat) (m : Nat) : Option Nat × Option (Nat × Nat × Bool) :=
  let untag := bit vlan (49 + m)
  let mode0 := d.rd (inst Obj.PortTagMode p) == 0
  match d.classTag p x with
  | some _ => (if untag then some (if mode0 && x.sTag.isSome then 16 else 12) else none, none)
  | none =>
    if untag then (none, none)
    else
      let tpid := if mode0 then 0x8100 else d.rdN (inst Obj.PortSTagTpid p)
      (none, some (tpid, d.rdN (inst Obj.PortDefaultPcp p) * 8192 + vid, mode0 && x.sTag.isSome))

/-- Launch fields of a scheduled stream entry (R377, R378). -/
def launchFields (stream : Option (Nat × Nat)) : Option (Nat × Nat) :=
  match stream with
  | some (_, e) => if bit e 4 && bit e 432 then some (bits e 384 32, bits e 448 32) else none
  | none => none

/-- A mirror copy is made of a frame: the mirror engine runs, an analysis port is named, and the frame did not come
from it (R341, R393). -/
def Dev.mirrorPlan (d : Dev) (p : Nat) (want : Bool) : List CopyPlan :=
  let a := d.rdN Obj.MirrorAnalysisPort
  if want && d.on .mirror 0 && a != 0xFF && a != p then
    [{ out := a, cls := d.rdN Obj.MirrorClass, mirror := true, reasons := if a == 48 then 16 else 0 }]
  else []

/-- What the four lookups found for a frame. -/
structure Looked where
  x : Parsed
  stream : Option (Nat × Nat)
  vlan : Nat
  vid : Nat
  pcp : Nat
  da : Option (Nat × Nat)
  sa : Option (Nat × Nat)
deriving DecidableEq, Repr

/-- The stream, VLAN and MAC lookups (R315, R320, R324, R330). -/
def Dev.lookups (d : Dev) (p : Nat) (bs : List Byte) : Looked :=
  let x := d.parse p bs
  let v := d.classVid p x
  let vlan := if d.tableOn 1 then d.vlanAt v.1 else 0
  let fid := bits vlan 98 12
  { x := x, stream := d.streamLookup p x, vlan := vlan, vid := v.1, pcp := v.2,
    da := d.macLookup (leNat x.da) fid, sa := d.macLookup (leNat x.sa) fid }

/-- The provisional learn event of a frame (R331). -/
def Dev.learnOf (d : Dev) (p : Nat) (l : Looked) : Option LearnEvent :=
  let ev (t : Nat) : Option LearnEvent :=
    some { mac := leNat l.x.sa, fid := bits l.vlan 98 12, port := p, type := t, turn := 0 }
  if d.rdB (inst Obj.PortLearnEnable p) && bit l.vlan 111 && !isGroup l.x.sa then
    match l.sa with
    | none => ev 1
    | some (_, e) => if macDynamic e && macPort e != some p then ev 2 else none
  else none

/-- An SA hit on a STATIC entry whose DEST differs from the ingress port (R331). -/
def staticViolation (p : Nat) (l : Looked) : Bool :=
  match l.sa with
  | some (_, e) => bit e 61 && macPort e != some p
  | none => false

/-- A condition of R327 discards the frame. -/
def Dev.vlanDiscards (d : Dev) (p : Nat) (l : Looked) : Bool :=
  let accept := d.rd (inst Obj.PortAcceptFrames p)
  let tagged := match d.classTag p l.x with
    | some tci => tci % 4096 != 0
    | none => false
  (accept == 1 && !tagged) || (accept == 2 && tagged) || !bit l.vlan 110
    || (d.rdB (inst Obj.PortIngressFilter p) && !bit l.vlan p)

/-- The flood set (R336). -/
def Dev.floodSet (d : Dev) (vlan : Nat) : Nat :=
  let m := bits vlan 0 49
  if bit vlan 123 then m &&& d.skeinPorts (bits vlan 112 11) else m

/-- The destination set of rows 9 to 12, and whether it came from a skein with KEEP_SOURCE (R336, R337). -/
def Dev.destination (d : Dev) (l : Looked) : Nat × Bool :=
  let named (isSkein : Bool) (dest : Nat) : Nat × Bool :=
    if isSkein then (d.skeinPorts dest, bit (d.skeinAt dest) 50) else (2 ^ dest, false)
  match l.stream with
  | some (_, e) =>
    if bit e 12 then named (bit e 13) (bits e 16 12)
    else if isBroadcast l.x.da then (d.floodSet l.vlan, false)
    else match l.da with
      | some (_, m) => named (bit m 62) (bits m 63 12)
      | none => (d.floodSet l.vlan, false)
  | none =>
    if isBroadcast l.x.da then (d.floodSet l.vlan, false)
    else match l.da with
      | some (_, m) => named (bit m 62) (bits m 63 12)
      | none => (d.floodSet l.vlan, false)

/-- A flag of the entry that the DA or the SA hit: DROP 78, TRAP 79 (R329). -/
def macFlag (l : Looked) (b : Nat) : Bool :=
  (match l.da with | some (_, e) => bit e b | none => false) || (match l.sa with | some (_, e) => bit e b | none => false)

/-- A frame of a scheduled stream beyond its Turn budget (R382). -/
def Dev.overBudget (d : Dev) (l : Looked) : Bool :=
  match l.stream with
  | some (i, e) => bit e 4 && bits e 416 16 != 0 && decide (bits e 416 16 ≤ Sparse.get (fun _ => 0) d.fwd.budgetUsed i)
  | none => false

/-- Count a frame of a stream that has passed the decision in this Turn (R382). -/
def Dev.spendBudget (d : Dev) (l : Looked) : Dev :=
  match l.stream with
  | some (i, e) =>
    if bit e 4 && bits e 416 16 != 0 then
      let used := Sparse.get (fun _ => 0) d.fwd.budgetUsed i
      { d with fwd := { d.fwd with budgetUsed := Sparse.set (fun _ => 0) d.fwd.budgetUsed i (used + 1) } }
    else d
  | none => d

/-- Rows 9 to 12 of R336 with the steps of R337: the copies of a frame that is forwarded. -/
def Dev.forwardPlans (d : Dev) (p : Nat) (l : Looked) : List CopyPlan :=
  let dest := d.destination l
  let m1 := dest.1 &&& bits l.vlan 0 49
  let m2 := if dest.2 then m1 else setBit m1 p false
  let ports := (portsOf m2).filter d.portTakes
  let cls := d.copyClass p l.pcp l.stream
  let trap := macFlag l 79
  let out := (ports.filter (· != 48)).map fun m =>
    let t := d.tagging p l.x l.vlan l.vid m
    { out := m, cls := cls, untag := t.1, addTag := t.2, launch := launchFields l.stream : CopyPlan }
  let reasons := ofBool (ports.contains 48) + 2 * ofBool trap
  out ++ (if reasons != 0 then [{ out := 48, cls := cls, reasons := reasons : CopyPlan }] else [])

/-- The decision of stages 5 and 6 (R336 to R341), with the counts it makes. -/
def Dev.forwarding (d : Dev) (p : Nat) (bs : List Byte) (whole : Bool) : Dev × Decision :=
  let l := d.lookups p bs
  let base : Decision := { parsed := some l.x, vid := l.vid, pcp := l.pcp, whole := whole, stream := l.stream.map (·.1),
                           learn := d.learnOf p l, staticViolation := staticViolation p l }
  let ingressMirror := d.mirrorPlan p (d.rdB (inst Obj.PortMirrorIngress p))
  let dropped : Decision := { base with plans := ingressMirror }
  -- the mask names every reason that applies: a TRAP entry as well (R355)
  let toHp (reason : Nat) : Decision :=
    { base with plans := [{ out := 48, cls := d.copyClass p l.pcp l.stream, reasons := reason + 2 * ofBool (macFlag l 79) }] }
  let pipe := if 24 ≤ p && p < 48 then 1 else 0
  let d := (d.counted 0 (if l.da.isSome then 0x08 else 0x09) pipe 1).counted 0 0x0A pipe (ofBool l.stream.isSome)
  -- an SA hit sets AGE to 4 (R330)
  let d := match l.sa with
    | some (loc, e) => d.setMac loc (macWithAge e 4)
    | none => d
  let ours := match l.x.ptp with
    | some i => d.isBoundaryPtp i
    | none => false
  let domain := match l.x.ptp with
    | some i => if ours then none else d.tcDomainOf i
    | none => none
  -- a port in SGMII mode carries PTP messages as ordinary frames (R98)
  let plain := decide (p < 48) && d.isSgmii p
  let boundary := ours && !plain
  let tc := if plain then none else domain
  let p2pSync := match tc, l.x.ptp with
    | some n, some i => d.rd (inst Obj.TcDomainType n) == 2 && i.type == 0
    | _, _ => false
  -- a frame of the host port has no path delay: it gains the residence only (log entry 51)
  let delayKnown := decide (p < 48) && d.rdB (inst Obj.LinkPathDelayValid p)
  let tcAdd := if p2pSync && delayKnown then d.rd (inst Obj.LinkMeanPathDelay p) + d.rd (inst Obj.AsymmetryInForce p) else 0
  let tcPdelay := match tc, l.x.ptp with
    | some n, some i => d.rd (inst Obj.TcDomainType n) == 2 && (i.type == 2 || i.type == 3 || i.type == 10)
    | _, _ => false
  if isGroup l.x.sa then (d.inc Obj.GroupSaDiscardCount, dropped)
  else if boundary && isGroup l.x.da then
    if p < 48 && d.on .ptpEngine p then
      if d.rdB (inst Obj.ModeF0PtpEngine p) then (d, toHp 8) else (d, base)
    else (d.inc Obj.PtpDiscardedCount, base)
  else if isEsmc l.x bs || tcPdelay then (d, base)
  else if isLinkLocal l.x.da then
    if d.rd (inst Obj.PortLinkLocalAction p) == 1 then (d, toHp 4) else (d, base)
  else if d.isOwnMac l.x.da then
    match d.mdpTaken p l.vid l.x with
    | some true => (d, base)
    | some false => (d.inc Obj.MdpDatagramDiscardCount, base)
    | none => if d.on .port 48 then (d, toHp 32) else (d, base)
  else if d.vlanDiscards p l then (d, dropped)
  else if (match l.stream with | some (_, e) => bit e 7 | none => false) then (d, dropped)
  else if macFlag l 78 then (d, dropped)
  else if d.overBudget l then (d.inc Obj.StreamBudgetDropCount, dropped)
  else
    let d := d.spendBudget l
    -- a PTP frame that matches no ENABLED domain is forwarded without correction (R137), and a Sync of a P2P domain without the
    -- path delay where that is not valid (R141)
    let foreign := (l.x.ptp.isSome && !ours && domain.isNone) || (p2pSync && !delayKnown)
    let d := d.when foreign fun d => d.inc Obj.PtpForeignUncorrectedCount
    let plans := d.forwardPlans p l
    if plans.isEmpty then (d.inc (inst Obj.PortFilteredCount p), dropped)
    else
      let egressMirror := plans.any fun c => d.rdB (inst Obj.PortMirrorEgress c.out)
      let streamMirror := match l.stream with
        | some (_, e) => bit e 5
        | none => false
      let mirror := d.mirrorPlan p (d.rdB (inst Obj.PortMirrorIngress p) || egressMirror || streamMirror)
      let reel := match l.stream with
        | some (_, e) => bit e 6
        | none => false
      (d, { base with plans := plans ++ mirror, reel := reel, tcDomain := tc, tcAdd := tcAdd })

/-! ## Reception (R313, R314, R410 to R412) -/

/-- The frame being received on a port. -/
def Dev.receiving (d : Dev) (p : Nat) : Option Nat :=
  match Sparse.get (fun _ => 0) d.fwd.receiving p with
  | 0 => none
  | n + 1 => some n

def Dev.setReceiving (d : Dev) (p n : Nat) : Dev :=
  { d with fwd := { d.fwd with receiving := Sparse.set (fun _ => 0) d.fwd.receiving p n } }

def Dev.fifo (d : Dev) (p : Nat) : List Nat := Sparse.get (fun _ => []) d.fwd.fifo p

def Dev.setFifo (d : Dev) (p : Nat) (q : List Nat) : Dev :=
  { d with fwd := { d.fwd with fifo := Sparse.set (fun _ => []) d.fwd.fifo p q } }

def Dev.stage (d : Dev) (pipe : Nat) : List Nat := Sparse.get (fun _ => []) d.fwd.stage pipe

def Dev.setStage (d : Dev) (pipe : Nat) (q : List Nat) : Dev :=
  { d with fwd := { d.fwd with stage := Sparse.set (fun _ => []) d.fwd.stage pipe q } }

/-- The bytes the store holds of a frame: a truncated one is cut at M with the inverted FCS (R412). -/
def Dev.storedBytes (d : Dev) (f : Frame) : List Byte :=
  if f.truncated then
    let body := f.bytes.take (d.maxFrame f.port - 4)
    body ++ fcsInverted body
  else f.bytes

/-- Bytes that wait in a port's ingress FIFO (R314). -/
def Dev.fifoFill (d : Dev) (p : Nat) : Nat :=
  ((d.fifo p).map fun id => match d.frame id with
    | some f => min f.bytes.length (d.maxFrame p)
    | none => 0).sum

/-- A port receives: its block is ENABLED and its link up (R426). -/
def Dev.portReceives (d : Dev) (p : Nat) : Bool := d.on .port p && d.rdB (inst Obj.PortLinkUp p)

/-- A frame as its reception starts (R124, R395, R417). -/
def Dev.arriving (d : Dev) (p : Nat) (bytes : List Byte) (codeErr : Bool) (st : RxStamp) : Frame :=
  { port := p, bytes := bytes, codeErr := codeErr, filtered := d.groupFiltered p bytes, stamp := d.rxInst p st,
    awaits := if p < 48 then some (d.stampNow p st) else none, turn := d.rdN Obj.TurnNumber,
    traced := d.rdB Obj.TimeValid && (d.rd (inst Obj.SpindleState d.active) == 2), holding := d.rd Obj.SteeredSynthState != 1 }

/-- FRAME_RX_START: the frame enters the ingress FIFO, or is discarded whole when its first byte finds it full, which the
MAC's counters do not see (R314, R420). A frame on a port that is not ENABLED or up is not received (R426). -/
def frameRxStart (p : Nat) (bytes : List Byte) (codeErr : Bool) (st : RxStamp) (d : Dev) : Dev :=
  if !d.portReceives p || (d.receiving p).isSome then d
  else
    let id := d.fwd.nextFrame
    let d := d.counted 1 0x01 (d.timingLane p) 1
    let f := d.arriving p bytes codeErr st
    if 16384 ≤ d.fifoFill p then
      ((d.newFrame { f with overflowed := true }).inc (inst Obj.PortIngressOverflowCount p)).setReceiving p (id + 1)
    else
      let d := d.newFrame f
      (d.setFifo p (d.fifo p ++ [id])).setReceiving p (id + 1)

/-- The MAC consumes or discards a frame before the pipeline: MAC Control, beacons, the group filter (R388, R417,
R443). -/
def Frame.macTakes (f : Frame) : Bool := f.port != 48 && (isMacControl f.bytes || isBeacon f.bytes || f.filtered)

/-- A frame that makes no copies is done with the pipeline. -/
def Frame.consumed (f : Frame) : Frame := { f with entered := true, replicated := true, decision := some {} }

/-- A good frame's learn event becomes real, and its static violation is counted (R331). -/
def Dev.learnReal (d : Dev) (f : Frame) : Dev :=
  match f.decision with
  | none => d
  | some x =>
    if f.ended && !f.bad && !f.truncated then
      let d := match x.learn with
        | some e => d.queueLearn { e with turn := d.rdN Obj.TurnNumber, started := d.turn.started }
        | none => d
      d.when x.staticViolation fun d => d.inc Obj.MacStaticViolationCount
    else d

/-- The ports of a pipeline in the order of the round robin, after the port that entered last (R313). -/
def Dev.pipeOrder (d : Dev) (pipe : Nat) : List Nat :=
  let ports := if pipe = 0 then List.range 24 ++ [48] else (List.range 24).map (· + 24)
  let next := Sparse.get (fun _ => 0) d.fwd.lastEntered pipe
  ports.filter (fun p => decide (next ≤ p)) ++ ports.filter (fun p => decide (p < next))

/-- The oldest waiting frame of a port is long enough to enter, or whole (R313). -/
def Dev.mayEnter (d : Dev) (p : Nat) : Bool :=
  match (d.fifo p).head? with
  | some id => match d.frame id with
    | some f => decide (128 ≤ f.bytes.length) || f.ended
    | none => true
  | none => false

/-- The oldest waiting frame of a port enters its pipeline: it is parsed, looked up and decided (R313, R315). -/
def Dev.enterFrom (d : Dev) (p : Nat) : Dev :=
  match d.fifo p with
  | [] => d
  | id :: rest =>
    match d.frame id with
    | none => d.setFifo p rest
    | some f =>
      let d := d.setFifo p rest
      if f.macTakes then (d.onFrame id Frame.consumed).reapFrame id
      else
        let pipe := if 24 ≤ p && p < 48 then 1 else 0
        let r := (d.counted 0 0x01 pipe 1).forwarding p f.bytes f.ended
        -- event messages for the host wait for their refined stamp (R119, R553)
        let waits := r.2.plans.any (fun c => bit c.reasons 3) && (match r.2.parsed.bind (·.ptp) with
          | some i => decide (i.type < 4)
          | none => false)
        let f := { f with entered := true, decision := some r.2, awaits := if waits then f.awaits else none }
        let d := (r.1.putFrame id (some f)).setStage pipe (d.stage pipe ++ [id])
        let d := { d with fwd := { d.fwd with lastEntered := Sparse.set (fun _ => 0) d.fwd.lastEntered pipe (p + 1) } }
        d.learnReal f

/-- PIPELINE_ENTRY: of the ports whose frames are ready, the first in the round robin's order enters (R313). `ready` are the
ports whose oldest waiting frame has its first 128 bytes in, or all of it. -/
def pipelineEntry (pipe : Nat) (ready : List Nat) (d : Dev) : Dev :=
  match (d.pipeOrder pipe).find? fun p => ready.contains p && d.mayEnter p with
  | some p => d.enterFrom p
  | none => d

/-! ## Bad and truncated frames (R346, R412) -/

/-- A copy of a frame. -/
def Copy.ofFrame (id : Nat) (x : Copy) : Bool := x.payload == .frame id

/-- Cut-through copies of a frame that have started end with an inverted FCS. -/
def Dev.stompStarted (d : Dev) (id : Nat) : Dev :=
  d.forEach (fun p d => match (d.egress p).tx with
    | some t => d.when (t.copy.ofFrame id && t.copy.cut) fun d =>
        d.setEgress p fun e => { e with tx := some { t with stomped := true } }
    | none => d) (List.range 48)

/-- A frame proves bad, or is truncated: stored copies are discarded and started ones stomped; copies of a truncated
frame to HP and to the analysis port stay (R346, R412). -/
def Dev.spoil (d : Dev) (id : Nat) (truncated : Bool) : Dev :=
  let gone (x : Copy) : Bool := x.ofFrame id && !(truncated && (x.plan.out == 48 || x.plan.mirror))
  (d.discardCopies gone 7).stompStarted id

/-- OVERSIZE_TRUNCATION: byte M + 1 arrives (R412). -/
def oversizeTruncation (p : Nat) (d : Dev) : Dev :=
  match d.receiving p with
  | none => d
  | some id =>
    match d.frame id with
    | none => d
    | some f =>
      if f.bytes.length ≤ d.maxFrame p || f.truncated then d
      else (d.onFrame id fun f => { f with truncated := true }).spoil id true

/-! ## Replication and admission (R342 to R345, R360, R366) -/

/-- Cells held by a frame's copies beyond what their length needs are freed, and their landing cells (R361, R365). -/
def Dev.settle (d : Dev) (id len : Nat) : Dev :=
  let need (x : Copy) : Nat :=
    min x.cells (cellsFor (len - if x.plan.untag.isSome then 4 else 0) (if x.plan.addTag.isSome then 4 else 0)
      (d.maxFrame x.plan.out))
  let mine := (takeCopies (Copy.ofFrame id) d.buf.queues).2 ++
    ((List.range 48).filterMap fun p => match (d.egress p).tx with
      | some t => if t.copy.ofFrame id then some t.copy else none
      | none => none)
  let fix (x : Copy) : Copy := if x.ofFrame id then { x with cells := need x, landing := 0 } else x
  let d' : Dev := mine.foldl (fun (d : Dev) (x : Copy) =>
    let excess : Int := (x.cells : Int) - need x
    let d := d.when (excess != 0) fun d => (d.addCells x.plan.out x.plan.cls x.pool (-excess)).addIngress x.ingress x.pcp (-excess)
    d.when (x.landing != 0) fun d => d.addLanding (-(x.landing : Int))) d
  let d' := { d' with buf := { d'.buf with queues := d'.buf.queues.map fun (e : Nat × List Copy) => (e.1, e.2.map fix) } }
  let d' := d'.forEach (fun p d => match (d.egress p).tx with
    | some t => d.when (t.copy.ofFrame id) fun d => d.setEgress p fun e => { e with tx := some { t with copy := fix t.copy } }
    | none => d) (List.range 48)
  d'.checkStores

/-- A copy may be sent cut-through (R344, R375). -/
def Dev.cutThrough (d : Dev) (f : Frame) (plan : CopyPlan) (t : Int) : Bool :=
  let i := f.port
  let m := plan.out
  let rateOut := d.lineRate m
  let rateIn := d.lineRate i
  let w := ceilDiv (256 * 8 * 1000 * nsT) (max rateIn 1)
  let tau := w + txTime (d.maxFrame m) rateOut
  i < 48 && m < 48 && !plan.mirror && f.ring.isNone
    && d.rdB (inst Obj.PortCutThrough i) && d.rdB (inst Obj.PortCutThrough m)
    && (List.range 8).all (fun c => (d.queue (queueKey m c)).isEmpty) && (d.egress m).tx.isNone
    && decide (rateOut ≤ rateIn) && plan.launch.isNone
    && !bit (d.rdN (inst Obj.QueuePausedMask m)) plan.cls
    && d.gateOpen m plan.cls t tau && d.launchGuard m none t tau

/-- Make, store and enqueue one copy (R343, R351, R366). The answer says: admitted 0, refused 3, flushed 6. -/
def Dev.makeCopy (d : Dev) (id : Nat) (f : Frame) (x : Decision) (plan : CopyPlan) (t : Int) : Dev × Nat :=
  let p := plan.out
  if !d.portTakes p then (d.countFlushed p, 6)
  else
    let cut := d.cutThrough f plan t
    let added := if plan.addTag.isSome then 4 else 0
    let len := if x.whole then (d.storedBytes f).length else d.maxFrame f.port
    let r := cellsFor len added (d.maxFrame p)
    match d.admitCopy p plan.cls cut r (some f.port) with
    | .error cause => (d.refuse p plan.cls cause, 3)
    | .ok (pool, landing, headroom) =>
      let c : Copy := { payload := .frame id, plan := plan, pool := pool, cells := r, landing := landing,
                        ingress := some f.port, pcp := x.pcp, admitted := d.time.uptime,
                        launch := if plan.mirror || p == 48 then none else d.launchOf plan t, cut := cut }
      let d := d.onFrame id fun f => { f with copies := f.copies + 1 }
      let d := d.when plan.mirror fun d => d.inc Obj.MirrorCopyCount
      (d.enqueue c headroom, 0)

/-- Make the copies of a frame in order; the outcomes of all of them. -/
def Dev.makeCopies (d : Dev) (id : Nat) (f : Frame) (x : Decision) (t : Int) : List CopyPlan → Dev × List Nat
  | [] => (d, [])
  | plan :: rest =>
    let r := d.makeCopy id f x plan t
    let r' := r.1.makeCopies id f x t rest
    (r'.1, r.2 :: r'.2)

/-- The Reel copy of a frame takes landing cells; when none are free it is lost (R394). -/
def Dev.reelCopy (d : Dev) (id : Nat) (f : Frame) : Dev :=
  if !(d.on .reel 0 && (d.rd Obj.ReelState == 1 || d.rd Obj.ReelState == 2)) then d
  else
    let r := cellsFor (d.maxFrame f.port) 0 (d.maxFrame f.port)
    if 8192 < d.rd Obj.LandingFill + r then d.reelLose
    else (d.addLanding r).onFrame id fun f => { f with reelCells := r }

/-- The record of a frame whose last byte is in is written and its landing cells freed (R394, R395). -/
def Dev.reelFinish (d : Dev) (id : Nat) : Dev :=
  match d.frame id with
  | none => d
  | some f =>
    if f.reelCells = 0 then d
    else
      let stream := (f.decision.bind (·.stream)).getD 0
      let d := d.reelRecord f stream (d.storedBytes f)
      (d.addLanding (-(f.reelCells : Int))).onFrame id fun f => { f with reelCells := 0 }

/-- What holds for a frame once its last byte is in and its copies are made: landing and excess cells are freed, bad
copies discarded, the Reel record written (R346, R361, R365, R394). -/
def Dev.finishFrame (d : Dev) (id : Nat) : Dev :=
  match d.frame id with
  | none => d
  | some f =>
    if !(f.ended && f.replicated) then d
    else
      let d := d.settle id (d.storedBytes f).length
      let d := d.when (f.bad || f.truncated) fun d => d.spoil id f.truncated
      (d.reelFinish id).reapFrame id

/-- The status a lookup-mode or direct descriptor takes from its copies: stored, refused or flushed (R552). -/
def copiesStatus (rs : List Nat) : Nat :=
  if rs.contains 0 || rs.isEmpty then 0 else if rs.contains 3 then 3 else 6

/-- The descriptor of an injected frame is written back once it is stored, or with its refusal (R552). -/
def Dev.injectedStatus (d : Dev) (f : Frame) (rs : List Nat) : Dev :=
  match f.ring with
  | none => d
  | some (r, i) =>
    let st := copiesStatus rs
    let waits := (d.ring r).fetched.any (fun t => t.index == i && t.late)
    if waits && st == 0 then d else d.txStatus r i st none

/-- REPLICATION: the frame at the head of a pipeline's replication stage gets its copies (R342, R343). -/
def replication (pipe : Nat) (t : Int) (d : Dev) : Dev :=
  let d := d.until t
  match d.stage pipe with
  | [] => d
  | id :: rest =>
    let d := d.setStage pipe rest
    match d.frame id with
    | none => d
    | some f =>
      let x := f.decision.getD {}
      let n := x.plans.length + ofBool x.reel
      let d := d.when (decide (4 < n)) fun d => d.add32 (inst Obj.ReplicationStallCycles pipe) ((n + 3) / 4 - 1)
      let r := d.makeCopies id f x t x.plans
      let d := r.1.when x.reel fun d => d.reelCopy id f
      let d := d.onFrame id fun f => { f with replicated := true }
      (d.injectedStatus f r.2).finishFrame id

/-! ## The end of a frame (R410, R415, R417, R420) -/

/-- Count a received frame (R410, R415, R417, R420). -/
def Dev.countRx (d : Dev) (p : Nat) (bs : List Byte) (good codeErr filtered : Bool) : Dev :=
  let len := bs.length
  let m := d.maxFrame p
  let da := bs.take 6
  let d := (d.count p 1 len).when filtered fun d => d.count p 15 1
  if len < 64 then d.count p (if good then 11 else 12) 1
  else if m < len then d.count p (if good then 13 else 14) 1
  else
    let d := d.count p (16 + sizeBin len) 1
    if good then
      let d := (d.count p 2 1).count p 0 len
      let d := d.count p (if isBroadcast da then 5 else if isGroup da then 4 else 3) 1
      d.when (isMacControl bs) fun d =>
        d.count p (if be bs 14 2 == 0x0001 then 6 else if be bs 14 2 == 0x0101 then 7 else 8) 1
    else d.count p (if codeErr then 10 else 9) 1

/-- A frame's last byte is in, or its reception is cut short by loss of link (R410, R415). -/
def Dev.endFrame (d : Dev) (p id : Nat) (cutShort : Bool) : Dev :=
  let d := d.setReceiving p 0
  match d.frame id with
  | none => d
  | some f =>
    let code := f.codeErr || cutShort
    let good := fcsGood f.bytes && !code
    let d := d.countRx p f.bytes good code f.filtered
    let excess := decide (d.maxFrame p < f.bytes.length)
    let f := { f with ended := true, bad := !good, truncated := f.truncated || excess }
    let d := d.putFrame id (some f)
    if f.bytes.length < 64 || f.overflowed || (!f.entered && f.macTakes) then
      ((d.setFifo p ((d.fifo p).filter (· != id))).onFrame id Frame.consumed).reapFrame id
    else
      let d := d.learnReal f
      let d := d.when f.replicated fun d => d.finishFrame id
      -- copies already started must end with an inverted FCS even before the rest is settled
      d.when (f.bad || f.truncated) fun d => d.stompStarted id

/-- FRAME_RX_END (R410). -/
def frameRxEnd (p : Nat) (d : Dev) : Dev :=
  match d.receiving p with
  | some id => d.endFrame p id false
  | none => d

/-! ## Meanings -/

/-- FRAME_RX_START (R314). -/
def execFrameRxStart (p : Port) (bytes : List Byte) (codeErr : Bool) (st : RxStamp) (s : State) :
    Host.Outcome State Fault Refusal := s.effect (frameRxStart p bytes codeErr st)

/-- PIPELINE_ENTRY (R313). -/
def execPipelineEntry (e : EntryObs) (s : State) : Host.Outcome State Fault Refusal :=
  s.effect (pipelineEntry e.pipe (e.ready.map (·.val)))

/-- REPLICATION (R342). -/
def execReplication (pipe : Fin 2) (t : Int) (s : State) : Host.Outcome State Fault Refusal :=
  s.effect (replication pipe t)

/-- OVERSIZE_TRUNCATION (R412). -/
def execOversizeTruncation (p : Port) (s : State) : Host.Outcome State Fault Refusal := s.effect (oversizeTruncation p)

/-- FRAME_RX_END (R410). -/
def execFrameRxEnd (p : Port) (s : State) : Host.Outcome State Fault Refusal := s.effect (frameRxEnd p)

end Sys2Proof.Machine
end

