-- ==== Sys2Proof/Machine/LinkTiming.lean ====
section
/-! DEFINITION. Link timing of a port (chapter 04) and its path steps (R163 to R171): whorls, stamps, exchanges, the link
measurement and the link timing states. -/

namespace Sys2Proof.Machine

/-- The period of the markers, 32 ns (R122). -/
abbrev markerT : Int := 32 * nsT

/-- A phase unwrapped to lie within half a marker period of another. -/
def wrapNear (v near : Int) : Int := v + markerT * nearest (near - v) 2097152

/-- The last `n` of a list. -/
def lastN {α : Type} (n : Nat) (l : List α) : List α := l.drop (l.length - n)

/-- Insert into an ascending list. -/
def insertAsc (v : Int) : List Int → List Int
  | [] => [v]
  | x :: rest => if v ≤ x then v :: x :: rest else x :: insertAsc v rest

/-- A list in ascending order. -/
def ascending (l : List Int) : List Int := l.foldr insertAsc []

/-- Twice the median: the middle one twice, or the sum of the two middle ones. -/
def medianTwice (l : List Int) : Int :=
  let a := ascending l
  let n := a.length
  if n == 0 then 0 else a.getD ((n - 1) / 2) 0 + a.getD (n / 2) 0

/-! ## Whorls (R122 to R125) -/

/-- The next average of a whorl, unwrapped to the one before. After a Turn without a usable one (R48, R167) there is no slope to
follow: b is 0, as in the first Turn after a lock (R124, R125; log entry 49). -/
def WhorlSt.take (w : WhorlSt) (phase : Int) (started len : Nat) : WhorlSt :=
  match w.a1 with
  | none => { w with got := started, a1 := some phase, a2 := none, a3 := none }
  | some a1 =>
    let a := wrapNear phase a1
    if w.got + 1 == started && w.refused != some w.got then
      { w with got := started, a1 := some a, a2 := some a1, a3 := w.a2, slopes := lastN 32 (w.slopes ++ [(a - a1, len)]) }
    else { w with got := started, a1 := some a, a2 := none, a3 := none }

/-- Work item 1: the average of the Turn before of every ENABLED whorl that has receive markers (R123). -/
def whorlReadings (rs : List (Nat × Int × Nat)) (d : Dev) : Dev :=
  d.workItem 1 fun d => rs.foldl (fun (d : Dev) (r : Nat × Int × Nat) =>
    if r.1 < 48 && d.on .whorl r.1 && d.rdB (inst Obj.WhorlLocked r.1) then
      let phase := r.2.1 % markerT
      let len := match d.turn.before with
        | some b => b.2
        | none => d.rdN Obj.TurnPeriod * 131072
      (d.wrs [(inst Obj.WhorlPhase r.1, phase), (inst Obj.WhorlNoise r.1, (r.2.2 % 2 ^ 32 : Nat))]).setWhorl r.1
        fun w => w.take phase d.turn.started len
    else d) d

/-- The average of the Turn before was delivered in this Turn, and did not reveal a path step (R167). -/
def Dev.whorlFresh (d : Dev) (l : Nat) : Bool :=
  let w := d.whorl l
  w.got == d.turn.started && w.a1.isSome && w.refused != some w.got

/-- The rate ratio of a lane over its last 32 Turns, over those there are while they are fewer (log entry 49): the markers of a
peer that runs fast come early, so a phase that falls by s over a length L gives L / (L - s) - 1 (R102). -/
def WhorlSt.ratio (w : WhorlSt) : Int :=
  let s := (w.slopes.map (·.1)).sum
  let total := (w.slopes.map fun x => (x.2 : Int)).sum + s
  if total ≤ 0 then 0 else quot Config.roundsUp (-s * 2 ^ 48) total.toNat

/-- A receive stamp refined in the Turn after it was taken (R124); the Boolean says that it stays unrefined and counts as such,
because work item 1 was abandoned (R125). A stamp that waited longer, since work item 2 was abandoned, one on a lane whose whorl is
not ENABLED, and one of a Turn whose reading revealed a path step (R167) keep t_inst without being counted (log entry 49). -/
def Dev.refine (d : Dev) (lane : Nat) (s : StampSt) : StampSt × Bool :=
  let w := d.whorl lane
  match s.ref with
  | some _ => (s, false)
  | none =>
    if d.turn.started ≤ s.turn then (s, false)
    else if !d.on .whorl lane || s.turn + 1 < d.turn.started || w.refused == some d.turn.started then
      ({ s with ref := some s.tInst }, false)
    else if !d.whorlFresh lane || w.epoch != s.epoch then ({ s with ref := some s.tInst }, true)
    else
      let a := w.a1.getD 0
      let b := a - w.a2.getD a
      let (start, len) := d.turn.before.getD (s.rx.tm, 1)
      -- phi_s = a + b × (t_m − midpoint) ÷ Turn length, taken to the marker period nearest the reading
      let phi := a + quot Config.roundsUp (b * (2 * (s.rx.tm - start) - len)) (2 * len)
      ({ s with ref := some (s.tInst - s.rx.phi + wrapNear phi s.rx.phi) }, false)

/-- A response has been refined, or need not be (R113). -/
def StampSt.ready (s : StampSt) : Bool := s.ref.isSome

/-! ## Asymmetry (R129, R158, R163) -/

/-- The asymmetry of a single-lane link (R163). -/
def Dev.fixedA (d : Dev) (p : Nat) : Int :=
  dur (d.rd (inst Obj.FixedAsymmetry p) -
    quot Config.roundsUp (d.rd (inst Obj.WavelengthCoeff p) * d.rd (inst Obj.LinkMeanPathDelay p)) 2000000000)

/-- The ply link of a port gives its asymmetry: in SOLVED; in SPLIT and RELOCKING, where the last one stays, until a host decision
after a path step gives the port one of R163 (R158, R159, R168; log entry 50). -/
def Dev.plyGivesA (d : Dev) (p : Nat) : Bool :=
  match d.plyOf p with
  | some (n, _) => d.plyState n == 2 || (d.rd (inst Obj.AsymmetrySource p) != 3 && (d.plyState n == 4 || d.plyState n == 5))
  | none => false

/-- Keep AsymmetryInForce current on a link that R163 governs. -/
def Dev.updateA (d : Dev) (p : Nat) : Dev :=
  if d.plyGivesA p then d
  else
    (d.wr (inst Obj.AsymmetryInForce p) (d.fixedA p)).wr (inst Obj.AsymmetrySource p)
      (if d.rd (inst Obj.AsymmetrySource p) == 3 then 3 else 0)

/-- Mean path delay from the round trips kept: their sum over twice their number, which is over 32 for 16 (R129). -/
def Dev.updateD (d : Dev) (p : Nat) : Dev :=
  let rts := (d.link p).rts
  if rts.isEmpty then d
  else
    let d := d.wrs [(inst Obj.LinkMeanPathDelay p, dur (quot Config.roundsUp rts.sum (2 * rts.length))),
      (inst Obj.LinkPathDelayValid p, 1)]
    d.updateA p

/-- A member of an ENABLED ply link, other than the member that stays up in SPLIT, has no path steps (R165). -/
def Dev.stepsWatched (d : Dev) (p : Nat) : Bool :=
  match d.plyOf p with
  | some (n, _) => d.plyState n == 4
  | none => true

/-! ## Link timing states (R133) -/

/-- A port leaves TRACKING or BRIDGING: the median of its round trips is held (R165). -/
def Dev.holdMedian (d : Dev) (p : Nat) : Dev :=
  let now := d.time.uptime
  d.setLink p fun k =>
    match d.linkState p with
    | 3 => if k.rts.isEmpty then k else { k with left := some (medianTwice k.rts, now) }
    | 4 => { k with left := k.left.map fun l => (l.1, now) }
    | _ => k

/-- Exchanges in progress are abandoned and counted (R131). -/
def Dev.abandonExchanges (d : Dev) (p : Nat) : Dev :=
  let k := d.link p
  (d.add32 (inst Obj.LinkAbandonedCount p) (k.syncs.length + k.dreqs.length + k.pdelays.length)).setLink p
    fun k => { k with syncs := [], dreqs := [], pdelays := [], answers := [], forward := none, raw := [] }

/-- A port goes to IDLE (R133, R171): lock lost, link down, or its engine no longer ENABLED. A decision that waits for the boundary
is refused. -/
def Dev.toIdle (d : Dev) (p : Nat) : Dev :=
  let d := (d.holdMedian p).abandonExchanges p
  let bridging := d.linkState p == 4
  let refused := (d.link p).decision.isSome
  let d := d.setLink p fun k =>
    { k with rts := [], ranged := 0, sinceStep := 0, frozen := none, decision := none, hostRecord := none }
  let d := d.setWhorl (d.timingLane p) fun w => { w with ratios := [] }
  let d := d.wrs [(inst Obj.LinkTimingState p, 0), (inst Obj.LinkPathDelayValid p, 0)]
  d.when bridging fun d => d.wr (inst Obj.PathStepDecisionCmd p) (if refused then 0x80 else 0)

/-- A port enters RANGING. -/
def Dev.toRanging (d : Dev) (p : Nat) : Dev :=
  ((d.holdMedian p).setLink p fun k => { k with ranged := 0 }).wr (inst Obj.LinkTimingState p) 2

/-- A port enters TRACKING, and its PTP port moves from UNCALIBRATED to SLAVE (R134); member b of a ply link moves with member a
(R155). -/
def Dev.toTracking (d : Dev) (p : Nat) : Dev :=
  let d := d.wr (inst Obj.LinkTimingState p) 3
  d.when (d.role p == 8) fun d => match d.plyOf p with
    | some (n, isB) => if isB then d else (d.wr (inst Obj.PtpPortState p) 9).bTakesRole n
    | none => d.wr (inst Obj.PtpPortState p) 9

/-! ## Path steps (R165 to R171) -/

/-- A path step is declared (R167, R170, R171). A port in MASTER or PASSIVE keeps its state; its path delay is rebuilt, since
it is kept current (R134). -/
def Dev.pathStep (d : Dev) (p : Nat) (detector : Nat) (size : Int) : Dev :=
  let d := ((d.inc (inst Obj.PathStepCount p)).wrs
    [(inst Obj.PathStepDetector p, detector), (inst Obj.PathStepLast p, dur size)]).raise 29
  if d.role p == 6 || d.role p == 7 then d.setLink p fun k => { k with rts := [] }
  else
    let was := d.linkState p
    let d := d.when (was == 3) fun d => d.holdMedian p
    let off := d.rd (inst Obj.LinkOffset p)
    let refused := (d.link p).decision.isSome
    let stamp := (d.time.uptime, d.turn.started)
    let d := d.setLink p fun k =>
      { k with frozen := if was == 4 then k.frozen else some off, rts := [], sinceStep := 0, decision := none,
               stepAt := some stamp }
    d.wrs [(inst Obj.LinkTimingState p, 4), (inst Obj.PathStepDecisionCmd p, if refused then 0x80 else 1)]

/-- Detectors 1 and 2 run on a port: in TRACKING and BRIDGING, and in MASTER or PASSIVE; not where the host drives its link timing
(R135, R165, R170). -/
def Dev.detects (d : Dev) (p : Nat) : Bool :=
  d.stepsWatched p && !d.rdB (inst Obj.ModeF0PtpEngine p) && (d.linkState p == 3 || d.linkState p == 4 ||
    ((d.role p == 6 || d.role p == 7) && decide (2 ≤ d.linkState p)))

/-- Detector 1: the Turn average departs from the line of the two before by more than the threshold (R165, R166). A reading that
reveals a step is not used (R167). -/
def Dev.detectWhorl (d : Dev) (p : Nat) : Dev :=
  let lane := d.timingLane p
  let w := d.whorl lane
  match d.detects p && d.whorlFresh lane, w.a1, w.a2, w.a3 with
  | true, some a, some before, some earlier =>
    let size := a - (before + (before - earlier))
    if d.rd (inst Obj.PathStepThreshold p) < size.natAbs then
      (d.setWhorl lane fun w => { w with refused := some w.got, slopes := w.slopes.dropLast }).pathStep p 1 size
    else d
  | _, _, _, _ => d

/-- A valid round trip: detector 2 first, else it joins the last 16 (R129, R165). -/
def Dev.roundTrip (d : Dev) (p : Nat) (rt : Int) : Dev :=
  let d := d.inc (inst Obj.LinkExchangeCount p)
  let k := d.link p
  let far := (2 * rt - medianTwice k.rts).natAbs
  if d.detects p && k.rts.length == 16 && decide (2 * d.rd (inst Obj.PathStepThreshold p) < far) then
    d.pathStep p 2 (quot Config.roundsUp (2 * rt - medianTwice k.rts) 2)
  else
    (d.setLink p fun k =>
      { k with cal := k.cal.map fun w => { w with rts := w.rts ++ [rt] },
               rts := lastN 16 (k.rts ++ [rt]), ranged := k.ranged + 1, sinceStep := k.sinceStep + 1 }).updateD p

/-! ## Exchanges (R129 to R131) -/

/-- Refine the receive stamps a port holds; unrefined ones are counted (R124, R125). -/
def Dev.refineLink (d : Dev) (p : Nat) : Dev :=
  let lane := d.timingLane p
  let k := d.link p
  let missed (s : StampSt) : Nat := ofBool (d.refine lane s).2
  let n := (k.syncs.map fun x => missed x.t2).sum + (k.answers.map fun x => missed x.stamp).sum
    + (k.pdelays.map fun x => match x.t4 with | some s => missed s | none => 0).sum
  ((d.add32 (inst Obj.LinkUnrefinedCount p) n).counted 1 0x03 lane n).setLink p fun k =>
    { k with syncs := k.syncs.map fun x => { x with t2 := (d.refine lane x.t2).1 },
             answers := k.answers.map fun x => { x with stamp := (d.refine lane x.stamp).1 },
             pdelays := k.pdelays.map fun x => { x with t4 := x.t4.map fun s => (d.refine lane s).1 } }

/-- The record of a Turn with a valid Sync (R132, R133): in TRACKING the offset of the last one, in BRIDGING the estimate
of the asymmetry (R167). -/
def Dev.record2 (d : Dev) (p : Nat) (x : RawSync) : Dev :=
  if d.linkState p == 3 then
    let off := dur (x.off + d.rd (inst Obj.AsymmetryInForce p))
    let a := ((d.whorl (d.timingLane p)).a1).getD 0
    let d := match (d.link p).beforeRelock with
      | some o => d.wr (inst Obj.LinkRelockLastShift p) (dur (off - o))
      | none => d
    (d.wrs [(inst Obj.LinkOffset p, off), (inst Obj.LinkRecordTurn p, d.rd Obj.TurnNumber)]).setLink p fun k =>
      { k with recA := a, recAt := d.turn.started, recHolding := x.holding, beforeRelock := none,
               moved := if (k.forward.map (·.2.2)) == some (d.rdN Obj.TimeStepCount) then 0 else k.moved }
  else if d.linkState p == 4 then
    d.wr (inst Obj.PathStepBridgeEstimate p) (dur ((d.link p).frozen.getD 0 - x.off))
  else d

/-- One completed Sync (R129). -/
def Dev.useSync (d : Dev) (p : Nat) (x : SyncX) : Dev :=
  let t2 := x.t2.ref.getD x.t2.tInst
  let bare := x.origin + x.corr + x.corrFup - t2
  let raw := bare + d.rd (inst Obj.LinkMeanPathDelay p)
  let off := raw + d.rd (inst Obj.AsymmetryInForce p)
  let same := x.t2.steps == d.rdN Obj.TimeStepCount
  (d.inc (inst Obj.LinkExchangeCount p)).setLink p fun k =>
    { k with forward := some (t2 - x.origin - x.corr, x.t2.epoch, x.t2.steps),
             cal := k.cal.map fun w =>
               if same then { w with syncs := w.syncs ++ [(t2, t2 - x.origin - x.corr - x.corrFup, off)] } else w,
             raw := k.raw ++ [{ seq := x.seq, source := x.source, off := raw, bare := bare, holding := x.t2.holding, turn := x.t2.turn }] }

/-- Exchanges completed in an earlier Turn whose stamps are refined. -/
def Dev.finished (d : Dev) (complete : Option Nat) : Bool :=
  match complete with
  | some c => decide (c < d.turn.started)
  | none => false

/-- One completed end-to-end round trip: valid when its stamps lie on one lock with no step between (R129, R131). -/
def Dev.useDreq (d : Dev) (p : Nat) (x : DreqX) : Dev :=
  match x.resp, (d.link p).forward with
  | some (t4, c), some (fwd, epoch, steps) =>
    if epoch == x.epoch && steps == x.steps then d.roundTrip p (fwd + (t4 - x.t3 - c))
    else d.inc (inst Obj.LinkAbandonedCount p)
  | _, _ => d.inc (inst Obj.LinkAbandonedCount p)

/-- One completed peer-to-peer round trip (R129, R131). -/
def Dev.usePdelay (d : Dev) (p : Nat) (x : PdelayX) : Dev :=
  match x.resp, x.t4 with
  | some (t2, c), some s =>
    if s.epoch == x.epoch && s.steps == x.steps then
      d.roundTrip p ((s.ref.getD s.tInst - x.t1) - (x.fup.1 - t2 + c + x.fup.2))
    else d.inc (inst Obj.LinkAbandonedCount p)
  | _, _ => d

/-- The exchanges completed before this Turn, Syncs first (R132). -/
def Dev.useExchanges (d : Dev) (p : Nat) : Dev :=
  let k := d.link p
  let syncs := k.syncs.filter fun x => d.finished x.complete && x.t2.ready
  let dreqs := k.dreqs.filter fun x => d.finished x.complete
  let pds := k.pdelays.filter fun x => d.finished x.complete && (x.t4.map StampSt.ready).getD false
  let d := d.setLink p fun k =>
    { k with raw := [], syncs := k.syncs.filter (fun x => !syncs.contains x),
             dreqs := k.dreqs.filter (fun x => !dreqs.contains x), pdelays := k.pdelays.filter (fun x => !pds.contains x) }
  let d := syncs.foldl (fun (d : Dev) x => d.useSync p x) d
  let d := dreqs.foldl (fun (d : Dev) x => d.useDreq p x) d
  pds.foldl (fun (d : Dev) x => d.usePdelay p x) d

/-! ## Work item 2 for a port (R132, R133) -/

/-- LinkRateRatio of a port whose lane has a new average (R102). -/
def Dev.updateRatio (d : Dev) (p : Nat) : Dev :=
  let lane := d.timingLane p
  if d.whorlFresh lane && !(d.whorl lane).slopes.isEmpty then
    let r := (d.whorl lane).ratio
    (d.wr (inst Obj.LinkRateRatio p) r).setWhorl lane fun w => { w with ratios := lastN 32 (w.ratios ++ [r]) }
  else d

/-- The lane of a port is locked and its whorl has receive markers. A Native Quad port that is up and loses its timing lane moves to
another, and stays in its state (R128). -/
def Dev.laneLocked (d : Dev) (p : Nat) : Bool :=
  d.rdB (inst Obj.PortLinkUp p) && (d.rdB (inst Obj.WhorlLocked (d.timingLane p))
    || (p % 4 == 0 && d.quadMode (p / 4) == 3 && d.linkState p != 0))

/-- 32 consecutive values of the rate ratio lie within 562,950 of their mean (R133). -/
def settled (l : List Int) : Bool :=
  l.length == 32 && l.all fun r => decide ((32 * r - l.sum).natAbs ≤ 32 * 562950)

/-- 16 round trips lie within 100 ps of their median (R133). -/
def rangedWell (l : List Int) : Bool :=
  l.length == 16 && l.all fun rt => decide ((2 * rt - medianTwice l).natAbs * 10 ≤ 131072)

/-- The time a median is held for detector 3 has not passed, and the new median differs by more than the threshold
(R165): the difference. -/
def Dev.detectReturn (d : Dev) (p : Nat) : Option Int :=
  match (d.link p).left with
  | some (med, at_) =>
    let diff := medianTwice (d.link p).rts - med
    if d.stepsWatched p && decide (d.time.uptime ≤ at_ + d.rdN (inst Obj.PathStepMemory p) * 1000000)
        && decide (2 * d.rd (inst Obj.PathStepThreshold p) < diff.natAbs) then some (quot Config.roundsUp diff 2)
    else none
  | none => none

/-- The transitions of R133 that work item 2 decides. -/
def Dev.linkTransitions (d : Dev) (p : Nat) : Dev :=
  let st := d.linkState p
  let slave := d.role p == 8 || d.role p == 9
  let host := d.rdB (inst Obj.ModeF0PtpEngine p)
  let k := d.link p
  if st != 0 && !d.laneLocked p then d.toIdle p
  else if st == 0 then d.when (d.on .ptpEngine p && d.laneLocked p) fun d => d.wr (inst Obj.LinkTimingState p) 1
  else if st == 1 then
    d.when (k.folded && settled (d.whorl (d.timingLane p)).ratios) fun d => d.toRanging p
  else if st == 2 then
    if !host && slave && 16 ≤ k.ranged && rangedWell k.rts then
      match d.detectReturn p with
      | some size => d.pathStep p 3 size
      | none => d.toTracking p
    else d
  else if st == 3 && !host then d.when (!slave) fun d => d.toRanging p
  else d

/-- A port in MASTER or PASSIVE under end-to-end delay publishes no path delay (R134). -/
def Dev.masterDelay (d : Dev) (p : Nat) : Dev :=
  d.when ((d.role p == 6 || d.role p == 7) && d.rd (inst Obj.PtpDelayMechanism p) == 1) fun d =>
    (d.wrs [(inst Obj.LinkMeanPathDelay p, 0), (inst Obj.LinkPathDelayValid p, 0)]).updateA p

/-- The unrefined stamps of messages for the host on a port, counted as the device's own are (R119, R125). -/
def Dev.hostUnrefined (d : Dev) (p : Nat) : Nat :=
  (d.fwd.frames.map fun (e : Nat × Option Frame) => match e.2 with
    | some f =>
      let toHost := match f.decision, (d.parse p f.bytes).ptp with
        | some x, some i => decide (i.type < 4) && x.plans.any fun c => bit c.reasons 3
        | _, _ => false
      match f.awaits with
      | some s => if f.port == p && f.refined.isNone && toHost then ofBool (d.refine (d.timingLane p) s).2 else 0
      | none => 0
    | none => 0).sum

/-- Refined stamps of PTP messages delivered to the host under F0 (R119, R553). -/
def Dev.refineHost (d : Dev) : Dev :=
  let fix (f : Frame) : Frame :=
    match f.refined, f.awaits with
    | none, some s => { f with refined := (d.refine (d.timingLane f.port) s).1.ref }
    | _, _ => f
  let done := { d with fwd := { d.fwd with frames := d.fwd.frames.map fun (e : Nat × Option Frame) => (e.1, e.2.map fix) } }
  done.forEach (fun p s =>
    let n := d.hostUnrefined p
    s.when (n != 0) fun s => (s.add32 (inst Obj.LinkUnrefinedCount p) n).counted 1 0x03 (d.timingLane p) n) (List.range 48)

/-- A port whose link is down is INITIALIZING and has no masters; a relock window holds its state (R160). -/
def Dev.roleDown (d : Dev) (p : Nat) : Dev :=
  let held := match d.plyOf p with
    | some (n, _) => (d.ply n).window
    | none => false
  if held || d.role p < 4 then d
  else ((d.wr (inst Obj.PtpPortState p) 1).setLink p fun k => { k with foreign := [] }).bmca

/-- What work item 2 does for one port. -/
def linkUpdatePort (p : Nat) (d : Dev) : Dev :=
  -- a transparent clock domain answers with the port's stamps while its engine is not ENABLED (R141)
  if !d.on .ptpEngine p then d.refineLink p
  else
    let steps := d.rdN (inst Obj.PathStepCount p)
    let d := d.when (1 ≤ d.linkState p) fun d => (d.detectWhorl p).updateRatio p
    let d := ((d.refineLink p).useExchanges p).linkTransitions p
    -- the Sync of a Turn that reveals a step leaves LinkOffset at the record before it (R167)
    let d := match (d.link p).raw.getLast? with
      | some x => d.when (d.rdN (inst Obj.PathStepCount p) == steps || d.linkState p == 4) fun d => d.record2 p x
      | none => d
    d.masterDelay p

/-! ## Messages received -/

/-- A PTP event message reaches a port, which stamps it (R124, R567). -/
def Dev.eventRx (d : Dev) (p : Nat) : Dev :=
  d.when (d.portReceives p) fun d => (d.counted 1 0x01 (d.timingLane p) 1).counted 1 0x04 p 1

/-- SYNC_RX: a Sync of the master the port follows, on a port in UNCALIBRATED or SLAVE (R129, R131). A Sync whose
Follow_Up has not come when the next one arrives is abandoned. -/
def syncRx (p seq : Nat) (twoStep : Bool) (origin corr : Int) (source : Nat) (st : RxStamp) (d : Dev) : Dev :=
  if !d.ptpHere p || !(d.role p == 8 || d.role p == 9) || !d.fromMaster p source then d
  else
    let lost := ((d.link p).syncs.filter fun x => x.complete.isNone).length
    let x : SyncX := { seq := seq, origin := if twoStep then 0 else origin, corr := corr, source := source,
                       t2 := d.stampNow p st, at_ := d.time.uptime,
                       complete := if twoStep then none else some d.turn.started }
    (d.add32 (inst Obj.LinkAbandonedCount p) lost).setLink p fun k =>
      { k with syncs := k.syncs.filter (fun x => x.complete.isSome) ++ [x] }

/-- FOLLOW_UP_RX: it completes the Sync of its sequenceId when it comes within one Sync interval (R131). -/
def followUpRx (p seq : Nat) (origin corr : Int) (source : Nat) (d : Dev) : Dev :=
  let interval := logIntervalNs (d.rd (inst Obj.LogSyncInterval p))
  let mine (x : SyncX) : Bool := x.complete.isNone && x.seq == seq && x.source == source
  let k := d.link p
  match k.syncs.find? mine with
  | none => d
  | some x =>
    if d.time.uptime ≤ x.at_ + interval then
      let fill (y : SyncX) : SyncX :=
        if mine y then { y with origin := origin, corrFup := corr, complete := some d.turn.started } else y
      d.setLink p fun k => { k with syncs := k.syncs.map fill }
    else
      (d.inc (inst Obj.LinkAbandonedCount p)).setLink p fun k => { k with syncs := k.syncs.filter (fun y => !mine y) }

/-- DELAY_REQ_RX: a MASTER port stamps the request for its response (R113). -/
def delayReqRx (p seq : Nat) (corr : Int) (requester : Nat) (st : RxStamp) (d : Dev) : Dev :=
  if d.ptpHere p && d.role p == 6 && d.rd (inst Obj.PtpDelayMechanism p) == 1 then
    d.setLink p fun k => { k with answers := k.answers ++
      [{ type := 1, seq := seq, requester := requester, corr := corr, domain := none, stamp := d.stampNow p st }] }
  else d

/-- DELAY_RESP_RX: the response to a request of this port (R129). -/
def delayRespRx (p seq : Nat) (t4 corr : Int) (d : Dev) : Dev :=
  d.setLink p fun k => { k with dreqs := k.dreqs.map fun x =>
    if x.seq == seq && x.complete.isNone then { x with resp := some (t4, corr), complete := some d.turn.started } else x }

/-- PDELAY_REQ_RX: the boundary clock's port under peer-to-peer delay answers it, or an ENABLED P2P transparent clock
domain (R114, R141). -/
def pdelayReqRx (p seq : Nat) (corr : Int) (requester : Nat) (domain : Option Nat) (st : RxStamp) (d : Dev) : Dev :=
  let ours := match domain with
    | none => d.ptpHere p && d.rd (inst Obj.PtpDelayMechanism p) == 2
    | some n => d.on .tcDomain n && d.rd (inst Obj.TcDomainType n) == 2
  if ours then
    d.setLink p fun k => { k with answers := k.answers ++
      [{ type := 2, seq := seq, requester := requester, corr := corr, domain := domain, stamp := d.stampNow p st }] }
  else d

/-- PDELAY_RESP_RX: the response to a request of this port; a one-step response completes the round trip (R129). -/
def pdelayRespRx (p seq : Nat) (twoStep : Bool) (t2 corr : Int) (st : RxStamp) (d : Dev) : Dev :=
  d.setLink p fun k => { k with pdelays := k.pdelays.map fun x =>
    if x.seq == seq && x.resp.isNone then
      { x with resp := some (t2, corr), t4 := some (d.stampNow p st),
               -- a one-step response carries the whole turnaround in its correction
               fup := (t2, 0), complete := if twoStep then none else some d.turn.started }
    else x }

/-- PDELAY_RESP_FOLLOW_UP_RX (R129). -/
def pdelayFollowUpRx (p seq : Nat) (t3 corr : Int) (d : Dev) : Dev :=
  d.setLink p fun k => { k with pdelays := k.pdelays.map fun x =>
    if x.seq == seq && x.resp.isSome && x.complete.isNone then
      { x with fup := (t3, corr), complete := some d.turn.started } else x }

/-- SIGNALING_RX with an L1_SYNC TLV (R115). -/
def signalingRx (p : Nat) (up : Bool) (d : Dev) : Dev :=
  d.when (d.ptpHere p) fun d => d.setLink p fun k => { k with peerL1 := some up }

/-- PTP_MANAGEMENT_RX: the message is not answered; it goes to the host port (R109). -/
def ptpManagementRx (p : Nat) (bytes : List Byte) (st : RxStamp) (d : Dev) : Dev :=
  if !d.on .ptpEngine p then d
  else
    let id := d.fwd.nextFrame
    let plan : CopyPlan := { out := 48, cls := d.copyClass p 0 none }
    let x : Decision := { parsed := some (d.parse p bytes), plans := [plan], whole := true }
    let f : Frame := { port := p, bytes := bytes, stamp := d.rxInst p st, turn := d.rdN Obj.TurnNumber, entered := true,
                       ended := true, decision := some x, replicated := true }
    (((d.newFrame f).makeCopy id f x plan d.now).1.finishFrame id)

/-! ## Messages sent (R111 to R115) -/

/-- Send a PTP message from a port. -/
def Dev.sendPtp (d : Dev) (p : Nat) (m : PtpMsg) : Dev := d.sendEngine p (.ptp m)

/-- The partner of member a of a ply link in a state, so that both send together (R156). -/
def Dev.partner (d : Dev) (p : Nat) (c : Nat → Bool) : Option Nat :=
  match d.plyOf p with
  | some (n, false) => if c n then some (d.members n).2 else none
  | _ => none

/-- Member b sends with member a, and not by itself. -/
def Dev.sendsWithA (d : Dev) (p : Nat) (c : Nat → Bool) : Bool :=
  match d.plyOf p with
  | some (n, true) => c n
  | _ => false

/-- SYNC_TX: a MASTER port sends its Sync, at most one per Turn; both members of a ply link send theirs together with one
sequenceId, and none is sent while it relocks (R111, R112, R156, R159). -/
def syncTx (p : Nat) (d : Dev) : Dev :=
  let relocking := match d.plyOf p with
    | some (n, _) => d.plyState n == 5
    | none => false
  let both (n : Nat) : Bool := d.plyState n == 3
  if !d.ptpHere p || !d.asCapable p || d.role p != 6 || relocking || d.sendsWithA p both || (d.link p).syncSent == d.turn.started + 1 then d
  else
    let seq := (d.link p).seqSync
    let one (q : Nat) (d : Dev) : Dev :=
      let two := d.rd (inst Obj.PtpStepMode q) == 0
      (d.sendPtp q { type := 0, seq := seq, twoStep := two }).setLink q fun k =>
        { k with seqSync := (seq + 1) % 65536, syncSent := d.turn.started + 1 }
    let d := one p d
    match d.partner p both with
    | some q => one q d
    | none => d

/-- DELAY_REQ_TX: a Delay_Req of a SLAVE or UNCALIBRATED port, or a Pdelay_Req under peer-to-peer delay; at most one per
Turn (R111, R156). -/
def delayReqTx (p : Nat) (d : Dev) : Dev :=
  let p2p := d.rd (inst Obj.PtpDelayMechanism p) == 2
  let slave := d.role p == 8 || d.role p == 9
  let both (n : Nat) : Bool := d.linkState (d.members n).1 != 0 && slave
  let sent := (d.link p).reqSent == d.turn.started + 1
  if !d.ptpHere p || !(slave || (p2p && decide (4 ≤ d.role p))) || d.sendsWithA p both || sent then d
  else
    let seq := (d.link p).seqReq
    let one (q : Nat) (d : Dev) : Dev :=
      (d.sendPtp q { type := if p2p then 2 else 1, seq := seq }).setLink q fun k =>
        { k with seqReq := (seq + 1) % 65536, reqSent := d.turn.started + 1 }
    let d := one p d
    match d.partner p both with
    | some q => one q d
    | none => d

/-- The part of a time below one nanosecond, which travels in correctionField (R112). -/
def subNs (t : Int) : Int := t % nsT

/-- Who answers a request still does: the port's engine, or the transparent clock domain (R15, R30, R141). -/
def Dev.answers (d : Dev) (p : Nat) (x : AnswerDue) : Bool :=
  match x.domain with
  | none => d.ptpHere p
  | some n => d.on .tcDomain n

/-- DELAY_RESP_TX: the oldest request whose stamp is refined is answered (R113). -/
def delayRespTx (p : Nat) (d : Dev) : Dev :=
  match (d.link p).answers.find? (fun x => x.type == 1 && x.stamp.ready && d.answers p x) with
  | none => d
  | some x =>
    let t4 := x.stamp.ref.getD 0
    (d.sendPtp p { type := 9, seq := x.seq, time := t4 - subNs t4, corr := x.corr - subNs t4, requester := x.requester })
      |>.setLink p fun k => { k with answers := k.answers.erase x }

/-- PDELAY_RESP_TX: once the stamp is refined; in one-step mode outside the 802.1AS family with the unrefined stamp
(R113, R114, R141). -/
def pdelayRespTx (p : Nat) (d : Dev) : Dev :=
  let oneStep := d.rd (inst Obj.PtpStepMode p) == 1
  let early := oneStep && !d.ptpAs p
  match (d.link p).answers.find? (fun x => x.type == 2 && (early || x.stamp.ready) && d.answers p x) with
  | none => d
  | some x =>
    let t2 := if early then x.stamp.tInst else x.stamp.ref.getD 0
    (d.sendPtp p { type := 3, seq := x.seq, corr := x.corr, requester := x.requester, t2 := t2, twoStep := !oneStep,
                   domain := x.domain })
      |>.setLink p fun k => { k with answers := k.answers.erase x }

/-- A PTP message as it leaves with its transmit stamp (R112, R114), with what the port keeps of it. -/
def Dev.ptpLeaves (d : Dev) (p : Nat) (m : PtpMsg) (stamp : Int) : Dev × PtpMsg :=
  let steps := d.rdN Obj.TimeStepCount
  let epoch := (d.whorl (d.timingLane p)).epoch
  match m.type with
  | 0 => (d, if m.twoStep then m else { m with time := stamp - subNs stamp, corr := subNs stamp })
  | 1 => (d.setLink p fun k => { k with dreqs := k.dreqs ++ [{ seq := m.seq, t3 := stamp, epoch := epoch, steps := steps }] }, m)
  | 2 => (d.setLink p fun k => { k with pdelays := k.pdelays ++ [{ seq := m.seq, t1 := stamp, epoch := epoch, steps := steps }] }, m)
  | 3 => (d, if m.twoStep then m else { m with corr := m.corr + (stamp - m.t2) })
  | _ => (d, m)

/-- The follow-up a two-step message calls for once it has left (R112, R114). -/
def Dev.ptpFollows (d : Dev) (p : Nat) (m : PtpMsg) (stamp : Int) : Dev :=
  if !m.twoStep then d
  else if m.type == 0 then d.sendPtp p { type := 8, seq := m.seq, time := stamp - subNs stamp, corr := subNs stamp }
  else if m.type == 3 then
    d.sendPtp p { type := 10, seq := m.seq, corr := m.corr + (stamp - m.t2), requester := m.requester, domain := m.domain }
  else d

/-- L1_SYNC_TX: under the High Accuracy profile, once per Announce interval and at every change of state (R115). -/
def l1SyncTx (p : Nat) (d : Dev) : Dev :=
  if d.ptpHere p && d.rd (inst Obj.PtpProfile p) == 0 then
    (d.sendEngine p (.l1Sync (d.link p).seqSig (decide (2 ≤ d.linkState p)))).setLink p fun k =>
      { k with seqSig := (k.seqSig + 1) % 65536 }
  else d

/-- SYNC_RECEIPT_LOSS: no valid Sync for 16 Sync intervals takes a TRACKING port back to RANGING; under host-assisted F0 the host
drives that (R133, R135). -/
def syncReceiptLoss (p : Nat) (d : Dev) : Dev :=
  d.when (d.linkState p == 3 && !d.rdB (inst Obj.ModeF0PtpEngine p)) fun d => d.toRanging p

/-! ## ESMC (R105 to R108) -/

/-- The code a received SSM counts as (R106). -/
def ssmCode (c : Nat) : Nat := if [0x2, 0x4, 0x8, 0xB, 0xF].contains c then c else 0xF

/-- The QL of the selected reference. -/
def Dev.selectedQl (d : Dev) : Int :=
  let k := d.rdN Obj.RefSelected
  if k ≤ 100 then d.rd (inst Obj.RefQl k) else 0xB

/-- The QL a port transmits (R107). -/
def Dev.txQl (d : Dev) (p : Nat) : Int :=
  let st := d.rd (inst Obj.SpindleState d.active)
  if d.rdN Obj.RefSelected == 52 + p then 0xF
  else if st == 1 || st == 2 then d.selectedQl
  else 0xB

/-- Keep EsmcTxQl of every port current (R107). -/
def Dev.refreshQl (d : Dev) : Dev :=
  d.forEach (fun p d => d.wr (inst Obj.EsmcTxQl p) (d.txQl p)) (List.range 48)

/-- ESMC_PDU_RX (R106). -/
def esmcPduRx (p ssm : Nat) (enhanced : Bool) (d : Dev) : Dev :=
  if d.rdB (inst Obj.EsmcEnable p) then
    let d := d.wr (inst Obj.EsmcRxQl p) (ssmCode (ssm % 16))
    d.when enhanced fun d => d.inc (inst Obj.EsmcIgnoredTlvCount p)
  else d

/-- An ESMC PDU of a port (R105, R107). -/
def esmcTx (event : Bool) (p : Nat) (d : Dev) : Dev :=
  if d.rdB (inst Obj.EsmcEnable p) then
    let d := d.wr (inst Obj.EsmcTxQl p) (d.txQl p)
    d.sendEngine p (.esmc event (d.rdN (inst Obj.EsmcTxQl p)))
  else d

/-- ESMC_RX_TIMEOUT (R108). -/
def esmcRxTimeout (p : Nat) (d : Dev) : Dev :=
  d.when (d.rdB (inst Obj.EsmcEnable p)) fun d => (d.wr (inst Obj.EsmcRxQl p) 0xFF).inc (inst Obj.EsmcTimeoutCount p)

/-! ## Host decisions (R120, R135, R168, R169) -/

/-- HOST_LINK_RECORD_CMD: the record as it stands at the command takes effect at the next boundary, where F0 is host-assisted and
the engine ENABLED (R30, R120). The object reads 1 after any write: the spec names no refusal (R11; log entry 48). -/
def hostLinkRecordCmd (p : Nat) (d : Dev) : Dev :=
  let d := d.wr (inst Obj.HostLinkRecordCmd p) 1
  d.when (d.on .ptpEngine p && d.rdB (inst Obj.ModeF0PtpEngine p)) fun d => d.setLink p fun k =>
    { k with hostRecord := some (d.rd (inst Obj.HostLinkOffset p), d.rd (inst Obj.HostLinkMeanPathDelay p)) }

/-- A host record takes effect at a boundary; the first one moves a port from RANGING to TRACKING (R120, R135). In IDLE and
SYNTONIZING, which the hardware drives, a port has no record (R133). -/
def applyHostRecord (p : Nat) (d : Dev) : Dev :=
  match (d.link p).hostRecord with
  | none => d
  | some (off, delay) =>
    let d := d.setLink p fun k => { k with hostRecord := none }
    if !d.on .ptpEngine p || d.linkState p < 2 then d
    else
      let a := ((d.whorl (d.timingLane p)).a1).getD 0
      let d := (d.wrs [(inst Obj.LinkOffset p, off), (inst Obj.LinkMeanPathDelay p, delay),
        (inst Obj.LinkPathDelayValid p, 1), (inst Obj.LinkRecordTurn p, d.rd Obj.TurnNumber)]).updateA p
      let d := d.setLink p fun k =>
        { k with recA := a, recAt := d.turn.started, recHolding := false, moved := 0, f0Misses := 0 }
      d.when (d.linkState p == 2) fun d => d.toTracking p

/-- A path step decision is written: it is awaited until the boundary, and refused unless the port is in BRIDGING with 16 round trips since the step (R168). -/
def pathDecision (v p : Nat) (d : Dev) : Dev :=
  let k := d.link p
  if d.linkState p == 4 && 16 ≤ k.sinceStep && (match k.stepAt with | some s => s.2 != d.turn.started | none => true) then
    (d.wr (inst Obj.PathStepDecisionCmd p) 1).setLink p fun k => { k with decision := some v }
  else d.wr (inst Obj.PathStepDecisionCmd p) 0x80

/-- PATH_STEP_AUTO_DECISION: the device decides by itself after the hold-off (R169). -/
def autoDecision (p : Nat) (d : Dev) : Dev :=
  let auto := d.rd (inst Obj.PathStepAutoDecision p)
  let k := d.link p
  let waited := match k.stepAt with
    | some s => decide (s.1 + d.rdN Obj.RefHoldOff * 1000000000 ≤ d.time.uptime)
    | none => true
  if (auto == 1 || auto == 2) && d.linkState p == 4 && k.decision.isNone && 16 ≤ k.sinceStep && waited then
    let d := d.when (auto == 2) fun d => d.wr (inst Obj.PathStepAsymmetry p) (d.rd (inst Obj.PathStepBridgeEstimate p))
    d.setLink p fun k => { k with decision := some auto.toNat }
  else d

/-- A decision takes effect at a boundary: A is that of R163, on the surviving member of a ply link in SPLIT too (R168; log
entry 50). -/
def applyDecision (p : Nat) (d : Dev) : Dev :=
  match (d.link p).decision with
  | none => d
  | some v =>
    let d := d.setLink p fun k => { k with decision := none, frozen := none }
    if d.linkState p != 4 then d
    else
      let d := d.when (v == 2) fun d => d.wr (inst Obj.FixedAsymmetry p) (d.rd (inst Obj.PathStepAsymmetry p))
      let d := d.wrs [(inst Obj.AsymmetrySource p, 3), (inst Obj.PathStepDecisionCmd p, 2)]
      (d.updateA p).toTracking p

/-- A step of an amount meets open path steps: the frozen offset moves with it (R171). -/
def stepMeetsBridging (amount : Int) (p : Nat) (d : Dev) : Dev :=
  if d.linkState p == 4 then
    (d.wr (inst Obj.LinkOffset p) (dur (d.rd (inst Obj.LinkOffset p) - amount))).setLink p fun k =>
      { k with frozen := k.frozen.map (· - amount) }
  else d

/-- What the fallback of F0 does to a port: it returns to RANGING (R31, R135). -/
def f0Fallback (p : Nat) (d : Dev) : Dev := d.when (d.linkState p == 3) fun d => d.toRanging p

/-! ## Meanings -/

/-- WHORL_READING_DELIVERY (R123). -/
def execWhorlReadingDelivery (rs : List (Nat × Int × Nat)) (s : State) : Host.Outcome State Fault Refusal :=
  s.effect (whorlReadings rs)

/-- SYNC_RX (R129). -/
def execSyncRx (p : Port) (seq : Nat) (twoStep : Bool) (origin corr : Int) (source : Nat) (st : RxStamp) (s : State) :
    Host.Outcome State Fault Refusal := s.effect fun d => syncRx p seq twoStep origin corr source st (d.eventRx p)

/-- FOLLOW_UP_RX (R131). -/
def execFollowUpRx (p : Port) (seq : Nat) (origin corr : Int) (source : Nat) (s : State) :
    Host.Outcome State Fault Refusal := s.effect (followUpRx p seq origin corr source)

/-- DELAY_REQ_RX (R113). -/
def execDelayReqRx (p : Port) (seq : Nat) (corr : Int) (requester : Nat) (st : RxStamp) (s : State) :
    Host.Outcome State Fault Refusal := s.effect fun d => delayReqRx p seq corr requester st (d.eventRx p)

/-- DELAY_RESP_RX (R129). -/
def execDelayRespRx (p : Port) (seq : Nat) (t4 corr : Int) (s : State) : Host.Outcome State Fault Refusal :=
  s.effect (delayRespRx p seq t4 corr)

/-- PDELAY_REQ_RX (R114, R141). -/
def execPdelayReqRx (p : Port) (seq : Nat) (corr : Int) (requester : Nat) (domain : Option (Fin 4)) (st : RxStamp)
    (s : State) : Host.Outcome State Fault Refusal :=
  s.effect fun d => pdelayReqRx p seq corr requester (domain.map (·.val)) st (d.eventRx p)

/-- PDELAY_RESP_RX (R129). -/
def execPdelayRespRx (p : Port) (seq : Nat) (twoStep : Bool) (t2 corr : Int) (st : RxStamp) (s : State) :
    Host.Outcome State Fault Refusal := s.effect fun d => pdelayRespRx p seq twoStep t2 corr st (d.eventRx p)

/-- PDELAY_RESP_FOLLOW_UP_RX (R129). -/
def execPdelayRespFollowUpRx (p : Port) (seq : Nat) (t3 corr : Int) (s : State) : Host.Outcome State Fault Refusal :=
  s.effect (pdelayFollowUpRx p seq t3 corr)

/-- SIGNALING_RX (R115). -/
def execSignalingRx (p : Port) (up : Bool) (s : State) : Host.Outcome State Fault Refusal := s.effect (signalingRx p up)

/-- PTP_MANAGEMENT_RX (R109). -/
def execPtpManagementRx (p : Port) (bytes : List Byte) (st : RxStamp) (s : State) : Host.Outcome State Fault Refusal :=
  s.effect (ptpManagementRx p bytes st)

/-- SYNC_TX (R111). -/
def execSyncTx (p : Port) (s : State) : Host.Outcome State Fault Refusal := s.effect (syncTx p)

/-- DELAY_REQ_TX (R111). -/
def execDelayReqTx (p : Port) (s : State) : Host.Outcome State Fault Refusal := s.effect (delayReqTx p)

/-- DELAY_RESP_TX (R113). -/
def execDelayRespTx (p : Port) (s : State) : Host.Outcome State Fault Refusal := s.effect (delayRespTx p)

/-- PDELAY_RESP_TX (R114). -/
def execPdelayRespTx (p : Port) (s : State) : Host.Outcome State Fault Refusal := s.effect (pdelayRespTx p)

/-- L1_SYNC_TX (R115). -/
def execL1SyncTx (p : Port) (s : State) : Host.Outcome State Fault Refusal := s.effect (l1SyncTx p)

/-- SYNC_RECEIPT_LOSS (R133). -/
def execSyncReceiptLoss (p : Port) (s : State) : Host.Outcome State Fault Refusal := s.effect (syncReceiptLoss p)

/-- ESMC_PDU_RX (R106). -/
def execEsmcPduRx (p : Port) (ssm : Nat) (enhanced : Bool) (s : State) : Host.Outcome State Fault Refusal :=
  s.effect (esmcPduRx p ssm enhanced)

/-- ESMC_INFORMATION_TX (R105). -/
def execEsmcInformationTx (p : Port) (s : State) : Host.Outcome State Fault Refusal := s.effect (esmcTx false p)

/-- ESMC_EVENT_TX (R105). -/
def execEsmcEventTx (p : Port) (s : State) : Host.Outcome State Fault Refusal := s.effect (esmcTx true p)

/-- ESMC_RX_TIMEOUT (R108). -/
def execEsmcRxTimeout (p : Port) (s : State) : Host.Outcome State Fault Refusal := s.effect (esmcRxTimeout p)

/-- HOST_LINK_RECORD_CMD (R120). -/
def execHostLinkRecordCmd (p : Port) (s : State) : Host.Outcome State Fault Refusal := s.effect (hostLinkRecordCmd p)

/-- PATH_STEP_DECISION_SPLIT (R168). -/
def execPathStepDecisionSplit (p : Port) (s : State) : Host.Outcome State Fault Refusal := s.effect (pathDecision 1 p)

/-- PATH_STEP_DECISION_REPLACE (R168). -/
def execPathStepDecisionReplace (p : Port) (s : State) : Host.Outcome State Fault Refusal := s.effect (pathDecision 2 p)

/-- PATH_STEP_AUTO_DECISION (R169). -/
def execPathStepAutoDecision (p : Port) (s : State) : Host.Outcome State Fault Refusal := s.effect (autoDecision p)

end Sys2Proof.Machine
end

