-- ==== Sys2Proof/Machine/Ply.lean ====
section
/-! DEFINITION. Ply links (R150 to R162), and work item 2 as a whole (R132). -/

namespace Sys2Proof.Machine

/-- A ply alarm begins: EV30, its cause and its count (R161). -/
def Dev.plyAlarm (d : Dev) (n : Nat) (cause : Nat) : Dev :=
  ((d.wr (inst Obj.PlyAlarmCause n) cause).inc (inst Obj.PlyAlarmCount n)).raise 30

/-- An alarm with a condition: raised when the condition begins to hold (R161). -/
def Dev.plyCondition (d : Dev) (n cause : Nat) (holds : Bool) : Dev :=
  let was := bit (d.ply n).alarms cause
  let d := d.setPly n fun y => { y with alarms := setBit y.alarms cause holds }
  d.when (holds && !was) fun d => d.plyAlarm n cause

/-- The wavelength coefficient of a ply link: 0 in the mirrored plan (R154, R157). -/
def Dev.plyCoeff (d : Dev) (n : Nat) : Int :=
  if d.rd (inst Obj.PlyWavelengthPlan n) == 1 then d.rd (inst Obj.PlyWavelengthCoeff n) else 0

/-- A phase difference scaled by (1 + c/2) (R157). -/
def scaleC (c v : Int) : Int := quot Config.roundsUp (v * (2000000000 + c)) 2000000000

/-- PlyState changes; where the ply link gives its members no asymmetry, they have that of R163. -/
def Dev.plyTo (d : Dev) (n : Nat) (st : Int) : Dev :=
  let d := d.wr (inst Obj.PlyState n) st
  (d.updateA (d.members n).1).updateA (d.members n).2

/-- The relock window starts, and the list of K values is cleared (R160). -/
def Dev.plyWindow (d : Dev) (n : Nat) (st : Int) : Dev :=
  (d.setPly n fun y => { y with ks := [], psi := none, formed := false, window := true, relock := true }).plyTo n st

/-- A ply link starts afresh in INCOMPLETE (R159); the roles that a relock window held are decided anew (R160). -/
def Dev.plyIncomplete (d : Dev) (n : Nat) : Dev :=
  let d := (d.setPly n fun _ => {}).plyTo n 0
  let down (p : Nat) (d : Dev) : Dev := d.when (!d.rdB (inst Obj.PortLinkUp p)) fun d => d.roleDown p
  (down (d.members n).2 (down (d.members n).1 d)).bmca

/-- The transitions of R159 that follow from the members' states, apart from solutions. -/
def Dev.plyTransitions (d : Dev) (n : Nat) : Dev :=
  if !d.on .ply n then d
  else
    let (a, b) := d.members n
    let (sa, sb) := (d.linkState a, d.linkState b)
    let masters := d.role a == 6 && d.role b == 6
    let ranged (s : Int) : Bool := s == 2 || s == 3
    let slaves := d.role a == 9 && d.role b == 9 && ranged sa && ranged sb
    let solving (d : Dev) : Dev := (d.setPly n fun y => { y with ks := [], psi := none, formed := false, peers := none }).plyTo n 1
    match d.plyState n with
    | 0 => if slaves then solving d else if masters then d.plyTo n 3 else d
    | 1 => if masters then d.plyTo n 3 else if sa == 0 || sb == 0 then d.plyIncomplete n else d
    | 2 =>
      if masters then d.plyTo n 3
      else if sa == 0 && sb == 0 then d.plyWindow n 5
      else if (sa == 0 && ranged sb) || (sb == 0 && ranged sa) then
        let up := if sa == 0 then b else a
        (((d.setPly n fun y => { y with survivor := some up }).plyWindow n 4).wr (inst Obj.AsymmetrySource up) 2).plyAlarm n 4
      else d
    | 3 => if sa == 0 || sb == 0 then d.plyWindow n 5 else if slaves then solving d else d
    | 4 => if ((d.ply n).survivor.map fun p => d.linkState p == 0).getD true then d.plyWindow n 5 else d
    | _ => d

/-- A ply link becomes ENABLED: its members are one port from now on, and member b has no masters of its own (R155, R159). -/
def Dev.plyStarts (d : Dev) (n : Nat) : Dev :=
  ((d.setLink (d.members n).2 fun k => { k with foreign := [] }).plyIncomplete n).plyTransitions n

/-- The ply link of a port follows a change of the port's state. -/
def Dev.plyFollows (d : Dev) (p : Nat) : Dev :=
  match d.plyOf p with
  | some (n, _) => d.plyTransitions n
  | none => d

/-- The difference of the two whorl phases for the Turn before, unwrapped (R157). -/
def Dev.plyPsi (d : Dev) (n : Nat) : Option Int :=
  let (la, lb) := (d.timingLane (d.members n).1, d.timingLane (d.members n).2)
  if d.whorlFresh la && d.whorlFresh lb then
    let v := d.rd (inst Obj.WhorlPhase la) - d.rd (inst Obj.WhorlPhase lb)
    let y := d.ply n
    match y.psi with
    | some before => if y.epochs == ((d.whorl la).epoch, (d.whorl lb).epoch) then some (wrapNear v before) else some v
    | none => some v
  else none

/-- The Sync pairs of the Turn before: two valid Syncs with one sequenceId whose stamps fall in that Turn (R156, R157). -/
def Dev.syncPairs (d : Dev) (n : Nat) : List (RawSync × RawSync) :=
  let (a, b) := d.members n
  let fresh (x : RawSync) : Bool := x.turn + 1 == d.turn.started
  ((d.link a).raw.filter fresh).filterMap fun x =>
    ((d.link b).raw.find? fun y => fresh y && y.seq == x.seq).map fun y => (x, y)

/-- Write the solution with delta, once K is known; theta is formed while both members have completed RANGING (R157). -/
def Dev.plyWrite (d : Dev) (n : Nat) (delta : Int) : Dev :=
  let (a, b) := d.members n
  let c := d.plyCoeff n
  let da := d.rd (inst Obj.LinkMeanPathDelay a)
  let db := d.rd (inst Obj.LinkMeanPathDelay b)
  let s := quot Config.roundsUp (c * (da + db)) 4000000000
  let aA := quot Config.roundsUp delta 2 - s
  let aB := quot Config.roundsUp (-delta) 2 - s
  let mismatch := dur ((da - db) * 2)
  let d := d.wrs [(inst Obj.PlyAsymmetryDelta n, dur delta), (inst Obj.PlyFibreDelay1 n, dur (da + aA)),
    (inst Obj.PlyFibreDelay2 n, dur (db + aB)), (inst Obj.PlyRoundTripMismatch n, mismatch),
    (inst Obj.PlySolutionTurn n, d.rd Obj.TurnNumber)]
  let d := match (d.link a).raw.getLast?, (d.link b).raw.getLast?, d.linkState a == 3 && d.linkState b == 3 with
    | some x, some y, true =>
      (d.wr (inst Obj.PlyOffset n) (dur (quot Config.roundsUp ((x.off + aA) + (y.off + aB)) 2))).setPly n fun y =>
        { y with formed := true }
    | _, _, _ => d
  let d := d.plyCondition n 1 (decide (d.rd (inst Obj.PlyAsymmetryLimit n) < delta.natAbs))
  let beyond := decide (d.rd (inst Obj.PlyMismatchLimit n) < (mismatch.natAbs : Int))
  let d := d.plyCondition n 2 beyond
  let jumped := match (d.ply n).last with
    | some l => decide (d.rd (inst Obj.PlyStepReportThreshold n) < (delta - l).natAbs)
    | none => false
  let d := d.when jumped fun d => d.plyAlarm n 3
  d.setPly n fun y =>
    let run := if beyond then 0 else y.goodRun + 1
    { y with last := some delta, goodRun := run, withdrawn := beyond || (y.withdrawn && decide (run < 16)) }

/-- Put a solution of a SOLVED link in force (R158). -/
def Dev.plyInForce (d : Dev) (n : Nat) : Dev :=
  let (a, b) := d.members n
  let aA := d.rd (inst Obj.PlyFibreDelay1 n) - d.rd (inst Obj.LinkMeanPathDelay a)
  let aB := d.rd (inst Obj.PlyFibreDelay2 n) - d.rd (inst Obj.LinkMeanPathDelay b)
  d.wrs [(inst Obj.AsymmetryInForce a, dur aA), (inst Obj.AsymmetryInForce b, dur aB), (inst Obj.AsymmetrySource a, 1),
    (inst Obj.AsymmetrySource b, 1)]

/-- The relock Sync pair has been solved: the link is SOLVED, and the member that stayed up through SPLIT ranges again, with no path
step open (R160). -/
def Dev.plyRelocked (d : Dev) (n : Nat) : Dev :=
  let alone := if d.plyState n == 4 then (d.ply n).survivor else none
  let d := (d.setPly n fun y => { y with window := false, relock := false, survivor := none, goodRun := 0 }).plyTo n 2
  match alone with
  | none => d
  | some p =>
    if d.linkState p < 2 then d
    else
      let d := d.when (d.linkState p == 4) fun d => d.wr (inst Obj.PathStepDecisionCmd p) 0
      (d.toRanging p).setLink p fun k => { k with rts := [], frozen := none, decision := none }

/-- The Sync pairs of a Turn extend the list of K values (R157). The text has delta independent of the path delays, so the offsets
are taken without them (log entry 50). -/
def Dev.plyPairs (d : Dev) (n : Nat) (psi : Int) (pairs : List (RawSync × RawSync)) : Dev :=
  let (a, b) := d.members n
  let epochs := ((d.whorl (d.timingLane a)).epoch, (d.whorl (d.timingLane b)).epoch)
  let ks := pairs.map fun x => (x.2.bare - x.1.bare) - scaleC (d.plyCoeff n) psi
  (d.add32 (inst Obj.PlyPairCount n) pairs.length).setPly n fun y =>
    { y with psi := some psi, ks := lastN 16 ((if y.epochs == epochs then y.ks else []) ++ ks), epochs := epochs,
             peers := match pairs.getLast? with | some x => some (x.1.source, x.2.source) | none => y.peers }

/-- The ply solution of a Turn at the slave end (R157 to R160). A Sync pair from another peer than the one held makes the link
INCOMPLETE, with alarm 6 when it is the relock Sync pair (R159 to R161). -/
def Dev.plySolve (d : Dev) (n : Nat) : Dev :=
  let (a, b) := d.members n
  let st := d.plyState n
  let awaits := (st == 4 || st == 5) && (d.ply n).relock && d.laneLocked a && d.laneLocked b && d.role a != 6
  if !(decide (st = 1) || decide (st = 2) || awaits) then d
  else
    let pairs := d.syncPairs n
    let other := match (d.ply n).peers with
      | some ps => pairs.any fun x => (x.1.source, x.2.source) != ps
      | none => false
    if other then (d.when awaits fun d => d.plyAlarm n 6).plyIncomplete n
    else
      match d.plyPsi n with
      | none => d
      | some psi =>
        let d := d.plyPairs n psi pairs
        let ks := (d.ply n).ks
        if ks.isEmpty then d
        else
          let d := d.when (awaits && !pairs.isEmpty) fun d => d.plyRelocked n
          let c := d.plyCoeff n
          let d := d.plyWrite n (quot Config.roundsUp (medianTwice ks + 2 * scaleC c psi) 2)
          let within := ks.length == 16 && ks.all fun k => decide ((2 * k - medianTwice ks).natAbs * 50 ≤ 131072)
          let now : Int := d.plyState n
          if now = 1 ∧ within then (d.plyTo n 2).plyInForce n
          else d.when (decide (now = 2)) fun d => d.plyInForce n

/-- Work item 2: every port, then every ply link (R132, R157, R159). -/
def linkTimingUpdate (d : Dev) : Dev :=
  d.workItem 2 fun d =>
    let d := d.refineHost.forEach linkUpdatePort (List.range 48)
    d.forEach (fun n d => if d.on .ply n then (d.plyTransitions n).plySolve n else d) (List.range 24)

/-- PLY_RELOCK_WINDOW_EXPIRY: the link enters INCOMPLETE with alarm 6 (R159, R161). -/
def plyWindowExpiry (n : Nat) (d : Dev) : Dev :=
  if (d.ply n).window && (d.plyState n == 4 || d.plyState n == 5) then (d.plyAlarm n 6).plyIncomplete n else d

/-- RELOCK_SYNC_PAIR_TX: at the master end, in the Turn in which both member ports are up again, a Sync pair outside the
schedule; the link returns to SERVING (R160). -/
def relockSyncPair (n : Nat) (d : Dev) : Dev :=
  let (a, b) := d.members n
  let up (p : Nat) : Bool := d.rdB (inst Obj.PortLinkUp p)
  if d.on .ply n && d.plyState n == 5 && d.role a == 6 && d.role b == 6 && up a && up b then
    let seq := (d.link a).seqSync
    let one (q : Nat) (d : Dev) : Dev :=
      (d.sendPtp q { type := 0, seq := seq, twoStep := d.rd (inst Obj.PtpStepMode q) == 0 }).setLink q fun k =>
        { k with seqSync := (seq + 1) % 65536, syncSent := d.turn.started + 1 }
    let d := one b (one a d)
    (d.setPly n fun y => { y with window := false, relock := false }).plyTo n 3
  else d

/-- PLY_SYNC_PAIR_TIMEOUT: no pair for 64 Sync intervals in SOLVING or SOLVED (R161). -/
def plyPairTimeout (n : Nat) (d : Dev) : Dev := d.when (d.plyState n == 1 || d.plyState n == 2) fun d => d.plyAlarm n 5

/-- LINK_TIMING_UPDATE (R132). -/
def execLinkTimingUpdate (s : State) : Host.Outcome State Fault Refusal := s.effect linkTimingUpdate

/-- PLY_RELOCK_WINDOW_EXPIRY (R160). -/
def execPlyRelockWindowExpiry (n : Fin 24) (s : State) : Host.Outcome State Fault Refusal := s.effect (plyWindowExpiry n)

/-- RELOCK_SYNC_PAIR_TX (R160). -/
def execRelockSyncPairTx (n : Fin 24) (s : State) : Host.Outcome State Fault Refusal := s.effect (relockSyncPair n)

/-- PLY_SYNC_PAIR_TIMEOUT (R161). -/
def execPlySyncPairTimeout (n : Fin 24) (s : State) : Host.Outcome State Fault Refusal := s.effect (plyPairTimeout n)

end Sys2Proof.Machine
end

