-- ==== Sys2Proof/Machine/Candidates.lean ====
section
/-! DEFINITION. Reference candidates: their inputs, their phase errors and their qualification (R177 to R192). Times and
phases are in 2^-16 ns. -/

namespace Sys2Proof.Machine

/-- Candidate `k`. -/
def Dev.cand (d : Dev) (k : Nat) : CandSt := Sparse.get (fun _ => {}) d.ref.cands k

/-- Change candidate `k`. -/
def Dev.setCand (d : Dev) (k : Nat) (f : CandSt → CandSt) : Dev :=
  { d with ref := { d.ref with cands := Sparse.set (fun _ => {}) d.ref.cands k (f (d.cand k)) } }

/-- Reference input `n`. -/
def Dev.refIn (d : Dev) (n : Nat) : RefInSt := Sparse.get (fun _ => {}) d.ref.ins n

/-- Change reference input `n`. -/
def Dev.setRefIn (d : Dev) (n : Nat) (f : RefInSt → RefInSt) : Dev :=
  { d with ref := { d.ref with ins := Sparse.set (fun _ => {}) d.ref.ins n (f (d.refIn n)) } }

/-- RefQualState of a candidate: 0 ABSENT, 1 QUALIFYING, 2 QUALIFIED, 3 DISQUALIFIED (R188). -/
def Dev.qual (d : Dev) (k : Nat) : Int := d.rd (inst Obj.RefQualState k)

/-- RefInMode of an input (R178). -/
def Dev.refMode (d : Dev) (n : Nat) : Int := d.rd (inst Obj.RefInMode n)

/-- The kind of a candidate: 1 time, 2 frequency, 0 none (R177). A label takes its effect at a boundary (R180). -/
def Dev.candKind (d : Dev) (k : Nat) : Int :=
  if k < 4 then d.rd (inst Obj.RefCandidateKind k) else if k < 52 then 1 else if k < 100 then 2 else 1

/-! ## Reference inputs (R178 to R181) -/

/-- The comparison period of an input, as a fraction in 2^-16 ns: mode 0 divides its frequency to 1 MHz or below; a 1PPS
has one of 1 s; the 10 MHz of a pair has one of 1 us (R179). -/
def Dev.comparison (d : Dev) (n : Nat) : Int × Nat :=
  if n % 2 == 1 && d.refMode (n - 1) == 2 && d.on .refIn (n - 1) then (1000 * nsT, 1)
  else if d.refMode n == 0 then
    let f := max (d.rdN (inst Obj.RefInFrequency n)) 1
    (((f + 999999) / 1000000 : Nat) * 1000000000 * nsT, f)
  else (secT, 1)

/-- A phase difference, in units of a denominator, brought to within half a period. -/
def wrapTo (v period : Int) : Int := v - period * nearest v period.toNat

/-- Collect a compared edge: the phases of a Turn's edges are averaged around the first one. -/
def RefInSt.addEdge (g : RefInSt) (stamp : Int) (c : Int × Nat) : RefInSt :=
  if g.edges = 0 then { g with edges := 1, first := stamp, phases := 0, newest := stamp, present := true }
  else { g with edges := g.edges + 1, phases := g.phases + wrapTo ((stamp - g.first) * c.2) c.1, newest := stamp,
                present := true }

/-- The mean phase of the edges of the last Turn that held one, in 2^-16 ns. -/
def RefInSt.mean (g : RefInSt) (c : Int × Nat) : Int :=
  g.turnFirst + quot Config.roundsUp g.turnPhases (max g.turnEdges 1 * c.2)

/-- At the end of a Turn the edges it held are those to measure by (R184). -/
def edgesAtBoundary (n : Nat) (d : Dev) : Dev :=
  d.setRefIn n fun g =>
    if g.edges = 0 then g
    else { g with turnEdges := g.edges, turnFirst := g.first, turnPhases := g.phases, fresh := true, edges := 0, phases := 0 }

/-- The phase of the 10 MHz input of a pair (R178). -/
def Dev.pairPhase (d : Dev) (n : Nat) : Int := if n + 1 < 4 then (d.refIn (n + 1)).mean (d.comparison (n + 1)) else 0

/-- The pulse of a pair goes with the 10 MHz phase of its own Turn, once that has ended (R184). -/
def pairAtBoundary (n : Nat) (d : Dev) : Dev :=
  d.when (d.refIn n).pairDue fun d =>
    let phase := d.pairPhase n
    d.setRefIn n fun g => { g with pair0 := phase, pairDue := false }

/-- The label of the newest pulse minus its stamp, under a label offset (R180, R184). -/
def RefInSt.labelled (g : RefInSt) (label : Option Int) : Option Int :=
  match label, g.pulses.getLast? with
  | some k, some (_, stamp) => some ((nearest stamp secT.toNat + k) * secT - stamp)
  | _, _ => none

/-- A 1PPS pulse: counted, stamped, kept among the last 16, and labelled (R180). -/
def Dev.pulse (d : Dev) (n : Nat) (stamp : Int) : Dev :=
  let d := (d.inc (inst Obj.RefInPulseSeq n)).wr (inst Obj.RefInLastPulseStamp n) stamp
  let seq := d.rdN (inst Obj.RefInPulseSeq n)
  let phase := d.pairPhase n
  let d := d.setRefIn n fun g =>
    { g with pulses := lastN 16 (g.pulses ++ [(seq, stamp)]), pair0 := phase, pairDue := true, pulsed := true,
             calPulses := g.calPulses.map (· ++ [stamp]) }
  d.setRefIn n fun g => { g with pps := g.labelled g.known }

/-! ## Qualification states (R188, R191) -/

/-- An event of a REFIN candidate with its cause (R191). -/
def Dev.refInEvent (d : Dev) (k : Nat) (cause : Int) : Dev := (d.wr (inst Obj.RefInEventCause k) cause).raise (20 + k)

/-- A candidate changes its qualification state: counted, and reported by EV20 to EV23 for REFIN candidates, by EV27 for
others when they are the selected reference (R191). -/
def Dev.setQual (d : Dev) (k : Nat) (st : Int) : Dev :=
  if d.qual k == st then d
  else
    let d := (d.wr (inst Obj.RefQualState k) st).inc (inst Obj.RefQualChangeCount k)
    if k < 4 then d.refInEvent k 1
    else d.when (d.rdN Obj.RefSelected == k) fun d => d.raise 27

/-- A candidate enters QUALIFYING: its line restarts (R186), and nothing disqualifies it. Its frequency monitor starts with its
presence (R187). -/
def Dev.startQualifying (d : Dev) (k : Nat) : Dev :=
  let absent := d.qual k == 0
  (d.setQual k 1).setCand k fun c =>
    { c with count := 0, line := [], causes := 0, mon := if absent then [] else c.mon,
             softSecs := if absent then 0 else c.softSecs, hardSecs := if absent then 0 else c.hardSecs }

/-- A candidate is set aside with a cause; one that has been is not disqualified again, but returns only when what has arisen since
has cleared too (R188, R189; log entry 52). A jump and a path step start the hold-off anew. Cause 5, the fallback of F0 (R31), has no
code: RefDisqualCause reads 0. -/
def Dev.disqualify (d : Dev) (k cause : Nat) : Dev :=
  let d := if d.qual k == 3 then d else (d.setQual k 3).wr (inst Obj.RefDisqualCause k) (if cause = 5 then 0 else cause)
  d.setCand k fun c =>
    { c with causes := setBit c.causes cause true, heldOff := c.heldOff && cause != 1 && cause != 3 }

/-- A cause has cleared: with the last one the candidate qualifies again (R189). -/
def Dev.clearCause (d : Dev) (k cause : Nat) : Dev :=
  let d := d.setCand k fun c => { c with causes := setBit c.causes cause false }
  d.when (d.qual k == 3 && (d.cand k).causes == 0) (·.startQualifying k)

/-- A port offers its link time (R103, R116, R158, R161). -/
def Dev.offersTime (d : Dev) (p : Nat) : Bool :=
  d.on .ptpEngine p && d.linkState p == 3 && d.role p == 9 &&
    (match d.plyOf p with
     | some (n, isB) => (d.plyState n == 2 && !isB && (d.ply n).formed && !(d.ply n).withdrawn) || d.plyState n == 4
     | none => true)

/-- A candidate is present (R185). -/
def Dev.present (d : Dev) (k : Nat) : Bool :=
  if k < 4 then
    let shadowed := k % 2 == 1 && d.refMode (k - 1) == 2 && d.on .refIn (k - 1)
    d.on .refIn k && !shadowed && (d.refIn k).present && (d.refMode k != 2 || (d.refIn (k + 1)).present)
  else if k < 52 then d.offersTime (k - 4)
  else if k < 100 then
    let p := k - 52
    d.on .ptpEngine p && decide (2 ≤ d.linkState p) &&
      (!d.rdB (inst Obj.EsmcEnable p) || d.rd (inst Obj.EsmcRxQl p) != 0xFF)
  else match d.ref.host with
    | some (_, at_) => decide (d.turn.started ≤ at_ + d.rdN Obj.HostRefInterval)
    | none => false

/-- The QL of a candidate (R107, R182, R207). -/
def Dev.candQl (d : Dev) (k : Nat) : Int :=
  if k < 4 then d.rd (inst Obj.RefInQl k)
  else if k < 100 then
    let p := if k < 52 then k - 4 else k - 52
    if d.rdB (inst Obj.EsmcEnable p) then d.rd (inst Obj.EsmcRxQl p) else d.rd (inst Obj.EsmcAssumedQl p)
  else d.rd Obj.HostRefQl

/-- A candidate becomes ABSENT (R185, R188). -/
def Dev.absent (d : Dev) (k : Nat) : Dev := (d.setQual k 0).setCand k fun c => { c with causes := 0 }

/-- The link time of a port in BRIDGING is DISQUALIFIED, from its first path step on (R167, R171, R188). -/
def Dev.bridged (d : Dev) (k : Nat) : Dev :=
  let stepAt := (d.link (k - 4)).stepAt
  if d.qual k == 3 && bit (d.cand k).causes 3 && (d.cand k).step == stepAt then d
  else (d.disqualify k 3).setCand k fun c => { c with step := stepAt }

/-- Presence, the path step cause and the fallback of F0, as they stand (R31, R185, R188, R189), and the QL of the candidate
(R107). -/
def refreshCand (k : Nat) (d : Dev) : Dev :=
  let changed := d.rd (inst Obj.RefQl k) != d.candQl k
  let d := d.wr (inst Obj.RefQl k) (d.candQl k)
  let d := d.when (changed && d.rdN Obj.RefSelected == k) (·.refreshQl)
  let port := decide (4 ≤ k) && decide (k < 52)
  let silent := port && d.rdB (inst Obj.ModeF0PtpEngine (k - 4)) && decide (0 < (d.link (k - 4)).f0Misses)
  if port && d.linkState (k - 4) == 4 then d.bridged k
  else if silent then d.when (d.qual k != 0) (·.disqualify k 5)
  else if !d.present k then d.absent k
  else if d.qual k == 0 then d.startQualifying k
  else if d.qual k != 3 then d
  else
    let d := d.when (bit (d.cand k).causes 5) (·.clearCause k 5)
    let tracks := port && d.linkState (k - 4) == 3
    d.when (bit (d.cand k).causes 3 && (d.cand k).heldOff && tracks) (·.clearCause k 3)

/-! ## Phase errors and the phase-jump detector (R184, R186) -/

/-- The phase a frequency candidate is measured by, and for time candidates the phase error itself (R184). -/
def Dev.rawPhase (d : Dev) (k : Nat) : Int :=
  if k < 4 then
    let g := d.refIn k
    if d.refMode k == 2 then
      if d.candKind k == 1 then g.pps.getD 0 - wrapTo (d.pairPhase k - g.pair0) (1000 * nsT) else d.pairPhase k
    else if d.candKind k == 1 then g.pps.getD 0
    else g.mean (d.comparison k)
  else if k < 52 then
    let p := k - 4
    let off := match d.plyOf p with
      | some (n, false) => if d.plyState n == 2 then d.rd (inst Obj.PlyOffset n) else d.rd (inst Obj.LinkOffset p)
      | _ => d.rd (inst Obj.LinkOffset p)
    let off := off - (d.link p).moved
    let lane := d.timingLane p
    if d.on .whorl lane then off - (((d.whorl lane).a1).getD (d.link p).recA - (d.link p).recA) else off
  else if k < 100 then ((d.whorl (d.timingLane (k - 52))).a1).getD 0
  else match d.ref.host with
    | some (theta, _) => theta
    | none => 0

/-- The phase error of a candidate (R184, R201). -/
def Dev.theta (d : Dev) (k : Nat) : Int :=
  let v := d.rawPhase k
  if d.candKind k == 1 then dur v
  else if k < 4 then
    let c := if d.refMode k == 2 then (1000 * nsT, 1) else d.comparison k
    quot Config.roundsUp (-(wrapTo ((v - (d.cand k).zero) * c.2) c.1)) c.2
  else dur (-(v - (d.cand k).zero))

/-- What a candidate's line and frequency monitor hold moves by an amount (R180, R186, R201). -/
def CandSt.shift (c : CandSt) (by_ : Int) : CandSt :=
  { c with line := c.line.map (fun e => (e.1, e.2 + by_)), mon := c.mon.map fun e => (e.1, e.2 + by_) }

/-- The present phase of a frequency candidate becomes its zero (R184, R201); its line moves with its phase error, so that
the change is no jump. -/
def Dev.setZero (d : Dev) (k : Nat) : Dev :=
  if d.candKind k != 2 then d
  else
    let shift := d.theta k
    let zero := d.rawPhase k
    d.setCand k fun c => { c.shift (-shift) with zero := zero }

/-- A candidate has a new measurement, not yet taken (R184). A link record made while the steered synth was not locked is
none (R131, R198). -/
def Dev.hasNew (d : Dev) (k : Nat) : Bool :=
  let c := d.cand k
  if k < 4 then
    let time := d.candKind k == 1
    if d.refMode k == 2 then (d.refIn (k + 1)).fresh && (!time || (d.refIn k).pps.isSome)
    else if time then (d.refIn k).pulsed && (d.refIn k).pps.isSome
    else (d.refIn k).fresh
  else if k < 52 then
    let p := k - 4
    let lane := d.timingLane p
    decide (0 < (d.link p).recAt) && !(d.link p).recHolding &&
      (decide (c.takenRec < (d.link p).recAt) || (d.whorlFresh lane && decide (c.takenGot < (d.whorl lane).got)))
  else if k < 100 then
    let lane := d.timingLane (k - 52)
    d.whorlFresh lane && decide (c.takenGot < (d.whorl lane).got)
  else match d.ref.host with
    | some (_, at_) => decide (c.takenRec < at_ + 1)
    | none => false

/-- Whether a point departs by more than a threshold from the least-squares line through others (R186). The line is
compared exactly: both sides are multiplied by the determinant. -/
def departs (line : List (Nat × Int)) (x : Nat) (v threshold : Int) : Bool :=
  match line with
  | [] => false
  | (x0, _) :: _ =>
    let n : Int := line.length
    let xs := line.map fun e => (e.1 : Int) - x0
    let sx := xs.sum
    let sy := (line.map (·.2)).sum
    let sxx := (xs.map fun a => a * a).sum
    let sxy := (line.map fun e => ((e.1 : Int) - x0) * e.2).sum
    let det := n * sxx - sx * sx
    decide (0 < det) &&
      decide (threshold * det < (v * det - (sy * sxx - sx * sxy + ((x : Int) - x0) * (n * sxy - sx * sy))).natAbs)

/-- A measurement expressed against the Plinth (R186). -/
def Dev.onPlinth (d : Dev) (theta : Int) : Int := theta + d.ref.ncoPhase / 2 ^ 32

/-- Take a new measurement of a present candidate, through the phase-jump detector (R184, R186). -/
def takeMeasurement (k : Nat) (d : Dev) : Dev :=
  if d.qual k == 0 || !d.hasNew k then d
  else
    let theta := d.theta k
    let v := d.onPlinth theta
    let now := d.time.uptime
    let c := d.cand k
    let jump := c.line.length == 16 && departs c.line now v (d.rd (inst Obj.RefPhaseJumpThreshold k))
    let rec_ := if 4 ≤ k && k < 52 then (d.link (k - 4)).recAt else if k = 100 then d.turn.started + 1 else 0
    let got := if 4 ≤ k && k < 100 then (d.whorl (d.timingLane (if k < 52 then k - 4 else k - 52))).got else 0
    let pulse := decide (k < 4) && (d.refIn k).pulsed
    let window := d.rdN Obj.RefFreqMonitorWindow * 1000000000
    let d := (d.wr (inst Obj.RefPhaseError k) theta).setCand k fun c =>
      { c with takenRec := rec_, takenGot := got, measured := d.turn.started, jumped := jump, byPulse := pulse,
               count := c.count + 1, line := if jump then [(now, v)] else lastN 16 (c.line ++ [(now, v)]),
               mon := (c.mon ++ [(now, v)]).filter fun e => decide (now ≤ e.1 + window) }
    let d := if k < 4 then
        let d := d.setRefIn k fun g => { g with fresh := false, pulsed := false }
        if d.refMode k == 2 then d.setRefIn (k + 1) fun g => { g with fresh := false } else d
      else d
    if jump then ((d.inc (inst Obj.RefJumpCount k)).raise 28).disqualify k 1 else d

/-- A step of an amount shifts the lines of the candidates whose phase errors rest on spindle time (R186). -/
def stepMeetsCand (amount : Int) (k : Nat) (d : Dev) : Dev :=
  if 52 ≤ k && k < 100 then d
  else
    let by_ := if k < 4 && d.candKind k == 2 then
        let c := d.comparison k
        quot Config.roundsUp (wrapTo (amount * c.2) c.1) c.2
      else amount
    let d := d.setCand k fun c => c.shift (-by_)
    if 4 ≤ k && k < 52 && d.linkState (k - 4) != 4 then d.setLink (k - 4) fun l => { l with moved := l.moved + amount } else d

/-- A step meets the inputs: its whole seconds come off K (R181), the stamps they hold move with the time (R186), and the step comes
off the host's phase error (R85). -/
def stepMeetsLabels (amount : Int) (d : Dev) : Dev :=
  let d := d.forEach (fun n d => d.setRefIn n fun g =>
    { g with label := g.label.map (fun k => k - nearest amount secT.toNat), known := g.known.map (fun k => k - nearest amount secT.toNat),
             pps := g.pps.map (· - amount), pair0 := g.pair0 + amount, first := g.first + amount, newest := g.newest + amount,
             turnFirst := g.turnFirst + amount,
             calPulses := g.calPulses.map fun l => l.map (· + amount),
             pulses := g.pulses.map fun e => (e.1, e.2 + amount) }) (List.range 4)
  { d with ref := { d.ref with host := d.ref.host.map fun h => (dur (h.1 - amount), h.2) } }

/-- A step meets the measuring phase of a port's calibration run: what it holds of earlier Syncs moves with the time (R310). -/
def stepMeetsWatch (amount : Int) (p : Nat) (d : Dev) : Dev :=
  d.setLink p fun k => { k with cal := k.cal.map fun w =>
    { w with syncs := w.syncs.map fun x => (x.1 + amount, x.2.1 + amount, x.2.2 - amount) } }

/-! ## Commands of the inputs -/

/-- The stamp of an edge that fell into a tap of an input's delay line: the centre of its bin by the factory table, less the cable
delay, once (R179). The tables of REFIN0 to REFIN3 are targets 80 to 83. -/
def Dev.refStamp (d : Dev) (n : Nat) (tc : Int) (tap : Nat) : Int :=
  tc - nearest (Config.otpBin (80 + n) tap * 4096) 1000 - d.rd (inst Obj.RefInCableDelay n)

/-- A 1PPS edge of a pair is compared with the 10 MHz: a misalignment sets a QUALIFIED candidate aside, and 16 aligned pulses clear
it (R178, R188, R189). -/
def Dev.pairEdge (d : Dev) (n : Nat) (stamp : Int) : Dev :=
  let off := wrapTo (stamp - (d.refIn (n + 1)).newest) (100 * nsT)
  let ok := decide (off.natAbs ≤ 25 * 65536)
  let d := d.setRefIn n fun g => { g with aligned := if ok then g.aligned + 1 else 0 }
  if !ok && d.qual n == 2 then d.disqualify n 4
  else d.when (bit (d.cand n).causes 4 && decide (16 ≤ (d.refIn n).aligned)) (·.clearCause n 4)

/-- REFIN_EDGE_STAMP (R178, R179). -/
def refinEdge (n : Nat) (tc : Int) (tap : Nat) (d : Dev) : Dev :=
  let stamp := d.refStamp n tc tap
  let pairOf := n % 2 == 1 && d.refMode (n - 1) == 2 && d.on .refIn (n - 1)
  if !d.on .refIn n && !pairOf then d
  else
    let d := d.setRefIn n fun g => g.addEdge stamp (d.comparison n)
    if pairOf || d.refMode n == 0 then d
    else (d.pulse n stamp).when (d.refMode n == 2) (·.pairEdge n stamp)

/-- REFIN_LABEL_APPLY (R180). -/
def labelApply (n : Nat) (d : Dev) : Dev :=
  let seq := d.rdN (inst Obj.RefInLabelPulseSeq n)
  match (d.refIn n).pulses.find? (fun e => e.1 == seq), d.on .refIn n && d.refMode n != 0 with
  | some (_, stamp), true =>
    let k := d.rd (inst Obj.RefInLabelSeconds n) - nearest stamp secT.toNat
    let d := d.setRefIn n fun g => { g with label := some k, relabelled := true }
    (d.wrs [(inst Obj.RefInSecondsKnown n, 1), (inst Obj.RefInLabelCmd n, 0)]).refInEvent n 4
  | _, _ => d.wr (inst Obj.RefInLabelCmd n) 0x80

/-- Clear the label of an input, if it has one (R180). -/
def Dev.clearLabel (d : Dev) (n : Nat) : Dev :=
  if (d.refIn n).label.isSome then
    let d := d.setRefIn n fun g => { g with label := none, relabelled := true }
    (d.wr (inst Obj.RefInSecondsKnown n) 0).refInEvent n 5
  else d

/-- REFIN_LABEL_CLEAR (R180). -/
def labelClear (n : Nat) (d : Dev) : Dev := (d.clearLabel n).wr (inst Obj.RefInLabelCmd n) 0

/-- What a boundary makes of a label applied or cleared: the kind and θ change, the candidate qualifies again and its line restarts;
its frequency monitor goes on (R180). -/
def labelBoundary (n : Nat) (d : Dev) : Dev :=
  let kind : Int := if !d.on .refIn n then 0 else if d.refMode n != 0 && (d.refIn n).label.isSome then 1 else 2
  if (d.refIn n).relabelled then
    let before := d.theta n
    let d := d.setRefIn n fun g => { g with relabelled := false, known := g.label, pps := g.labelled g.label }
    let d := d.wr (inst Obj.RefCandidateKind n) kind
    let change := d.theta n - before
    let d := d.setCand n fun c => { c.shift change with line := [] }
    d.when (d.qual n == 1 || d.qual n == 2) (·.startQualifying n)
  else d.wr (inst Obj.RefCandidateKind n) kind

/-- REFIN_PRESENCE_TIMEOUT: the edges have stopped; the candidate becomes ABSENT (R185). -/
def presenceTimeout (n : Nat) (d : Dev) : Dev :=
  let d := d.setRefIn n fun g => { g with present := false, edges := 0, phases := 0, fresh := false }
  let d := refreshCand n d
  d.when (n % 2 == 1) fun d => refreshCand (n - 1) d

/-- HOST_REF_CMD: N is one of the last 1,024 Turns started, whose boundary time is what it was, or of the next 1,024 (R182,
R184). -/
def hostRefCmd (d : Dev) : Dev :=
  let n := d.rdN Obj.HostRefAtTurn
  let at_ := match startedAt n 1024 d.turn.runs with
    | some t => some t
    | none => if d.turn.next ≤ n && n < d.turn.next + 1024 then some (d.boundaryTime n) else none
  match at_ with
  | some t =>
    let d := { d with ref := { d.ref with host := some (dur (d.rd Obj.HostRefTime - t), d.turn.started) } }
    refreshCand 100 (d.wr Obj.HostRefCmd 0)
  | none => d.wr Obj.HostRefCmd 0x80

/-- HOST_REF_INTERVAL_EXPIRY (R185). -/
def hostRefExpiry (d : Dev) : Dev := refreshCand 100 { d with ref := { d.ref with host := none } }

/-- QUALIFY_TIME_ELAPSED: a QUALIFYING candidate with 16 measurements and a whole window within the hard limit is
QUALIFIED (R188). -/
def qualifyElapsed (k : Nat) (d : Dev) : Dev :=
  let c := d.cand k
  if d.qual k == 1 && 16 ≤ c.count && d.rdN Obj.RefFreqMonitorWindow ≤ c.hardSecs then
    (d.setQual k 2).setZero k
  else d

/-- REF_HOLD_OFF_EXPIRY: the hold-off since the last jump or path step has passed. It clears a jump, and a path step once the port is
in TRACKING again (R189). -/
def holdOffExpiry (k : Nat) (d : Dev) : Dev :=
  let d := d.setCand k fun c => { c with heldOff := true }
  refreshCand k (d.when (bit (d.cand k).causes 1) (·.clearCause k 1))

/-- The soft alarm of a candidate begins or ends (R187, R191). -/
def Dev.softAlarm (d : Dev) (k : Nat) (on_ : Bool) : Dev :=
  if d.rdB (inst Obj.RefSoftAlarm k) == on_ then d
  else
    let d := d.wrB (inst Obj.RefSoftAlarm k) on_
    if k < 4 then d.refInEvent k (if on_ then 2 else 3) else (d.wr Obj.RefEventCause 5).raise 27

/-- The slope of the least-squares line through values against the Plinth, in 2^-48; none where they have no slope. The spec does not
say how the slope is taken: it is that of the line R186 fits (log entry 53). -/
def slopeOf (vs : List (Nat × Int)) : Option Int :=
  match vs with
  | [] => none
  | (x0, _) :: _ =>
    let n : Int := vs.length
    let xs := vs.map fun e => (e.1 : Int) - x0
    let sx := xs.sum
    let sxx := (xs.map fun a => a * a).sum
    let sxy := (vs.map fun e => ((e.1 : Int) - x0) * e.2).sum
    let det := n * sxx - sx * sx
    if det ≤ 0 then none else some (quot Config.roundsUp ((n * sxy - sx * (vs.map (·.2)).sum) * 2 ^ 32) det.toNat)

/-- The slope of a candidate over the window that ends at an instant (R187); none where it has none, or is ABSENT. -/
def Dev.freqSlope (d : Dev) (k at_ : Nat) : Option Int :=
  let window := d.rdN Obj.RefFreqMonitorWindow * 1000000000
  if d.qual k == 0 then none else slopeOf ((d.cand k).mon.filter fun e => decide (at_ ≤ e.1 + window))

/-- FREQ_MONITOR_REPORT: once per second the slope over the window, and what its limits make of it (R187, R188, R189). -/
def freqReport (k at_ : Nat) (d : Dev) : Dev :=
  match d.freqSlope k at_ with
  | none => d
  | some slope =>
    let soft := decide (d.rd Obj.RefSoftLimit < slope.natAbs)
    let hard := decide (d.rd Obj.RefHardLimit < slope.natAbs)
    let window := d.rdN Obj.RefFreqMonitorWindow
    let d := (d.wr (inst Obj.RefFreqOffset k) slope).setCand k fun c =>
      { c with softSecs := if soft then 0 else c.softSecs + 1, hardSecs := if hard then 0 else c.hardSecs + 1 }
    let clean := decide (window ≤ (d.cand k).softSecs)
    let d := if soft then d.softAlarm k true else d.when clean fun d => d.softAlarm k false
    if hard then d.disqualify k 2 else d.when (clean && bit (d.cand k).causes 2) (·.clearCause k 2)

/-! ## Meanings -/

/-- REFIN_EDGE_STAMP (R179). -/
def execRefinEdgeStamp (n : Fin 4) (e : TapStamp) (s : State) : Host.Outcome State Fault Refusal :=
  s.effect (refinEdge n e.tc e.tap)

/-- REFIN_LABEL_APPLY (R180). -/
def execRefinLabelApply (n : Fin 4) (s : State) : Host.Outcome State Fault Refusal := s.effect (labelApply n)

/-- REFIN_LABEL_CLEAR (R180). -/
def execRefinLabelClear (n : Fin 4) (s : State) : Host.Outcome State Fault Refusal := s.effect (labelClear n)

/-- HOST_REF_CMD (R182). -/
def execHostRefCmd (s : State) : Host.Outcome State Fault Refusal := s.effect hostRefCmd

/-- REFIN_PRESENCE_TIMEOUT (R185). -/
def execRefinPresenceTimeout (n : Fin 4) (s : State) : Host.Outcome State Fault Refusal := s.effect (presenceTimeout n)

/-- HOST_REF_INTERVAL_EXPIRY (R185). -/
def execHostRefIntervalExpiry (s : State) : Host.Outcome State Fault Refusal := s.effect hostRefExpiry

/-- FREQ_MONITOR_REPORT (R187). -/
def execFreqMonitorReport (k : Cand) (at_ : Nat) (s : State) : Host.Outcome State Fault Refusal := s.effect (freqReport k at_)

/-- QUALIFY_TIME_ELAPSED (R188). -/
def execQualifyTimeElapsed (k : Cand) (s : State) : Host.Outcome State Fault Refusal := s.effect (qualifyElapsed k)

/-- REF_HOLD_OFF_EXPIRY (R189). -/
def execRefHoldOffExpiry (k : Cand) (s : State) : Host.Outcome State Fault Refusal := s.effect (holdOffExpiry k)

end Sys2Proof.Machine
end

