-- ==== Sys2Proof/Machine/Servo.lean ====
section
/-! DEFINITION. The spindle states, the servo with its bandwidth ladder, and holdover (R198 to R205). -/

namespace Sys2Proof.Machine

/-! ## The bandwidth ladder (R199) -/

/-- A step's longest measurement interval in ns, its dwell in ns, the limit to narrow in 2^-16 ns, and a hundred times its
bandwidth in Hz. -/
def ladder (step : Nat) : Nat × Nat × Int × Nat :=
  match step with
  | 0 => (10000000, 500000000, 100 * nsT, 1000)
  | 1 => (100000000, 5000000000, 10 * nsT, 100)
  | 2 => (1000000000, 50000000000, nsT, 10)
  | _ => (10000000000, 500000000000, 0, 1)

/-- The measurement interval of a candidate in ns (R177). -/
def Dev.interval (d : Dev) (k : Nat) : Nat :=
  let turn := 2 * d.rdN Obj.TurnPeriod
  if k < 4 then
    match d.refMode k with
    | 0 =>
      let c := d.comparison k
      max turn (ceilDiv c.1 (c.2 * nsT)).toNat
    | 1 => 1000000000
    | _ => turn
  else if k < 52 then
    if d.on .whorl (d.timingLane (k - 4)) then turn else turn * d.effectiveSyncTurns (k - 4)
  else if k < 100 then turn
  else turn * d.rdN Obj.HostRefInterval

/-- The widest usable step of a candidate; 4 when none is usable (R199). -/
def Dev.widest (d : Dev) (k : Nat) : Nat :=
  let i := d.interval k
  if i ≤ (ladder 0).1 then 0 else if i ≤ (ladder 1).1 then 1 else if i ≤ (ladder 2).1 then 2
  else if i ≤ (ladder 3).1 then 3 else 4

/-- The selected candidate, if any (R208). -/
def Dev.selected (d : Dev) : Option Nat :=
  let k := d.rdN Obj.RefSelected
  if k ≤ 100 then some k else none

/-! ## Spindle states (R200) -/

/-- The state of the active spindle: 0 FREE_RUN, 1 ACQUIRING, 2 LOCKED, 3 HOLDOVER, 4 LOST. -/
def Dev.spindleState (d : Dev) : Int := d.rd (inst Obj.SpindleState d.active)

/-- Servo control is ENABLED in hardware mode. -/
def Dev.servoHere (d : Dev) : Bool := d.on .servo 0 && !d.rdB Obj.ModeF1Servo

/-- A spindle enters a state: the change is reported (R200). -/
def spindleEnters (st : Int) (u : Nat) (d : Dev) : Dev :=
  if d.rd (inst Obj.SpindleState u) == st then d
  else ((d.wr (inst Obj.SpindleState u) st).wr (inst Obj.SpindleEventCause u) 1).raise (24 + u)

/-- The other spindle follows the active one's state: IN_STEP, or SYNCING once it has loaded the record (R200). -/
def Dev.follows (d : Dev) (u : Nat) : Bool :=
  d.unitState u == 2 || (d.unitState u == 1 && (d.unit u).loaded)

/-- The active spindle changes its state, and the other with it (R200). -/
def Dev.setSpindleState (d : Dev) (st : Int) : Dev :=
  let d := spindleEnters st d.active d
  let d := d.when (d.follows d.standby) (spindleEnters st d.standby)
  d.refreshPhase.updateClass.refreshQl

/-- Enter ACQUIRING, on step 0 after host-assisted mode, on the widest usable step from FREE_RUN, HOLDOVER or LOST, else on
step 1 or the widest usable one if that is narrower (R35, R199, R204). -/
def Dev.enterAcquiring (d : Dev) : Dev :=
  let st := d.spindleState
  let widest := match d.selected with
    | some k => d.widest k
    | none => 0
  let step : Nat := if d.ref.fromHost then 0 else if st == 1 || st == 2 then max 1 widest else widest
  let yf := if st == 3 || st == 4 then d.rd Obj.HoldoverValue * 2 ^ 48 else d.ref.yf
  let d := (d.setSpindleState 1).wr Obj.ServoStep step
  { d with ref := { d.ref with yf := yf, fromHost := false, stepSince := d.time.uptime, overLimit := 0, overWindow := 0,
                               unlockRun := 0 } }

/-! ## Holdover (R202, R203) -/

/-- The integer square root by its bits, from bit `b - 1` down. -/
def isqrtFrom (n : Nat) : Nat → Nat → Nat
  | 0, r => r
  | b + 1, r => isqrtFrom n b (if (r + 2 ^ b) * (r + 2 ^ b) ≤ n then r + 2 ^ b else r)

/-- The integer square root. -/
def isqrt (n : Nat) : Nat := isqrtFrom n (n.log2 / 2 + 1) 0

/-- The valid bins in the window of a loss (R202). -/
def Dev.window (d : Dev) (tLoss : Nat) : List Int :=
  (d.ref.bins.filter fun b =>
    b.valid && decide (tLoss ≤ (b.second + d.rdN Obj.HoldoverWindowStart) * 1000000000)
      && decide ((b.second + d.rdN Obj.HoldoverWindowEnd) * 1000000000 < tLoss)).map (·.y)

/-- Three standard deviations of a sample over the root of its count (R202). -/
def spread (ys : List Int) : Int :=
  let n := ys.length
  let num := (9 * (n * (ys.map fun y => y * y).sum - ys.sum * ys.sum)).toNat
  let den := max (n * n * n) 1
  let r := isqrt (num / den)
  r + (if r * r * den != num && Config.roundsUp num den then 1 else 0)

/-- The loss of the selected reference is noted, unless one already is: t_loss is the start of the Turn in progress, and
the frequency term that of the Turn before (R202). -/
def Dev.noteLoss (d : Dev) : Dev :=
  if d.ref.lossAt.isSome then d
  else { d with ref := { d.ref with lossAt := some (d.turn.upMark, d.ref.yfBefore) } }

/-- Enter HOLDOVER: the holdover value and its uncertainty are formed (R202). -/
def Dev.enterHoldover (d : Dev) : Dev :=
  if d.spindleState == 3 then d
  else
    let (tLoss, before) := (d.noteLoss).ref.lossAt.getD (0, 0)
    let w := d.window tLoss
    let floor_ := d.rd Obj.HoldoverFreqFloor
    let (yh, short, uf) : Int × Int × Int :=
      if d.rdN Obj.HoldoverMinHistory ≤ w.length then
        (quot Config.roundsUp w.sum w.length, 0, max floor_ (spread w))
      else match d.ref.narrow with
        | some y => (quot Config.roundsUp y (2 ^ 48), 1, 10 * floor_)
        | none => (before, 1, 100 * floor_)
    let es := (d.ref.errors.filter fun e => decide (tLoss ≤ e.1 + 1000000000) && decide (e.1 < tLoss)).map (·.2)
    let e0 : Int := if es.isEmpty then (d.rd Obj.ServoPhaseError).natAbs
      else (quot Config.roundsUp es.sum es.length).natAbs
    let d := d.setSpindleState 3
    let d := d.wrs [(Obj.HoldoverValue, yh), (Obj.HoldoverShortHistory, short), (Obj.HoldoverHistorySeconds, w.length),
      (Obj.HoldoverUncertainty, uf), (Obj.HoldoverElapsed, 0), (Obj.HoldoverEstimate, e0), (Obj.ServoStep, 0xFF)]
    { d with ref := { d.ref with e0 := e0, holdSince := d.time.uptime, lossAt := none, yf := yh * 2 ^ 48 } }

/-- Enter FREE_RUN: a frequency term from an earlier lock or from the host is held, any other is 0 (R77, R200). -/
def Dev.enterFreeRun (d : Dev) : Dev :=
  let d := (d.setSpindleState 0).wr Obj.ServoStep 0xFF
  { d with ref := { d.ref with lossAt := none, yf := if d.ref.hasTerm then d.ref.yf else 0 } }

/-- No reference remains (R196, R200, R206): an ACQUIRING or LOCKED spindle enters HOLDOVER, or FREE_RUN when it has no
narrow-band value; in the other states it stays. -/
def Dev.noReference (d : Dev) : Dev :=
  let st := d.spindleState
  if st != 1 && st != 2 then d
  else if d.ref.narrow.isSome then d.noteLoss.enterHoldover
  else d.enterFreeRun

/-- HOLDOVER_ESTIMATE_UPDATE: one more second of HOLDOVER or LOST (R203). -/
def holdoverEstimate (d : Dev) : Dev :=
  let st := d.spindleState
  if st != 3 && st != 4 then d
  else
    let t := min (d.rdN Obj.HoldoverElapsed + 1) (2 ^ 32 - 1)
    let grown := (172800 * d.rd Obj.HoldoverUncertainty * t + d.rd Obj.HoldoverAgingRate * t * t) * 1000000000
    let e := min (d.ref.e0 + quot Config.roundsUp grown (172800 * 2 ^ 32)) (2 ^ 63 - 1)
    let d := d.wrs [(Obj.HoldoverElapsed, t), (Obj.HoldoverEstimate, e)]
    d.when (st == 3 && (decide (d.rd Obj.HoldoverErrorLimit < e) || decide (d.rdN Obj.HoldoverMaxDuration < t)))
      (·.setSpindleState 4)

/-- HOLDOVER_BIN: the bin of the second that ends (R202). A second in which no Turn ended has no mean and no bin. -/
def holdoverBin (d : Dev) : Dev :=
  let r := d.ref
  let bin : Bin :=
    { second := d.time.uptime / 1000000000, y := quot Config.roundsUp r.binSum (max r.binCount 1), valid := r.binValid }
  let bins := if r.binCount = 0 then r.bins else lastN 3600 (r.bins ++ [bin])
  { d with ref := { r with bins := bins, binSum := 0, binCount := 0, binValid := true } }

/-- What the end of a Turn adds to the history: the term in force, whether the Turn is fit for a valid bin, and the phase
error (R202). -/
def Dev.turnHistory (d : Dev) : Dev :=
  let yf := d.rd (inst Obj.NcoFrequencyTerm d.active)
  let fit := d.spindleState == 2 && d.rd Obj.RefSelectorState == 2 && d.rd Obj.SteeredSynthState == 1
  let es := d.ref.errors.filter fun e => decide (d.time.uptime ≤ e.1 + 2000000000)
  { d with ref := { d.ref with binSum := d.ref.binSum + yf, binCount := d.ref.binCount + 1,
                               binValid := d.ref.binValid && fit, yfBefore := yf,
                               errors := es ++ [(d.turn.upMark, d.rd Obj.ServoPhaseError)] } }

/-! ## The servo (R198) -/

/-- π times 10^18, rounded down. -/
abbrev piE18 : Nat := 3141592653589793238

/-- The change of the frequency term in a Turn, wn² θ T, in 2^-96 (R198). -/
def freqStep (b100 period : Nat) (theta : Int) : Int :=
  quot Config.roundsUp ((piE18 * piE18 * (b100 * b100) * (2 * period) * 2 ^ 80 : Nat) * theta) (10 ^ 36 * 10609 * 10 ^ 18)

/-- The phase term 1.414 wn θ in 2^-48 (R198). -/
def phaseStep (b100 : Nat) (theta : Int) : Int :=
  quot Config.roundsUp ((1414 * piE18 * b100 * 2 ^ 32 : Nat) * theta) (1000 * 10 ^ 18 * 103 * 10 ^ 9)

/-- θ carried forward over a Turn without a measurement (R198). -/
def Dev.carriedTheta (d : Dev) : Int :=
  d.rd Obj.ServoPhaseError -
    quot Config.roundsUp (d.rd (inst Obj.NcoPhaseTerm d.active) * d.rdN Obj.TurnPeriod * 131072) (2 ^ 48)

/-- The transitions that rest on θ and the ladder: narrowing, LOCKED, and the unlock threshold (R199, R200). -/
def Dev.ladderMoves (d : Dev) (theta : Int) (measured : Bool) : Dev :=
  let now := d.time.uptime
  let step := d.rdN Obj.ServoStep
  let narrowest := d.rdN Obj.ServoNarrowestStep
  let (_, dwell, limit, _) := ladder step
  let excess (l : Int) : Bool := decide (l < theta.natAbs)
  let run := if measured then (if excess (d.rd Obj.ServoUnlockThreshold) then d.ref.unlockRun + 1 else 0) else d.ref.unlockRun
  let overLimit := if excess limit then now else d.ref.overLimit
  let overWindow := if excess (d.rd Obj.ServoLockWindow) then now else d.ref.overWindow
  let d := { d with ref := { d.ref with unlockRun := run, overLimit := overLimit, overWindow := overWindow } }
  let dwelt := decide (d.ref.stepSince + dwell ≤ now)
  let quiet (last : Nat) : Bool := last == 0 || decide (last + dwell / 2 < now)
  if d.spindleState == 2 then d.when (decide (16 ≤ run)) (·.enterAcquiring)
  else if step < narrowest then
    if dwelt && quiet overLimit then
      let d := d.wr Obj.ServoStep (step + 1 : Nat)
      { d with ref := { d.ref with stepSince := now, overLimit := 0, overWindow := 0 } }
    else d
  else if dwelt && quiet overWindow then
    let d := d.setSpindleState 2
    { d with ref := { d.ref with unlockRun := 0 } }
  else d

/-- Work item 3 in ACQUIRING and LOCKED (R198). -/
def Dev.servoRun (d : Dev) : Dev :=
  let d := match d.selected with
    | some k => takeMeasurement k d
    | none => d
  let measured := match d.selected with
    | some k => (d.cand k).measured == d.turn.started && !(d.cand k).jumped
    | none => false
  let theta := match d.selected, measured with
    | some k, true => d.rd (inst Obj.RefPhaseError k)
    | _, _ => d.carriedTheta
  let step := d.rdN Obj.ServoStep
  let b100 := (ladder step).2.2.2
  let yf := d.ref.yf + freqStep b100 (d.rdN Obj.TurnPeriod) theta
  let lim := d.slewLimit d.spindleState
  let yp := clampI (-lim) lim (phaseStep b100 theta)
  let d := (d.stageWord (quot Config.roundsUp yf (2 ^ 48)) yp).wr Obj.ServoPhaseError theta
  let narrow := if step == d.rdN Obj.ServoNarrowestStep then some yf else d.ref.narrow
  let hasTerm := d.ref.hasTerm || d.spindleState == 2
  let d := { d with ref := { d.ref with yf := yf, hasTerm := hasTerm, narrow := narrow } }
  d.ladderMoves theta measured

/-- SERVO_UPDATE, work item 3 (R198, R204, R205). While servo control is not ENABLED the last word holds (R30); while the steered
synth is not in service none is produced (R217). -/
def servoUpdate (d : Dev) : Dev := d.workItem 3 fun d =>
  let st := d.spindleState
  let held := st == 3 || st == 4
  if !d.steered then d
  else if d.servoHost then d.when held (·.stageWord (d.rd Obj.HoldoverValue) 0)
  else if !d.on .servo 0 then d
  else
    let d := { d with time := { d.time with hostMisses := 0 } }
    if held then d.stageWord (d.rd Obj.HoldoverValue) 0
    else if st == 0 then d.stageWord (if d.ref.hasTerm then quot Config.roundsUp d.ref.yf (2 ^ 48) else 0) 0
    else d.servoRun

/-- What the servo takes over from the host: the frequency term of its last word, and step 0 (R35). -/
def Dev.fromHostWord (d : Dev) : Dev :=
  let d := { d with ref := { d.ref with fromHost := true }, time := { d.time with fallbackFrom := none } }
  match d.time.hostLast with
  | some (yf, _) => { d with ref := { d.ref with yf := yf * 2 ^ 48, hasTerm := true } }
  | none => d

/-- Servo control is ENABLED: in hardware mode after host-assisted mode it starts from the host's last word, and an ACQUIRING or
LOCKED spindle enters ACQUIRING on step 0 with EV24 and EV25 (R35). -/
def Dev.servoStarts (d : Dev) : Dev :=
  let host := d.rdB Obj.ModeF1Servo
  let was := d.ref.f1Host
  let d := { d with ref := { d.ref with f1Host := host }, time := { d.time with hostMisses := 0, hostWord := none } }
  if was && !host then
    let d := d.fromHostWord
    if d.spindleState == 1 || d.spindleState == 2 then
      let told (u : Nat) : Bool := d.spindleState == 2 && (u == d.active || d.follows u)
      let tell (u : Nat) (d : Dev) : Dev := (d.wr (inst Obj.SpindleEventCause u) 1).raise (24 + u)
      (d.enterAcquiring.when (!told 0) (tell 0)).when (!told 1) (tell 1)
    else d
  else d

/-! ## Words and states at a boundary (R71 to R77, R205) -/

/-- A host word comes into force: its phase term is clamped to the limit of the spindle's state (R75, R76). -/
def Dev.hostWordStage (d : Dev) (yf asked : Int) : Dev :=
  let lim := d.slewLimit d.spindleState
  let yp := clampI (-lim) lim asked
  let d := (d.wrB Obj.HostNcoPhaseClamped (yp != asked)).stageWord yf yp
  { d with ref := { d.ref with yf := yf * 2 ^ 48, hasTerm := true } }

/-- The host's decisions at a boundary (R34, R75, R76, R205): a pending HostServoState takes effect, a fallback ends with
the word that is delivered, and the word is put in force. In HOLDOVER and LOST the holdover value applies, and a host word is
ignored until its state or the end of a fallback takes the spindle out of them (R204, log entry 48). -/
def Dev.hostWordApply (d : Dev) : Dev :=
  let word := d.time.hostWord
  let d := { d.wr Obj.HostNcoPhaseClamped 0 with time := { d.time with hostWord := none } }
  if !d.servoHost then d
  else
    let pend := d.ref.hostState
    let d := if word.isSome then { d with time := { d.time with hostMisses := 0 } } else d
    let state : Option Int := match pend with
      | some v => some v
      | none => d.time.fallbackFrom
    let held := d.spindleState == 3 || d.spindleState == 4
    if pend == some 3 then
      let d := { d with ref := { d.ref with hostState := none }, time := { d.time with fallbackFrom := none } }
      d.enterHoldover
    else match word with
      | none => d
      | some (yf, yp) =>
        if state.isNone && (held || d.rd Obj.HostServoState == 3) then d
        else
          let d := { d with ref := { d.ref with hostState := none, lossAt := none }, time := { d.time with fallbackFrom := none } }
          (match state with
            | some v => d.setSpindleState v
            | none => d).hostWordStage yf yp

/-- Bring the word of a spindle in force within what the active spindle's state allows: a phase term beyond its limit gives way
(R73), and in FREE_RUN the word is 0 without a frequency term from an earlier lock or from the host (R77). -/
def Dev.wordWithin (u : Nat) (d : Dev) : Dev :=
  let lim := d.slewLimit d.spindleState
  let bare := d.spindleState == 0 && !d.ref.hasTerm
  let yf := if bare then 0 else d.rd (inst Obj.NcoFrequencyTerm u)
  let yp := if bare then 0 else clampI (-lim) lim (d.rd (inst Obj.NcoPhaseTerm u))
  d.wrs [(inst Obj.NcoWord u, yf + yp), (inst Obj.NcoFrequencyTerm u, yf), (inst Obj.NcoPhaseTerm u, yp)]

/-- The words in force meet the state the active spindle has; while servo control is not ENABLED, or the steered synth is not in
service, the last word holds (R30, R73, R77, R198, R217). -/
def Dev.wordsWithin (d : Dev) : Dev :=
  d.when (d.on .servo 0 && d.steered) fun d => Dev.wordWithin 1 (Dev.wordWithin 0 d)

/-- The staged words come into force at the boundary, or go with the loss of the steered synth (R71, R217). -/
def Dev.wordsAtBoundary (d : Dev) : Dev :=
  if d.steered then Dev.wordInForce 1 (Dev.wordInForce 0 d)
  else (d.setSpindle 0 fun s => { s with nextWord := none }).setSpindle 1 fun s => { s with nextWord := none }

/-- A missed NCO word: the first of a run is noted, and after 8 the active spindle enters HOLDOVER (R31, R48, R202). -/
def Dev.missWord (d : Dev) : Dev :=
  let misses := d.time.hostMisses + 1
  let first := if misses == 1 then (d.turn.upMark, d.ref.yfBefore) else d.time.missAt
  let d : Dev := { d with time := { d.time with hostMisses := misses, missAt := first } }
  if misses == 8 && d.spindleState != 3 && d.spindleState != 4 then
    let d : Dev := { d with ref := { d.ref with lossAt := some first } }
    let d : Dev := d.when d.servoHost fun d => { d with time := { d.time with fallbackFrom := some d.spindleState } }
    d.enterHoldover
  else d

/-- A Turn began without a host word: at the eighth in a row the spindle enters HOLDOVER, and the holdover value is in force at
once (R31). -/
def Dev.missHostWord (d : Dev) : Dev :=
  let was := d.spindleState
  let d := d.missWord
  d.when (was != 3 && d.spindleState == 3 && d.steered) fun d =>
    Dev.wordInForce 1 (Dev.wordInForce 0 (d.stageWord (d.rd Obj.HoldoverValue) 0))

/-- HOST_SERVO_STATE_WRITE: the value is pending until it takes effect (R205). -/
def hostServoStateWrite (v : Nat) (d : Dev) : Dev :=
  let d := d.wr Obj.HostServoState v
  { d with ref := { d.ref with hostState := some v } }

/-! ## Meanings -/

/-- SERVO_UPDATE (R198). -/
def execServoUpdate (s : State) : Host.Outcome State Fault Refusal := s.effect servoUpdate

/-- HOLDOVER_BIN (R202). -/
def execHoldoverBin (s : State) : Host.Outcome State Fault Refusal := s.effect holdoverBin

/-- HOLDOVER_ESTIMATE_UPDATE (R203). -/
def execHoldoverEstimateUpdate (s : State) : Host.Outcome State Fault Refusal := s.effect holdoverEstimate

/-- HOST_SERVO_STATE_WRITE (R205): the value is 1, 2 or 3. -/
def execHostServoStateWrite (v : Fin 3) (s : State) : Host.Outcome State Fault Refusal :=
  s.effect (hostServoStateWrite (v + 1))

end Sys2Proof.Machine
end

