-- ==== Sys2Proof/Machine/References.lean ====
section
/-! DEFINITION. Reference selection (R190 to R197, R206), the initial step of R88 and the set of R183. -/

namespace Sys2Proof.Machine

/-- A candidate is eligible (R190); a port run excludes its REFIN candidate (R301). -/
def Dev.refEligible (d : Dev) (k : Nat) : Bool :=
  d.qual k == 2 && d.ref.excluded != some k && d.rd (inst Obj.RefPriority k) != 0 && !d.rdB (inst Obj.RefLockout k)
    && decide (d.widest k ≤ d.rdN Obj.ServoNarrowestStep)
    && (!d.rdB Obj.RefUseQl || (d.candQl k != 0xF && d.candQl k != 0xFF))

/-- The rank of a QL, 1 the best (R106). -/
def qlRank (ql : Int) : Nat := if ql == 2 then 1 else if ql == 4 then 2 else if ql == 8 then 3 else if ql == 11 then 4 else 5

/-- A candidate ranks above another (R192). -/
def Dev.ranksAbove (d : Dev) (a b : Nat) : Bool :=
  let ra := if d.rdB Obj.RefUseQl then qlRank (d.candQl a) else 0
  let rb := if d.rdB Obj.RefUseQl then qlRank (d.candQl b) else 0
  let pa := d.rd (inst Obj.RefPriority a)
  let pb := d.rd (inst Obj.RefPriority b)
  decide (ra < rb) || (ra == rb && (decide (pa < pb) || (pa == pb && decide (a < b))))

/-- The best eligible candidate, if any (R192). -/
def Dev.best (d : Dev) : Option Nat :=
  (List.range 101).foldl (fun b k =>
    if d.refEligible k then
      match b with
      | some j => if d.ranksAbove k j then some k else b
      | none => some k
    else b) none

/-- The candidate has served wait-to-restore (R195). -/
def Dev.served (d : Dev) (k : Nat) : Bool :=
  (d.cand k).served || (match (d.cand k).waitFrom with
    | some t => decide (max t d.ref.switchDone + d.rdN Obj.RefWaitToRestore * 1000000000 ≤ d.time.uptime)
    | none => false)

/-- Keep the wait of a candidate: a break in eligibility restarts it (R195). -/
def waitKept (k : Nat) (d : Dev) : Dev :=
  let e := d.refEligible k
  let now := d.time.uptime
  d.setCand k fun c =>
    if e then { c with waitFrom := some (c.waitFrom.getD now) } else { c with waitFrom := none, served := false }

/-- Seconds left of a candidate's wait-to-restore (R195). -/
def Dev.waitLeft (d : Dev) (k : Nat) : Nat :=
  match (d.cand k).waitFrom, d.selected with
  | some t, some cur =>
    if d.served k || !d.ranksAbove k cur then 0
    else
      let from_ := if d.rd Obj.RefSelectorState == 2 then max t d.ref.switchDone else d.time.uptime
      d.rdN Obj.RefWaitToRestore - (d.time.uptime - from_) / 1000000000
  | _, _ => 0

/-- What the selector in hardware mode decides: some candidate to switch to, 101 to deselect, none to keep (R193). -/
def Dev.selects (d : Dev) : Option Nat :=
  let cur := d.selected
  let best := d.best
  let f := d.rdN Obj.RefForce
  let forced := decide (f ≤ 100) && d.refEligible f
  let st := d.spindleState
  let anew := cur.isSome && (st == 3 || st == 4) && d.time.fallbackFrom.isNone
    && !(d.servoHost && d.rd Obj.HostServoState == 3)
  if anew && (forced || best.isSome) then (if forced then some f else best)
  else if forced && cur != some f then some f
  else match cur with
    | none => best
    | some c =>
      if !d.refEligible c then (if best.isSome then best else some 101)
      else if f == c then none
      else match best with
        | some b =>
          if d.rdB Obj.RefRevertive && d.ranksAbove b c && d.served b && d.rd Obj.RefSelectorState == 2 then some b else none
        | none => none

/-- While F2 makes no choice of its own (R30, R206), the loss of the selected reference sends an ACQUIRING or LOCKED
spindle to HOLDOVER at once, and the reference stays selected. -/
def Dev.strays (d : Dev) (host : Bool) : Dev :=
  match d.selected with
  | none => d
  | some c =>
    if d.refEligible c then { d with ref := { d.ref with strayed := false, asked := none } }
    else if d.ref.strayed then d
    else
      let d := { d with ref := { d.ref with strayed := true, asked := if host then some d.turn.started else none } }
      let d := d.when host fun d => (d.wr Obj.RefEventCause 6).raise 27
      if d.spindleState == 1 || d.spindleState == 2 then
        (d.noteLoss.enterHoldover).when d.servoHost fun d =>
          { d.wr Obj.HostServoState 3 with ref := { d.ref with hostState := none } }
      else d

/-- Arm a set the device makes itself for Turn n+2 (R88, R183), unless R79 or R89 refuses it. -/
def Dev.armOwn (d : Dev) (value : Int) (source i : Nat) : Dev × Bool :=
  let n := d.rdN Obj.TurnNumber + 2
  if d.canArm n && !d.turn.queue.any Change.isStep && !d.turn.queue.any (fun c => c.isParam && c.turn == n)
      && decide (0 ≤ value) && decide (value ≤ maxT) then
    ((d.arm n (.stepOwn value source i)).wr Obj.TimeStepCmd 1, true)
  else (d, false)

/-- The offset that the selected reference has measured in the Turn in progress, where it carries full time, with the TimeSource
and instance it names: a new measurement, for a 1PPS one of a pulse (R88, R184). -/
def Dev.fullTime (d : Dev) (k : Nat) : Option (Int × Nat × Nat) :=
  let now := d.turn.started
  let c := d.cand k
  let theta := d.rd (inst Obj.RefPhaseError k)
  if d.qual k != 2 || c.measured != now || c.jumped then none
  else if k < 4 then (if d.refMode k != 0 && d.candKind k == 1 && c.byPulse then some (theta, 1, k) else none)
  else if k < 52 && d.linkState (k - 4) == 3 && (d.link (k - 4)).recAt == now then some (theta, 2, k - 4)
  else none

/-- The initial step: armed for Turn n+2 from a new measurement of the selected reference that carries full time, or in the Turn
after one in which it was refused; not again in a Turn in which the host cancelled it (R88, R89). -/
def Dev.initialStep (d : Dev) : Dev :=
  if d.rdB Obj.TimeValid || !d.rdB Obj.TimeInitialStepEnable then { d with ref := { d.ref with initial := none } }
  else if d.ref.cancelled == some d.turn.started || d.turn.queue.any Change.isStep then d
  else
    let due := match d.selected with
      | some k => (d.fullTime k).or d.ref.initial
      | none => none
    match due with
    | none => { d with ref := { d.ref with initial := none } }
    | some (theta, source, i) =>
      let r := d.armOwn (d.boundaryTime (d.rdN Obj.TurnNumber + 2) + theta) source i
      { r.1 with ref := { r.1.ref with initial := if r.2 then none else due } }

/-- The set of R183. -/
def Dev.hostSet (d : Dev) : Dev :=
  match d.ref.hostSet, d.ref.host with
  | true, some (theta, _) =>
    if d.rdB Obj.TimeValid then { d with ref := { d.ref with hostSet := false } }
    else
      let r := d.armOwn (d.boundaryTime (d.rdN Obj.TurnNumber + 2) + theta) 3 0xFF
      if r.2 then { r.1 with ref := { r.1.ref with hostSet := false } } else r.1
  | _, _ => d

/-- REFERENCE_SELECTION, work item 4 (R184 to R193, R88, R183). -/
def referenceSelection (d : Dev) : Dev := d.workItem 4 fun d =>
  let ks := List.range 101
  let d := d.forEach (fun k d => waitKept k (takeMeasurement k (refreshCand k d))) ks
  let d :=
    if !d.on .refSelector 0 then d.strays false
    else if d.rdB Obj.ModeF2RefSelector then d.strays true
    else
      let d := match d.selected with
        | some c => if d.refEligible c then { d with ref := { d.ref with lossAt := none } } else d.noteLoss
        | none => d
      { d with ref := { d.ref with next := d.selects, strayed := false, asked := none } }
  d.initialStep.hostSet

/-- A switch to a candidate takes effect (R194, R200, R201). The servo's θ moves the spindle only while servo control is
ENABLED in hardware mode (R30, R205). -/
def Dev.switchTo (d : Dev) (k : Nat) : Dev :=
  let d := ((d.wr Obj.RefEventCause 1).raise 27).inc Obj.RefSwitchCount
  let d := d.wrs [(Obj.RefSelected, k), (Obj.RefSelectorState, 1)]
  let d := (d.setZero k).forEach (fun j d => d.setCand j fun c => { c with served := false }) (List.range 101)
  let d := { d with ref := { d.ref with switchAt := d.time.uptime, strayed := false, asked := none, lossAt := none,
                                        hostSet := k == 100 && !d.rdB Obj.TimeValid } }
  let st := d.spindleState
  let d :=
    if d.servoHost then d
    else if st == 0 || st == 3 || st == 4 then d.enterAcquiring
    else d.when (d.servoHere && decide (d.rd Obj.ServoLockWindow < (d.theta k).natAbs)) (·.enterAcquiring)
  d.updateClass.refreshQl

/-- The selected reference is deselected (R196, R206). -/
def Dev.deselect (d : Dev) : Dev :=
  let d := d.wrs [(Obj.RefSelected, 0xFF), (Obj.RefSelectorState, 0), (Obj.RefEventCause, 4)]
  let d := d.raise 27
  let d := { d with ref := { d.ref with strayed := false, asked := none } }
  let d := d.when (!d.servoHost || d.rdB Obj.ModeF2RefSelector) (·.noReference)
  d.updateClass.refreshQl

/-- A selection takes effect at the boundary (R193, R194, R206). -/
def Dev.referenceSwitch (d : Dev) : Dev :=
  match d.ref.next with
  | none => d
  | some k =>
    let d := { d with ref := { d.ref with next := none } }
    if k ≤ 100 then d.switchTo k else d.deselect

/-- The switch in progress is complete (R194). -/
def Dev.switchComplete (d : Dev) (cause : Int) : Dev :=
  let d := (d.wrs [(Obj.RefSelectorState, 2), (Obj.RefEventCause, cause)]).raise 27
  { d with ref := { d.ref with switchDone := d.time.uptime } }

/-- SWITCH_SETTLE_COMPLETE: the active spindle has been LOCKED for the settle time (R194). -/
def switchSettle (d : Dev) : Dev :=
  d.when (d.rd Obj.RefSelectorState == 1 && d.spindleState == 2) (·.switchComplete 2)

/-- SWITCH_TIMEOUT (R194). -/
def switchTimeout (d : Dev) : Dev := d.when (d.rd Obj.RefSelectorState == 1) (·.switchComplete 3)

/-- WAIT_TO_RESTORE_EXPIRY: an eligible candidate has served its wait; none is served during a switch (R195). -/
def waitExpiry (k : Nat) (d : Dev) : Dev :=
  if d.refEligible k && d.rd Obj.RefSelectorState == 2 then d.setCand k fun c => { c with served := true } else d

/-- HOST_REF_SELECT_CMD (R206). -/
def hostRefSelect (d : Dev) : Dev :=
  let k := d.rdN Obj.HostRefSelect
  if !d.on .refSelector 0 || !d.rdB Obj.ModeF2RefSelector then d.wr Obj.HostRefSelectCmd 0x80
  else if k == 0xFE then { d.wr Obj.HostRefSelectCmd 0 with ref := { d.ref with next := some 101, asked := none } }
  else if decide (k ≤ 100) && d.refEligible k then
    { d.wr Obj.HostRefSelectCmd 0 with ref := { d.ref with next := some k, asked := none } }
  else d.wr Obj.HostRefSelectCmd 0x80

/-! ## Meanings -/

/-- REFERENCE_SELECTION (R193). -/
def execReferenceSelection (s : State) : Host.Outcome State Fault Refusal := s.effect referenceSelection

/-- SWITCH_SETTLE_COMPLETE (R194). -/
def execSwitchSettleComplete (s : State) : Host.Outcome State Fault Refusal := s.effect switchSettle

/-- SWITCH_TIMEOUT (R194). -/
def execSwitchTimeout (s : State) : Host.Outcome State Fault Refusal := s.effect switchTimeout

/-- WAIT_TO_RESTORE_EXPIRY (R195). -/
def execWaitToRestoreExpiry (k : Cand) (s : State) : Host.Outcome State Fault Refusal := s.effect (waitExpiry k)

/-- HOST_REF_SELECT_CMD (R206). -/
def execHostRefSelectCmd (s : State) : Host.Outcome State Fault Refusal := s.effect hostRefSelect

end Sys2Proof.Machine
end

