-- ==== Sys2Proof/Machine/Outputs.lean ====
section
/-! DEFINITION. The steered synth, the alignment lines, and the clock and pulse outputs (chapter 07). -/

namespace Sys2Proof.Machine

/-! ## What the pins carry (R224, R226, R232) -/

/-- For how long of each 32 ns comparison pin ALOCKn sinks, in 2^-16 ns, where `error` is what the comparison finds: all of it
while the line is UNLOCKED, the size of the error clamped to 4 ns to 28 ns while LOCKING, and none while LOCKED, when the pin is
released (R224). -/
def Dev.alockSinks (d : Dev) (n : Nat) (error : Int) : Int :=
  match d.rd (inst Obj.AlLockState n) with
  | 0 => 32 * nsT
  | 1 => clampI (4 * nsT) (28 * nsT) error.natAbs
  | _ => 0

/-- The level a pulse output drives: low while its block is not ENABLED, else its idle level, and the other one in a pulse
(R15, R232). -/
def Dev.pulseLevel (d : Dev) (n : Nat) : Bool :=
  d.on .pulse n && (d.pulseSt n).active != d.rdB (inst Obj.PulseInvert n)

/-! ## Misalignment (R240, R241) -/

/-- The misalignment object of an output. -/
def misKey (o : Nat) : Nat :=
  if o < 8 then inst Obj.ClkOutMisalignment o else inst Obj.PulseMisalignment (o - 8)

/-- Keep the pending bit of an output current; EV31 reports one that is set (R241). An output that is disabled keeps its
misalignment, and its bit, until it is enabled again (R242). -/
def refreshPending (o : Nat) (d : Dev) : Dev :=
  let mask := d.rdN Obj.OutputPendingMask
  let pending := decide (d.rd Obj.OutputAlignTolerance < (d.rd (misKey o)).natAbs)
  let d' := d.wr Obj.OutputPendingMask (setBit mask o pending : Nat)
  d'.when (pending && !bit mask o) (·.raise 31)

/-- Add to the misalignment of an output, whatever the state of its block (R240). -/
def addMis (amount : Int) (o : Nat) (d : Dev) : Dev :=
  refreshPending o (d.wr (misKey o) (clampI (1 - 2 ^ 63) (2 ^ 63 - 1) (d.rd (misKey o) + amount)))

/-- The misalignment of an output becomes 0 (R240). -/
def clearMis (o : Nat) (d : Dev) : Dev :=
  (d.wr (misKey o) 0).wr Obj.OutputPendingMask (setBit (d.rdN Obj.OutputPendingMask) o false : Nat)

/-- What a step does to the outputs: every misalignment takes it, and their edges are where they were (R240). -/
def stepMeetsOut (amount : Int) (d : Dev) : Dev :=
  let d := d.forEach (addMis amount) (List.range 24)
  let d := d.forEach (fun n d => d.setPulse n fun p => { p with lastRise := p.lastRise.map (· + amount) }) (List.range 16)
  d.forEach (fun n d => d.setClk n fun c =>
    { c with runs := c.runs.map (· + 5 * amount), rose := c.rose.map (· + 5 * amount) }) (List.range 8)

/-- A delay compensation changes (R240). A clock output in service goes on from its first edge under the new m that keeps the
limit of R230 (log entry 54). -/
def outDelayComp (o : Nat) (old new : Int) (d : Dev) : Dev :=
  if decide (o < 8) && (d.clkSt o).runs.isSome then
    let rose := d.clkRose o
    let kept := d.clkBegun o || (d.clkSt o).kept
    (addMis (new - old) o (d.setClk o fun c => { c with rose := rose, kept := kept })).clkRuns o
  else addMis (new - old) o d

/-! ## Alignment lines (R221 to R225) -/

/-- A line enters a state: EV34 to EV37 report it (R221). -/
def Dev.setLine (d : Dev) (n : Nat) (st : Int) : Dev :=
  if d.rd (inst Obj.AlLockState n) == st then d else (d.wr (inst Obj.AlLockState n) st).raise (34 + n)

/-- A line is UNLOCKED while its block is not ENABLED, the steered synth is not in service or the fixed synth is lost, and
leaves that state for LOCKING when none of these holds (R221, R218). -/
def refreshLine (n : Nat) (d : Dev) : Dev :=
  if d.on .alignLine n && d.steered && d.rd Obj.FixedSynthState != 2 then
    d.when (d.rd (inst Obj.AlLockState n) == 0) (·.setLine n 1)
  else d.setLine n 0

/-- Keep the lines and the outputs current. -/
def Dev.refreshLines (d : Dev) : Dev := (d.forEach refreshLine (List.range 4)).refreshOuts

/-- 15.625 ps in units of 2^-16 ns. -/
abbrev tapT : Nat := 1024

/-- ALIGNMENT_LINE_LOCK: after a loss of the steered synth the outputs take the shift measured, to 15.625 ps, and the pulse
outputs await a re-alignment when it exceeds the tolerance; else the move is only reported (R221, R223, R240, R242). -/
def alignmentLock (n : Nat) (shift : Int) (tap : Nat) (d : Dev) : Dev :=
  if d.rd (inst Obj.AlLockState n) != 1 then d
  else
    let d := ((d.setLine n 2).inc (inst Obj.AlLockCount n)).wr (inst Obj.AlTapSetting n) (tap % 65536 : Nat)
    let mine := (List.range 24).filter fun o => lineOf o == n
    let d :=
      if d.out.steeredReturn.contains n then
        let delta := nearest shift tapT * tapT
        let far := decide (d.rd Obj.OutputAlignTolerance < delta.natAbs)
        let d := { d with out := { d.out with steeredReturn := d.out.steeredReturn.filter (· != n) } }
        let d := d.forEach (addMis delta) mine
        d.when far fun d => d.forEach (fun o d =>
          d.when (decide (8 ≤ o)) fun d => d.setPulse (o - 8) fun p => { p with awaits := true }) mine
      else d.wr (inst Obj.AlLastRelockShift n) shift
    d.refreshOuts

/-- ALIGNMENT_LINE_LOCK_LOSS (R221). -/
def alignmentLoss (n : Nat) (d : Dev) : Dev :=
  if d.rd (inst Obj.AlLockState n) == 2 then (d.setLine n 1).refreshOuts else d

/-! ## The steered synth (R215 to R217, R219, R220) -/

/-- The steered synth loses lock: the word in force when it was last LOCKED is held, TCLK changes over, the lines lose lock, and
the loss is reported (R212, R216). -/
def Dev.steeredLost (d : Dev) (st : Int) : Dev :=
  let y := if d.rd Obj.SteeredSynthState == 1 then d.rd (inst Obj.NcoWord d.active) else d.time.yHeld
  let d := (((d.wrs [(Obj.SteeredSynthState, st), (Obj.SteeredHeldWord, y), (Obj.SynthEventCause, 1)]).inc
    Obj.SteeredSynthLossCount).perfFlags 32).raise 33
  let d := { d with time := { d.time with yHeld := y, tclkSteered := false },
                    out := { d.out with steeredReturn := List.range 4 } }
  d.refreshLines

/-- The counters advance per Plinth cycle no longer than R219 and R220 say. -/
def Dev.plinthRateEnds (d : Dev) : Dev :=
  let fixed := d.rd Obj.FixedSynthState == 1
  let steered := d.rd Obj.SteeredSynthState == 1
  if fixed && steered || ((fixed || steered) && !d.time.untilBoth) then
    { d with time := { d.time with perPlinth := false, untilBoth := false } }
  else d

/-- STEERED_SYNTH_LOCK: LOCKING or HOLDING becomes LOCKED. Before the first Turn TCLK comes from it at once and the
counters begin to count (R594); after that the changeover back waits for a Turn boundary (R217). -/
def steeredLock (d : Dev) : Dev :=
  if d.rd Obj.SteeredSynthState == 1 || !d.rdB Obj.PlinthPresent then d
  else
    let d := (d.wr Obj.SteeredSynthState 1).plinthRateEnds
    let d := if d.turn.last.isNone && !d.stopped then
        { d with time := { d.time with tclkSteered := true } }
      else d
    { d with time := { d.time with counting := true } }.refreshLines

/-- The changeover back at a Turn boundary (R217). -/
def Dev.changeoverBack (d : Dev) : Dev :=
  if d.rd Obj.SteeredSynthState == 1 && !d.time.tclkSteered then
    let d := (d.wr Obj.SynthEventCause 2).raise 33
    { d with time := { d.time with tclkSteered := true } }.refreshLines
  else d

/-! ## Pulse outputs (R231 to R239) -/

/-- Spacing of the programmed rising edges in 2^-16 ns, none in modes 0 and 3 (R231). -/
def Dev.spacing (d : Dev) (n : Nat) : Option Int :=
  match d.rd (inst Obj.PulseMode n) with
  | 1 => some (d.rd (inst Obj.PulsePeriod n))
  | 2 => some (d.rd (inst Obj.PulseTurnDivider n) * d.rd Obj.TurnPeriod * (2 * nsT))
  | _ => none

/-- An enable command of a pulse output is not refused (R233). -/
def Dev.pulseMayEnable (d : Dev) (n : Nat) : Bool :=
  (match d.spacing n with
    | some sp => decide ((d.rd (inst Obj.PulseWidth n) + 8) * nsT ≤ sp)
    | none => true) &&
  (d.rd (inst Obj.PulseMode n) != 2 || decide (d.rd (inst Obj.PulseTurnOffset n) < d.rd (inst Obj.PulseTurnDivider n)))

/-- The single pulse of mode 3 whose drive instant has passed is omitted (R234, case 3). -/
def Dev.singlePassed (d : Dev) (n : Nat) : Dev :=
  let t := d.rd (inst Obj.PulseStart n) + d.rd (inst Obj.PulseMisalignment n)
  if d.rd (inst Obj.PulseMode n) == 3 && !(d.pulseSt n).done && decide (t < d.now) then
    (d.inc (inst Obj.PulseMissedCount n)).setPulse n fun p => { p with done := true }
  else d

/-- Turn `k` has a programmed pulse of a pulse output in mode 2 (R231). -/
def Dev.pulseTurn (d : Dev) (n k : Nat) : Bool :=
  let off := d.rdN (inst Obj.PulseTurnOffset n)
  d.rd (inst Obj.PulseMode n) == 2 && decide (off ≤ k) && (k - off) % max (d.rdN (inst Obj.PulseTurnDivider n)) 1 == 0

/-- The programmed pulses of mode 2 of the Turns already begun whose drive instant is still to come, oldest first (R231, R235):
PulseDelay is at most 10 ms, so that they belong to the last 1,024 Turns. -/
def Dev.turnEdges (d : Dev) (n : Nat) : List Int :=
  (d.turn.runs.reverse.flatMap fun r =>
    let k := min 1024 (r.last + 1 - r.first)
    ((List.range k).map (r.last + 1 - k + ·)).filter (d.pulseTurn n) |>.map fun i =>
      boundaryOf r.period r.start r.first i + d.rd (inst Obj.PulseDelay n)).filter
    fun t => decide (d.now ≤ t + d.rd (inst Obj.PulseMisalignment n))

/-- A pulse output enters ENABLED: what it has programmed and not yet driven. -/
def Dev.pulseStarts (d : Dev) (n : Nat) : Dev :=
  let edges := d.turnEdges n
  (d.setPulse n fun p => { p with due := p.due ++ edges.filter fun t => !p.due.contains t }).singlePassed n

/-- An output enters ENABLED: its misalignment is 0 and it starts afresh (R229, R240, R242). -/
def outStarts (o : Nat) (d : Dev) : Dev :=
  let d := clearMis o d
  if o < 8 then d
  else (d.setPulse (o - 8) fun p => { lastRise := p.lastRise }).pulseStarts (o - 8)

/-- An output leaves ENABLED: a disabled output is driven low (R15). -/
def outStops (o : Nat) (d : Dev) : Dev := d.when (decide (8 ≤ o)) fun d => d.setPulse (o - 8) fun p => { p with active := false }

/-- A programmed pulse of mode 2 joins those to come. Of those whose rising edge has come and whose drive instant has not, 16
are held and the later ones omitted (R234, case 4); an output that hears no PULSE_RISING_EDGE keeps the last 64. -/
def Dev.pulseJoins (d : Dev) (n : Nat) (t : Int) : Dev :=
  let p := d.pulseSt n
  let m := d.rd (inst Obj.PulseMisalignment n)
  let passed := p.due.filter fun x => decide (x + m < d.now)
  let held := p.due.filter fun x => decide (x < d.now) && decide (d.now ≤ x + m)
  let ahead := p.due.filter fun x => decide (d.now ≤ x) && decide (d.now ≤ x + m)
  (d.add32 (inst Obj.PulseMissedCount n) (held.length - 16)).setPulse n fun p =>
    { p with due := lastN 64 passed ++ held.take 16 ++ ahead ++ [t] }

/-- The programmed pulses of mode 2 that belong to the Turn that starts (R231, R235). -/
def turnPulse (n : Nat) (d : Dev) : Dev :=
  let turn := d.rdN Obj.TurnNumber
  let t := d.boundaryTime turn + d.rd (inst Obj.PulseDelay n)
  d.when (d.on .pulse n && d.pulseTurn n turn && !(d.pulseSt n).due.contains t) (·.pulseJoins n t)

/-- Whether a time is a programmed rising edge of a pulse output that has not been dealt with (R231). -/
def Dev.programmed (d : Dev) (n : Nat) (t : Int) : Bool :=
  let p := d.pulseSt n
  let fresh := match p.lastAt with
    | some l => decide (l < t)
    | none => true
  match d.rd (inst Obj.PulseMode n) with
  | 1 =>
    let start := d.rd (inst Obj.PulseStart n)
    let period := d.rd (inst Obj.PulsePeriod n)
    fresh && decide (start ≤ t) && (t - start) % period == 0
  | 2 => p.due.contains t
  | 3 => !p.done && t == d.rd (inst Obj.PulseStart n)
  | _ => false

/-- PULSE_RISING_EDGE: the drive instant of a programmed pulse has come. It is omitted in the cases of R234, not driven
while the output is suppressed, and else driven (R232, R234, R237). Answers the instant at which it is driven. -/
def pulseRise (n : Nat) (t : Int) (d : Dev) : Dev × Option Int :=
  if !d.on .pulse n || !d.programmed n t then (d, none)
  else
    let m := d.rd (inst Obj.PulseMisalignment n)
    let at_ := nearest (t + m) tapT * tapT
    let d := d.until at_
    let p := d.pulseSt n
    let full := p.accepted.length == 16 && p.accepted.all (fun a => decide (t - m < a) && decide (a < t))
    let close := match p.lastRise with
      | some r => decide (at_ - r < (d.rd (inst Obj.PulseWidth n) + 8) * nsT)
          || (p.realigned && (match d.spacing n with
            | some sp => decide (1000 * (at_ - r) < 999 * sp)
            | none => false))
      | none => false
    let d := d.setPulse n fun p =>
      { p with lastAt := some t, due := p.due.filter (fun x => decide (t < x)), done := true,
               accepted := if full then p.accepted else lastN 16 (p.accepted ++ [t]) }
    if full || close || d.outCause (8 + n) != 0 then (d.inc (inst Obj.PulseMissedCount n), none)
    else ((d.inc (inst Obj.PulseCount n)).setPulse n fun p =>
      { p with active := true, lastRise := some at_, realigned := false }, some (t + m))

/-- PULSE_FALLING_EDGE: the pulse in progress ends PulseWidth after its rising edge, suppressed or not (R232, R238). -/
def pulseFall (n : Nat) (d : Dev) : Dev :=
  let p := d.pulseSt n
  d.when p.active fun d =>
    let d := match p.lastRise with
      | some r => d.until (r + d.rd (inst Obj.PulseWidth n) * nsT)
      | none => d
    d.setPulse n fun p => { p with active := false }

/-! ## Re-alignment (R243, R244) -/

/-- A re-alignment in the change queue. -/
def Change.isRealign (c : Change) : Bool :=
  match c.kind with
  | .realign _ => true
  | _ => false

/-- OUTPUT_REALIGN_ARM (R243). -/
def realignArm (d : Dev) : Dev :=
  let n := d.rdN Obj.OutputRealignAt
  let mask := d.rdN Obj.OutputRealignMask
  if mask != 0 && d.canArm n && !d.turn.queue.any Change.isRealign then
    (d.arm n (.realign mask)).wr Obj.OutputRealignCmd 1
  else d.wr Obj.OutputRealignCmd 0x80

/-- OUTPUT_REALIGN_CANCEL (R243). -/
def realignCancel (d : Dev) : Dev := (d.disarm Change.isRealign).wr Obj.OutputRealignCmd 0

/-- How many programmed pulses an output of mode 1 or 2 holds: their rising edge has come and their drive instant has not
(R234). -/
def Dev.heldPulses (d : Dev) (n : Nat) : Nat :=
  let m := d.rd (inst Obj.PulseMisalignment n)
  match d.rd (inst Obj.PulseMode n) with
  | 1 =>
    let start := d.rd (inst Obj.PulseStart n)
    let came (t : Int) : Int := if t < start then 0 else (t - start) / d.rd (inst Obj.PulsePeriod n) + 1
    (came (d.now - 1) - came (d.now - m)).toNat
  | 2 => ((d.pulseSt n).due.filter fun t => decide (t < d.now) && decide (d.now < t + m)).length
  | _ => 0

/-- A clock output that is re-aligned lengthens its cycle in progress by (-m) mod (D x 200 ps) (R244). -/
def Dev.clkRealign (d : Dev) (n : Nat) : Dev :=
  let more := (-5 * d.rd (inst Obj.ClkOutMisalignment n)) % d.clkCycle n
  let begun := d.clkBegun n
  let rose := d.clkRose n
  let next := d.clkEdgeFrom n (5 * d.now + 1)
  d.setClk n fun c =>
    { runs := c.runs.map fun r => (if begun then next else r) + more, rose := rose, kept := c.kept || begun }

/-- A re-alignment is applied to an output; the pulses an output held are omitted, and it goes on from the programmed pulses still
to come (R234, R244). -/
def realignOut (o : Nat) (d : Dev) : Dev :=
  if o < 8 then clearMis o (d.clkRealign o)
  else
    let held := d.heldPulses (o - 8)
    let d := clearMis o d
    let now := d.now
    ((d.add32 (inst Obj.PulseMissedCount (o - 8)) held).setPulse (o - 8) fun p =>
      { p with awaits := false, realigned := true, lastAt := some (now - 1), accepted := [],
               due := p.due.filter fun t => decide (now ≤ t) }).singlePassed (o - 8)

/-- A re-alignment is applied to the outputs of its mask that are ENABLED (R244). -/
def applyRealign (mask : Nat) (d : Dev) : Dev :=
  let d := d.forEach (fun o d => d.when (bit mask o && d.outOn o) (realignOut o)) (List.range 24)
  ((d.wrs [(Obj.SynthEventCause, 3), (Obj.OutputRealignCmd, 2)]).raise 31).refreshOuts

/-! ## Meanings -/

/-- STEERED_SYNTH_LOCK (R217). -/
def execSteeredSynthLock (s : State) : Host.Outcome State Fault Refusal := s.effect steeredLock

/-- ALIGNMENT_LINE_LOCK (R221). -/
def execAlignmentLineLock (n : Fin 4) (shift : Int) (tap : Nat) (s : State) : Host.Outcome State Fault Refusal :=
  s.effect (alignmentLock n shift tap)

/-- ALIGNMENT_LINE_LOCK_LOSS (R221). -/
def execAlignmentLineLockLoss (n : Fin 4) (s : State) : Host.Outcome State Fault Refusal := s.effect (alignmentLoss n)

/-- OUTPUT_REALIGN_ARM (R243). -/
def execOutputRealignArm (s : State) : Host.Outcome State Fault Refusal := s.effect realignArm

/-- OUTPUT_REALIGN_CANCEL (R243). -/
def execOutputRealignCancel (s : State) : Host.Outcome State Fault Refusal := s.effect realignCancel

/-- PULSE_FALLING_EDGE (R232). -/
def execPulseFallingEdge (n : Fin 16) (s : State) : Host.Outcome State Fault Refusal := s.effect (pulseFall n)

end Sys2Proof.Machine
end

