-- ==== Sys2Proof/Machine/Evin.lean ====
section
/-! DEFINITION. Event measurement (chapter 08): stamps, start/multi-stop measurements, MREF_IN and pin faults. -/

namespace Sys2Proof.Machine

/-- EVIN channel `n`. -/
def Dev.evin (d : Dev) (n : Nat) : EvinSt := Sparse.get (fun _ => {}) d.evins n

/-- Change EVIN channel `n`. -/
def Dev.setEvin (d : Dev) (n : Nat) (f : EvinSt → EvinSt) : Dev :=
  { d with evins := Sparse.set (fun _ => {}) d.evins n (f (d.evin n)) }

/-! ## FIFOs and their events (R281 to R283) -/

/-- Report the fills of a channel; a stamp FIFO that rises to its watermark raises its group's event (R283). -/
def refreshFifo (n : Nat) (d : Dev) : Dev :=
  let e := d.evin n
  let mask := d.rdN Obj.EvinReadyMask
  let full := decide (d.rdN (inst Obj.EvinFifoWatermark n) ≤ e.fifo.length)
  let mask' := setBit (setBit mask n full) (16 + n) (!e.results.isEmpty)
  let d := d.wrs [(inst Obj.EvinFifoFill n, e.fifo.length), (inst Obj.EvinResultCount n, e.results.length),
    (Obj.EvinReadyMask, mask')]
  d.when (full && !bit mask n) (·.raise (38 + n / 4))

/-- The 16 bytes of a stamp record (R268). -/
def StampRec.bytes (r : StampRec) (n : Nat) : List Byte := timeBytes r.t ++ leBytes 1 r.flags ++ leBytes 1 n ++ leBytes 2 r.seq

/-- An empty record: CHANNEL 0xFF (R268). -/
def emptyRecord : List Byte := List.replicate 13 0 ++ [0xFF, 0, 0]

/-- EVIN_STAMP_READ: the oldest four records leave the FIFO; the object holds what the read returned (R281). -/
def stampRead (n : Nat) (d : Dev) : Dev :=
  let rs := (d.evin n).fifo.take 4
  let bs := (rs.map fun r => r.bytes n).flatten ++ (List.replicate (4 - rs.length) emptyRecord).flatten
  refreshFifo n ((d.wrV (inst Obj.EvinStampRead n) (.oct bs)).setEvin n fun e => { e with fifo := e.fifo.drop 4 })

/-- The 16-byte header of a result record (R274). -/
def ResultRec.header (r : ResultRec) : List Byte :=
  timeBytes r.start ++ leBytes 1 r.stops.length ++ leBytes 1 r.flags ++ leBytes 2 r.mseq

/-- Put a result record into the read window of a channel (R282). -/
def Dev.window_ (d : Dev) (n : Nat) (header : List Byte) (stops : List Int) : Dev :=
  let iv := ((stops ++ List.replicate 32 0).take 32).map fun v => leBytes 8 (toField 64 v)
  let part (i : Nat) : Val := .oct ((iv.drop (8 * i)).take 8).flatten
  ((((d.wrV (inst Obj.EvinResultHeader n) (.oct header)).wrV (inst Obj.EvinResultStops1 n) (part 0)).wrV
    (inst Obj.EvinResultStops2 n) (part 1)).wrV (inst Obj.EvinResultStops3 n) (part 2)).wrV (inst Obj.EvinResultStops4 n) (part 3)

/-- EVIN_RESULT_HEADER_READ: the oldest result record moves to the read window; an empty FIFO gives an empty window
(R282). -/
def resultRead (n : Nat) (d : Dev) : Dev :=
  match (d.evin n).results with
  | [] => d.window_ n (List.replicate 16 0) []
  | r :: rest => refreshFifo n ((d.window_ n r.header r.stops).setEvin n fun e => { e with results := rest })

/-! ## Events of a channel -/

/-- Raise an event of a channel with its cause. -/
def Dev.evinEvent (d : Dev) (n ev : Nat) (cause : Int) : Dev := (d.wr (inst Obj.EvinEventCause n) cause).raise ev

/-! ## Start/multi-stop mode (R271 to R276) -/

/-- The base a channel stamps in: 0 network, 1 MREF, none where it accepts no edge (R258, R261). -/
def Dev.baseNow (d : Dev) (n : Nat) : Option Nat :=
  if d.rd (inst Obj.EvinBase n) == 0 then some 0
  else if d.on .mref 0 && d.rdB Obj.MrefPresent then some 1
  else if d.rd Obj.MrefFallback == 1 then some 0
  else none

/-- A measurement closes and its record is stored (R272, R274). -/
def Dev.closeMeas (d : Dev) (n : Nat) (m : MeasSt) (at_ : Int) : Dev :=
  let mseq := ((d.evin n).mseq + 1) % 65536
  let r : ResultRec := { start := m.start, stops := m.stops, flags := m.flags, mseq := mseq }
  let d := d.setEvin n fun e =>
    { e with meas := none, closed := some at_, mseq := mseq, results := e.results ++ [r] }
  (refreshFifo n d).raise (38 + n / 4)

/-- MEASUREMENT_TIMEOUT: EvinTimeout has elapsed since the start (R272, R275). -/
def measTimeout (n : Nat) (d : Dev) : Dev :=
  match (d.evin n).meas with
  | none => d
  | some m =>
    let end_ := m.start + m.steps + d.rd (inst Obj.EvinTimeout n) * nsT
    let d := d.when (!bit m.flags 1) (·.until end_)
    let d := d.closeMeas n { m with flags := setBit m.flags 0 true } end_
    (d.inc (inst Obj.EvinTimeoutCount n)).evinEvent n 42 1

/-- A measurement whose time had run out before an instant has closed by then (R272). -/
def Dev.lapse (d : Dev) (n : Nat) (t : Int) : Dev :=
  match (d.evin n).meas with
  | some m => d.when (decide (d.rd (inst Obj.EvinTimeout n) * nsT < t - m.start - m.steps)) (measTimeout n)
  | none => d

/-- A start reaches a channel (R271, R272, R274). -/
def Dev.evinStart (d : Dev) (n : Nat) (t : Int) (flags : Nat) (internal : Bool) : Dev :=
  let d := d.lapse n t
  let e := d.evin n
  if e.meas.isSome then d.inc (inst Obj.EvinStartIgnoredCount n)
  else if 64 ≤ e.results.length then d.inc (inst Obj.EvinOverflowCount n)
  else
    let early := match e.closed with
      | some c => decide (t < c + 8 * nsT)
      | none => false
    if early then d
    else d.setEvin n fun e => { e with meas := some { start := t, flags := setBit flags 6 internal } }

/-- A stop reaches a channel (R272, R273): it counts at or after the start. Traced needs every stamp traced; holding and
the factory table show if any stamp has them. -/
def Dev.evinStop (d : Dev) (n : Nat) (t : Int) (flags : Nat) : Dev :=
  let d := d.lapse n t
  match (d.evin n).meas with
  | none => d
  | some m =>
    let u := t - m.start - m.steps
    if u < 0 then d
    else
      let f := setBit (setBit (setBit m.flags 2 (bit m.flags 2 && bit flags 2)) 3 (bit m.flags 3 || bit flags 3)) 7
        (bit m.flags 7 || bit flags 7)
      let m := { m with stops := m.stops ++ [u], flags := f }
      if d.rdN (inst Obj.EvinStopLimit n) ≤ m.stops.length then d.closeMeas n m t
      else d.setEvin n fun e => { e with meas := some m }

/-- An open measurement is abandoned (R276). That closes it too, so that the next start is 8 ns away (R272); the MREF scale
has no instant for a close without a stamp. -/
def Dev.abandonMeas (d : Dev) (n : Nat) (cause : Int) : Dev :=
  if (d.evin n).meas.isSome then
    let at_ := if d.baseNow n == some 1 then none else some d.now
    (d.setEvin n fun e => { e with meas := none, closed := at_ }).evinEvent n 42 cause
  else d

/-! ## Frequency gates (R277 to R279) -/

/-- Add a stamp to the sums of a gate (R278). -/
def GateSt.add (g : GateSt) (t : Int) (index : Nat) (flags : Nat) : GateSt :=
  if 2 ^ 24 ≤ g.count then g
  else
    let t0 := g.t0.getD t
    let i0 := if g.t0.isNone then index else g.i0
    let steps := if g.t0.isNone then 0 else g.steps
    let n : Int := (index : Int) - i0
    let u := t - t0 - steps
    { g with t0 := some t0, i0 := i0, steps := steps, count := g.count + 1, sn := g.sn + n, snn := g.snn + n * n,
             su := g.su + u, snu := g.snu + n * u, suu := g.suu + u * u, last := u,
             holding := g.holding || bit flags 3, traced := g.traced && bit flags 2 }

/-- The square root of a quotient, rounded as `Config.roundsUp` says. -/
def rootQuot (num : Int) (den : Nat) : Int :=
  let r := isqrt (num.toNat / den)
  r + (if r * r * den != num.toNat && Config.roundsUp num den then 1 else 0)

/-- The flags of a gate (R279). -/
def GateSt.flagBits (g : GateSt) : Nat :=
  ofBool g.dead + 8 * ofBool g.holding + 16 * ofBool g.traced + (if g.count < 3 then 32 else 0)

/-- Publish the results of a gate (R278, R279). -/
def Dev.publishGate (d : Dev) (n : Nat) (g : GateSt) : Dev :=
  let k : Int := g.count
  let dd := k * g.snn - g.sn * g.sn
  let a := k * g.snu - g.sn * g.su
  let f := d.rd (inst Obj.EvinFreqNominal n)
  let pn := d.rd (inst Obj.EvinPrescale n) * secT
  let x := dd * (k * g.suu - g.su * g.su) - a * a
  let offset := quot Config.roundsUp ((pn * dd - f * a) * 2 ^ 48) (f * a).toNat
  let stdErr := rootQuot (pn * pn * dd * dd * x * 2 ^ 96) (f * f * a * a * a * a * (k - 2)).toNat
  let rms := rootQuot (x * 10 ^ 12) (2 ^ 32 * k * dd * (k - 2)).toNat
  d.wrs [(inst Obj.EvinFreqOffset n, clampI (-2 ^ 63) (2 ^ 63 - 1) offset),
    (inst Obj.EvinFreqStdError n, clampI 0 (2 ^ 63 - 1) stdErr), (inst Obj.EvinFreqResidualRms n, clampI 0 (2 ^ 32 - 1) rms),
    (inst Obj.EvinFreqStampCount n, k), (inst Obj.EvinFreqGateStart n, g.t0.getD 0), (inst Obj.EvinFreqGateActual n, g.last)]

/-- When a gate has its length (R277). -/
def Dev.gateEnd (d : Dev) (n : Nat) (g : GateSt) : Int := g.opened + d.rd (inst Obj.EvinFreqGateLength n) * (1000000 * nsT)

/-- FREQ_GATE_CLOSE: a gate has its length or 2^24 stamps (R277, R279). In continuous fits the next gate starts there. -/
def gateClose (n : Nat) (d : Dev) : Dev :=
  match (d.evin n).gate with
  | none => d
  | some g =>
    let early := decide (2 ^ 24 ≤ g.count)
    let next := if early then d.now else d.gateEnd n g
    let d := d.until next
    let g := { g with holding := g.holding || d.rd Obj.SteeredSynthState != 1 }
    let d := d.when (decide (3 ≤ g.count)) (·.publishGate n g)
    let d := (d.inc (inst Obj.EvinFreqGateCount n)).wr (inst Obj.EvinFreqFlags n) (g.flagBits + 2 * ofBool early : Nat)
    let again := (d.evin n).fit == 2
    let d := d.setEvin n fun e => { e with gate := if again then some { opened := next } else none, fit := if again then 2 else 0 }
    let d := d.when (!again) fun d => d.wr (inst Obj.EvinFreqCmd n) 0
    d.evinEvent n 43 (if early then 7 else 6)

/-- The fit of a channel ends: no gate is open, and none is asked for. -/
def Dev.fitEnds (d : Dev) (n : Nat) : Dev :=
  d.when ((d.evin n).fit != 0) fun d => (d.wr (inst Obj.EvinFreqCmd n) 0).setEvin n fun e => { e with gate := none, fit := 0 }

/-- An open gate is abandoned: the results stay (R279). A fit of one gate is over; one of continuous gates goes on with a gate
from the next boundary, unless it is stopped (log entry 55). -/
def Dev.abandonGate (d : Dev) (n : Nat) : Dev :=
  match (d.evin n).gate with
  | none => d
  | some g =>
    let d := (d.setEvin n fun e => { e with gate := none }).when ((d.evin n).fit == 1) (·.fitEnds n)
    (d.wr (inst Obj.EvinFreqFlags n) (g.flagBits + 4 : Nat)).evinEvent n 43 8

/-- A frequency command 1 or 2: a gate opens at the next boundary; refused in start/multi-stop mode (R277, R287). -/
def gateRequest (n k : Nat) (d : Dev) : Dev :=
  if d.rd (inst Obj.EvinMode n) == 1 then d.wr (inst Obj.EvinFreqCmd n) 0x80
  else (d.wr (inst Obj.EvinFreqCmd n) k).setEvin n fun e => { e with fit := k }

/-- FREQ_GATE_STOP: the fit stops, an open gate is abandoned (R277). -/
def gateStop (n : Nat) (d : Dev) : Dev :=
  if d.rd (inst Obj.EvinMode n) == 1 then d.wr (inst Obj.EvinFreqCmd n) 0x80
  else ((d.wr (inst Obj.EvinFreqCmd n) 0).abandonGate n).fitEnds n

/-- A requested gate opens at the boundary (R277); one that is open notes a steered synth that is not LOCKED (R279). -/
def gateOpens (n : Nat) (d : Dev) : Dev :=
  let unlocked := d.rd Obj.SteeredSynthState != 1
  let d := d.setEvin n fun e => { e with gate := e.gate.map fun g => { g with holding := g.holding || unlocked } }
  let e := d.evin n
  let now := d.boundaryTime (d.rdN Obj.TurnNumber)
  d.when (e.fit != 0 && e.gate.isNone && d.on .evin n) fun d => d.setEvin n fun e => { e with gate := some { opened := now } }

/-! ## Stamps (R262 to R269) -/

/-- The delay lines of a target's channel or whorl: both slopes of a channel share them (R299). -/
def calGroup (id : Nat) : Nat := if id < 32 then id % 16 else id

/-- Line b of a target serves (R299). -/
def Dev.servesB (d : Dev) (id : Nat) : Bool := d.cal.lineB.contains (calGroup id)

/-- The number of a delay line of a target, in OTP and among the calibrated tables. -/
def lineKey (id : Nat) (b : Bool) : Nat := if b then id + 128 else id

/-- The calibrated table of a target's serving line, if one is in force (R292, R299). -/
def Dev.binTab (d : Dev) (id : Nat) : Option BinTab :=
  if d.rdB Obj.CalUseFactory then none else Sparse.get (fun _ => none) d.cal.tables (lineKey id (d.servesB id))

/-- A bin centre in force, in 1/16 ps (R292, R311). -/
def Dev.calCentre (d : Dev) (id k : Nat) : Nat :=
  match d.binTab id with
  | some t => t.centres.getD k 0
  | none => Config.otpBin (lineKey id (d.servesB id)) k

/-- The target of a slope of a channel (R291). -/
def slopeTarget (n : Nat) (rising : Bool) : Nat := if rising then n else 16 + n

/-- The factory table is in force for a slope of a channel (R268, R292). -/
def Dev.factoryBins (d : Dev) (n : Nat) (rising : Bool) : Bool := (d.binTab (slopeTarget n rising)).isNone

/-- A bin centre in force for a slope of a channel, in 1/16 ps (R262, R263). -/
def Dev.binCentre (d : Dev) (n : Nat) (rising : Bool) (tap : Nat) : Nat := d.calCentre (slopeTarget n rising) tap

/-- A stamp of the network base is traced (R264). -/
def Dev.tracedNow (d : Dev) : Bool := d.rdB Obj.TimeValid && d.spindleState == 2

/-- FLAGS [0] to [3] and [5] of a stamp taken now (R268). -/
def Dev.stampFlags (d : Dev) (n : Nat) (rising : Bool) (base : Nat) : Nat :=
  ofBool (!rising) + 2 * base + 4 * ofBool (if base = 1 then d.rdB Obj.MrefTraced else d.tracedNow)
    + 8 * ofBool (d.rd Obj.SteeredSynthState != 1) + 32 * ofBool (d.factoryBins n rising)

/-- A gate of the network base has its length before an instant: it has closed by then (R277). -/
def Dev.gateLapse (d : Dev) (n : Nat) (t : Int) : Dev :=
  match (d.evin n).gate with
  | some g => d.when (decide (d.gateEnd n g ≤ t)) (gateClose n)
  | none => d

/-- A stamp of stamp mode is delivered to the FIFO and to the regression, unless the front-end buffer is full (R267,
R268, R277). -/
def Dev.deliverStamp (d : Dev) (n : Nat) (t : Int) (flags index seq : Nat) : Dev :=
  let d := d.when (!bit flags 1) (·.gateLapse n t)
  let e := d.evin n
  if e.busy - t > 31 * 8 * nsT then
    (d.inc (inst Obj.EvinOverflowCount n)).setEvin n fun e => { e with lost := true }
  else
    let r : StampRec := { t := t, seq := seq,
                          flags := flags + 16 * ofBool e.discont + 64 * ofBool e.lost + 128 * ofBool e.turned }
    let excess := decide (1024 ≤ e.fifo.length)
    let d := d.setEvin n fun e =>
      { e with busy := max e.busy t + 8 * nsT, discont := false, turned := false, lost := excess,
               fifo := if excess then e.fifo else e.fifo ++ [r],
               gate := e.gate.map fun g => if bit flags 1 || decide (g.opened ≤ t) then g.add t index flags else g }
    refreshFifo n (d.when excess (·.inc (inst Obj.EvinOverflowCount n)))

/-- A stamp in its base goes where it is for. -/
def Dev.useStamp (d : Dev) (n : Nat) (t : Int) (flags : Nat) (use : StampUse) : Dev :=
  match use with
  | .stamp index seq => d.deliverStamp n t flags index seq
  | .start internal => d.evinStart n t flags internal
  | .stop => d.evinStop n t flags

/-- A stamp taken in the network base, in thousandths of 2^-16 ns, is rounded and used, or waits for its conversion (R262). -/
def Dev.takeStamp (d : Dev) (n : Nat) (base : Nat) (t : Int) (flags : Nat) (use : StampUse) : Dev :=
  if base = 1 then d.setEvin n fun e => { e with waits := e.waits ++ [{ t := t, flags := flags, use := use }] }
  else d.useStamp n (nearest t 1000) flags use

/-- A start, in thousandths of 2^-16 ns, reaches every channel in start/multi-stop mode whose start source it is (R271). -/
def Dev.startsFrom (d : Dev) (source : Nat) (slope : Option Bool) (t : Int) (factory internal : Bool) : Dev :=
  d.forEach (fun c d =>
    let wanted := d.on .evin c && d.rd (inst Obj.EvinMode c) == 1 && d.rdN (inst Obj.EvinStartSource c) == source
      && (match slope with
          | some r => (d.rd (inst Obj.EvinStartSlope c) == 1) == r
          | none => true)
    match wanted, d.baseNow c with
    | true, some base =>
      d.takeStamp c base t (setBit (setBit (d.stampFlags c true base) 5 false) 7 factory) (.start internal)
    | _, _ => d) (List.range 16)

/-- The comparator of a channel is inverted: a swapped pair of a differential input is corrected (R256). -/
def Dev.turnedOver (d : Dev) (n : Nat) : Bool := (d.evin n).inverted && d.rd (inst Obj.EvinInputType n) == 1

/-- An edge within the blank of a test pull is lost and counted (R255). -/
def Dev.edgeBlanked (d : Dev) (n : Nat) (tc : Int) : Dev :=
  (((d.until tc).inc (inst Obj.EvinDeadTimeLossCount n)).counted 1 0x08 n 1).setEvin n fun e => { e with lost := true }

/-- The threshold of a channel in steps of 1.25 mV, to which it is rounded (R250). -/
def Dev.thresholdSteps (d : Dev) (n : Nat) : Int := nearest (d.rd (inst Obj.EvinThreshold n) * 4) 5

/-- An edge that the comparator of a channel reports (R262, R266, R267, R271). -/
def evinEdge (n : Nat) (rising : Bool) (tc : Int) (tap : Nat) (d : Dev) : Dev :=
  if !d.on .evin n then d
  else
    let d := d.until tc
    let e := d.evin n
    let rising := rising != d.turnedOver n
    let f := d.binCentre n rising tap
    let crossed := tc - nearest (f * 4096) 1000
    let delays := Config.inputDelay n rising (d.thresholdSteps n) + d.rd (inst Obj.EvinDelayComp n)
    let t := tc * 1000 - f * 4096 - delays * 1000
    let slope := d.rd (inst Obj.EvinSlope n)
    let accepted := slope == 3 || (slope == 1) == rising
    let dead := match e.lastEdge with
      | some l => decide (crossed - l < 3 * nsT)
      | none => false
    let d := d.setEvin n fun e => { e with lastEdge := some crossed }
    match d.baseNow n with
    | none => d.inc (inst Obj.EvinOverflowCount n)
    | some base =>
      if dead then
        ((d.inc (inst Obj.EvinDeadTimeLossCount n)).counted 1 0x08 n 1).setEvin n fun e =>
          { e with lost := true, gate := e.gate.map fun g => { g with dead := true },
                   meas := if accepted then e.meas.map fun m => { m with flags := setBit m.flags 5 true } else e.meas }
      else
        let flags := d.stampFlags n rising base
        let d := d.startsFrom n (some rising) t (d.factoryBins n rising) false
        if !accepted then d
        else if d.rd (inst Obj.EvinMode n) == 1 then
          let d := (d.inc (inst Obj.EvinStampCount n)).counted 1 0x07 n 1
          d.takeStamp n base t (setBit flags 7 (bit flags 5) - 32 * ofBool (bit flags 5)) .stop
        else
          let count := (d.evin n).edges + 1
          let d := d.setEvin n fun e => { e with edges := count }
          let pre := max (d.rdN (inst Obj.EvinPrescale n)) 1
          if count % pre != 0 then d
          else
            let seq := ((d.evin n).seq + 1) % 65536
            let d := ((d.inc (inst Obj.EvinStampCount n)).counted 1 0x07 n 1).setEvin n fun e => { e with seq := seq }
            d.takeStamp n base t flags (.stamp (count / pre) seq)

/-! ## MREF_IN (R259 to R262) -/

/-- MREF_STAMP_CONVERSION: the oldest stamp that waits is put on the MREF scale by the line through the 64 edges around it
and delivered (R262). The line through points (i, y_i) is taken exactly: with S the sums over the points and D their
determinant, edge j lies at ((Sy Sxx - Sx Sxy) + x_j (N Sxy - Sx Sy)) / D and the period is (N Sxy - Sx Sy) / D. -/
def mrefConvert (n j : Nat) (before after : List Int) (d : Dev) : Dev :=
  match (d.evin n).waits with
  | [] => d
  | w :: rest =>
    let d := d.setEvin n fun e => { e with waits := rest }
    let ys := before ++ after
    let k : Int := ys.length
    let xs : List Int := (List.range ys.length).map Int.ofNat
    let sx := xs.sum
    let sy := ys.sum
    let sxx := (xs.map fun x => x * x).sum
    let sxy := ((xs.zip ys).map fun p => p.1 * p.2).sum
    let dd := k * sxx - sx * sx
    let slope := k * sxy - sx * sy
    let edge := (sy * sxx - sx * sxy) + ((before.length : Int) - 1) * slope
    let nominal : Int := if d.rd Obj.MrefFrequency == 0 then 100 * nsT else 10 * nsT
    if slope ≤ 0 then d
    else
      let t := d.rd Obj.MrefEpoch + j * nominal + nearest ((w.t * dd - 1000 * edge) * nominal) (1000 * slope.toNat)
      d.useStamp n t w.flags w.use

/-- MREF_PRESENT: a new epoch is taken (R259, R260, R261). -/
def mrefPresent (epoch : Int) (d : Dev) : Dev :=
  if !d.on .mref 0 || d.rdB Obj.MrefPresent then d
  else
    let d := (d.wrs [(Obj.MrefPresent, 1), (Obj.MrefEpoch, epoch), (Obj.MrefTraced, ofBool d.tracedNow)]).inc
      Obj.MrefPresenceChangeCount
    let d := d.raise 44
    d.forEach (fun n d => d.when (d.rd (inst Obj.EvinBase n) == 1) fun d => d.setEvin n fun e => { e with discont := true })
      (List.range 16)

/-- MREF_ABSENT: measurements and gates of the MREF base are abandoned, and stamps that wait are lost (R259, R276, R279). -/
def mrefAbsent (d : Dev) : Dev :=
  if !d.rdB Obj.MrefPresent then d
  else
    let d := ((d.wrs [(Obj.MrefPresent, 0), (Obj.MrefTraced, 0)]).inc Obj.MrefPresenceChangeCount).raise 44
    d.forEach (fun n d => d.when (d.rd (inst Obj.EvinBase n) == 1) fun d =>
      let lost := (d.evin n).waits.length
      let d := (d.add32 (inst Obj.EvinOverflowCount n) lost).setEvin n fun e =>
        { e with waits := [], lost := e.lost || decide (0 < lost) }
      (d.abandonMeas n 3).abandonGate n) (List.range 16)

/-! ## Pin faults (R255, R256) -/

/-- EVIN_PIN_FAULT: a fault is detected or clears on an ENABLED channel; an open is seen with termination 0 or 2 (R255). A swapped
pair clears by its own test (R256). -/
def pinFault (n status : Nat) (d : Dev) : Dev :=
  let now := d.rdN (inst Obj.EvinPinStatus n)
  if !d.on .evin n || now == status || (status == 0 && 4 ≤ now) || (status == 1 && d.rd (inst Obj.EvinTermination n) == 1) then d
  else
    let d := d.wr (inst Obj.EvinPinStatus n) status
    if status == 0 then d.raise 59 else d.evinEvent n 59 4

/-- EVIN_SWAP_CHECK: the idle level test of a second with at least two accepted edges (R256). -/
def swapCheck (n edges high : Nat) (d : Dev) : Dev :=
  let idle := d.rdN (inst Obj.EvinIdleLevel n)
  if !d.on .evin n || d.rd (inst Obj.EvinInputType n) != 1 || 2 ≤ idle || edges < 2 then d
  else
    let opposite := if idle == 0 then high else 1000000000 - high
    let swapped := decide (900000000 < opposite)
    let corrects := d.rdB (inst Obj.EvinSwapCorrect n)
    let was := d.rdN (inst Obj.EvinPinStatus n)
    let now := if swapped then (if corrects then 4 else 5) else 0
    if (was == 4 || was == 5 || swapped) && was != now then
      let d := (d.wr (inst Obj.EvinPinStatus n) now).setEvin n fun e => { e with invertNext := swapped && corrects }
      if swapped then d.evinEvent n 59 4 else d.raise 59
    else d

/-- An inversion ordered takes effect at the boundary (R256). -/
def inversionBoundary (n : Nat) (d : Dev) : Dev :=
  let e := d.evin n
  if e.inverted == e.invertNext then d
  else d.setEvin n fun e => { e with inverted := e.invertNext, turned := true }

/-! ## Enabling, disabling and steps -/

/-- An enable command of a channel is not refused (R250, R253, R254). -/
def Dev.evinMayEnable (d : Dev) (n : Nat) : Bool :=
  let diff := d.rd (inst Obj.EvinInputType n) == 1
  let term := d.rd (inst Obj.EvinTermination n)
  let thr := d.rd (inst Obj.EvinThreshold n)
  let slope := d.rd (inst Obj.EvinSlope n)
  (term != 1 || !diff) && (term != 2 || diff)
    && (if diff then decide (-1000 ≤ thr) && decide (thr ≤ 1000) else decide (-2000 ≤ thr) && decide (thr ≤ 3000))
    && !(d.rd (inst Obj.EvinMode n) == 1 && d.rdN (inst Obj.EvinStartSource n) == n
        && (slope == 3 || slope == d.rd (inst Obj.EvinStartSlope n)))

/-- A channel enters ENABLED: its FIFOs, window and results are cleared and SEQ and MSEQ restart (R284). An inversion stays
until the test fails (R256). -/
def evinStarts (n : Nat) (d : Dev) : Dev :=
  let d := d.setEvin n fun e => { inverted := e.inverted, invertNext := e.invertNext }
  let d := d.wrs [(inst Obj.EvinStampCount n, 0), (inst Obj.EvinFreqOffset n, 0), (inst Obj.EvinFreqStdError n, 0),
    (inst Obj.EvinFreqResidualRms n, 0), (inst Obj.EvinFreqStampCount n, 0), (inst Obj.EvinFreqGateStart n, 0),
    (inst Obj.EvinFreqGateActual n, 0), (inst Obj.EvinFreqFlags n, 0), (inst Obj.EvinFreqCmd n, 0)]
  refreshFifo n (d.window_ n (List.replicate 16 0) [])

/-- A channel leaves ENABLED: its measurement and gate are abandoned, and those that start from it (R26, R276, R279). -/
def evinStops (n : Nat) (cause : Int) (d : Dev) : Dev :=
  let d := (((d.abandonMeas n cause).abandonGate n).fitEnds n).setEvin n fun e => { e with waits := [] }
  d.forEach (fun c d =>
    d.when (d.rd (inst Obj.EvinMode c) == 1 && d.rdN (inst Obj.EvinStartSource c) == n && c != n) fun d => d.abandonMeas c 5)
    (List.range 16)

/-- A step meets a channel (R273, R278, R285). The MREF scale has no step (R260), so none is removed from its intervals. -/
def stepMeetsEvin (amount : Int) (n : Nat) (d : Dev) : Dev :=
  if d.baseNow n == some 1 then d.setEvin n fun e =>
    { e with discont := true, lastEdge := e.lastEdge.map (· + amount),
             gate := e.gate.map fun g => { g with opened := g.opened + amount } }
  else d.setEvin n fun e =>
    { e with discont := true, lastEdge := e.lastEdge.map (· + amount), busy := e.busy + amount,
             closed := e.closed.map (· + amount),
             meas := e.meas.map fun m => { m with steps := m.steps + amount, flags := setBit m.flags 4 true },
             gate := e.gate.map fun g => { g with steps := g.steps + amount, opened := g.opened + amount } }

/-- A device-level fault discards open measurements and gates without events; the next stamp shows the gap (R285). -/
def faultMeetsEvin (n : Nat) (d : Dev) : Dev :=
  (d.fitEnds n).setEvin n fun e => { e with meas := none, gate := none, waits := [], discont := true }

/-- PULSE_RISING_EDGE: a pulse that is driven starts the measurements it is the source of (R232, R271). -/
def pulseRising (n : Nat) (t : Int) (d : Dev) : Dev :=
  match pulseRise n t d with
  | (d, some at_) => d.startsFrom (16 + n) none (at_ * 1000) false true
  | (d, none) => d

/-! ## Meanings -/

/-- PULSE_RISING_EDGE (R232). -/
def execPulseRisingEdge (n : Fin 16) (t : Int) (s : State) : Host.Outcome State Fault Refusal := s.effect (pulseRising n t)

/-- EVIN_EDGE: an edge at a channel, or one that the blank of a test pull hides (R255, R262). -/
def execEvinEdge (n : Evin) (rising : Bool) (tc : Int) (tap : Fin 128) (blanked : Bool) (s : State) :
    Host.Outcome State Fault Refusal :=
  s.effect fun d => if blanked && d.on .evin n then d.edgeBlanked n tc else evinEdge n rising tc tap d

/-- MREF_STAMP_CONVERSION (R262). -/
def execMrefStampConversion (n : Evin) (j : Nat) (before after : List Int) (s : State) : Host.Outcome State Fault Refusal :=
  s.effect (mrefConvert n j before after)

/-- MEASUREMENT_TIMEOUT (R275). -/
def execMeasurementTimeout (n : Evin) (s : State) : Host.Outcome State Fault Refusal := s.effect (measTimeout n)

/-- EVIN_PIN_FAULT (R255). -/
def execEvinPinFault (n : Evin) (status : Fin 4) (s : State) : Host.Outcome State Fault Refusal :=
  s.effect (pinFault n status)

/-- EVIN_SWAP_CHECK (R256). -/
def execEvinSwapCheck (n : Evin) (edges high : Nat) (s : State) : Host.Outcome State Fault Refusal :=
  s.effect (swapCheck n edges high)

/-- MREF_PRESENT (R259, R260). -/
def execMrefPresent (epoch : Int) (s : State) : Host.Outcome State Fault Refusal := s.effect (mrefPresent epoch)

/-- MREF_ABSENT (R259). -/
def execMrefAbsent (s : State) : Host.Outcome State Fault Refusal := s.effect mrefAbsent

/-- FREQ_GATE_ONE (R277). -/
def execFreqGateOne (n : Evin) (s : State) : Host.Outcome State Fault Refusal := s.effect (gateRequest n 1)

/-- FREQ_GATE_CONTINUOUS (R277). -/
def execFreqGateContinuous (n : Evin) (s : State) : Host.Outcome State Fault Refusal := s.effect (gateRequest n 2)

/-- FREQ_GATE_STOP (R277). -/
def execFreqGateStop (n : Evin) (s : State) : Host.Outcome State Fault Refusal := s.effect (gateStop n)

/-- FREQ_GATE_CLOSE (R279). -/
def execFreqGateClose (n : Evin) (s : State) : Host.Outcome State Fault Refusal := s.effect (gateClose n)

/-- EVIN_STAMP_READ (R281). -/
def execEvinStampRead (n : Evin) (s : State) : Host.Outcome State Fault Refusal := s.effect (stampRead n)

/-- EVIN_RESULT_HEADER_READ (R282). -/
def execEvinResultHeaderRead (n : Evin) (s : State) : Host.Outcome State Fault Refusal := s.effect (resultRead n)

end Sys2Proof.Machine
end

