-- ==== Sys2Proof/Machine/Calibration.lean ====
section
/-! DEFINITION. Calibration and trimming (chapter 09). -/

namespace Sys2Proof.Machine

/-! ## Targets (R291, R307, R309) -/

/-- The order of evaluation: EVIN0 to EVIN15, rising before falling, then the whorls (R307). -/
def calOrder : List Nat :=
  ((List.range 16).map fun n => [n, 16 + n]).flatten ++ (List.range 48).map (32 + ·)

/-- CalStepTarget's form of a target (R309). -/
def calCode (id : Nat) : Nat := if id < 16 then 256 + id else if id < 32 then 512 + (id - 16) else 768 + (id - 32)

/-- The target that CalStepTarget names, if it is a bin table (R309). -/
def calOf (code : Nat) : Option Nat :=
  let n := code % 256
  match code / 256 with
  | 1 => if n < 16 then some n else none
  | 2 => if n < 16 then some (16 + n) else none
  | 3 => if n < 48 then some (32 + n) else none
  | _ => none

/-- The block of a target is ENABLED (R293). -/
def Dev.calOn (d : Dev) (id : Nat) : Bool := if id < 32 then d.on .evin (id % 16) else d.on .whorl (id - 32)

/-- A target is selected by the masks (R293). -/
def Dev.calSelected (d : Dev) (id : Nat) : Bool :=
  if id < 32 then bit (d.rdN Obj.CalEvinMask) (id % 16)
  else if id < 64 then bit (d.rdN Obj.CalWhorlMaskLow) (id - 32)
  else bit (d.rdN Obj.CalWhorlMaskHigh) (id - 64)

/-- The source mode of a target: 0 auto, 1 signal, 2 dither (R295). -/
def Dev.calMode (d : Dev) (id : Nat) : Int :=
  if id < 32 then d.rd (inst Obj.CalEvinSourceMode (id % 16)) else d.rd Obj.CalWhorlSourceMode

/-- The object that reports the source of a target's table: EvinBinSource is one for both slopes of a channel. -/
def calSourceKey (id : Nat) : Nat :=
  if id < 32 then inst Obj.EvinBinSource (id % 16) else inst Obj.WhorlBinSource (id - 32)

/-! ## Bin tables (R297 to R299) -/

/-- The bin centres of a histogram in 1/16 ps (R297). -/
def binTable (h : List Nat) (n : Nat) : List Nat :=
  let rec go : List Nat → Nat → List Nat
    | [], _ => []
    | x :: rest, below => (quot Config.roundsUp (32000 * (2 * below + x) : Nat) (2 * n)).toNat :: go rest (below + x)
  go h 0

/-- The cause for which a histogram is rejected, 0 for none (R298). -/
def Dev.binCheck (d : Dev) (id : Nat) (h1 h2 : List Nat) : Nat :=
  let h := (h1.zip h2).map fun p => p.1 + p.2
  let n := h.sum
  let need := if id < 32 then 2 ^ 20 else 2 ^ 18
  let table := binTable h n
  let moved (k c : Nat) : Bool :=
    decide (d.rd Obj.CalBinMaxShift * 1000 < ((c : Int) - d.calCentre id k).natAbs * 4096)
  if n < need || h.length != 128 then 1
  else if h.any fun x => decide (500 * x < n) || decide (n < 50 * x) then 2
  else if (h1.zip h2).any fun p => decide (36 * (p.1 + p.2) < ((p.1 : Int) - p.2).natAbs ^ 2) then 3
  else if table.zipIdx.any fun e => moved e.2 e.1 then 4
  else 0

/-- A rejection (R308). -/
def Dev.calReject (d : Dev) (code cause : Nat) : Dev :=
  ((d.inc Obj.CalRejectCount).wrs [(Obj.CalRejectCause, cause), (Obj.CalRejectTarget, code)]).raise 46

/-- Evaluate a target: its table if it passes (R297, R298). -/
def Dev.evaluate (d : Dev) (t : CalTarget) : Dev × Option TableDue :=
  match t.hist with
  | none => (d.calReject (calCode t.id) 1, none)
  | some (h1, h2) =>
    match d.binCheck t.id h1 h2 with
    | 0 =>
      let h := (h1.zip h2).map fun p => p.1 + p.2
      (d, some { id := t.id, lineB := t.lineB, table := binTable h h.sum, dither := t.dither })
    | cause => (d.calReject (calCode t.id) cause, none)

/-- A table commits at the boundary for the line it was measured on: the serving line where it comes from the signal; where it comes
from dither, the spare line, which becomes the serving line (R299). -/
def commitTable (t : TableDue) (d : Dev) : Dev :=
  let source : Nat := if t.dither then 2 else 1
  let g := calGroup t.id
  let others := d.cal.lineB.filter (· != g)
  let d := d.wr (calSourceKey t.id) source
  { d with cal := { d.cal with
      tables := Sparse.set (fun _ => none) d.cal.tables (lineKey t.id t.lineB) (some ⟨t.table, source⟩),
      lineB := if !t.dither then d.cal.lineB else if t.lineB then others ++ [g] else others } }

/-! ## The trim step (R306) -/

/-- The sum of the four sensors, in 0.1 °C. -/
def Dev.tempSum (d : Dev) : Int := ((List.range 4).map fun i => d.rd (inst Obj.DieTemperature i)).sum

/-- A delay in force from its calibrated value and its coefficient in fs/°C (R306). -/
def trimmed (delay coeff sum ref : Int) : Int := delay + quot Config.roundsUp (coeff * (sum - 4 * ref) * 65536) 40000000

/-- The value of a port's calibration object that is in force: with CalUseFactory the one in OTP (R292). -/
def Dev.calValue (d : Dev) (k : Nat) : Int := if d.rdB Obj.CalUseFactory then (objDefault k).toInt else d.rd k

/-- Trim the delays of a port (R292, R306). -/
def trimPort (p : Nat) (d : Dev) : Dev :=
  let sum := d.tempSum
  let ref := d.calValue (inst Obj.CalPortRefTemp p)
  d.wrs [(inst Obj.CalPortTxInForce p,
      trimmed (d.calValue (inst Obj.CalPortTxDelay p)) (d.calValue (inst Obj.CalPortTxTempCoeff p)) sum ref),
    (inst Obj.CalPortRxInForce p,
      trimmed (d.calValue (inst Obj.CalPortRxDelay p)) (d.calValue (inst Obj.CalPortRxTempCoeff p)) sum ref)]

/-- The trim step (R306). -/
def Dev.trim (d : Dev) : Dev := d.forEach trimPort (List.range 48)

/-! ## Runs (R305, R307, R308) -/

/-- A run is active. -/
def Dev.calActive (d : Dev) : Bool := d.cal.armed || d.cal.targets.isSome || d.cal.port.isSome

/-- The sequencer is ENABLED in hardware mode. -/
def Dev.calHere (d : Dev) : Bool := d.on .calSequencer 0 && !d.rdB Obj.ModeF4Calibration

/-- The sequencer is ENABLED and host-assisted. -/
def Dev.calHost (d : Dev) : Bool := d.on .calSequencer 0 && d.rdB Obj.ModeF4Calibration

/-- A run starts: the temperatures and the time are noted (R305). -/
def Dev.calBegins (d : Dev) : Dev :=
  let d := d.forEach (fun i d => d.wr (inst Obj.CalTempAtLastRun i) (d.rd (inst Obj.DieTemperature i))) (List.range 4)
  { d with cal := { d.cal with lastStart := some d.time.uptime } }

/-- Arm a bin run. -/
def Dev.armBinRun (d : Dev) : Dev :=
  let d := (d.wrs [(Obj.CalRunCmd, 1), (Obj.CalTriggerPending, 0)]).calBegins
  { d with cal := { d.cal with armed := true, due := false, repeated := false } }

/-- A port run no longer measures. -/
def Dev.unwatch (d : Dev) (r : PortRun) : Dev :=
  let d := (d.setLink r.port fun k => { k with cal := none }).setRefIn r.ref fun g => { g with calPulses := none }
  { d with ref := { d.ref with excluded := none } }

/-- Drop the run in progress without an event (R307, R310). -/
def Dev.dropRun (d : Dev) : Dev :=
  let d := match d.cal.port with
    | some r => (d.unwatch r).wr Obj.CalPortPhase 0
    | none => d
  { d.wr Obj.CalRunCmd 0 with
    cal := { d.cal with armed := false, targets := none, port := none, portCommit := false, repeated := false } }

/-- A run ends (R308). -/
def Dev.runEnds (d : Dev) : Dev := ((d.inc Obj.CalRunCount).wr Obj.CalLastRunTurn (d.rd Obj.TurnNumber)).raise 45

/-- The run in progress is abandoned with cause 8 (R31, R48, R310). -/
def Dev.abandonRun (d : Dev) : Dev :=
  if d.calActive || d.cal.host.isSome || d.cal.hostTable.isSome then
    let code := match d.cal.targets, d.cal.port with
      | some (t :: _), _ => calCode t.id
      | _, some r => 1024 + r.port
      | _, _ => 0
    let d := (d.calReject code 8).dropRun
    { d with cal := { d.cal with host := none, hostStep := 0, hostTable := none, hostDone := none } }
  else { d with cal := { d.cal with hostDone := none } }

/-- A host step is done (R309). -/
def Dev.hostStepDone (d : Dev) : Dev :=
  { d.wr Obj.CalStepStatus 2 with cal := { d.cal with hostDone := some d.turn.started } }

/-- CAL_BIN_RUN_CMD (R307): refused while a run is active, and while the sequencer takes no run of its own. -/
def binRunCmd (d : Dev) : Dev :=
  if d.calActive || !d.calHere then d.wr Obj.CalRunCmd 0x80 else d.armBinRun

/-- CAL_RUN_ABORT (R307). -/
def runAbort (d : Dev) : Dev := d.dropRun

/-- A target begins to collect: from the signal the codes of its serving line, from dither those of its spare line (R295). -/
def Dev.collects (d : Dev) (id : Nat) (dither : Bool) : CalTarget := { id := id, dither := dither, lineB := d.servesB id != dither }

/-- The targets of a bin run begin to collect (R293, R295, R307). -/
def Dev.startCollect (d : Dev) : List CalTarget :=
  (calOrder.filter fun id => d.calSelected id && d.calOn id).map fun id => d.collects id (d.calMode id == 2)

/-- Change the targets of the bin run in progress. -/
def Dev.mapTargets (d : Dev) (f : List CalTarget → List CalTarget) : Dev :=
  { d with cal := { d.cal with targets := Option.map f d.cal.targets } }

/-- HISTOGRAM_COMPLETE (R296). -/
def histogramComplete (id : Nat) (h1 h2 : List Nat) (d : Dev) : Dev :=
  let take (t : CalTarget) : CalTarget := if t.id == id && !t.failed then { t with hist := some (h1, h2) } else t
  let d := d.mapTargets fun ts => ts.map take
  match d.cal.host with
  | some t =>
    if t.id == id && t.hist.isNone then
      { d.wr Obj.CalStepStatus 2 with cal := { d.cal with host := some (take t), hostDone := some d.turn.started } }
    else d
  | none => d

/-- CAL_COLLECT_LIMIT_EXPIRY: in auto mode dither follows, else the target has too few hits (R295). -/
def collectExpiry (id : Nat) (d : Dev) : Dev :=
  let auto := d.calMode id == 0
  let late (t : CalTarget) : CalTarget :=
    if t.id == id && t.hist.isNone && !t.dither then (if auto then d.collects id true else { t with failed := true }) else t
  let d := d.mapTargets fun ts => ts.map late
  match d.cal.host with
  | some t =>
    if t.id == id && t.hist.isNone && !t.dither then
      { (d.wr Obj.CalStepStatus 3).calReject (calCode id) 1 with
        cal := { d.cal with host := none, hostDone := some d.turn.started } }
    else d
  | none => d

/-- A target whose block enters DISABLING is skipped, and a host step that collects from it has failed (R310). -/
def calTargetStops (id : Nat) (d : Dev) : Dev :=
  let d := d.mapTargets fun ts => ts.filter fun t => t.id != id || t.hist.isSome
  match d.cal.host with
  | some t =>
    if t.id == id && t.hist.isNone then
      { d.wr Obj.CalStepStatus 3 with cal := { d.cal with host := none, hostDone := some d.turn.started } }
    else d
  | none => d

/-! ## Port runs (R300 to R304) -/

/-- Every condition of R300 that the device sees holds. -/
def Dev.portRunAllowed (d : Dev) (p method : Nat) : Bool :=
  let r := d.rdN Obj.CalRefInput
  let q := d.rdN Obj.CalLoopPulse
  d.role p == 9 && d.linkState p == 3 && (method != 1 || (d.plyOf p).isNone)
    && d.on .refIn r && d.refMode r == 1
    && d.on .pulse q && d.rd (inst Obj.PulseMode q) == 1 && d.rd (inst Obj.PulsePeriod q) == secT
    && !d.rdB (inst Obj.ModeF0PtpEngine p)

/-- A port run begins with its loop phase (R301). -/
def Dev.portRunBegins (d : Dev) (p method : Nat) : Dev :=
  let r := d.rdN Obj.CalRefInput
  let run : PortRun :=
    { port := p, method := method, ref := r, pulse := d.rdN Obj.CalLoopPulse, seq0 := d.rdN (inst Obj.RefInPulseSeq r),
      locks0 := d.rdN (inst Obj.LinkRelockCount p), steps0 := d.rdN (inst Obj.PathStepCount p) }
  let d := (d.wr Obj.CalPortPhase 1).calBegins
  { d with cal := { d.cal with port := some run, repeated := false }, ref := { d.ref with excluded := some r } }

/-- CAL_PORT_RUN_CMD (R300). -/
def portRunCmd (d : Dev) : Dev :=
  let p := d.rdN Obj.CalPortSelect
  let m := d.rdN Obj.CalPortMethod
  if d.calActive || !d.calHere || !d.portRunAllowed p m then d.wr Obj.CalRunCmd 0x80
  else (d.wr Obj.CalRunCmd 2).portRunBegins p m

/-- A port run is rejected and ends (R303, R308). -/
def Dev.portReject (d : Dev) (r : PortRun) (cause : Nat) : Dev :=
  let d := ((d.calReject (1024 + r.port) cause).dropRun).runEnds
  d.when d.calHost fun d => { d.wr Obj.CalStepStatus 3 with cal := { d.cal with hostDone := some d.turn.started } }

/-- The port run's conditions are broken: the 1PPS in phases 1 and 3, TRACKING, a relock, a path step, or the steered synth
(R303, R310). -/
def Dev.portBroken (d : Dev) (r : PortRun) : Bool :=
  let ph := d.rd Obj.CalPortPhase
  ((ph == 1 || ph == 3) && !(d.on .refIn r.ref && (d.refIn r.ref).present)) || d.linkState r.port != 3
    || d.rdN (inst Obj.LinkRelockCount r.port) != r.locks0 || d.rdN (inst Obj.PathStepCount r.port) != r.steps0
    || d.rd Obj.SteeredSynthState != 1

/-- The standard deviation of a list, rounded as `Config.roundsUp` says. -/
def deviation (l : List Int) : Int :=
  let n : Int := l.length
  rootQuot (n * (l.map fun x => x * x).sum - l.sum * l.sum) (max (n * n).toNat 1)

/-- The mean of a list. -/
def mean (l : List Int) : Int := quot Config.roundsUp l.sum (max l.length 1)

/-- CAL_LOOP_PHASE_COMPLETE: sixteen looped pulses give d_loop (R301, R302, R303). -/
def loopComplete (d : Dev) : Dev :=
  match d.cal.port with
  | none => d
  | some r =>
    let ls := (d.refIn r.ref).pulses.map fun e =>
      wrapTo (e.2 - d.rd (inst Obj.PulseStart r.pulse) - d.rd (inst Obj.PulseMisalignment r.pulse)) secT
    if d.rd Obj.CalPortPhase != 1 || (d.rdN (inst Obj.RefInPulseSeq r.ref) + 2 ^ 32 - r.seq0) % 2 ^ 32 < 16 then d
    else if d.portBroken r then d.portReject r 5
    else
      let loop := mean ls
      let d := d.wr Obj.CalLoopDelay loop
      if d.rd Obj.CalPortSpreadLimit < deviation ls then d.portReject r 6
      else if loop < 0 || 1000 * nsT < loop then d.portReject r 7
      else
        let d := d.wr Obj.CalPortPhase 2
        d.when d.calHost fun d => d.hostStepDone

/-- The measuring phase begins (R301, R302). -/
def Dev.measuringBegins (d : Dev) (r : PortRun) : Dev :=
  let temps := (List.range 4).map fun i => d.rd (inst Obj.DieTemperature i)
  let d := (d.setLink r.port fun k => { k with cal := some {} }).setRefIn r.ref fun g => { g with calPulses := some [] }
  { d.wr Obj.CalPortPhase 3 with cal := { d.cal with port := some { r with temps := temps } } }

/-- CAL_PORT_NEXT_CMD (R301). -/
def portNext (d : Dev) : Dev :=
  match d.cal.port with
  | some r =>
    if d.rd Obj.CalPortPhase == 2 then (d.wr Obj.CalPortNextCmd 0).measuringBegins r else d.wr Obj.CalPortNextCmd 0x80
  | none => d.wr Obj.CalPortNextCmd 0x80

/-- What a temperature sample adds to the measuring phase (R302, R303). -/
def Dev.calTemps (d : Dev) : Dev :=
  match d.cal.port with
  | some r =>
    if d.rd Obj.CalPortPhase == 3 then
      let moved := (r.temps.zipIdx).any fun e =>
        decide (d.rd Obj.CalTempStep < 2 * (d.rd (inst Obj.DieTemperature e.2) - e.1).natAbs)
      { d with cal := { d.cal with port := some { r with warmed := r.warmed || moved, tempSum := r.tempSum + d.tempSum,
                                                         tempCount := r.tempCount + 4 } } }
    else d
  | none => d

/-- θ at a Sync, interpolated between the pulses around it: points are corrected stamps (R302). -/
def thetaAt (xs : List Int) (t2 : Int) : Option Int :=
  match xs with
  | a :: b :: rest =>
    if a ≤ t2 && t2 ≤ b && a < b then
      let th (x : Int) : Int := nearest x secT.toNat * secT - x
      some (th a + quot Config.roundsUp ((th b - th a) * (t2 - a)) (b - a).toNat)
    else thetaAt (b :: rest) t2
  | _ => none

/-- CAL_MEASURING_PHASE_COMPLETE (R302, R303). -/
def measuringComplete (d : Dev) : Dev :=
  match d.cal.port with
  | none => d
  | some r =>
    if d.rd Obj.CalPortPhase != 3 then d
    else if d.portBroken r then d.portReject r 5
    else
      let p := r.port
      let w := (d.link p).cal.getD {}
      let xs := ((d.refIn r.ref).calPulses.getD []).map fun s => s - d.rd Obj.CalLoopDelay - d.rd Obj.CalPpsCableDelta
      let tin := d.rd Obj.CalFibreDelayIn
      let out := d.rd Obj.CalFibreDelayOut
      let js : List Int := w.syncs.filterMap fun (t2, fwd, off) =>
        (thetaAt xs t2).map fun th => if r.method == 1 then fwd + th - tin else 2 * (off - th)
      let m := mean js
      let er := if r.method == 1 then m else -(quot Config.roundsUp js.sum (2 * max js.length 1))
      let et := if r.method == 1 then mean w.rts - tin - out - er else quot Config.roundsUp js.sum (2 * max js.length 1)
      let spread := deviation js
      let d := d.wrs [(Obj.CalPortErrTx, et), (Obj.CalPortErrRx, er), (Obj.CalPortSpread, spread)]
      let tx := d.rd (inst Obj.CalPortTxDelay p) + et
      let rx := d.rd (inst Obj.CalPortRxDelay p) + er
      let ok (v : Int) : Bool := decide (0 ≤ v) && decide (v ≤ 20 * nsT)
      let far (v : Int) : Bool := decide (d.rd Obj.CalPortMaxChange < v.natAbs)
      let syncNs := d.effectiveSyncTurns p * d.rdN Obj.TurnPeriod * 2
      let few := decide (10 * w.syncs.length * syncNs < 9 * d.rdN Obj.CalPortSeconds * 1000000000)
      if d.rd Obj.CalPortSpreadLimit < spread || few then d.portReject r 6
      else if !ok tx || !ok rx || far et || far er then d.portReject r 7
      else if r.warmed then d.portReject r 9
      else
        let temp := quot Config.roundsUp (if r.tempCount = 0 then d.tempSum else r.tempSum) (if r.tempCount = 0 then 4 else r.tempCount)
        let host := d.calHost
        let d := { d with cal := { d.cal with port := some { r with result := some (tx, rx, temp) }, portCommit := !host } }
        d.when host fun d => d.hostStepDone

/-- An accepted port result commits at the boundary; the line of the candidate's detector takes the shift of the link
offset, half the change of the receive delay less that of the transmit delay (R304). -/
def Dev.commitPort (d : Dev) : Dev :=
  match d.cal.portCommit, d.cal.port with
  | true, some r =>
    match r.result with
    | none => d
    | some (tx, rx, temp) =>
      let p := r.port
      let before := d.rd (inst Obj.CalPortRxInForce p) - d.rd (inst Obj.CalPortTxInForce p)
      let d := d.wrs [(inst Obj.CalPortTxDelay p, tx), (inst Obj.CalPortRxDelay p, rx), (inst Obj.CalPortRefTemp p, temp),
        (inst Obj.CalPortSource p, r.method), (inst Obj.CalPortLastTurn p, d.rd Obj.TurnNumber)]
      let d := d.trim
      let after := d.rd (inst Obj.CalPortRxInForce p) - d.rd (inst Obj.CalPortTxInForce p)
      let shift := quot Config.roundsUp (after - before) 2
      let d := d.setCand (4 + p) (·.shift shift)
      let host := d.calHost
      let d := ((d.dropRun).wr Obj.CalPortPhase 4).runEnds
      d.when host fun d => d.hostStepDone
  | _, _ => d

/-- What the boundary does for calibration: commits (R299, R304), and the start of a run that is due, of R293 or of a
trigger (R305). -/
def Dev.calBoundary (d : Dev) : Dev :=
  let ts := d.cal.commits
  let d := ({ d with cal := { d.cal with commits := [] } }).forEach (fun i d =>
    match ts[i]? with
    | some t => commitTable t d
    | none => d) (List.range ts.length)
  let d := d.commitPort
  let d := d.when (d.cal.hostStep == 4) fun d => ({ d with cal := { d.cal with hostStep := 0 } }).hostStepDone
  let rested := match d.cal.lastStart with
    | some t => decide (t + d.rdN Obj.CalMinInterval * 1000000000 ≤ d.time.uptime)
    | none => true
  let triggered := d.rdB Obj.CalTriggerPending && d.rdB Obj.CalAutoEnable && rested
  d.when (d.calHere && !d.calActive && (d.cal.due || triggered)) (·.armBinRun)

/-- CALIBRATION_STEP, work item 7 (R307, R309). -/
def calibrationStep (d : Dev) : Dev := d.workItem 7 fun d =>
  let d := { d with cal := { d.cal with repeated := false } }
  match d.cal.hostStep, d.cal.host with
  | 3, some t =>
    let (d, r) := d.evaluate t
    { d.wr Obj.CalStepStatus (if r.isSome then 2 else 3) with
      cal := { d.cal with hostStep := 0, host := none, hostTable := r, hostDone := some d.turn.started } }
  | 6, _ =>
    let d := d.trim
    { d.wr Obj.CalStepStatus 2 with cal := { d.cal with hostStep := 0, hostDone := some d.turn.started } }
  | _, _ =>
    if !d.on .calSequencer 0 then d
    else if d.cal.armed then
      let ts := d.startCollect
      { d with cal := { d.cal with armed := false, targets := some ts } }
    else match d.cal.targets, d.cal.port with
      | some ts, _ =>
        if ts.isEmpty then
          let d := d.trim
          ({ d.wr Obj.CalRunCmd 0 with cal := { d.cal with targets := none } }).runEnds
        else match ts.find? (fun t => t.hist.isSome || t.failed) with
          | some t =>
            let (d, r) := d.evaluate t
            { d with cal := { d.cal with targets := some (ts.filter (·.id != t.id)), commits := d.cal.commits ++ r.toList } }
          | none => d
      | none, some r => d.when (d.portBroken r && !d.cal.portCommit) fun d => d.portReject r 5
      | none, none => d

/-- Work item 7 overran: its step is repeated once, and a second overrun abandons the run (R48). -/
def Dev.calOverrun (d : Dev) : Dev :=
  if d.cal.repeated then d.abandonRun
  else { d with cal := { d.cal with repeated := d.calActive || decide (d.cal.hostStep ≠ 0) } }

/-- TEMPERATURE_TRIGGER (R305). -/
def temperatureTrigger (d : Dev) : Dev :=
  let moved := (List.range 4).any fun i =>
    decide (d.rd Obj.CalTempStep < (d.rd (inst Obj.DieTemperature i) - d.rd (inst Obj.CalTempAtLastRun i)).natAbs)
  if moved && !d.rdB Obj.CalTriggerPending then (d.wr Obj.CalTriggerPending 1).raise 47 else d

/-- The sequencer becomes ENABLED: in hardware mode a bin run is due (R293). -/
def Dev.calStarts (d : Dev) : Dev :=
  { d with cal := { d.cal with due := !d.rdB Obj.ModeF4Calibration, host := none, hostStep := 0, hostTable := none, hostDone := none } }

/-- The bin tables reload from OTP (R292). -/
def Dev.factoryTables (d : Dev) : Dev :=
  let d := d.forEach (fun id d => d.wr (calSourceKey id) 0) (List.range 80)
  { d with cal := { d.cal with commits := [], lineB := [], tables := [] } }

/-- A device-level fault discards the run without an event (R310). -/
def Dev.faultMeetsCal (d : Dev) : Dev :=
  let d := d.dropRun
  { d.wr Obj.CalStepStatus 0 with cal := { d.cal with host := none, hostStep := 0, hostTable := none, hostDone := none, commits := [] } }

/-! ## Host steps (R309) -/

/-- A host step is taken up: it is refused while the sequencer is not ENABLED in host-assisted mode, or where `ok` fails. -/
def Dev.hostStepCmd (d : Dev) (v : Nat) (ok : Bool) (f : Dev → Dev) : Dev :=
  if d.calHost && ok then f (d.wrs [(Obj.CalStepCmd, v), (Obj.CalStepStatus, 1)]) else d.wr Obj.CalStepCmd 0x80

/-- Steps 1 and 2: collect from the signal or from dither. -/
def hostCollect (dither : Bool) (d : Dev) : Dev :=
  let t := calOf (d.rdN Obj.CalStepTarget)
  d.hostStepCmd (if dither then 2 else 1) t.isSome fun d =>
    { d with cal := { d.cal with host := t.map fun id => d.collects id dither, hostTable := none, hostDone := none } }

/-- Step 3: evaluate in the next Turn. -/
def hostEvaluate (d : Dev) : Dev :=
  d.hostStepCmd 3 (match d.cal.host with | some t => t.hist.isSome | none => false) fun d =>
    { d with cal := { d.cal with hostStep := 3, hostDone := none } }

/-- Step 4: commit a table that passed, at the next boundary. -/
def hostCommit (d : Dev) : Dev :=
  d.hostStepCmd 4 d.cal.hostTable.isSome fun d =>
    { d with cal := { d.cal with commits := d.cal.commits ++ d.cal.hostTable.toList, hostTable := none, hostStep := 4,
                                 hostDone := none } }

/-- Step 5: discard the evaluated table. -/
def hostDiscard (d : Dev) : Dev :=
  d.hostStepCmd 5 true fun d => ({ d with cal := { d.cal with hostTable := none } }).hostStepDone

/-- Step 6: the trim step in the next Turn. -/
def hostTrim (d : Dev) : Dev :=
  d.hostStepCmd 6 true fun d => { d with cal := { d.cal with hostStep := 6, hostDone := none } }

/-- Step 7: the loop phase of the port that CalStepTarget names. -/
def hostPortLoop (d : Dev) : Dev :=
  let code := d.rdN Obj.CalStepTarget
  let p := code % 256
  d.hostStepCmd 7 (code / 256 == 4 && decide (p < 48) && !d.calActive && d.portRunAllowed p (d.rdN Obj.CalPortMethod)) fun d =>
    d.portRunBegins p (d.rdN Obj.CalPortMethod)

/-- Step 8: the measuring phase. -/
def hostPortMeasure (d : Dev) : Dev :=
  d.hostStepCmd 8 (d.cal.port.isSome && d.rd Obj.CalPortPhase == 2) fun d =>
    match d.cal.port with
    | some r => d.measuringBegins r
    | none => d

/-- Step 9: commit an accepted port result. -/
def hostCommitPort (d : Dev) : Dev :=
  d.hostStepCmd 9 (match d.cal.port with | some r => r.result.isSome | none => false) fun d =>
    { d with cal := { d.cal with portCommit := true, hostDone := none } }

/-! ## Meanings -/

/-- CALIBRATION_STEP (R307). -/
def execCalibrationStep (s : State) : Host.Outcome State Fault Refusal := s.effect calibrationStep

/-- CAL_BIN_RUN_CMD (R307). -/
def execCalBinRunCmd (s : State) : Host.Outcome State Fault Refusal := s.effect binRunCmd

/-- CAL_PORT_RUN_CMD (R300). -/
def execCalPortRunCmd (s : State) : Host.Outcome State Fault Refusal := s.effect portRunCmd

/-- CAL_RUN_ABORT (R307). -/
def execCalRunAbort (s : State) : Host.Outcome State Fault Refusal := s.effect runAbort

/-- HISTOGRAM_COMPLETE (R296). -/
def execHistogramComplete (target : Fin 80) (h1 h2 : List Nat) (s : State) : Host.Outcome State Fault Refusal :=
  s.effect (histogramComplete target h1 h2)

/-- CAL_COLLECT_LIMIT_EXPIRY (R295). -/
def execCalCollectLimitExpiry (target : Fin 80) (s : State) : Host.Outcome State Fault Refusal :=
  s.effect (collectExpiry target)

/-- CAL_PORT_NEXT_CMD (R301). -/
def execCalPortNextCmd (s : State) : Host.Outcome State Fault Refusal := s.effect portNext

/-- CAL_LOOP_PHASE_COMPLETE (R301). -/
def execCalLoopPhaseComplete (s : State) : Host.Outcome State Fault Refusal := s.effect loopComplete

/-- CAL_MEASURING_PHASE_COMPLETE (R302). -/
def execCalMeasuringPhaseComplete (s : State) : Host.Outcome State Fault Refusal := s.effect measuringComplete

/-- TEMPERATURE_TRIGGER (R305). -/
def execTemperatureTrigger (s : State) : Host.Outcome State Fault Refusal := s.effect temperatureTrigger

/-- CAL_STEP_COLLECT_SIGNAL (R309). -/
def execCalStepCollectSignal (s : State) : Host.Outcome State Fault Refusal := s.effect (hostCollect false)

/-- CAL_STEP_COLLECT_DITHER (R309). -/
def execCalStepCollectDither (s : State) : Host.Outcome State Fault Refusal := s.effect (hostCollect true)

/-- CAL_STEP_EVALUATE (R309). -/
def execCalStepEvaluate (s : State) : Host.Outcome State Fault Refusal := s.effect hostEvaluate

/-- CAL_STEP_COMMIT_TABLE (R309). -/
def execCalStepCommitTable (s : State) : Host.Outcome State Fault Refusal := s.effect hostCommit

/-- CAL_STEP_DISCARD (R309). -/
def execCalStepDiscard (s : State) : Host.Outcome State Fault Refusal := s.effect hostDiscard

/-- CAL_STEP_TRIM (R309). -/
def execCalStepTrim (s : State) : Host.Outcome State Fault Refusal := s.effect hostTrim

/-- CAL_STEP_PORT_LOOP (R309). -/
def execCalStepPortLoop (s : State) : Host.Outcome State Fault Refusal := s.effect hostPortLoop

/-- CAL_STEP_PORT_MEASURE (R309). -/
def execCalStepPortMeasure (s : State) : Host.Outcome State Fault Refusal := s.effect hostPortMeasure

/-- CAL_STEP_COMMIT_PORT (R309). -/
def execCalStepCommitPort (s : State) : Host.Outcome State Fault Refusal := s.effect hostCommitPort

end Sys2Proof.Machine
end

