-- ==== Sys2Proof/Machine/Egress.lean ====
section
/-! DEFINITION. The egress side: what a copy becomes as it leaves, transmission selection, the end of a transmission,
pause frames, and the statistics records (R138 to R141, R339, R345, R370 to R372, R380, R388 to R392, R413, R414, R420 to
R425). -/

namespace Sys2Proof.Machine

/-! ## A copy as it leaves -/

/-- Bytes of a list replaced from an offset on. -/
def patch (bs : List Byte) (at_ : Nat) (new : List Byte) : List Byte :=
  bs.take at_ ++ new ++ bs.drop (at_ + new.length)

/-- Bytes inserted at an offset. -/
def insertAt (bs : List Byte) (at_ : Nat) (new : List Byte) : List Byte := bs.take at_ ++ new ++ bs.drop at_

/-- Bytes removed from an offset on. -/
def removeAt (bs : List Byte) (at_ n : Nat) : List Byte := bs.take at_ ++ bs.drop (at_ + n)

/-- A UDP checksum after some words changed, incrementally; a result of zero is sent as all ones (R139). -/
def checksumUpdate (old : Nat) (was new : List Byte) : Nat :=
  let sum := onesSum ((65535 - old) :: (words16 was).map (65535 - ·) ++ words16 new)
  let c := 65535 - sum
  if c = 0 then 65535 else c

/-- Replace bytes of a UDP payload and its checksum with them; for IPv4 a checksum of zero stays zero (R139). -/
def patchUdp (bs : List Byte) (ip : Option IpInfo) (at_ : Nat) (new : List Byte) : List Byte :=
  let out := patch bs at_ new
  match ip with
  | some i =>
    let old := be bs (i.l4 + 6) 2
    if !i.v6 && old = 0 then out
    else patch out (i.l4 + 6) (beBytes 2 (checksumUpdate old ((bs.drop at_).take new.length) new))
  | none => out

/-- The correction a transparent clock adds to an event message: residence, and for a Sync of a P2P domain the path delay
and asymmetry of its ingress port as it arrived (R138, R141). -/
def tcAdds (f : Frame) (stamp : Int) : Int := stamp - f.stamp + ((f.decision.map (·.tcAdd)).getD 0)

/-- The event message of an ENABLED transparent clock domain that a frame is as it leaves by a port that stamps it: its PTP header
and domain (R98, R138). -/
def Dev.tcEvent (d : Dev) (f : Frame) (out : Nat) : Option (PtpInfo × Nat × Option IpInfo) :=
  match f.decision.bind (·.tcDomain), f.decision.bind (·.parsed) with
  | some n, some x => match x.ptp with
    | some i => if i.type < 4 && d.on .tcDomain n && !(decide (out < 48) && d.isSgmii out) then some (i, n, x.ip) else none
    | none => none
  | _, _ => none

/-- The new correctionField of a message, and whether it saturates (R140). -/
def correctionSum (old : Nat) (add : Int) : Nat × Bool :=
  let v := ofField 64 old + add
  if 2 ^ 63 - 1 < v || v < -(2 ^ 63) then (2 ^ 63 - 1, true) else (toField 64 v, false)

/-- The body of a frame with its correctionField rewritten (R138, R139), or with a one-step timestamp (R112). -/
def Dev.timedBody (d : Dev) (f : Frame) (plan : CopyPlan) (stamp : Int) (body : List Byte) : List Byte :=
  if plan.mirror then body
  else match d.tcEvent f plan.out with
    | some (i, _, ip) =>
      let c := correctionSum (be body (i.at_ + 8) 8) (tcAdds f stamp)
      patchUdp body ip (i.at_ + 8) (beBytes 8 c.1)
    | none =>
      if plan.oneStep then
        let x := f.decision.bind (·.parsed)
        match x.bind (·.ptp) with
        | some i =>
          let secs := beBytes 6 (stamp / secT).toNat ++ beBytes 4 (stamp / nsT % 1000000000).toNat
          let ip := x.bind (·.ip)
          let c := correctionSum (be body (i.at_ + 8) 8) (subNs stamp)
          patchUdp (patchUdp body ip (i.at_ + 34) secs) ip (i.at_ + 8) (beBytes 8 c.1)
        | none => body
      else body

/-- The body of a copy with its tags as they leave (R339). -/
def taggedBody (plan : CopyPlan) (body : List Byte) : List Byte :=
  let body := match plan.untag with
    | some o => removeAt body o 4
    | none => body
  match plan.addTag with
  | some (tpid, tci, afterS) => insertAt body (if afterS then 16 else 12) (beBytes 2 tpid ++ beBytes 2 tci)
  | none => body

/-- The bytes of a copy as they leave, whether padded, and whether truncated at the egress or as a mirror copy of a
truncated frame (R413, R414, R420). `inverted` ends it with the inverse FCS (R346). -/
def Dev.leaving (d : Dev) (f : Frame) (plan : CopyPlan) (stamp : Int) (inverted : Bool) : List Byte × Bool × Bool :=
  let stored := d.storedBytes f
  let body := bodyOf stored
  let out := if plan.mirror then body else taggedBody plan (d.timedBody f plan stamp body)
  let pad := decide (out.length < 60)
  let padded := out ++ List.replicate (60 - out.length) 0
  let m := d.maxFrame plan.out
  let excess := decide (m < padded.length + 4)
  let cut := padded.take (m - 4)
  if inverted then (cut ++ fcsInverted cut, pad, excess)
  else if excess then (cut ++ fcsInverted cut, pad, true)
  else if out = body && !pad then (stored, false, plan.mirror && f.truncated)
  else (padded ++ fcsOf padded, pad, false)

/-- The length of a copy as it leaves, tag and truncation included (R372). -/
def Dev.copyLen (d : Dev) (x : Copy) : Nat :=
  match x.payload with
  | .engine _ len => len
  | .frame id => match d.frame id with
    | some f => (d.leaving f x.plan 0 false).1.length
    | none => 64

/-! ## Transmission selection (R370 to R372, R375, R379, R380) -/

/-- The head copy of a queue can be sent whole: engine frames, and frames whose last byte is in (R343). -/
def Dev.headReady (d : Dev) (x : Copy) : Bool :=
  match x.payload with
  | .engine _ _ => true
  | .frame id => match d.frame id with
    | some f => f.ended
    | none => false

/-- Queue `c` of a port is eligible at an instant (R371). -/
def Dev.eligible (d : Dev) (p c : Nat) (t : Int) : Bool :=
  match (d.queue (queueKey p c)).head? with
  | none => false
  | some x =>
    let tau := txTime (d.copyLen x) (d.lineRate p)
    d.headReady x && !bit (d.rdN (inst Obj.QueuePausedMask p)) c && d.gateOpen p c t tau
      && (match x.launch with | some (l, _) => decide (l ≤ t) | none => true) && d.launchGuard p (some c) t tau

/-- The deficit of a DRR class. -/
def Dev.deficit (d : Dev) (p c : Nat) : Nat := Sparse.get (fun _ => 0) d.buf.deficit (8 * p + c)

/-- Set a deficit. -/
def Dev.setDeficit (d : Dev) (p c v : Nat) : Dev :=
  { d with buf := { d.buf with deficit := Sparse.set (fun _ => 0) d.buf.deficit (8 * p + c) v } }

/-- Length of the head copy of a queue. -/
def Dev.headLen (d : Dev) (p c : Nat) : Nat :=
  match (d.queue (queueKey p c)).head? with
  | some x => d.copyLen x
  | none => 0

/-- One pass of the round robin over classes: the class served, and the deficits grown on the way (R372). -/
def Dev.drrPass (d : Dev) (p : Nat) : List (Nat × Nat) → Dev × Option Nat
  | [] => (d, none)
  | (c, len) :: rest =>
    let d := d.setDeficit p c (d.deficit p c + d.rdN (inst Obj.ClassQuantum c))
    if len ≤ d.deficit p c then (d, some c) else d.drrPass p rest

/-- Passes of the round robin until a class is served; a quantum is at least 64 bytes and a frame at most 9,216, so 145
passes serve one. -/
def Dev.drrRounds (d : Dev) (p : Nat) (cs : List (Nat × Nat)) : Nat → Dev × Option Nat
  | 0 => (d, none)
  | fuel + 1 =>
    match d.drrPass p cs with
    | (d, some c) => (d, some c)
    | (d, none) => d.drrRounds p cs fuel

/-- The class selected at an instant (R372). -/
def Dev.selectClass (d : Dev) (p : Nat) (t : Int) : Dev × Option Nat :=
  let ok := (List.range 8).filter fun c => d.eligible p c t
  match (ok.filter fun c => d.rd (inst Obj.ClassSchedMode c) == 1).getLast? with
  | some c => (d, some c)
  | none =>
    let c0 := (d.egress p).lastDrr
    if ok.contains c0 && decide (d.headLen p c0 ≤ d.deficit p c0) then (d, some c0)
    else
      let order := ((List.range 8).map fun i => (c0 + 1 + i) % 8).filter fun c => ok.contains c
      if order.isEmpty then (d, none) else d.drrRounds p (order.map fun c => (c, d.headLen p c)) 200

/-- Take the head copy off a queue (R372). -/
def Dev.popQueue (d : Dev) (p c : Nat) : Dev := d.setQueue (queueKey p c) ((d.queue (queueKey p c)).drop 1)

/-- Why a selected copy is discarded instead of sent: past its residence limit, late, or with an ECC error; the status its
descriptor takes (R362, R370, R380). -/
def Dev.discardCause (d : Dev) (c : Nat) (x : Copy) (t : Int) : Option Nat :=
  let limit := d.rdN (inst Obj.ClassResidenceLimit c)
  let allowed := if limit = 0 then d.rdN Obj.TurnPeriod * 2 else limit * 1000
  if x.admitted + allowed < d.time.uptime then some 5
  else match x.launch with
    | some (l, tol) => if tol != 0 && decide (l + tol * nsT < t) then some 4 else if x.ecc then some 7 else none
    | none => if x.ecc then some 7 else none

/-- Discard a selected copy with its cause (R362, R370, R380). -/
def Dev.discardSelected (d : Dev) (p c : Nat) (x : Copy) (cause : Nat) : Dev :=
  let d := d.popQueue p c
  let d := if cause == 5 then (d.inc (queueObj Obj.QueueResidenceDropCount p c)).record 15
    else if cause == 4 then d.inc (queueObj Obj.QueueLateDropCount p c)
    else (d.inc Obj.DeepEccDiscardCount).raise 62
  -- the spec gives an ECC discard no descriptor status: a free value
  let status := if cause == 7 then d.free.toNat % 256 else cause
  (((d.when (cause == 7) Dev.drawn).txOutcome (d.copyRing x) status none)).freeCopy x

/-- Count what a transparent clock does to a frame as it leaves (R138, R140). -/
def Dev.countTc (d : Dev) (f : Frame) (plan : CopyPlan) (stamp : Int) : Dev :=
  match d.tcEvent f plan.out with
  | some (i, n, _) =>
    if plan.mirror then d
    else
      let d := (d.inc (inst Obj.TcCorrectedCount n)).counted 1 0x06 n 1
      d.when (correctionSum (be f.bytes (i.at_ + 8) 8) (tcAdds f stamp)).2 fun d => d.inc (inst Obj.TcCorrectionSaturatedCount n)
  | none => d

/-- A copy starts transmission with its stamp. -/
def Dev.startTx (d : Dev) (p : Nat) (x : Copy) (stamp : Int) : Dev :=
  let event := match x.payload with
    | .engine (.ptp m) _ => decide (m.type < 4)
    | _ => false
  let d := ((d.counted 1 0x02 (d.timingLane p) 1).counted 1 0x05 p (ofBool event)).counted 0 0x04 p (ofBool x.cut)
  match x.payload with
  | .engine m len =>
    let (d, m) := match m with
      | .ptp k => let r := d.ptpLeaves p k stamp; (r.1, EngineMsg.ptp r.2)
      | m => (d, m)
    d.setEgress p fun e =>
      { e with tx := some { copy := { x with payload := .engine m len }, bytes := d.engineFrame p m, stamp := stamp } }
  | .frame id =>
    match d.frame id with
    | none => d
    | some f =>
      let out := d.leaving f x.plan stamp false
      (d.countTc f x.plan stamp).setEgress p fun e =>
        { e with tx := some { copy := x, bytes := out.1, stamp := stamp, padded := out.2.1, truncated := out.2.2 } }

/-- Select and start, discarding what is past its limits and selecting again (R370, R372, R380). -/
def Dev.selectLoop (d : Dev) (p : Nat) (t stamp : Int) : Nat → Dev
  | 0 => d
  | fuel + 1 =>
    match d.selectClass p t with
    | (d', none) => d'
    | (d', some c) =>
      match (d'.queue (queueKey p c)).head? with
      | none => d'
      | some x =>
        match d'.discardCause c x t with
        | some cause => (d'.discardSelected p c x cause).selectLoop p t stamp fuel
        | none =>
          let strict := d'.rd (inst Obj.ClassSchedMode c) == 1
          let d' := d'.when (!strict) fun d =>
            (d.setDeficit p c (d.deficit p c - d.copyLen x)).setEgress p fun e => { e with lastDrr := c }
          (d'.popQueue p c).startTx p x stamp

/-- TRANSMIT_SELECTION: the transmitter of a port that is up and ENABLED is free (R372). -/
def transmitSelection (p : Nat) (t stamp : Int) (d : Dev) : Dev :=
  let d := d.until t
  if !d.portTakes p || (d.egress p).tx.isSome then d
  else d.selectLoop p t stamp (((List.range 8).map fun c => (d.queue (queueKey p c)).length).sum + 1)

/-- CUT_THROUGH_START: a cut-through copy starts; a frame of 256 bytes or fewer is checked whole first (R345). -/
def cutThroughStart (p : Nat) (t stamp : Int) (d : Dev) : Dev :=
  let d := d.until t
  let heads := (List.range 8).filterMap fun c => (d.queue (queueKey p c)).head?.map fun x => (c, x)
  match heads.find? (fun e => e.2.cut) with
  | none => d
  | some (c, x) =>
    let whole := match x.payload with
      | .frame id => match d.frame id with
        | some f => f.ended || decide (256 < f.bytes.length)
        | none => false
      | .engine _ _ => true
    if (d.egress p).tx.isSome || !d.portTakes p || !whole then d else (d.popQueue p c).startTx p x stamp

/-! ## The end of a transmission (R346, R420) -/

/-- Count a transmitted copy (R420, R421). -/
def Dev.countTx (d : Dev) (p : Nat) (len : Nat) (da : List Byte) (good stomped truncated padded : Bool) : Dev :=
  let d := (d.count p 23 len).count p (33 + sizeBin len) 1
  let d := d.when padded fun d => d.count p 32 1
  if stomped then d.count p 30 1
  else if truncated then d.count p 31 1
  else d.when good fun d =>
    (d.count p 24 1).count p (if isBroadcast da then 27 else if isGroup da then 26 else 25) 1

/-- FRAME_TX_END: the copy is counted, its descriptor completed and its cells freed; a two-step message is followed by its
Follow_Up (R112, R346, R420, R552). -/
def frameTxEnd (p : Nat) (t : Int) (d : Dev) : Dev :=
  let d := d.until t
  match (d.egress p).tx with
  | none => d
  | some x =>
    let d := d.setEgress p fun e => { e with tx := none }
    let c := x.copy
    let d := d.inc (queueObj Obj.QueueTxCount p c.plan.cls)
    match c.payload with
    | .engine m _ =>
      let d := d.countTx p x.bytes.length (x.bytes.take 6) true false false false
      let d := d.freeCopy c
      match m with
      | .ptp k => d.ptpFollows p k x.stamp
      | _ => d
    | .frame id =>
      let out := match d.frame id with
        | some f => if c.cut then d.leaving f c.plan x.stamp x.stomped else (x.bytes, x.padded, x.truncated)
        | none => (x.bytes, x.padded, x.truncated)
      let hostPad := match d.frame id with
        | some f => f.padded
        | none => false
      let d := d.countTx p out.1.length (out.1.take 6) (fcsGood out.1) x.stomped out.2.2 (out.2.1 || hostPad)
      (d.txOutcome (d.copyRing c) 0 (some x.stamp)).freeCopy c

/-! ## Pause frames (R388 to R392) -/

/-- The paused classes of a port: type 0 under PAUSE, and those a paused priority maps to (R389, R390). -/
def Dev.pausedMask (d : Dev) (p : Nat) : Nat :=
  let bitsSet := (d.egress p).paused
  let map := d.rdN (inst Obj.PortPcpClassMap p)
  ((List.range 8).map fun c =>
    let byPrio := (List.range 8).any fun k => bit bitsSet k && bits map (4 * k) 3 == c
    if d.rd (inst Obj.ClassType c) == 0 && (bit bitsSet 8 || byPrio) then 2 ^ c else 0).sum

/-- Set the paused priorities of a port and show the paused classes. -/
def Dev.setPaused (d : Dev) (p v : Nat) : Dev :=
  let d := d.setEgress p fun e => { e with paused := v }
  d.wr (inst Obj.QueuePausedMask p) (d.pausedMask p)

/-- PAUSE_FRAME_RX: acted on in PauseRxMode 1; a pause time of 0 ends the pause at once (R388, R389). -/
def pauseFrameRx (p quanta : Nat) (d : Dev) : Dev :=
  if d.portReceives p && d.rd (inst Obj.PauseRxMode p) == 1 then
    (d.setPaused p (setBit (d.egress p).paused 8 (quanta != 0))).inc (inst Obj.PauseRxFrameCount p)
  else d

/-- PFC_FRAME_RX: acted on in PauseRxMode 2, for the priorities of its vector and of PfcRxMask (R388, R390). -/
def pfcFrameRx (p vector : Nat) (times : List Nat) (d : Dev) : Dev :=
  if d.portReceives p && d.rd (inst Obj.PauseRxMode p) == 2 then
    let mask := d.rdN (inst Obj.PfcRxMask p)
    let v := (List.range 8).foldl (fun v k =>
      if bit vector k && bit mask k then setBit v k (times.getD k 0 != 0) else v) (d.egress p).paused
    (d.setPaused p v).inc (inst Obj.PauseRxFrameCount p)
  else d

/-- PAUSE_TIMER_EXPIRY (R389, R390). -/
def pauseTimerExpiry (p : Nat) (prio : Option Nat) (d : Dev) : Dev :=
  d.setPaused p (setBit (d.egress p).paused (prio.getD 8) false)

/-- XOFF_REPEAT: half of the pause time has passed and the count is still above PauseXonCells (R391). -/
def xoffRepeat (p : Nat) (prio : Option Nat) (d : Dev) : Dev :=
  let due := (d.egress p).due.any fun x => x.prio == prio
  if d.xoffHeld p prio && decide (d.rd (inst Obj.PauseXonCells p) < d.pauseCount p prio) && !due then
    d.setEgress p fun e => { e with due := e.due ++ [⟨true, prio⟩] }
  else d

/-- PAUSE_FRAME_TX: a due frame of 64 bytes is sent while the transmitter is free, subject to the launch guard (R379,
R391, R392). -/
def pauseFrameTx (p : Nat) (t : Int) (d : Dev) : Dev :=
  let d := d.until t
  match (d.egress p).due with
  | [] => d
  | x :: rest =>
    if (d.egress p).tx.isSome || !d.portTakes p || !d.launchGuard p none t (txTime 64 (d.lineRate p)) then d
    else
      let held := d.rdN (inst Obj.PauseXoffState p)
      let st := match x.prio with
        | none => if x.xoff then 0xFF else 0
        | some k => setBit held k x.xoff
      let d := d.setEgress p fun e => { e with due := rest, headroom := if x.xoff then e.headroom else 0 }
      let d := (d.wr (inst Obj.PauseXoffState p) st).inc (inst Obj.PauseTxFrameCount p)
      (d.count p (match x.prio with | none => 28 | some _ => 29) 1).countTx p 64 [1, 0, 0, 0, 0, 0] true false false false

/-! ## Statistics records (R423 to R425) -/

/-- The record of a port's counters (R423). -/
def Dev.statRecord (d : Dev) (p : Nat) : List Byte :=
  leBytes 8 (d.rdN Obj.TurnNumber) ++ leBytes 8 d.time.uptime ++ leBytes 8 (d.statAt p 41)
    ++ ((List.range 41).map fun k => leBytes 8 (d.statAt p k)).flatten

/-- STAT_SNAPSHOT: captured and cleared (R424, R425). -/
def statSnapshot (p : Nat) (d : Dev) : Dev :=
  let rec_ := d.statRecord p
  let d := d.forEach (fun k d => d.setStat p k 0) (List.range 42)
  (d.wrV (inst Obj.StatSnapshot p) (.oct rec_)).wr (inst Obj.StatLastClearTurn p) (d.rd Obj.TurnNumber)

/-- STAT_PEEK: captured without clearing (R424). -/
def statPeek (p : Nat) (d : Dev) : Dev := d.wrV (inst Obj.StatPeek p) (.oct (d.statRecord p))

/-! ## Meanings -/

/-- TRANSMIT_SELECTION (R372). -/
def execTransmitSelection (p : Port) (t marker : Int) (bits : Nat) (s : State) : Host.Outcome State Fault Refusal :=
  s.effect fun d => transmitSelection p t (d.txInst p marker bits) d

/-- CUT_THROUGH_START (R345). -/
def execCutThroughStart (p : Port) (t marker : Int) (bits : Nat) (s : State) : Host.Outcome State Fault Refusal :=
  s.effect fun d => cutThroughStart p t (d.txInst p marker bits) d

/-- FRAME_TX_END (R420). -/
def execFrameTxEnd (p : Port) (t : Int) (s : State) : Host.Outcome State Fault Refusal := s.effect (frameTxEnd p t)

/-- LAUNCH_TIME_REACHED: time has reached it, by which the head copy is eligible (R371, R378). -/
def execLaunchTimeReached (_p : Port) (t : Int) (s : State) : Host.Outcome State Fault Refusal :=
  s.effect fun d => d.until t

/-- PAUSE_FRAME_RX (R389). -/
def execPauseFrameRx (p : Port) (quanta : Nat) (s : State) : Host.Outcome State Fault Refusal :=
  s.effect (pauseFrameRx p quanta)

/-- PFC_FRAME_RX (R390). -/
def execPfcFrameRx (p : Port) (vector : Nat) (times : List Nat) (s : State) : Host.Outcome State Fault Refusal :=
  s.effect (pfcFrameRx p vector times)

/-- PAUSE_TIMER_EXPIRY (R389). -/
def execPauseTimerExpiry (p : Port) (prio : Option (Fin 8)) (s : State) : Host.Outcome State Fault Refusal :=
  s.effect (pauseTimerExpiry p (prio.map (·.val)))

/-- XOFF_REPEAT (R391). -/
def execXoffRepeat (p : Port) (prio : Option (Fin 8)) (s : State) : Host.Outcome State Fault Refusal :=
  s.effect (xoffRepeat p (prio.map (·.val)))

/-- PAUSE_FRAME_TX (R391). -/
def execPauseFrameTx (p : Port) (t : Int) (s : State) : Host.Outcome State Fault Refusal := s.effect (pauseFrameTx p t)

/-- STAT_SNAPSHOT (R424). -/
def execStatSnapshot (p : PortHp) (s : State) : Host.Outcome State Fault Refusal := s.effect (statSnapshot p)

/-- STAT_PEEK (R424). -/
def execStatPeek (p : PortHp) (s : State) : Host.Outcome State Fault Refusal := s.effect (statPeek p)

end Sys2Proof.Machine
end

