-- ==== Sys2Proof/Machine/Lanes.lean ====
section
/-! DEFINITION. Serial lanes, quads and port links (chapter 13), and the latency folds of R126. -/

namespace Sys2Proof.Machine

/-! ## Quads, lanes and ports (R429, R430) -/

/-- Lane `l`. -/
def Dev.lane (d : Dev) (l : Nat) : LaneSt := Sparse.get (fun _ => {}) d.line.lanes l

/-- Change lane `l`. -/
def Dev.setLane (d : Dev) (l : Nat) (f : LaneSt → LaneSt) : Dev :=
  { d with line := { d.line with lanes := Sparse.set (fun _ => {}) d.line.lanes l (f (d.lane l)) } }

/-- The Native Quad of quad `q`. -/
def Dev.nq (d : Dev) (q : Nat) : NqSt := Sparse.get (fun _ => {}) d.line.nqs q

/-- Change the Native Quad of quad `q`. -/
def Dev.setNq (d : Dev) (q : Nat) (f : NqSt → NqSt) : Dev :=
  { d with line := { d.line with nqs := Sparse.set (fun _ => {}) d.line.nqs q (f (d.nq q)) } }

/-- The lanes of a port: its own in quad mode 0, all four for the first port of a quad in the other modes (R429). -/
def Dev.portLanes (d : Dev) (p : Nat) : List Nat :=
  if 48 ≤ p then []
  else if d.quadMode (p / 4) == 0 then [p]
  else if p % 4 == 0 then [p, p + 1, p + 2, p + 3]
  else []

/-- The port a lane serves (R429). -/
def Dev.portOfLane (d : Dev) (l : Nat) : Nat := if d.quadMode (l / 4) == 0 then l else l / 4 * 4

/-- The port is a Native Quad port. -/
def Dev.isNq (d : Dev) (p : Nat) : Bool := decide (p < 48) && p % 4 == 0 && d.quadMode (p / 4) == 3

/-- Line rate of a port in Mb/s; an SGMII port runs at the rate its PHY reports (R356, R406). -/
def Dev.modeRate (d : Dev) (p sgmii : Nat) : Nat :=
  match d.quadMode (p / 4) with
  | 0 => match d.rd (inst Obj.LanePortMode p) with
    | 1 => 1000
    | 2 => [10, 100, 1000].getD sgmii 1000
    | 3 => 10000
    | 4 => 25000
    | _ => 0
  | 1 => 40000
  | _ => 100000

/-- Raise the event of a quad with its cause and lane (R459). -/
def Dev.quadEvent (d : Dev) (q cause lane : Nat) : Dev :=
  (d.wr (inst Obj.QuadEventCause q) (cause + 256 * lane : Nat)).raise q

/-! ## Lane PLLs (R431, R432) -/

/-- Rate code of a PLL of a quad, 0xFF while off. -/
def Dev.pllRate (d : Dev) (q i : Nat) : Nat := bits (d.rdN (inst Obj.QuadPllRates q)) (8 * i) 8

/-- A PLL of a quad is locked. -/
def Dev.pllLocked (d : Dev) (q i : Nat) : Bool := bit (d.rdN (inst Obj.QuadPllLocked q)) i

/-- Some lane other than `l` uses a PLL. -/
def Dev.pllShared (d : Dev) (l i : Nat) : Bool :=
  (List.range 4).any fun k => l / 4 * 4 + k != l && (d.lane (l / 4 * 4 + k)).pll == some i

/-- The PLL a lane takes for a rate: A in modes 1 to 3; in mode 0 one set to the rate, else a free one (R431). -/
def Dev.pllFor (d : Dev) (l code : Nat) : Option Nat :=
  let q := l / 4
  let has (i : Nat) : Bool := d.pllShared l i && d.pllRate q i == code
  let free (i : Nat) : Bool := !d.pllShared l i
  if d.quadMode q != 0 then (if has 0 || free 0 then some 0 else none)
  else if has 0 then some 0 else if has 1 then some 1
  else if free 0 then some 0 else if free 1 then some 1 else none

/-- Set the rate and the lock bit of a PLL. -/
def Dev.setPll (d : Dev) (q i code : Nat) (locked : Bool) : Dev :=
  let r := d.rdN (inst Obj.QuadPllRates q)
  (d.wr (inst Obj.QuadPllRates q) (r - bits r (8 * i) 8 * 2 ^ (8 * i) + code * 2 ^ (8 * i) : Nat)).wr
    (inst Obj.QuadPllLocked q) (setBit (d.rdN (inst Obj.QuadPllLocked q)) i locked : Nat)

/-- A lane gives its PLL back; one that no lane uses is powered down (R431). -/
def Dev.releasePll (d : Dev) (l : Nat) : Dev :=
  match (d.lane l).pll with
  | none => d
  | some i =>
    let d := d.setLane l fun x => { x with pll := none }
    d.when (!d.pllShared l i) fun d => d.setPll (l / 4) i 0xFF false

/-- A lane takes the PLL for its rate (R431). -/
def Dev.takePll (d : Dev) (l : Nat) : Dev :=
  match d.rateCode l with
  | none => d
  | some code => match d.pllFor l code with
    | none => d
    | some i =>
      let d := d.when (!(d.pllShared l i && d.pllRate (l / 4) i == code)) fun d => d.setPll (l / 4) i code false
      d.setLane l fun x => { x with pll := some i }

/-- The PLL of a lane is locked. -/
def Dev.laneClocked (d : Dev) (l : Nat) : Bool :=
  match (d.lane l).pll with
  | some i => d.pllLocked (l / 4) i
  | none => false

/-! ## The latency fold (R126) -/

/-- FEC mode of a lane for Base(rate): 0 none, 1 Clause 74, 2 Clause 108, 3 Clause 91. -/
def Dev.fecMode (d : Dev) (l : Nat) : Nat :=
  match d.quadMode (l / 4) with
  | 0 => if d.rd (inst Obj.LanePortMode l) == 4 then d.rdN (inst Obj.Lane25gFec l) else 0
  | 2 => 3
  | 3 => if d.rd (inst Obj.NqFecMode (l / 4)) == 1 then 2 else 0
  | _ => 0

/-- A port folds the positions of its timing lane into its latencies and reports them (R126). -/
def Dev.foldPort (d : Dev) (p : Nat) : Dev :=
  let l := d.timingLane p
  let x := d.lane l
  let code := (d.rateCode l).getD 0
  let fec := d.fecMode l
  let (slip, box, pos) := x.rxPos
  let rx := Config.latencyBase code fec true + unitIntervals code slip
    + (if code == 0 then 0 else unitIntervals code (2 * box))
    + (if fec != 0 || d.quadMode (l / 4) == 1 then unitIntervals code pos else 0)
  let tx := Config.latencyBase code fec false + (if code == 0 then 0 else unitIntervals code (2 * x.txPos))
  d.wrs [(inst Obj.LatencyPositions p, (slip % 256 + box % 256 * 2 ^ 8 + x.txPos % 256 * 2 ^ 16 + pos % 256 * 2 ^ 24 : Nat)),
    (inst Obj.RxLatencyFolded p, rx), (inst Obj.TxLatencyFolded p, tx)]

/-- The port whose timing lane is `l`, if it is timing-capable (R98, R99). -/
def Dev.timedPort (d : Dev) (l : Nat) : Option Nat :=
  let p := d.portOfLane l
  if d.timingLane p == l && !d.isSgmii p then some p else none

/-- A lane that transmits has had a transmit lock: its gearbox may stand anywhere, and the transmit fold is rebuilt (R126,
R436). -/
def Dev.txRelock (d : Dev) (l : Nat) : Dev :=
  let box := if d.rateCode l == some 0 then 0 else d.free.toNat % 33
  let d := d.drawn.setLane l fun x => { x with txPos := box }
  match d.timedPort l with
  | some p => d.foldPort p
  | none => d

/-! ## Port links (R352, R356, R430, R444, R457) -/

/-- A port's lanes are up: all LOCKED with their transmitters ACTIVE; for a Native Quad port at least one good lane
(R444, R454, R457). -/
def Dev.lanesUp (d : Dev) (p : Nat) : Bool :=
  let up (l : Nat) : Bool := d.rd (inst Obj.LaneRxState l) == 5 && d.rd (inst Obj.LaneTxState l) == 2
  let ls := d.portLanes p
  if d.isNq p then ls.any fun l => up l && bit (d.nq (p / 4)).good (l % 4)
  else !ls.isEmpty && ls.all up

/-- The lowest lane of a port, whose beacon objects apply to it (R444). -/
def Dev.lowLane (d : Dev) (p : Nat) : Nat := (d.portLanes p).headD p

/-- A port is looped (R443). -/
def Dev.looped (d : Dev) (p : Nat) : Bool := d.rd (inst Obj.LaneLoopbackState (d.lowLane p)) != 0

/-- A transmission in progress ends without its copy having been sent: the link is down. -/
def Dev.dropTx (d : Dev) (p : Nat) : Dev :=
  match (d.egress p).tx with
  | none => d
  | some x =>
    ((d.setEgress p fun e => { e with tx := none }).countFlushed p).discardAll 6 [x.copy]

/-- The dynamic entries of a port go with its link (R334). -/
def Dev.flushLearned (d : Dev) (p : Nat) : Dev :=
  d.when (d.rdB (inst Obj.PortFlushOnDown p)) fun d => (d.macFlush p 0xFFFF).1

/-- Link timing of a port goes to IDLE with its lock (R133). -/
def Dev.timingLost (d : Dev) (p : Nat) : Dev :=
  d.when (decide (p < 48) && d.linkState p != 0) fun d => (d.toIdle p).plyFollows p

/-- The link of a port goes down: the port is flushed, a frame in reception is cut short, and link timing loses its lock
(R352, R415, R426, R443). -/
def Dev.linkDown (d : Dev) (p : Nat) : Dev :=
  let d := { d with line := { d.line with checked := d.line.checked.filter (· != p) } }
  let d := d.timingLost p
  if !d.rdB (inst Obj.PortLinkUp p) then d
  else
    let d := d.wrs [(inst Obj.PortLinkUp p, 0), (inst Obj.PortLineRate p, 0)]
    let d := d.when (decide (p < 48) && !d.stopped) fun d => d.quadEvent (p / 4) 2 (d.lowLane p)
    let d := match d.receiving p with
      | some id => d.endFrame p id true
      | none => d
    let d := ((d.dropTx p).portFlush p).flushLearned p
    let d := d.when (d.isNq p) fun d =>
      (d.wrs [(inst Obj.NqActiveTxSet (p / 4), 0), (inst Obj.NqActiveRxSet (p / 4), 0)]).setNq (p / 4) fun n =>
        { n with lost := 0, txNext := none, widening := none, rxNext := none, low := 0 }
    let d := d.when (d.isNq p) fun d => d.setLink p fun k => { k with folded := false }
    d.when (decide (p < 48)) fun d => d.roleDown p

/-! ## Sets of lanes (R451) -/

/-- How many lanes a mask holds. -/
def lanesIn (m : Nat) : Nat := ((List.range 4).filter (bit m)).length

/-- The set of at most `n` lanes (4, 2 or 1) out of a mask of good lanes around a timing lane: the next good lane above it,
else the nearest below (R451). -/
def nqSet (good timing n : Nat) : Nat :=
  if 4 ≤ n && good % 16 == 15 then 15
  else
    let above := (List.range 4).find? fun i => decide (timing < i) && bit good i
    let below := ((List.range 4).filter fun i => decide (i < timing) && bit good i).getLast?
    match above.or below with
    | some i => if 2 ≤ n then 2 ^ timing + 2 ^ i else 2 ^ timing
    | none => 2 ^ timing

/-- The lowest lane of a mask. -/
def lowBit (m : Nat) : Nat := ((List.range 4).find? (bit m)).getD 0

/-- The timing lane within the lanes a direction may use: the port's own where it is among them, else the lowest. -/
def Dev.nqTiming (d : Dev) (q mask : Nat) : Nat :=
  let t := d.timingLane (4 * q) % 4
  if bit mask t then t else lowBit mask

/-- The link of a port comes up (R356, R444); a Native Quad port takes its timing lane and the largest sets its good lanes
allow (R451). -/
def Dev.linkUp (d : Dev) (p rate : Nat) : Dev :=
  let q := p / 4
  let d := (d.wrs [(inst Obj.PortLinkUp p, 1), (inst Obj.PortLineRate p, rate)]).quadEvent q 1 (d.lowLane p)
  let d := d.when (d.isNq p) fun d =>
    let good := (d.nq q).good
    let d := d.wr (inst Obj.TimingLane p) (4 * q + lowBit good : Nat)
    let set := nqSet good (lowBit good) 4
    let d := (d.wrs [(inst Obj.NqActiveTxSet q, set), (inst Obj.NqActiveRxSet q, set)]).setNq q fun n =>
      { n with txNext := none, widening := none, rxNext := none, low := 0, peerGood := good }
    (d.foldPort p).setLink p fun k => { k with folded := true }
  d.when (d.on .ptpEngine p && d.role p == 1) fun d => d.wr (inst Obj.PtpPortState p) 4

/-- PORT_LINK_UP: the lanes are up, no loop is known, and the loop check has passed where one applies. A half-duplex link of
an SGMII port is refused (R406, R444). -/
def portLinkUp (p sgmii : Nat) (half : Bool) (d : Dev) : Dev :=
  let ready := d.on .port p && d.lanesUp p && !d.looped p && !d.rdB (inst Obj.PortLinkUp p) && !d.stopped
  if !ready then d
  else if d.isSgmii p then
    if half then d.inc (inst Obj.MacHalfDuplexRefusedCount p) else d.linkUp p (d.modeRate p sgmii)
  else if d.rdB (inst Obj.LaneBeaconEnable (d.lowLane p)) && !d.line.checked.contains p then d
  else d.linkUp p (d.modeRate p sgmii)

/-! ## Receive states (R433 to R435) -/

/-- A lane has left LOCKED: the loss is counted and reported, its whorl stops, the latency fold is void (R126), and its port follows. A lane of a Native
Quad is lost unless it has gone to sleep (R434, R449, R454, R457). -/
def Dev.laneUnlocked (d : Dev) (l : Nat) (quiet asleep : Bool) : Dev :=
  let p := d.portOfLane l
  let q := l / 4
  let d := (d.inc (inst Obj.LaneLockLossCount l)).wr (inst Obj.WhorlLocked l) 0
  let d := d.when (!quiet && !d.stopped) fun d => d.quadEvent q 3 l
  if d.isNq p then
    if asleep then d
    else
      let up := d.rdB (inst Obj.PortLinkUp p)
      let d := d.setNq q fun n =>
        { n with good := setBit n.good (l % 4) false, lost := if up then setBit n.lost (l % 4) true else n.lost }
      if (d.nq q).good == 0 then d.linkDown p else d
  else
    let d := match d.timedPort l with
      | some p => d.setLink p fun k => { k with folded := false }
      | none => d
    d.linkDown p

/-- A receive lane enters a state (R434). -/
def Dev.rxTo (d : Dev) (l : Nat) (st : Int) (quiet : Bool := false) : Dev :=
  let was := d.rd (inst Obj.LaneRxState l)
  let d := d.wr (inst Obj.LaneRxState l) st
  let d := d.when (st == 2) fun d => d.setLane l fun x => { x with fromSleep := was == 6, delivered := false }
  d.when (was == 5 && st != 5) fun d => d.laneUnlocked l quiet (st == 6)

/-- A lane changes its receive polarity by itself (R441). -/
def Dev.invertRx (d : Dev) (l : Nat) : Dev :=
  ((d.wrB (inst Obj.LaneRxInverted l) (!d.rdB (inst Obj.LaneRxInverted l))).quadEvent (l / 4) 7 l).raise 59

/-- The state of a receive lane. -/
def Dev.rxState (d : Dev) (l : Nat) : Int := d.rd (inst Obj.LaneRxState l)

/-- SIGNAL_DETECT. A sleeping lane of a Native Quad is woken by its peer's transmitter (R433, R453). -/
def signalDetect (l : Nat) (d : Dev) : Dev :=
  if !d.on .lane l then d
  else
    let d := d.wr (inst Obj.LaneSignalDetect l) 1
    d.when (d.rxState l == 6 && d.isNq (d.portOfLane l)) fun d => d.rxTo l 2

/-- LOSS_OF_SIGNAL: in every later state but SLEEP, whose receiver does not listen (R433, R434). -/
def lossOfSignal (l : Nat) (d : Dev) : Dev :=
  let d := d.wr (inst Obj.LaneSignalDetect l) 0
  d.when (decide (2 ≤ d.rxState l) && d.rxState l != 6) fun d => d.rxTo l 1

/-- SIGNAL_HOLD_ELAPSED: NO_SIGNAL to CDR_ACQUIRE (R434). -/
def signalHold (l : Nat) (d : Dev) : Dev :=
  d.when (d.rxState l == 1 && d.rdB (inst Obj.LaneSignalDetect l) && d.laneClocked l && !d.stopped) fun d => d.rxTo l 2

/-- CDR_LOCK: to ADAPTING, or to ALIGN_HUNT when CDR_ACQUIRE was entered from SLEEP (R434). -/
def cdrLock (l : Nat) (d : Dev) : Dev :=
  d.when (d.rxState l == 2) fun d => d.rxTo l (if (d.lane l).fromSleep then 4 else 3)

/-- CDR_LOCK_LOSS (R434). -/
def cdrLockLoss (l : Nat) (d : Dev) : Dev := d.when (d.rxState l == 5) fun d => d.rxTo l 2

/-- The lane's adaptation decides in hardware (R438). -/
def Dev.adapts (d : Dev) (l : Nat) : Bool := d.on .laneAdapt l && !d.rdB (inst Obj.ModeF6LaneAdapt l)

/-- The coefficients in force: the factory preset while that is their source (R437, R439). -/
def Dev.coeffs (d : Dev) (l : Nat) : List Byte :=
  if d.rd (inst Obj.LaneCoeffSource l) == 2 then (List.range 16).map (Config.otpCoeff l)
  else (d.rdV (inst Obj.LaneRxCoeffs l)).bytes

/-- Put a coefficient set in force with its source. -/
def Dev.setCoeffs (d : Dev) (l : Nat) (bs : List Byte) (source : Int) : Dev :=
  (d.wrV (inst Obj.LaneRxCoeffs l) (.oct bs)).wr (inst Obj.LaneCoeffSource l) source

/-- Range of a coefficient (R437). -/
def coeffRange (i : Nat) : Int × Int :=
  match i with
  | 0 => (0, 31)
  | 1 => (0, 63)
  | 2 => (-64, 63)
  | 3 | 4 | 5 | 6 => (-32, 31)
  | _ => (0, 0)

/-- A coefficient byte as its value: the taps are signed (R437). -/
def coeffVal (i : Nat) (b : Byte) : Int := if 2 ≤ i then ofField 8 b.toNat else b.toNat

/-- A set with every field in its range (R437). -/
def coeffsOk (bs : List Byte) : Bool :=
  bs.length == 16 && (List.range 16).all fun i =>
    let v := coeffVal i (bs.getD i 0)
    decide ((coeffRange i).1 ≤ v) && decide (v ≤ (coeffRange i).2)

/-- A set moved by at most one code in each coefficient, within its ranges (R438). -/
def coeffsMoved (bs : List Byte) (moves : List Int) : List Byte :=
  (List.range 16).map fun i =>
    let v := clampI (coeffRange i).1 (coeffRange i).2 (coeffVal i (bs.getD i 0) + clampI (-1) 1 (moves.getD i 0))
    BitVec.ofNat 8 (toField 8 v)

/-- ADAPTATION_CONVERGED: in hardware mode the coefficients found come into force (R434, R438). -/
def adaptationConverged (l : Nat) (bs : List Byte) (d : Dev) : Dev :=
  if d.rxState l == 3 then
    let d := d.when (d.adapts l && coeffsOk bs) fun d => d.setCoeffs l bs 0
    d.rxTo l 4
  else d

/-- A lane enters LOCKED: the whorl series starts anew, the positions are folded, and a relock is counted (R125 to R127,
R434). -/
def Dev.laneLocks (d : Dev) (l : Nat) (slip box pos : Nat) : Dev :=
  let again := d.rdN (inst Obj.LaneLockCount l) != 0
  let d := ((d.wr (inst Obj.LaneRxState l) 5).inc (inst Obj.LaneLockCount l)).wr (inst Obj.LaneLastLockTurn l) (d.rd Obj.TurnNumber)
  let d := d.setLane l fun x => { x with rxPos := (slip, box, pos) }
  let d := d.wrB (inst Obj.WhorlLocked l) (d.on .whorl l)
  let d := d.setWhorl l fun w => { w with epoch := w.epoch + 1, a1 := none, a2 := none, a3 := none, slopes := [], ratios := [] }
  let d := match d.timedPort l with
    | some p =>
      let off := d.rd (inst Obj.LinkOffset p)
      let d := (d.foldPort p).setLink p fun k =>
        { k with folded := true, beforeRelock := if again && k.recAt != 0 then some off else k.beforeRelock }
      d.when again fun d => d.inc (inst Obj.LinkRelockCount p)
    | none => d
  d.when (d.isNq (d.portOfLane l) && !bit (d.nq (l / 4)).lost (l % 4)) fun d =>
    d.setNq (l / 4) fun n => { n with good := setBit n.good (l % 4) true }

/-- ALIGNMENT_FOUND: LOCKED, unless the polarity check inverts the data and hunts again (R435, R441). -/
def alignmentFound (l slip box pos : Nat) (inverted : Bool) (d : Dev) : Dev :=
  if d.rxState l != 4 then d
  else if inverted && d.rdB (inst Obj.LaneRxPolarityAuto l) then d.invertRx l
  else d.laneLocks l slip box pos

/-- ALIGN_HUNT_TIMEOUT: back to CDR_ACQUIRE, inverted under automatic polarity (R434, R441). -/
def alignHuntTimeout (l : Nat) (d : Dev) : Dev :=
  d.when (d.rxState l == 4) fun d =>
    (d.rxTo l 2).when (d.rdB (inst Obj.LaneRxPolarityAuto l)) fun d => d.invertRx l

/-- ALIGNMENT_LOSS (R434, R435). -/
def laneAlignLoss (l errors : Nat) (d : Dev) : Dev :=
  d.when (d.rxState l == 5) fun d => (d.add32 (inst Obj.LaneBlockErrorCount l) errors).rxTo l 4

/-- HIGH_BER_ONSET: the lane stays LOCKED and its port's link goes down (R435). Only 64B/66B line codes have it. -/
def highBer (l errors : Nat) (d : Dev) : Dev :=
  d.when (d.rxState l == 5 && d.rateCode l != some 0) fun d =>
    (((d.add32 (inst Obj.LaneBlockErrorCount l) errors).inc (inst Obj.LaneHiBerCount l)).quadEvent (l / 4) 4 l).linkDown
      (d.portOfLane l)

/-! ## Transmit states and the lane block (R21, R431, R432, R436, R440) -/

/-- A transmitter becomes ACTIVE: the lane is ENABLED, or ENABLING with its quad ENABLED, and its PLL locked (R436). -/
def Dev.txStart (d : Dev) (l : Nat) : Dev :=
  let st := d.blk .lane l
  let here := st == 2 || (st == 1 && d.on .quad (l / 4))
  let tx := d.rd (inst Obj.LaneTxState l)
  if here && d.laneClocked l && (tx == 0 || tx == 1) && !d.stopped then
    (d.wr (inst Obj.LaneTxState l) 2).txRelock l
  else d

/-- LANE_PLL_LOCK (R431, R436). -/
def lanePllLock (q i : Nat) (d : Dev) : Dev :=
  if d.pllRate q i == 0xFF then d
  else
    let d := d.wr (inst Obj.QuadPllLocked q) (setBit (d.rdN (inst Obj.QuadPllLocked q)) i true : Nat)
    d.forEach (fun k d => d.when ((d.lane (4 * q + k)).pll == some i) fun d => d.txStart (4 * q + k)) (List.range 4)

/-- A lane without a locked PLL: electrical idle on transmit and NO_SIGNAL on receive (R432, R436). -/
def Dev.unclock (d : Dev) (l : Nat) : Dev :=
  let d := d.when (d.rd (inst Obj.LaneTxState l) != 0) fun d => d.wr (inst Obj.LaneTxState l) 1
  d.when (decide (2 ≤ d.rxState l)) fun d => d.rxTo l 1

/-- LANE_PLL_LOCK_LOSS (R432). -/
def lanePllLoss (q i : Nat) (d : Dev) : Dev :=
  if !d.pllLocked q i then d
  else
    let mine := (List.range 4).filter fun k => (d.lane (4 * q + k)).pll == some i
    let d := d.wr (inst Obj.QuadPllLocked q) (setBit (d.rdN (inst Obj.QuadPllLocked q)) i false : Nat)
    let d := d.forEach (fun k d => d.unclock (4 * q + k)) mine
    d.quadEvent q 9 (4 * q + mine.headD 0)

/-- An enable command of a lane is not refused (R430, R431, R440). -/
def Dev.laneMayEnable (d : Dev) (l : Nat) : Bool :=
  match d.rateCode l with
  | none => false
  | some code =>
    decide (d.rd (inst Obj.LaneTxPre l) + d.rd (inst Obj.LaneTxMain l) + d.rd (inst Obj.LaneTxPost l) ≤ 63)
      && (d.pllFor l code).isSome

/-- A lane enters ENABLING: it takes its PLL (R21, R431). -/
def Dev.laneEnabling (d : Dev) (l : Nat) : Dev :=
  ((d.when (d.lane l).pll.isNone fun d => d.takePll l).wr (inst Obj.LaneRxInverted l)
    (if d.rdB (inst Obj.LaneRxPolarityAuto l) then d.rd (inst Obj.LaneRxInverted l) else d.rd (inst Obj.LaneRxInvertForced l))).txStart l

/-- A lane is ready: its PLL is locked and its transmitter ACTIVE (R21). -/
def Dev.laneReady (d : Dev) (l : Nat) : Bool := d.laneClocked l && d.rd (inst Obj.LaneTxState l) == 2

/-- A lane enters ENABLED: its receiver leaves OFF (R434). -/
def Dev.laneEnabled (d : Dev) (l : Nat) : Dev := d.when (d.rxState l == 0) fun d => d.rxTo l 1

/-- A lane leaves ENABLED, or ENABLING: its receiver is OFF; while it waits for its quad it keeps its PLL (R434, R436). -/
def Dev.laneStops (d : Dev) (l : Nat) (keepPll : Bool) : Dev :=
  let d := ((d.rxTo l 0 true).wr (inst Obj.LaneTxState l) 0).wr (inst Obj.LaneSignalDetect l) 0
  if keepPll then d else d.releasePll l

/-- An enable command of a port is not refused (R430). -/
def Dev.portMayEnable (d : Dev) (p : Nat) : Bool :=
  p == 48 || (if d.quadMode (p / 4) == 0 then d.rd (inst Obj.LanePortMode p) != 0 else p % 4 == 0)

/-- A PTP engine may be enabled: its port is timing-capable (R98). -/
def Dev.ptpMayEnable (d : Dev) (p : Nat) : Bool := !d.isSgmii p

/-- The changeover back of R217 counts as a transmit lock of every lane that transmits (R126, R458). -/
def Dev.txRelockAll (d : Dev) : Dev :=
  d.forEach (fun l d => d.when (decide (2 ≤ d.rd (inst Obj.LaneTxState l))) fun d => d.txRelock l) (List.range 48)

/-! ## Equalisation (R438, R439) -/

/-- Work item 8: each LOCKED lane whose adaptation runs in hardware moves each coefficient by at most one code,
from the next boundary on (R44, R438). -/
def laneAdaptation (moves : List (Nat × List Int)) (d : Dev) : Dev :=
  d.workItem 8 fun d => moves.foldl (fun (d : Dev) m =>
    if d.rxState m.1 == 5 && d.adapts m.1 then
      let found := coeffsMoved (d.coeffs m.1) m.2
      d.setLane m.1 fun x => { x with adapted := some found }
    else d) d

/-- LANE_HOST_COEFF_CMD: a set with a field out of range is refused; in host-assisted mode the set waits for the boundary, and
otherwise it decides nothing (R30, R439). -/
def hostCoeffs (l : Nat) (d : Dev) : Dev :=
  let bs := (d.rdV (inst Obj.LaneHostCoeffs l)).bytes
  if !coeffsOk bs then d.wr (inst Obj.LaneHostCoeffCmd l) 0x80
  else
    (d.wr (inst Obj.LaneHostCoeffCmd l) 1).when (d.on .laneAdapt l && d.rdB (inst Obj.ModeF6LaneAdapt l)) fun d =>
      d.setLane l fun x => { x with hostSet := some bs, delivered := true, lastHost := some bs }

/-- What waits for the boundary comes into force: a host set, the factory preset, or what a LOCKED lane adapted (R44, R438, R439,
R458). -/
def coeffsAtBoundary (l : Nat) (d : Dev) : Dev :=
  let x := d.lane l
  let d := d.setLane l fun x => { x with hostSet := none, preset := false, adapted := none }
  match x.hostSet, x.adapted with
  | some bs, _ => d.setCoeffs l bs 1
  | none, some bs => if x.preset then d.setCoeffs l [] 2 else d.when (d.rxState l == 5 && d.adapts l) fun d => d.setCoeffs l bs 0
  | none, none => d.when x.preset fun d => d.setCoeffs l [] 2

/-- Lane adaptation is ENABLED: in hardware mode after host-assisted mode it starts from the host's last set (R35). -/
def Dev.adaptStarts (d : Dev) (l : Nat) : Dev :=
  let host := d.rdB (inst Obj.ModeF6LaneAdapt l)
  let x := d.lane l
  let d := d.setLane l fun x => { x with f6Host := host, hostSet := if host then x.hostSet else none }
  match x.lastHost with
  | some bs => d.when (x.f6Host && !host) fun d => d.setCoeffs l bs 1
  | none => d

/-- The deadline of F6 passed without a set: the preset waits for the boundary (R31, R439). -/
def coeffDeadline (l : Nat) (d : Dev) : Dev :=
  d.when (d.on .laneAdapt l && d.rdB (inst Obj.ModeF6LaneAdapt l) && !(d.lane l).delivered) fun d =>
    d.setLane l fun x => { x with preset := true }

/-! ## Loopback (R442 to R444) -/

/-- LOOPBACK_BEACON_TX: sent by a port whose lanes are up, also while PortLinkUp still reads false (R442 to R444). -/
def beaconTx (p : Nat) (d : Dev) : Dev :=
  if d.on .port p && d.lanesUp p && !d.isSgmii p && d.rdB (inst Obj.LaneBeaconEnable (d.lowLane p)) && !d.stopped then
    if d.rdB (inst Obj.PortLinkUp p) then d.sendEngine p .beacon
    else let out := d.engineFrame p .beacon
      d.countTx p out.length (out.take 6) true false false false
  else d

/-- LOOPBACK_BEACON_RX: one of this device's own beacons marks the port looped and takes its link down (R443). -/
def beaconRx (p source : Nat) (d : Dev) : Dev :=
  let base := beNat (d.rdV Obj.MacBaseAddress).bytes
  if d.on .port p && d.lanesUp p && decide (base ≤ source) && decide (source ≤ base + 47) then
    let st : Int := if source == base + p then 1 else 2
    let d := d.forEach (fun l d => d.wr (inst Obj.LaneLoopbackState l) st) (d.portLanes p)
    (d.linkDown p).quadEvent (p / 4) 5 (d.lowLane p)
  else d

/-- LOOP_CHECK_HOLD_EXPIRY (R444). -/
def loopCheckExpiry (p : Nat) (d : Dev) : Dev :=
  if d.on .port p && d.lanesUp p && !d.line.checked.contains p then
    { d with line := { d.line with checked := d.line.checked ++ [p] } }
  else d

/-- LOOPBACK_CLEAR: three beacon intervals have passed without an own beacon (R443). -/
def loopbackClear (p : Nat) (d : Dev) : Dev :=
  d.forEach (fun l d => d.wr (inst Obj.LaneLoopbackState l) 0) (d.portLanes p)

/-! ## Pattern test (R445 to R447) -/

/-- An enable command of a pattern test block is not refused: its lane is ENABLED, the port it serves neither ENABLED nor
DISABLING, and a PLL is there for its rate (R431, R445, R458). -/
def Dev.ptMayEnable (d : Dev) (l : Nat) : Bool :=
  let port := d.blk .port (d.portOfLane l)
  d.on .lane l && port != 2 && port != 3 && (d.pllFor l (d.rdN (inst Obj.PtRate l))).isSome

/-- The lane of a pattern test block moves to another rate, or back: it keeps its PLL where that runs at the rate. -/
def Dev.retune (d : Dev) (l : Nat) : Dev :=
  match (d.lane l).pll, d.rateCode l with
  | some i, some code =>
    if d.pllRate (l / 4) i == code then d
    else
      let d := (d.releasePll l).takePll l
      if d.laneClocked l then (d.rxTo l 1) else d.unclock l
  | _, _ => d

/-- Add to a U64 counter that saturates. -/
def Dev.addSat64 (d : Dev) (k n : Nat) : Dev := d.wr k (min (2 ^ 64 - 1) (d.rdN k + n) : Nat)

/-- Bits compared and bit errors are counted (R447). -/
def Dev.ptCount (d : Dev) (l bits errors : Nat) : Dev :=
  (d.addSat64 (inst Obj.PtBitCount l) bits).addSat64 (inst Obj.PtErrorCount l) errors

/-- PT_CHECKER_LOCK (R447). The checker runs while the block is ENABLED and a pattern is selected. -/
def ptLock (l bits errors : Nat) (d : Dev) : Dev :=
  d.when (d.on .patternTest l && d.rd (inst Obj.PtRxPattern l) != 0) fun d =>
    (d.wr (inst Obj.PtCheckerLocked l) 1).ptCount l bits errors

/-- PT_CHECKER_LOCK_LOSS (R447). -/
def ptLockLoss (l bits errors : Nat) (d : Dev) : Dev :=
  d.when (d.rdB (inst Obj.PtCheckerLocked l)) fun d =>
    ((d.ptCount l bits errors).wr (inst Obj.PtCheckerLocked l) 0).inc (inst Obj.PtLockLossCount l)

/-- PT_CLEAR_CMD (R447). -/
def ptClear (l : Nat) (d : Dev) : Dev :=
  d.wrs [(inst Obj.PtClearCmd l, 1), (inst Obj.PtBitCount l, 0), (inst Obj.PtErrorCount l, 0)]

/-- PT_INJECT_CMD: the inverted bit leaves on the line; of the device's own state the command object alone shows it
(R447). -/
def ptInject (l : Nat) (d : Dev) : Dev := d.wr (inst Obj.PtInjectCmd l) 1

/-! ## Sleep (R448) -/

/-- LANE_TX_SLEEP: refused for a lane of a Native Quad port (R448). -/
def laneTxSleep (l : Nat) (d : Dev) : Dev :=
  if d.quadMode (l / 4) == 3 then d.wr (inst Obj.LaneTxSleepCmd l) 0x80
  else
    let d := d.wr (inst Obj.LaneTxSleepCmd l) 1
    d.when (d.rd (inst Obj.LaneTxState l) == 2) fun d => (d.wr (inst Obj.LaneTxState l) 3).linkDown (d.portOfLane l)

/-- LANE_TX_WAKE: no transmit lock (R436, R448). -/
def laneTxWake (l : Nat) (d : Dev) : Dev :=
  if d.quadMode (l / 4) == 3 then d.wr (inst Obj.LaneTxSleepCmd l) 0x80
  else (d.wr (inst Obj.LaneTxSleepCmd l) 2).when (d.rd (inst Obj.LaneTxState l) == 3) fun d => d.wr (inst Obj.LaneTxState l) 2

/-- LANE_RX_SLEEP (R448). -/
def laneRxSleep (l : Nat) (d : Dev) : Dev :=
  if d.quadMode (l / 4) == 3 then d.wr (inst Obj.LaneRxSleepCmd l) 0x80
  else (d.wr (inst Obj.LaneRxSleepCmd l) 1).when (d.rxState l == 5) fun d => d.rxTo l 6

/-- LANE_RX_WAKE (R434, R448). -/
def laneRxWake (l : Nat) (d : Dev) : Dev :=
  if d.quadMode (l / 4) == 3 then d.wr (inst Obj.LaneRxSleepCmd l) 0x80
  else (d.wr (inst Obj.LaneRxSleepCmd l) 2).when (d.rxState l == 6) fun d => d.rxTo l 2

/-! ## Native Quad (R449 to R456) -/

/-- A lane set block is due with a new SEQ (R450). -/
def Dev.nqAnnounce (d : Dev) (q : Nat) : Dev := d.setNq q fun n => { n with seq := (n.seq + 1) % 256 }

/-- Name a transmit set for a coming marker (R453, R454). -/
def Dev.nqName (d : Dev) (q set : Nat) (retreat : Bool) : Dev :=
  (d.setNq q fun n => { n with txNext := some (set, retreat), widening := none, low := 0 }).nqAnnounce q

/-- Begin a widening: the added lanes wake (R453). -/
def Dev.nqWiden (d : Dev) (q set : Nat) : Dev :=
  let now := d.rdN (inst Obj.NqActiveTxSet q)
  let d := d.forEach (fun k d => d.when (bit set k && !bit now k && d.rd (inst Obj.LaneTxState (4 * q + k)) == 3) fun d =>
    d.wr (inst Obj.LaneTxState (4 * q + k)) 2) (List.range 4)
  (d.setNq q fun n => { n with widening := some set }).nqAnnounce q

/-- NQ_THIN_WINDOW: one window of the rule of R452, with the thermal limit of R456; suspended while the port is looped
(R458) and while a change is in progress. -/
def nqThinWindow (q load : Nat) (d : Dev) : Dev :=
  let p := 4 * q
  let x := d.nq q
  if !d.isNq p || !d.rdB (inst Obj.PortLinkUp p) || d.looped p then d
  else
    let now := d.rdN (inst Obj.NqActiveTxSet q)
    let n := lanesIn now
    let lane := 3125000
    let quiet := decide (2 ≤ n) && decide (load * 100 ≤ d.rdN (inst Obj.NqThinLow q) * (n / 2) * lane)
    let low := if quiet then x.low + 1 else 0
    let d := d.setNq q fun n => { n with low := low }
    if x.txNext.isSome || x.widening.isSome then d
    else
      let timing := d.nqTiming q now
      let warm := d.rd Obj.ThermalState == 1
      let enabled := d.rdB (inst Obj.NqThinEnable q)
      let best := nqSet x.peerGood timing (if warm then 2 else 4)
      let minOk := decide (d.rdN (inst Obj.NqMinTxLanes q) ≤ n / 2)
      let full := (List.range 8).any fun c => decide (d.rdN (inst Obj.NqWidenCells q) ≤ d.rdN (queueObj Obj.QueueFill p c))
      let busy := decide (d.rdN (inst Obj.NqWidenHigh q) * n * lane ≤ load * 100) || full
      if warm && decide (2 < n) then d.nqName q (nqSet now timing 2) false
      else if enabled && decide (d.rdN (inst Obj.NqThinHold q) ≤ low) && minOk && decide (2 ≤ n) then
        d.nqName q (nqSet now timing (n / 2)) false
      else
        let target := if enabled then nqSet x.peerGood timing (if warm then min 2 (2 * n) else 2 * n) else best
        if (busy || !enabled) && decide (n < lanesIn target) then d.nqWiden q target else d

/-- NQ_LANE_SET_BLOCK_RX: the peer's sets are taken in; what it can no longer receive is left at the next marker, and lanes
it offers complete a widening (R450, R453, R454). -/
def nqBlockRx (q txSet rxGood rxAck : Nat) (d : Dev) : Dev :=
  let p := 4 * q
  if !d.isNq p || !d.rdB (inst Obj.PortLinkUp p) then d
  else
    let now := d.rdN (inst Obj.NqActiveTxSet q)
    let d := d.setNq q fun n =>
      { n with peerGood := rxGood % 16, rxNext := if txSet % 16 == d.rdN (inst Obj.NqActiveRxSet q) then none else some (txSet % 16) }
    let x := d.nq q
    let left := now &&& (rxGood % 16)
    if left == 0 then d
    else if left != now then
      d.nqName q (nqSet left (d.nqTiming q left) (if 2 ≤ lanesIn left then 2 else 1)) true
    else match x.widening with
      | some set => d.when (set &&& ((rxAck % 16) ||| now) == set) fun d => d.nqName q set false
      | none => d

/-- NQ_TX_AT_MARKER: the set named takes effect. Lanes that a thinning drops go to sleep on transmit, and on receive at the
peer's marker; only a change of the own transmit set is counted (R453). -/
def nqTxAt (q : Nat) (rx : Bool) (d : Dev) : Dev :=
  let p := 4 * q
  if rx then
    match (d.nq q).rxNext with
    | none => d
    | some set =>
      let was := d.rdN (inst Obj.NqActiveRxSet q)
      let d := (d.wr (inst Obj.NqActiveRxSet q) set).setNq q fun n => { n with rxNext := none }
      d.forEach (fun k d =>
        d.when (bit was k && !bit set k && d.rxState (p + k) == 5) fun d => d.rxTo (p + k) 6) (List.range 4)
  else
    match (d.nq q).txNext with
    | none => d
    | some (set, retreat) =>
      let was := d.rdN (inst Obj.NqActiveTxSet q)
      let d := (d.wr (inst Obj.NqActiveTxSet q) set).setNq q fun n => { n with txNext := none, low := 0 }
      if retreat then d
      else
        let d := d.forEach (fun k d => d.when (bit was k && !bit set k && d.rd (inst Obj.LaneTxState (p + k)) == 2) fun d =>
          d.wr (inst Obj.LaneTxState (p + k)) 3) (List.range 4)
        (d.inc (inst Obj.NqThinCount q)).quadEvent q 8 (d.timingLane p)

/-- The timing lane of a Native Quad port moves: exchanges on the lost lane are abandoned, the whorl series of the new lane
starts again, and the port stays in its link timing state (R128). -/
def Dev.moveTiming (d : Dev) (p lane : Nat) : Dev :=
  if d.timingLane p == lane then d
  else
    let d := (d.wr (inst Obj.TimingLane p) lane).setWhorl lane fun w =>
      { w with epoch := w.epoch + 1, a1 := none, a2 := none, a3 := none, slopes := [], ratios := [] }
    (d.abandonExchanges p).foldPort p

/-- NQ_LANE_LOSS: the receiver retreats to the largest good set within its active set; frames hit are discarded and counted
(R454). With no good lane left the port has gone down. -/
def nqLaneLoss (q lane frames : Nat) (d : Dev) : Dev :=
  let p := 4 * q
  let act := d.rdN (inst Obj.NqActiveRxSet q)
  let left := act &&& (d.nq q).good
  if !d.isNq p || !d.rdB (inst Obj.PortLinkUp p) || !bit act lane || bit (d.nq q).good lane then d
  else
    let d := ((d.add32 (inst Obj.NqRetreatDiscardCount q) frames).count p 10 frames).inc (inst Obj.NqRetreatCount q)
    let d := d.quadEvent q 6 (p + lane)
    if left == 0 then d.linkDown p
    else
      let timing := lowBit left
      let set := nqSet left timing (if 2 ≤ lanesIn left then 2 else 1)
      let d := (d.wr (inst Obj.NqActiveRxSet q) set).setNq q fun n => { n with rxNext := none }
      (d.nqAnnounce q).moveTiming p (p + timing)

/-- NQ_MARKER_LOCK_LOSS: the lane is lost (R449). -/
def nqMarkerLoss (q lane : Nat) (d : Dev) : Dev :=
  let p := 4 * q
  if d.isNq p && bit (d.nq q).good lane then
    let d := d.setNq q fun n => { n with good := setBit n.good lane false, lost := setBit n.lost lane true }
    d.when ((d.nq q).good == 0) fun d => d.linkDown p
  else d

/-- NQ_RESTORE_HOLD_EXPIRY: a lost lane is good again (R455). -/
def nqRestore (q lane : Nat) (d : Dev) : Dev :=
  let p := 4 * q
  if d.isNq p && bit (d.nq q).lost lane && d.rxState (p + lane) == 5 then
    ((d.setNq q fun n => { n with good := setBit n.good lane true, lost := setBit n.lost lane false }).nqAnnounce q).quadEvent
      q 6 (p + lane)
  else d

/-- FEC_UNCORRECTABLE_CODEWORD (R459, R463). -/
def fecUncorrectable (l corrected : Nat) (d : Dev) : Dev :=
  ((d.add32 (inst Obj.LaneFecCorrectedCount l) corrected).inc (inst Obj.LaneFecUncorrectedCount l)).quadEvent (l / 4) 10 l

/-! ## Meanings -/

/-- SIGNAL_DETECT (R433). -/
def execSignalDetect (l : Lane) (s : State) : Host.Outcome State Fault Refusal := s.effect (signalDetect l)

/-- LOSS_OF_SIGNAL (R433). -/
def execLossOfSignal (l : Lane) (s : State) : Host.Outcome State Fault Refusal := s.effect (lossOfSignal l)

/-- SIGNAL_HOLD_ELAPSED (R434). -/
def execSignalHoldElapsed (l : Lane) (s : State) : Host.Outcome State Fault Refusal := s.effect (signalHold l)

/-- CDR_LOCK (R434). -/
def execCdrLock (l : Lane) (s : State) : Host.Outcome State Fault Refusal := s.effect (cdrLock l)

/-- CDR_LOCK_LOSS (R434). -/
def execCdrLockLoss (l : Lane) (s : State) : Host.Outcome State Fault Refusal := s.effect (cdrLockLoss l)

/-- ADAPTATION_CONVERGED (R434). -/
def execAdaptationConverged (l : Lane) (coeffs : List Byte) (s : State) : Host.Outcome State Fault Refusal :=
  s.effect (adaptationConverged l coeffs)

/-- ALIGNMENT_FOUND (R435). -/
def execAlignmentFound (l : Lane) (rxSlip rxGearbox position : Nat) (inverted : Bool) (s : State) : Host.Outcome State Fault Refusal :=
  s.effect (alignmentFound l rxSlip rxGearbox position inverted)

/-- ALIGN_HUNT_TIMEOUT (R434). -/
def execAlignHuntTimeout (l : Lane) (s : State) : Host.Outcome State Fault Refusal := s.effect (alignHuntTimeout l)

/-- ALIGNMENT_LOSS (R435). -/
def execAlignmentLoss (l : Lane) (errors : Nat) (s : State) : Host.Outcome State Fault Refusal :=
  s.effect (laneAlignLoss l errors)

/-- HIGH_BER_ONSET (R435). -/
def execHighBerOnset (l : Lane) (errors : Nat) (s : State) : Host.Outcome State Fault Refusal := s.effect (highBer l errors)

/-- LANE_PLL_LOCK (R431). -/
def execLanePllLock (q : Quad) (pll : Fin 2) (s : State) : Host.Outcome State Fault Refusal := s.effect (lanePllLock q pll)

/-- LANE_PLL_LOCK_LOSS (R432). -/
def execLanePllLockLoss (q : Quad) (pll : Fin 2) (s : State) : Host.Outcome State Fault Refusal :=
  s.effect (lanePllLoss q pll)

/-- PORT_LINK_UP (R444). -/
def execPortLinkUp (p : Port) (sgmii : Fin 3) (halfDuplex : Bool) (s : State) : Host.Outcome State Fault Refusal :=
  s.effect (portLinkUp p sgmii halfDuplex)

/-- PORT_LINK_DOWN (R352). -/
def execPortLinkDown (p : Port) (s : State) : Host.Outcome State Fault Refusal := s.effect (·.linkDown p)

/-- LANE_HOST_COEFF_CMD (R439). -/
def execLaneHostCoeffCmd (l : Lane) (s : State) : Host.Outcome State Fault Refusal := s.effect (hostCoeffs l)

/-- LANE_EQUALISATION_ADAPTATION (R438). -/
def execLaneEqualisationAdaptation (moves : List (Lane × List Int)) (s : State) : Host.Outcome State Fault Refusal :=
  s.effect (laneAdaptation (moves.map fun m => (m.1.val, m.2)))

/-- LOOPBACK_BEACON_TX (R442). -/
def execLoopbackBeaconTx (p : Port) (s : State) : Host.Outcome State Fault Refusal := s.effect (beaconTx p)

/-- LOOPBACK_BEACON_RX (R443). -/
def execLoopbackBeaconRx (p : Port) (source : Nat) (s : State) : Host.Outcome State Fault Refusal :=
  s.effect (beaconRx p source)

/-- LOOP_CHECK_HOLD_EXPIRY (R444). -/
def execLoopCheckHoldExpiry (p : Port) (s : State) : Host.Outcome State Fault Refusal := s.effect (loopCheckExpiry p)

/-- LOOPBACK_CLEAR (R443). -/
def execLoopbackClear (p : Port) (s : State) : Host.Outcome State Fault Refusal := s.effect (loopbackClear p)

/-- PT_CLEAR_CMD (R447). -/
def execPtClearCmd (l : Lane) (s : State) : Host.Outcome State Fault Refusal := s.effect (ptClear l)

/-- PT_INJECT_CMD (R447). -/
def execPtInjectCmd (l : Lane) (s : State) : Host.Outcome State Fault Refusal := s.effect (ptInject l)

/-- PT_CHECKER_LOCK (R447). -/
def execPtCheckerLock (l : Lane) (bits errors : Nat) (s : State) : Host.Outcome State Fault Refusal :=
  s.effect (ptLock l bits errors)

/-- PT_CHECKER_LOCK_LOSS (R447). -/
def execPtCheckerLockLoss (l : Lane) (bits errors : Nat) (s : State) : Host.Outcome State Fault Refusal :=
  s.effect (ptLockLoss l bits errors)

/-- LANE_TX_SLEEP (R448). -/
def execLaneTxSleep (l : Lane) (s : State) : Host.Outcome State Fault Refusal := s.effect (laneTxSleep l)

/-- LANE_TX_WAKE (R448). -/
def execLaneTxWake (l : Lane) (s : State) : Host.Outcome State Fault Refusal := s.effect (laneTxWake l)

/-- LANE_RX_SLEEP (R448). -/
def execLaneRxSleep (l : Lane) (s : State) : Host.Outcome State Fault Refusal := s.effect (laneRxSleep l)

/-- LANE_RX_WAKE (R448). -/
def execLaneRxWake (l : Lane) (s : State) : Host.Outcome State Fault Refusal := s.effect (laneRxWake l)

/-- NQ_THIN_WINDOW (R452). -/
def execNqThinWindow (q : Quad) (bytes : Nat) (s : State) : Host.Outcome State Fault Refusal :=
  s.effect (nqThinWindow q bytes)

/-- NQ_LANE_SET_BLOCK_RX (R450). -/
def execNqLaneSetBlockRx (q : Quad) (txSet _txAt rxGood rxAck _seq : Nat) (s : State) : Host.Outcome State Fault Refusal :=
  s.effect (nqBlockRx q txSet rxGood rxAck)

/-- NQ_TX_AT_MARKER (R453). -/
def execNqTxAtMarker (q : Quad) (rx : Bool) (s : State) : Host.Outcome State Fault Refusal := s.effect (nqTxAt q rx)

/-- NQ_LANE_LOSS (R454). -/
def execNqLaneLoss (q : Quad) (lane : Fin 4) (frames : Nat) (s : State) : Host.Outcome State Fault Refusal :=
  s.effect (nqLaneLoss q lane frames)

/-- NQ_MARKER_LOCK_LOSS (R449). -/
def execNqMarkerLockLoss (q : Quad) (lane : Fin 4) (s : State) : Host.Outcome State Fault Refusal :=
  s.effect (nqMarkerLoss q lane)

/-- NQ_RESTORE_HOLD_EXPIRY (R455). -/
def execNqRestoreHoldExpiry (q : Quad) (lane : Fin 4) (s : State) : Host.Outcome State Fault Refusal :=
  s.effect (nqRestore q lane)

/-- FEC_UNCORRECTABLE_CODEWORD (R459). -/
def execFecUncorrectableCodeword (l : Lane) (corrected : Nat) (s : State) : Host.Outcome State Fault Refusal :=
  s.effect (fecUncorrectable l corrected)

end Sys2Proof.Machine
end

