-- ==== Sys2Proof/Machine/Redundancy.lean ====
section
/-! DEFINITION. Redundant pairs, heartbeats and arbitration, and the firmware update in service (chapter 14, R590 to
R593). -/

namespace Sys2Proof.Machine

/-! ## Units and pairs (R464, R465) -/

/-- A redundant pair: 0 the spindles, 1 the cores. -/
def Dev.pair (d : Dev) (p : Nat) : PairSt := Sparse.get (fun _ => {}) d.red.pairs p

/-- Change a pair. -/
def Dev.setPair (d : Dev) (p : Nat) (f : PairSt → PairSt) : Dev :=
  { d with red := { d.red with pairs := Sparse.set (fun _ => {}) d.red.pairs p (f (d.pair p)) } }

/-- The unit of a pair that is ACTIVE (R464). -/
def Dev.activeUnit (d : Dev) (p : Nat) : Nat := if d.unitState (2 * p + 1) == 3 then 2 * p + 1 else 2 * p

/-- The other unit of a pair. -/
def Dev.standbyUnit (d : Dev) (p : Nat) : Nat := 4 * p + 1 - d.activeUnit p

/-- The standby of a pair is IN_STEP and its HEALTH bit [40] is set (R476). -/
def Dev.available (d : Dev) (p : Nat) : Bool :=
  d.unitState (d.standbyUnit p) == 2 && (d.unit (d.standbyUnit p)).passed

/-- The block state of a unit, from its redundancy state and cause (R465). -/
def unitBlock (st cause : Int) : Int :=
  if 2 ≤ st then 2 else if st == 1 then 1 else if cause ≤ 1 then 0 else 4

/-- A unit enters a redundancy state: block state and spindle role follow (R465). -/
def Dev.unitTo (d : Dev) (u : Nat) (st : Int) : Dev :=
  let d := d.wr (inst Obj.RedUnitState u) st
  let b := unitBlock st (d.rd (inst Obj.RedOutOfServiceCause u))
  if u < 2 then
    d.wrs [(inst Obj.SpindleBlockState u, b), (inst Obj.SpindleRole u, if st == 3 then 0 else if st == 0 then 2 else 1)]
  else d.wr (inst Obj.CoreBlockState (u - 2)) b

/-- Entries into OUT_OF_SERVICE of the last 86,400 s, other than by a command or an update (R483). -/
def Dev.faults24 (d : Dev) (u : Nat) : Nat :=
  ((d.unit u).faults.filter fun t => decide (d.time.uptime < t + 86400000000000)).length

/-- A unit goes OUT_OF_SERVICE with a cause, or with cause 6 when that reaches the fault limit (R469, R483, R485). -/
def Dev.outOfService (d : Dev) (u cause : Nat) : Dev :=
  let counted := cause != 1 && cause != 7
  let d := d.setUnit u fun x =>
    { x with checker := false, passed := false, returning := false, loaded := false, agreed := 0,
             faults := if counted then lastN 65535 (x.faults ++ [d.time.uptime]) else x.faults }
  let held := counted && decide (d.rdN (inst Obj.RedFaultLimit (u / 2)) ≤ d.faults24 u)
  let d := (d.setUnit u fun x => { x with held := held }).inc (inst Obj.RedFaultCount u)
  (d.wr (inst Obj.RedOutOfServiceCause u) (if held then 6 else cause : Nat)).unitTo u 0

/-- A unit enters SYNCING (R485). -/
def Dev.unitSync (d : Dev) (u : Nat) : Dev :=
  (d.setUnit u fun x => { x with loaded := false, agreed := 0, failMask := 0, returning := false, since := d.turn.started }).unitTo
    u 1

/-- A unit reaches IN_STEP: the revert hold begins (R487), and an update is complete (R491). -/
def Dev.inStep (d : Dev) (u : Nat) : Dev :=
  let d := (d.unitTo u 2).setPair (u / 2) fun p => { p with holdFrom := some d.time.uptime }
  if decide (2 ≤ u) && d.fw.completing then
    { d.wr Obj.FwUpdateState 8 with fw := { d.fw with completing := false } }
  else d

/-- A unit of a pair takes over: the former active unit goes OUT_OF_SERVICE with a cause, or IN_STEP (R477, R478, R480,
R487, R488). -/
def Dev.takeOver (d : Dev) (p : Nat) (event : Int) (oos : Option Nat) (turn : Nat) : Dev :=
  let a := d.activeUnit p
  let s := d.standbyUnit p
  if d.unitState s != 2 then d
  else
    let d := d.unitTo s 3
    let d := match oos with
      | some c => d.outOfService a c
      | none => d.unitTo a 2
    let d := ((d.inc (inst Obj.RedTakeoverCount p)).wrs
      [(inst Obj.RedLastTakeoverTurn p, turn), (inst Obj.RedEventCause p, event)]).raise (if p == 0 then 26 else 48)
    d.setPair p fun x =>
      { x with revert := false, holdFrom := if oos.isNone then some d.time.uptime else none }

/-! ## Heartbeats (R470 to R475) -/

/-- The heartbeat word of a unit in a slot (R471); the bits of the digest, whose record layout the spec does not give, are
free (R468). -/
def Dev.heartbeatWord (d : Dev) (u slot digest : Nat) : Nat :=
  let x := d.unit u
  let health := ofBool x.passed + 2 * ofBool (d.unitState u == 2) + 4 * ofBool x.checker
  let body := (u % 2) * 2 ^ 39 + slot * 2 ^ 38 + (u / 2 + 1) * 2 ^ 36 + health * 2 ^ 32 + x.seq * 2 ^ 16 + digest % 2 ^ 16
  0xB4 * 2 ^ 48 + body * 2 ^ 8 + crc8 40 body

/-- A unit in service sends its slot (R470). -/
def Dev.sendSlot (d : Dev) (u slot digest : Nat) : Dev :=
  let w := d.heartbeatWord u slot digest
  d.setUnit u fun x => { x with seq := (x.seq + 1) % 2 ^ 16, word := w }

/-- One path of a pair after a Turn: misses counted, the path lost or restored (R474). `got1` is none where no slot 1 is
due. -/
def Dev.heartbeatPath (d : Dev) (p : Nat) (isB got0 : Bool) (got1 : Option Bool) : Dev :=
  let x := if isB then (d.pair p).b else (d.pair p).a
  let y : PathSt :=
    { missed := if got0 then 0 else x.missed + 1, received := if got0 then x.received + 1 else 0,
      missed1 := if got0 && got1 == some false then x.missed1 + 1 else 0 }
  let d := d.setPair p fun z => if isB then { z with b := y } else { z with a := y }
  let n := ofBool (!got0) + ofBool (got1 == some false)
  let d := d.add32 (inst (if isB then Obj.RedHbMissCountB else Obj.RedHbMissCountA) p) n
  let k := ofBool isB
  let mask := d.rdN (inst Obj.RedHbPathState p)
  let lost := bit mask k
  if !lost && decide (d.rdN (inst Obj.RedHbMissLimit p) ≤ y.missed) then
    (d.wr (inst Obj.RedHbPathState p) (setBit mask k true : Nat)).record (49 + k)
  else if lost && decide (16 ≤ y.received) then (d.wr (inst Obj.RedHbPathState p) (setBit mask k false : Nat)).record (49 + k)
  else d

/-- A Turn in which nothing of a pair was heard. -/
def silentPair : PairObs := { a0 := none, b0 := none, a1 := none, b1 := none, differ := false }

/-- A slot is received: its word has the right preamble and a good CRC, PAIR, UNIT and ROLE of the roles in force, and the next
SEQ of its unit (R471, R472). -/
def Dev.slotGood (d : Dev) (u slot : Nat) (w : Option Nat) : Bool :=
  match w with
  | some w => bits w 48 8 == 0xB4 && bits w 0 8 == crc8 40 (bits w 8 40) && bits w 47 1 == u % 2 && bits w 46 1 == slot
      && bits w 44 2 == u / 2 + 1 && bits w 24 16 == (d.unit u).seq
  | none => false

/-- Which slots a pair received on path A and on path B, and whether its digests differ (R468, R472). -/
structure PairHeard where
  a0 : Bool
  b0 : Bool
  a1 : Bool
  b1 : Bool
  differ : Bool
deriving DecidableEq, Repr

/-- What a pair heard of what arrived. -/
def Dev.hears (d : Dev) (p : Nat) (o : PairObs) : PairHeard :=
  let a := d.activeUnit p
  let s := d.standbyUnit p
  { a0 := d.slotGood a 0 o.a0, b0 := d.slotGood a 0 o.b0, a1 := d.slotGood s 1 o.a1, b1 := d.slotGood s 1 o.b1,
    differ := o.differ }

/-- A slot of a pair that item 11 did not complete counts as a miss on its path (R48, R474). -/
def Dev.slotsMissed (d : Dev) (spindles cores : PairObs) : Dev :=
  d.forEach (fun p d =>
    let o := d.hears p (if p == 0 then spindles else cores)
    let st := d.unitState (d.standbyUnit p)
    let got1 (g : Bool) : Option Bool := if st == 1 || st == 2 then some g else none
    (d.heartbeatPath p false o.a0 (got1 o.a1)).heartbeatPath p true o.b0 (got1 o.b1)) [0, 1]

/-! ## Arbitration (R476) -/

/-- The standby of a pair is removed at the next boundary (R476, rows 6 to 8). -/
def Dev.removeStandby (d : Dev) (p cause : Nat) (event : Bool) : Dev :=
  let d := (d.setPair p fun x => { x with act := some (.remove cause) }).record 51
  d.when event fun d => d.wr (inst Obj.RedEventCause p) 8

/-- What a pair does at the end of item 11: the state of the pair, and the cause of a device-level fault where one follows
(R470, R474 to R476). Nothing is compared during a gap (R475). In the Turn of a firmware handover the pair of cores only
notes whether the new core was silent (R492). -/
def Dev.arbitrate (d : Dev) (p : Nat) (o : PairHeard) (compare : Bool) : Dev × Option Nat :=
  let a := d.activeUnit p
  let s := d.standbyUnit p
  let inService := d.unitState s == 1 || d.unitState s == 2
  let digest := d.free.toNat
  let d := (d.sendSlot a 0 digest).when inService fun d => d.sendSlot s 1 (if o.differ then digest + 1 else digest)
  let d := d.drawn
  let got1 (g : Bool) : Option Bool := if inService then some g else none
  let d := (d.heartbeatPath p false o.a0 (got1 o.a1)).heartbeatPath p true o.b0 (got1 o.b1)
  if p == 1 && d.fw.handedAt == some d.turn.started then ({ d with fw := { d.fw with silent := !o.a0 && !o.b0 } }, none)
  else
    let differ := compare && inService && (d.unit s).loaded && o.differ
    let agree := compare && inService && (d.unit s).loaded && !o.differ
    let d := d.when differ fun d =>
      (((d.inc (inst Obj.RedMismatchCount p)).wr (inst Obj.RedLastMismatchTurn p) (d.rd Obj.TurnNumber)).setUnit s
        fun x => { x with agreed := 0 }).setPair p fun x => { x with holdFrom := x.holdFrom.map fun _ => d.time.uptime }
    let d := d.when agree fun d => d.setUnit s fun x => { x with agreed := x.agreed + 1 }
    let d := d.when (agree && d.unitState s == 1 && decide (2 ≤ (d.unit s).agreed)) fun d => d.inStep s
    let mask := d.rdN (inst Obj.RedHbPathState p)
    let silent := (!o.a0 && !o.b0) || (!o.a0 && bit mask 1) || (!o.b0 && bit mask 0)
    let ca := (d.unit a).checker
    let cs := (d.unit s).checker
    let x := d.pair p
    let limit := d.rdN (inst Obj.RedHbMissLimit p)
    if p == 1 && inService && !o.a0 && !o.b0 && !o.a1 && !o.b1 then (d, some 4)
    else if silent && d.available p then (d.setPair p fun x => { x with act := some (.take 1 2) }, none)
    else if silent then ((d.wr (inst Obj.RedEventCause p) 7).raise (if p == 0 then 26 else 48), none)
    else if differ && ca && cs then (d, some 5)
    else if differ && ca && d.available p then (d.setPair p fun x => { x with act := some (.take 2 3) }, none)
    else if differ && (cs || !d.available p) then (d.removeStandby p 3 true, none)
    else if differ then (d.removeStandby p 8 true, none)
    else if inService && (decide (limit ≤ x.a.missed1) || decide (limit ≤ x.b.missed1)) then (d.removeStandby p 5 false, none)
    else (d, none)

/-- Both pairs at the end of item 11; the fault of the first pair that has one, and whether it is the cores'. -/
def Dev.arbitrateAll (d : Dev) (spindles cores : PairObs) (compare : Bool) : Dev × Option (Nat × Bool) :=
  let r := d.arbitrate 0 (d.hears 0 spindles) compare
  let t := r.1.arbitrate 1 (r.1.hears 1 cores) compare
  (t.1, (r.2.map fun c => (c, false)).or (t.2.map fun c => (c, true)))

/-- A takeover or removal decided in the Turn before is made (R476); answers whether one was. -/
def Dev.pairAct (d : Dev) (p turn : Nat) : Dev × Bool :=
  let x := d.pair p
  let d := d.setPair p fun x => { x with act := none }
  match x.act with
  | some (.take event oos) => (d.takeOver p event (some oos) turn, true)
  | some (.remove cause) =>
    let s := d.standbyUnit p
    if d.unitState s == 1 || d.unitState s == 2 then
      ((d.outOfService s cause).setPair p fun x => { x with revert := false, holdFrom := none }, true)
    else (d, false)
  | none => (d, false)

/-! ## At a Turn boundary -/

/-- A takeover of a pair is decided and waits for the boundary (R476). -/
def PairSt.takes (x : PairSt) : Bool :=
  match x.act with
  | some (.take _ _) => true
  | _ => false

/-- A core takeover, decided or made, while an update is armed cancels it (R494). -/
def Dev.updateMeetsTakeover (d : Dev) (took : Bool) : Dev :=
  let st := d.rd Obj.FwUpdateState
  if took && decide (3 ≤ st) && decide (st ≤ 5) then
    (d.disarm fun c => c.kind == .handover).wrs [(Obj.FwUpdateState, 9), (Obj.FwUpdateResult, 7)]
  else d

/-- What a pair does at a Turn boundary: a decided takeover or removal, else a commanded switch or a revert (R476, R487,
R488, R494). -/
def pairBoundary (turn p : Nat) (d : Dev) : Dev :=
  let was := d.activeUnit 1
  let took := (d.pair 1).takes
  let r := d.pairAct p turn
  let d := r.1
  let switch := d.rd (inst Obj.RedSwitchCmd p) == 1
  let d :=
    if switch then
      if !r.2 && d.available p then (d.takeOver p 4 none turn).wr (inst Obj.RedSwitchCmd p) 2
      else d.wr (inst Obj.RedSwitchCmd p) 0x80
    else if !r.2 && (d.pair p).revert then
      (d.when (d.rdN (inst Obj.RedPreferred p) == d.standbyUnit p - 2 * p && d.unitState (d.standbyUnit p) == 2) fun d =>
        d.takeOver p 3 none turn).setPair p fun x => { x with revert := false }
    else d
  if p == 1 then d.updateMeetsTakeover (took || d.activeUnit 1 != was) else d

/-- A syncing spindle loads the active spindle's record and its state (R486, R200); a spindle that has not reached IN_STEP
in 4 Turns goes out of service (R466). -/
def Dev.spindleSync (d : Dev) : Dev :=
  let s := d.standbyUnit 0
  if d.unitState s != 1 then d
  else if decide ((d.unit s).since + 4 < d.turn.started) then d.outOfService s 5
  else if (d.unit s).loaded then d
  else
    let a := d.activeUnit 0
    let x := d.spindle a
    let d := (d.setSpindle s fun _ => x).wrs
      [(inst Obj.NcoWord s, d.rd (inst Obj.NcoWord a)), (inst Obj.NcoFrequencyTerm s, d.rd (inst Obj.NcoFrequencyTerm a)),
       (inst Obj.NcoPhaseTerm s, d.rd (inst Obj.NcoPhaseTerm a))]
    let d := spindleEnters (d.rd (inst Obj.SpindleState a)) s d
    d.setUnit s fun x => { x with loaded := true }

/-- An enable command of a unit takes effect: one that is out of service returns (R22, R484, R485). -/
def Dev.unitEnable (d : Dev) (u : Nat) : Dev := d.when (d.unitState u == 0) fun d => d.unitSync u

/-- An enable command of a unit is not refused: it is not held by the fault limit (R22, R485). -/
def Dev.unitMayEnable (d : Dev) (u : Nat) : Bool := !(d.unit u).held

/-- A disable command of a unit takes effect (R18, R464); a unit held by the fault limit stays held (R485). -/
def Dev.unitDisable (d : Dev) (u : Nat) : Dev :=
  if d.unitState u == 1 || d.unitState u == 2 then d.outOfService u 1
  else if d.unitState u == 0 && !(d.unit u).held then
    ((d.setUnit u fun x => { x with returning := false }).wr (inst Obj.RedOutOfServiceCause u) 1).unitTo u 0
  else d

/-! ## Self-test and the health record (R469, R481 to R485) -/

/-- CHECKER_ERROR (R469). -/
def checkerError (u : Nat) (d : Dev) : Dev :=
  d.setUnit u fun x => { x with checker := true, uncorrected := (x.uncorrected + 1) % 2 ^ 32 }

/-- The items a unit runs: all on the standby, 0 and 1 on the active unit; item 5 is the spindles' (R481). -/
def Dev.selfTestItems (d : Dev) (u : Nat) : Nat := if d.unitState u == 3 then 3 else if u < 2 then 63 else 31

/-- The health record after a self-test cycle (R481, R483). -/
def Dev.recordCycle (d : Dev) (u failed : Nat) : Dev :=
  let items := d.selfTestItems u
  let f := failed &&& items
  d.setUnit u fun x =>
    { x with passMask := items - f, failMask := x.failMask ||| f, passed := f == 0,
             lastPass := if f = 0 then d.rdN Obj.TurnNumber else x.lastPass, cycles := (x.cycles + 1) % 2 ^ 32 }

/-- SELF_TEST_CYCLE_COMPLETE of a unit in service: a failed item removes the standby, an uncorrectable error found on the
active unit sets its checker flag (R481, R482). -/
def selfTestCycle (u failed corrected uncorrectable : Nat) (d : Dev) : Dev :=
  if decide (d.unitState u < 2) then d
  else
    let d := (d.recordCycle u failed).setUnit u fun x =>
      { x with corrected := (x.corrected + corrected) % 2 ^ 32, uncorrected := (x.uncorrected + uncorrectable) % 2 ^ 32 }
    if d.unitState u == 3 then d.when (uncorrectable != 0) fun d => d.setUnit u fun x => { x with checker := true }
    else d.when (failed &&& d.selfTestItems u != 0) fun d =>
      ((d.outOfService u 4).record 51).setPair (u / 2) fun x => { x with revert := false, holdFrom := none }

/-- A unit out of service runs its isolated cycle: RedReturnCmd or, after the causes R484 names, RedAutoReturn asked for it,
and the fault limit does not hold it (R484, R485). -/
def Dev.isolated (d : Dev) (u : Nat) : Bool :=
  let cause := d.rd (inst Obj.RedOutOfServiceCause u)
  d.unitState u == 0 && !(d.unit u).held &&
    ((d.unit u).returning || (d.rdB (inst Obj.RedAutoReturn (u / 2)) && decide (2 ≤ cause) && cause != 6 && cause != 7))

/-- ISOLATED_SELF_TEST_COMPLETE: a unit that passes enters SYNCING; one that fails stays out of service (R485). -/
def isolatedTest (u failed : Nat) (d : Dev) : Dev :=
  if d.isolated u then
    let d := d.recordCycle u failed
    d.when (d.unit u).passed fun d => d.unitSync u
  else d

/-- RED_RETURN_CMD: the hold is cleared and the return starts; refused unless the unit is held (R485, R495). -/
def redReturn (u : Nat) (d : Dev) : Dev :=
  if (d.unit u).held then
    (d.wr (inst Obj.RedReturnCmd u) 1).setUnit u fun x => { x with held := false, returning := true }
  else d.wr (inst Obj.RedReturnCmd u) 0x80

/-- RED_SWITCH_CMD: refused when no standby is available (R488). -/
def redSwitch (p : Nat) (d : Dev) : Dev := d.wr (inst Obj.RedSwitchCmd p) (if d.available p then 1 else 0x80)

/-- REVERT_HOLD_EXPIRY: the preferred unit is the standby and has stayed IN_STEP (R487). -/
def revertHold (p : Nat) (d : Dev) : Dev :=
  d.when (d.rdN (inst Obj.RedPreferred p) == d.standbyUnit p - 2 * p && d.available p && (d.pair p).holdFrom.isSome) fun d =>
    d.setPair p fun x => { x with revert := true }

/-- RedRevertRemaining: seconds left of the hold, 0 while none runs (R487). -/
def Dev.revertLeft (d : Dev) (p : Nat) : Nat :=
  match (d.pair p).holdFrom with
  | some t =>
    if d.rdN (inst Obj.RedPreferred p) == d.standbyUnit p - 2 * p && d.unitState (d.standbyUnit p) == 2 then
      (ceilDiv ((t + d.rdN (inst Obj.RedRevertHold p) * 1000000000 : Nat) - (d.time.uptime : Int)) 1000000000).toNat
    else 0
  | none => 0

/-- CORE_REGISTER_LOAD: the syncing core runs in step from the boundary synchronisation point on (R486). -/
def coreLoad (k : Nat) (d : Dev) : Dev :=
  d.when (d.unitState (2 + k) == 1) fun d => d.setUnit (2 + k) fun x => { x with loaded := true }

/-- RedHealthRecord (R483). -/
def Dev.healthRecord (d : Dev) (u : Nat) : List Byte :=
  let x := d.unit u
  leBytes 8 x.lastPass ++ leBytes 4 x.passMask ++ leBytes 4 x.failMask ++ leBytes 4 x.corrected ++ leBytes 4 x.uncorrected ++
    leBytes 2 (min 65535 (d.faults24 u)) ++ leBytes 1 (d.rdN (inst Obj.RedUnitState u)) ++
    leBytes 1 (d.rdN (inst Obj.RedOutOfServiceCause u)) ++ leBytes 4 x.cycles

/-! ## Images (R592) -/

/-- An image as the device reads it: header, and whether its marker, digest and signature are good and its LENGTH fits. -/
structure ImageRead where
  image : ImageSt
  genuine : Bool
  lengthOk : Bool

/-- Read an image out of bytes, of which `total` belong to it (R592). -/
def readImage (bytes : Nat → Nat → List Byte) (total : Nat) : ImageRead :=
  let head := bytes 0 256
  let field (a n : Nat) : List Byte := (head.drop a).take n
  let len := leNat (field 8 4)
  let lengthOk := decide (len ≤ 8388352) && decide (256 + len ≤ total)
  let genuine := field 0 4 == [0x54, 0x54, 0x46, 0x57] && lengthOk && sha256 (bytes 256 len) == field 32 32
    && Config.signatureOk (field 0 64) (field 64 64)
  { image := { version := leNat (field 4 4), handover := leNat (field 12 2), handoverMin := leNat (field 14 2) },
    genuine := genuine, lengthOk := lengthOk }

/-- The staged image: as many bytes of the scratch partition as FwStageLength says (R490). -/
def Dev.stagedImage (d : Dev) : ImageRead := readImage (fun a n => readBytes d.fw.scratch a n) (d.rdN Obj.FwStageLength)

/-! ## The update (R490 to R493) -/

/-- FW_STAGE_DATA_WRITE: 64 bytes go to the offset, which advances (R490). -/
def stageData (bytes : List Byte) (d : Dev) : Dev :=
  let at_ := d.rdN Obj.FwStageOffset
  let st := d.rd Obj.FwUpdateState
  if 8388608 ≤ at_ then d
  else
    let d := d.wr Obj.FwStageOffset (at_ + 64 : Nat)
    let d := d.when (decide (st ≤ 2) || st == 8 || st == 9) fun d => d.wr Obj.FwUpdateState 1
    { d with fw := { d.fw with scratch := writeBytes d.fw.scratch at_ (bytes.take 64) } }

/-- FW_VERIFY (R490). An armed or running update is not verified anew. -/
def fwVerify (d : Dev) : Dev :=
  let st := d.rd Obj.FwUpdateState
  if decide (3 ≤ st) && decide (st ≤ 7) then d.wr Obj.FwUpdateCmd 0x80
  else { (d.wr Obj.FwUpdateCmd 1) with fw := { d.fw with verifying := true, staged := none } }

/-- FW_VERIFY_COMPLETE: verified, or failed with its cause (R490, R592). -/
def fwVerifyComplete (d : Dev) : Dev :=
  if !d.fw.verifying then d
  else
    let x := d.stagedImage
    let result : Int :=
      if !x.lengthOk then 4 else if !x.genuine then 1 else if x.image.version < d.rdN Obj.FwMinVersion then 2
      else if d.fw.running.handover < x.image.handoverMin then 3 else 0
    let d := d.wrs [(Obj.FwUpdateState, if result = 0 then 2 else 9), (Obj.FwUpdateResult, result),
      (Obj.FwStagedVersion, x.image.version)]
    { d with fw := { d.fw with verifying := false, staged := if result = 0 then some x.image else none } }

/-- FW_ARM: refused when the image is not verified, the Turn is not open, the standby core is not IN_STEP or a switch is
armed; else the standby goes out of service to be loaded (R51, R52, R491). A core takeover that cancelled an update left
its image staged for a new arming (R494). -/
def fwArm (d : Dev) : Dev :=
  let n := d.rdN Obj.FwUpdateAt
  let s := d.standbyUnit 1
  let st := d.rd Obj.FwUpdateState
  if d.fw.staged.isSome && (st == 2 || st == 9) && d.canArm n && d.unitState s == 2 && d.rd (inst Obj.RedSwitchCmd 1) != 1 then
    ((d.outOfService s 7).arm n .handover).wrs [(Obj.FwUpdateCmd, 2), (Obj.FwUpdateState, 3)]
  else d.wr Obj.FwUpdateCmd 0x80

/-- FW_STANDBY_LOADED (R491). -/
def fwLoaded (ok : Bool) (d : Dev) : Dev :=
  if d.rd Obj.FwUpdateState != 3 then d
  else if ok then d.wr Obj.FwUpdateState 4
  else (d.disarm fun c => c.kind == .handover).wrs [(Obj.FwUpdateState, 9), (Obj.FwUpdateResult, 5)]

/-- FW_CANCEL: refused once the handover is made (R493). -/
def fwCancel (d : Dev) : Dev :=
  let st := d.rd Obj.FwUpdateState
  if decide (1 ≤ st) && decide (st ≤ 5) then
    let d := (d.disarm fun c => c.kind == .handover).wrs [(Obj.FwUpdateCmd, 3), (Obj.FwUpdateState, 0)]
    { d with fw := { d.fw with staged := none, verifying := false } }
  else d.wr Obj.FwUpdateCmd 0x80

/-- The start of Turn `n`: an update armed for the next Turn needs its core loaded, and the active core then writes its
handover record (R491). -/
def Dev.fwBeforeHandover (d : Dev) (n : Nat) : Dev :=
  if d.turn.queue.any (fun c => c.kind == .handover && c.turn == n + 1) then
    if d.rd Obj.FwUpdateState == 4 then d.wr Obj.FwUpdateState 5
    else if d.rd Obj.FwUpdateState == 3 then
      (d.disarm fun c => c.kind == .handover).wrs [(Obj.FwUpdateState, 2), (Obj.FwUpdateCmd, 0x80)]
    else d
  else d

/-- The handover at the boundary of Turn `n`: the new core becomes ACTIVE on the staged image and the old one halts (R491). -/
def fwHandover (n : Nat) (d : Dev) : Dev :=
  match d.fw.staged with
  | none => d
  | some image =>
    if d.rd Obj.FwUpdateState != 5 && d.rd Obj.FwUpdateState != 4 then d
    else
      let a := d.activeUnit 1
      let s := d.standbyUnit 1
      let d := (d.unitTo s 3).outOfService a 7
      let d := ((d.inc (inst Obj.RedTakeoverCount 1)).wrs
        [(inst Obj.RedLastTakeoverTurn 1, n), (inst Obj.RedEventCause 1, 5), (Obj.FwUpdateState, 6),
         (inst Obj.FwRunningVersion (s - 2), image.version)]).raise 48
      { d with fw := { d.fw with before := some d.fw.running, running := image, handedAt := some d.turn.started,
                                 silent := false } }

/-- The boundary after the handover: the update completes with the old core's return, or falls back to the old core when
the new one was silent (R491, R492). -/
def Dev.fwAfterHandover (d : Dev) (n : Nat) : Dev :=
  if d.rd Obj.FwUpdateState != 6 then d
  else
    let new := d.activeUnit 1
    let old := d.standbyUnit 1
    if d.fw.silent then
      let d := (d.unitTo old 3).outOfService new 7
      let d := ((d.inc (inst Obj.RedTakeoverCount 1)).wrs
        [(inst Obj.RedLastTakeoverTurn 1, n), (inst Obj.RedEventCause 1, 6), (Obj.FwUpdateState, 9), (Obj.FwUpdateResult, 6),
         (inst Obj.FwRunningVersion (new - 2), d.rd (inst Obj.FwRunningVersion (old - 2)))]).raise 48
      { d.unitSync new with fw := { d.fw with running := d.fw.before.getD d.fw.running, before := none, handedAt := none } }
    else
      let d := (d.unitSync old).wrs [(Obj.FwUpdateState, 7), (inst Obj.FwRunningVersion (old - 2), d.fw.running.version)]
      { d with fw := { d.fw with before := none, handedAt := none, completing := true } }

/-- FW_WRITE_FLASH: the staged image, once verified, goes to the flash (R493, R593). -/
def fwWriteFlash (d : Dev) : Dev :=
  if d.fw.staged.isSome && d.rd Obj.FwFlashState != 1 then d.wrs [(Obj.FwUpdateCmd, 4), (Obj.FwFlashState, 1)]
  else d.wr Obj.FwUpdateCmd 0x80

/-- FW_FLASH_WRITE_COMPLETE: the boot record now names the slot just written (R593). -/
def fwFlashComplete (ok : Bool) (d : Dev) : Dev :=
  if d.rd Obj.FwFlashState != 1 then d
  else match ok, d.fw.staged with
    | true, some image =>
      let d := d.wrs [(Obj.FwFlashState, 2), (Obj.FwFallbackVersion, d.rd Obj.FwPrimaryVersion),
        (Obj.FwPrimaryVersion, image.version)]
      { d with fw := { d.fw with flash := image, slot := 1 - d.fw.slot, generation := (d.fw.generation + 1) % 2 ^ 32 } }
    | _, _ => d.wr Obj.FwFlashState 3

/-! ## Meanings -/

/-- CHECKER_ERROR (R469). -/
def execCheckerError (u : RedUnit) (s : State) : Host.Outcome State Fault Refusal := s.effect (checkerError u)

/-- SELF_TEST_CYCLE_COMPLETE (R481). -/
def execSelfTestCycleComplete (u : RedUnit) (failed corrected uncorrectable : Nat) (s : State) :
    Host.Outcome State Fault Refusal := s.effect (selfTestCycle u failed corrected uncorrectable)

/-- ISOLATED_SELF_TEST_COMPLETE (R485). -/
def execIsolatedSelfTestComplete (u : RedUnit) (failed : Nat) (s : State) : Host.Outcome State Fault Refusal :=
  s.effect (isolatedTest u failed)

/-- RED_RETURN_CMD (R485). -/
def execRedReturnCmd (u : RedUnit) (s : State) : Host.Outcome State Fault Refusal := s.effect (redReturn u)

/-- RED_SWITCH_CMD (R488). -/
def execRedSwitchCmd (pair : Fin 2) (s : State) : Host.Outcome State Fault Refusal := s.effect (redSwitch pair)

/-- REVERT_HOLD_EXPIRY (R487). -/
def execRevertHoldExpiry (pair : Fin 2) (s : State) : Host.Outcome State Fault Refusal := s.effect (revertHold pair)

/-- CORE_REGISTER_LOAD (R486). -/
def execCoreRegisterLoad (core : Fin 2) (s : State) : Host.Outcome State Fault Refusal := s.effect (coreLoad core)

/-- FW_STAGE_DATA_WRITE (R490). -/
def execFwStageDataWrite (bytes : List Byte) (s : State) : Host.Outcome State Fault Refusal := s.effect (stageData bytes)

/-- FW_VERIFY (R490). -/
def execFwVerify (s : State) : Host.Outcome State Fault Refusal := s.effect fwVerify

/-- FW_VERIFY_COMPLETE (R490). -/
def execFwVerifyComplete (s : State) : Host.Outcome State Fault Refusal := s.effect fwVerifyComplete

/-- FW_ARM (R491). -/
def execFwArm (s : State) : Host.Outcome State Fault Refusal := s.effect fwArm

/-- FW_CANCEL (R493). -/
def execFwCancel (s : State) : Host.Outcome State Fault Refusal := s.effect fwCancel

/-- FW_WRITE_FLASH (R493). -/
def execFwWriteFlash (s : State) : Host.Outcome State Fault Refusal := s.effect fwWriteFlash

/-- FW_STANDBY_LOADED (R491). -/
def execFwStandbyLoaded (ok : Bool) (s : State) : Host.Outcome State Fault Refusal := s.effect (fwLoaded ok)

/-- FW_FLASH_WRITE_COMPLETE (R593). -/
def execFwFlashWriteComplete (ok : Bool) (s : State) : Host.Outcome State Fault Refusal := s.effect (fwFlashComplete ok)

end Sys2Proof.Machine
end

