-- ==== Sys2Proof/Machine/Sandbox.lean ====
section
/-! DEFINITION. The spool sandbox as a block: its image, and what enabling and disabling it does (R578, R579, R584). -/

namespace Sys2Proof.Machine

/-- Bytes `at_` to `at_ + n - 1` of the image written (R578). -/
def Dev.spoolBytes (d : Dev) (at_ n : Nat) : List Byte := readBytes d.spool.image at_ n

/-- A field of the image header. -/
def Dev.spoolField (d : Dev) (at_ n : Nat) : Nat := leNat (d.spoolBytes at_ n)

/-- Every field of the image header is right, the entries of all eight slots among them (R578). -/
def Dev.spoolHeaderOk (d : Dev) : Bool :=
  let slots := d.spoolField 6 1
  let len := d.spoolField 8 4
  d.spoolBytes 0 4 == [0x53, 0x50, 0x4F, 0x4C] && d.spoolField 4 2 == 1
    && decide (1 ≤ slots) && decide (slots ≤ 8) && d.spoolField 7 1 == 0
    && decide (64 ≤ len) && decide (len ≤ 262144)
    && d.spoolField 12 4 == crc32 0xFFFFFFFF (d.spoolBytes 0 12 ++ List.replicate 4 0 ++ d.spoolBytes 16 (len - 16))
    && (List.range 8).all (fun i =>
      d.spoolField (16 + 4 * i) 4 % 4 == 0 && decide (d.spoolField (16 + 4 * i) 4 < len))
    && d.spoolBytes 48 16 == List.replicate 16 0

/-- The sandbox becomes ENABLED: the image is in place, the bytes beyond it are 0, and every slot has its first run before
it (R578, R579). -/
def Dev.spoolStarts (d : Dev) : Dev :=
  let len := d.spoolField 8 4
  { d with spool := { d.spool with
      memory := d.spool.image.filter (fun c => decide (c.1 < len)), endings := [], faulted := [], run := none, ready := [],
      requests := [] } }

/-- The sandbox leaves ENABLED: the run in progress stops; requests that wait complete (R584). -/
def Dev.spoolStops (d : Dev) : Dev := { d with spool := { d.spool with run := none, ready := [] } }

/-- SpoolSlotEnable is written: 1 makes the slot READY, also out of FAULTED (R583). -/
def spoolSlotEnable (s : Nat) (on_ : Bool) (d : Dev) : Dev :=
  let d := (d.wrB (inst Obj.SpoolSlotEnable s) on_).wr (inst Obj.SpoolSlotState s) (if on_ then 1 else 0)
  { d with spool := { d.spool with faulted := setNum d.spool.faulted s 0 } }

/-- The applied spool budget: no more than the shortest Turn of the period in force less 3,840 cycles (R42, R45). -/
def Dev.spoolBudget (d : Dev) : Nat :=
  min (d.rdN Obj.SpoolTurnBudget) ((2 * d.rdN Obj.TurnPeriod * 9998 / 10000) - 3840)

/-- SPOOL_LOG_READ: the oldest log entry is returned and removed; an empty log reads as zeros (R586). -/
def spoolLogRead (d : Dev) : Dev :=
  let entry := d.spool.log.headD (List.replicate 64 0)
  { d.wrV Obj.SpoolLogRead (.oct entry) with spool := { d.spool with log := d.spool.log.drop 1 } }

/-- SPOOL_LOG_READ (R586). -/
def execSpoolLogRead (s : State) : Host.Outcome State Fault Refusal := s.effect spoolLogRead

end Sys2Proof.Machine
end

