-- ==== Sys2Proof/Machine/Sessions.lean ====
section
/-! DEFINITION. The slots of MDP sessions and their closing (R514 to R518). -/

namespace Sys2Proof.Machine

/-- What a slot holds beside its objects. -/
def Dev.session (d : Dev) (n : Nat) : SessionSt := Sparse.get (fun _ => {}) d.dict.sessions n

/-- Change what a slot holds. -/
def Dev.setSession (d : Dev) (n : Nat) (f : SessionSt → SessionSt) : Dev :=
  { d with dict := { d.dict with sessions := Sparse.set (fun _ => {}) d.dict.sessions n (f (d.session n)) } }

/-- State of a slot: 0 free, 1 awaiting PROVE, 2 open (R528). -/
def Dev.slotState (d : Dev) (n : Nat) : Int := d.rd (inst Obj.MdpSessionState n)

/-- EV56 with its cause (R516, R518, R527). -/
def Dev.sessionEvent (d : Dev) (cause : Int) : Dev := (d.wr Obj.MdpSessionEventCause cause).raise 56

/-- Free a slot and all it holds (R516, R518). -/
def Dev.freeSlot (d : Dev) (n : Nat) : Dev :=
  let d := (d.wrs [(inst Obj.MdpSessionState n, 0), (inst Obj.MdpSessionLevel n, 0), (inst Obj.MdpSessionVersion n, 0),
    (inst Obj.MdpSessionLastSeq n, 0), (inst Obj.MdpSessionOpenedTurn n, 0)]).wrV (inst Obj.MdpSessionPeer n)
      (.oct (List.replicate 18 0))
  d.setSession n fun _ => {}

/-- A session closes, with the cause of its event; a slot that only awaits its PROVE is freed (R514, R518). -/
def Dev.closeSession (d : Dev) (cause : Int) (n : Nat) : Dev :=
  if d.slotState n == 2 then (d.freeSlot n).sessionEvent cause
  else d.when (d.slotState n == 1) fun d => d.freeSlot n

end Sys2Proof.Machine
end

