-- ==== Sys2Proof/Machine/Block.lean ====
section
/-! DEFINITION. Blocks (R13 to R29): commands and their two checks, readiness, requirements, faults, and what each kind of
block does when it becomes or stops being ENABLED. -/

namespace Sys2Proof.Machine

/-! ## Blocks by their objects -/

/-- Every kind of block. -/
def blockKinds : List BlockKind :=
  [.spindle, .servo, .refSelector, .refIn, .ptpEngine, .whorl, .ply, .tcDomain, .alignLine, .clkOut, .pulse, .evin, .mref,
   .calSequencer, .port, .queueSet, .table, .learning, .armature, .deepStore, .mirror, .reel, .reelTrigger, .quad, .lane,
   .laneAdapt, .patternTest, .core, .mdpSession, .counterBank, .perfDump, .spool, .i2c]

/-- The block whose object, chosen by `f`, has a key. -/
def blockBy (f : Nat × Nat → Nat) (k : Nat) : Option BlockId :=
  (blockKinds.find? fun b => k / 256 * 256 == f b.objs).bind fun b =>
    let id : BlockId := ⟨b, if b.single then 0 else k % 256 - 1⟩
    if id.ok && (b.single || decide (1 ≤ k % 256)) then some id else none

/-- The block a control object commands. -/
def blockOfCtrl (k : Nat) : Option BlockId := blockBy (·.1) k

/-- The block a block state object reports. -/
def blockOfState (k : Nat) : Option BlockId := blockBy (·.2) k

/-- A unit of a redundant pair: 0 and 1 the spindles, 2 and 3 the cores. -/
def unitOf (b : BlockId) : Option Nat :=
  match b.kind with
  | .spindle => some b.n
  | .core => some (2 + b.n)
  | _ => none

/-! ## The refusal conditions of the chapters (R19) -/

/-- The members of two ply links agree as R151 asks. -/
def Dev.plyMayEnable (d : Dev) (n : Nat) : Bool :=
  let (a, b) := d.members n
  let others := (List.range 24).filter fun m => m != n && d.blk .ply m != 0
  let inOther (p : Nat) : Bool := others.any fun m => (d.members m).1 == p || (d.members m).2 == p
  let mode (p : Nat) : Int := d.rd (inst Obj.LanePortMode p)
  let same (o : Nat) : Bool := d.rd (inst o a) == d.rd (inst o b)
  a != b && !inOther a && !inOther b && d.quadMode (a / 4) == 0 && d.quadMode (b / 4) == 0
    && (mode a == 3 || mode a == 4) && mode a == mode b && d.fecMode a == d.fecMode b
    && [Obj.PtpProfile, Obj.PtpMapping, Obj.PtpDelayMechanism, Obj.PtpStepMode, Obj.LogSyncInterval,
        Obj.LogMinDelayReqInterval].all same
    && !d.rdB (inst Obj.ModeF0PtpEngine a) && !d.rdB (inst Obj.ModeF0PtpEngine b)

/-- A transparent clock domain has a pair of values of its own (R137). -/
def Dev.tcMayEnable (d : Dev) (n : Nat) : Bool :=
  let pair (m : Nat) : Int × Int := (d.rd (inst Obj.TcDomainNumber m), d.rd (inst Obj.TcDomainMajorSdoId m))
  pair n != (d.rd Obj.PtpDomainNumber, d.rd Obj.PtpMajorSdoId)
    && !((List.range 4).any fun m => m != n && d.on .tcDomain m && pair m == pair n)

/-- A PTP engine belongs to the profile family of those that are ENABLED, or have been commanded to be, and its port is timing-capable (R98, R110). -/
def Dev.engineMayEnable (d : Dev) (p : Nat) : Bool :=
  let family (q : Nat) : Bool := d.rd (inst Obj.PtpProfile q) == 3
  d.ptpMayEnable p && (List.range 48).all fun q => q == p || !(d.blk .ptpEngine q == 1 || d.blk .ptpEngine q == 2) || family q == family p

/-- A reference input of a pair in mode 2 (R178). -/
def Dev.refInMayEnable (d : Dev) (n : Nat) : Bool :=
  !(n % 2 == 0 && d.refMode n == 2 && d.blk .refIn (n + 1) != 0)
    && !(n % 2 == 1 && d.refMode (n - 1) == 2 && d.on .refIn (n - 1))

/-- The deep store's partitions sum to 4,096 MiB and its guarantees stay within half of the packet buffer (R359, R368). -/
def Dev.deepMayEnable (d : Dev) : Bool :=
  let sizes := [Obj.DeepPartitionPacket, Obj.DeepPartitionReel, Obj.DeepPartitionDump, Obj.DeepPartitionScratch].map d.rd
  sizes.sum == 4096 && sizes.all (· % 64 == 0) && decide (2 * d.guarantees false ≤ d.packetCells)

/-- An enable command of a block meets no refusal condition of its chapter. -/
def Dev.mayEnable (d : Dev) (b : BlockId) : Bool :=
  match b.kind with
  | .spindle => d.unitMayEnable b.n
  | .core => d.unitMayEnable (2 + b.n)
  | .refIn => d.refInMayEnable b.n
  | .ptpEngine => d.engineMayEnable b.n
  | .ply => d.plyMayEnable b.n
  | .tcDomain => d.tcMayEnable b.n
  | .clkOut => decide (d.rd (inst Obj.ClkOutPhaseOffset b.n) * 10 < d.rd (inst Obj.ClkOutDivider b.n) * 2 * nsT)
  | .pulse => d.pulseMayEnable b.n
  | .evin => d.evinMayEnable b.n
  | .port => d.portMayEnable b.n
  | .lane => d.laneMayEnable b.n
  | .patternTest => d.ptMayEnable b.n
  | .deepStore => d.deepMayEnable
  | .reel => d.rd Obj.DeepPartitionReel != 0
  | .spool => d.spoolHeaderOk
  | .servo => decide (d.rd Obj.HoldoverWindowEnd < d.rd Obj.HoldoverWindowStart)
  | .refSelector | .whorl | .alignLine | .mref | .calSequencer | .queueSet | .table | .learning | .armature
  | .mirror | .reelTrigger | .quad | .laneAdapt | .mdpSession | .counterBank | .perfDump | .i2c => true

/-- A disable command of a block meets no refusal condition: the active unit of a pair cannot be disabled (R15). -/
def Dev.mayDisable (d : Dev) (b : BlockId) : Bool :=
  match unitOf b with
  | some u => d.unitState u != 3
  | none => true

/-- BLOCK_ENABLE_CMD and BLOCK_DISABLE_CMD: the first check (R19). A refused command reads 0x80 and leaves an earlier one
to take effect; an enable that would have no effect is not refused (R22). -/
def blockCmd (b : BlockId) (v : Nat) (d : Dev) : Dev :=
  let st := d.blk b.kind b.n
  let ok := if v == 1 then st == 1 || st == 2 || d.mayEnable b else d.mayDisable b
  if !b.ok then d
  else if ok then { d.wr b.ctrl v with block := { d.block with cmds := setNum d.block.cmds b.ctrl v } }
  else d.wr b.ctrl 0x80

/-! ## Requirements (R25) -/

/-- The blocks a block requires are ENABLED; a lane also waits for its lane reference (R21, R25). -/
def Dev.required (d : Dev) (b : BlockId) : Bool :=
  match b.kind with
  | .lane => d.on .quad (b.n / 4) && !d.stopped
  | .port =>
    b.n == 48 || (d.on .quad (b.n / 4) &&
      (if d.isNq b.n then (d.portLanes b.n).any (d.on .lane) else (d.portLanes b.n).all (d.on .lane)))
  | .queueSet => d.on .port b.n
  | .ptpEngine => d.on .port b.n && (d.portLanes b.n).all (d.on .whorl)
  | .ply => d.on .ptpEngine (d.members b.n).1 && d.on .ptpEngine (d.members b.n).2
  | .tcDomain => (List.range 48).any (d.on .ptpEngine)
  | .clkOut => d.on .alignLine (lineOf b.n)
  | .pulse => d.on .alignLine (lineOf (8 + b.n))
  | .reel => d.on .deepStore 0
  -- a slot that no session uses requires no port: the spec gives it none (log entry 18)
  | .mdpSession => d.slotState b.n == 0 || d.on .port (d.session b.n).port
  | _ => true

/-- The blocks that may require a block (R25). -/
def Dev.dependents (d : Dev) (b : BlockId) : List BlockId :=
  match b.kind with
  | .quad => (List.range 4).map fun i => ⟨.lane, 4 * b.n + i⟩
  | .lane => [⟨.port, d.portOfLane b.n⟩]
  | .port => [⟨.queueSet, b.n⟩, ⟨.ptpEngine, b.n⟩] ++ (List.range 16).map fun i => ⟨.mdpSession, i⟩
  | .whorl => [⟨.ptpEngine, d.portOfLane b.n⟩]
  | .ptpEngine => ((List.range 24).map fun i => ⟨.ply, i⟩) ++ (List.range 4).map fun i => ⟨.tcDomain, i⟩
  | .alignLine =>
    ((List.range 24).filter fun o => lineOf o == b.n).map fun o => if o < 8 then ⟨.clkOut, o⟩ else ⟨.pulse, o - 8⟩
  | .deepStore => [⟨.reel, 0⟩]
  | _ => []

/-! ## Leaving and entering ENABLED -/

/-- The copies of the deep store are discarded and counted at their egress ports (R399). -/
def Dev.flushDeep (d : Dev) : Dev :=
  let deep (x : Copy) : Bool := x.pool == .deepGuarantee || x.pool == .deepShared
  let lost := (takeCopies deep d.buf.queues).2
  (lost.foldl (fun d x => d.countFlushed x.plan.out) d).discardCopies deep 6

/-- A PTP engine that no longer runs is in port state DISABLED and its link timing in IDLE; its exchanges in progress are
abandoned, and the medians it held are cleared (R26, R116, R131, R133, R171). What a transparent clock domain still owes stays its
own, and a ply link of the port returns to ENABLING without an alarm (R141, R162). -/
def Dev.engineStops (d : Dev) (p : Nat) : Dev :=
  let owed := (d.link p).answers.filter (·.domain.isSome)
  let d := if d.linkState p == 0 then d.abandonExchanges p else d.toIdle p
  ((d.wr (inst Obj.PtpPortState p) 3).setLink p fun k =>
    { k with foreign := [], hostRecord := none, left := none, answers := owed }).bmca

/-- A port that leaves ENABLED has no link, and its queues and learned entries go (R26, R334, R352). -/
def Dev.portStops (d : Dev) (p : Nat) : Dev :=
  if d.rdB (inst Obj.PortLinkUp p) then d.linkDown p else ((d.dropTx p).portFlush p).flushLearned p

/-- A block stops being ENABLED, or ENABLING, and takes the behaviour of R15 (R26). `keep` says that it only waits for a
required block. -/
def Dev.blockStops (d : Dev) (b : BlockId) (keep : Bool) : Dev :=
  match b.kind with
  | .refIn =>
    let d := refreshCand b.n ((d.clearLabel b.n).setRefIn b.n fun g =>
      { g with present := false, edges := 0, phases := 0, fresh := false, pulses := [] })
    d.when (b.n % 2 == 1) fun d => refreshCand (b.n - 1) d
  | .ptpEngine => d.engineStops b.n
  | .whorl => (d.wr (inst Obj.WhorlLocked b.n) 0).setWhorl b.n fun w => { epoch := w.epoch }
  | .ply => d.plyIncomplete b.n
  | .alignLine => d.refreshLines
  | .clkOut => refreshOut b.n d
  | .pulse => refreshOut (8 + b.n) (outStops (8 + b.n) d)
  | .evin => evinStops b.n 2 (calTargetStops (16 + b.n) (calTargetStops b.n d))
  | .mref => mrefAbsent d
  | .calSequencer => d.dropRun
  | .port => d.portStops b.n
  | .queueSet => d.portFlush b.n
  | .deepStore => d.flushDeep
  | .reel => d.reelQuiet
  | .armature => d.showAllGates d.now
  | .quad => d.wr (inst Obj.QuadPllLocked b.n) 0
  | .lane => d.laneStops b.n keep
  | .patternTest => (d.wr (inst Obj.PtCheckerLocked b.n) 0).retune b.n
  | .mdpSession => d.closeSession 2 b.n
  | .spool => d.spoolStops
  | .spindle | .core | .servo | .refSelector | .tcDomain | .table | .learning | .mirror | .reelTrigger
  | .laneAdapt | .counterBank | .perfDump | .i2c => d

/-- A whorl that stops takes its target out of a bin run that collects it (R310). -/
def Dev.whorlLeaves (d : Dev) (b : BlockId) : Dev := d.when (b.kind == .whorl) fun d => calTargetStops (32 + b.n) d

/-- A block becomes ENABLED. -/
def Dev.blockStarts (d : Dev) (b : BlockId) : Dev :=
  match b.kind with
  | .servo => d.servoStarts
  | .laneAdapt => d.adaptStarts b.n
  | .refIn => refreshCand b.n d
  | .ptpEngine => d.wr (inst Obj.PtpPortState b.n) (if d.rdB (inst Obj.PortLinkUp b.n) then 4 else 1)
  | .whorl => d.wrB (inst Obj.WhorlLocked b.n) (d.rxState b.n == 5)
  | .ply => d.plyStarts b.n
  | .alignLine => d.refreshLines
  | .clkOut => refreshOut b.n (outStarts b.n d)
  | .pulse => refreshOut (8 + b.n) (outStarts (8 + b.n) d)
  | .evin => evinStarts b.n d
  | .calSequencer => d.calStarts
  | .deepStore => d.wr Obj.DeepStoreLost 0
  | .quad => d.forEach (fun i d => d.txStart (4 * b.n + i)) (List.range 4)
  | .lane => d.laneEnabled b.n
  | .patternTest => d.retune b.n
  | .spool => d.spoolStarts
  | .armature => d.showAllGates d.now
  | .spindle | .core | .refSelector | .tcDomain | .mref | .port | .queueSet | .table | .learning | .mirror
  | .reel | .reelTrigger | .mdpSession | .counterBank | .perfDump | .i2c => d

/-- A block that a restart put into ENABLING becomes ENABLED again with what it held: outputs keep their misalignment,
channels their FIFOs, and the sandbox its contents (R218, R285, R578, R579). -/
def Dev.blockResumes (d : Dev) (b : BlockId) : Dev :=
  match b.kind with
  | .clkOut => refreshOut b.n d
  | .pulse => refreshOut (8 + b.n) (d.pulseStarts b.n)
  | .evin => d
  | .spool => { d with spool := { d.spool with endings := [], run := none, ready := [] } }
  | _ => d.blockStarts b

/-- Set a block's state (R18). -/
def Dev.setBlk (d : Dev) (b : BlockId) (st : Int) : Dev := d.wr b.state st

/-- The blocks of a list that no longer have what they require return to ENABLING, and theirs after them (R25). -/
def Dev.cascade : Nat → List BlockId → Dev → Dev
  | 0, _, d => d
  | n + 1, bs, d =>
    let fall := (bs.flatMap d.dependents).filter fun c => d.blk c.kind c.n == 2 && !d.required c
    if fall.isEmpty then d
    else (fall.foldl (fun (d : Dev) c => ((d.setBlk c 1).blockStops c true).whorlLeaves c) d).cascade n fall

/-- A block leaves ENABLED or ENABLING for a state, and the blocks that require it return to ENABLING (R18, R25, R26). -/
def Dev.blockLeaves (d : Dev) (b : BlockId) (st : Int) : Dev :=
  let was := d.blk b.kind b.n
  let d := { d.setBlk b st with block := { d.block with resumed := d.block.resumed.filter (· != b.state) } }
  let d := d.when (was == 2 || b.kind == .lane) fun d => (d.blockStops b false).whorlLeaves b
  d.cascade 5 [b]

/-! ## The boundary (R19, R22) -/

/-- A block command takes effect, after the second check (R19, R22). -/
def Dev.blockAct (d : Dev) (b : BlockId) (v : Nat) : Dev :=
  let st := d.blk b.kind b.n
  match unitOf b with
  | some u =>
    if v == 1 then (if d.unitMayEnable u then d.unitEnable u else d.wr b.ctrl 0x80)
    else if d.unitState u == 3 then d.wr b.ctrl 0x80 else d.unitDisable u
  | none =>
    if v == 1 then
      if st == 1 || st == 2 then d
      else if st != 0 || !d.mayEnable b then d.wr b.ctrl 0x80
      else
        let d := d.setBlk b 1
        if b.kind == .lane then d.laneEnabling b.n else d
    else if st == 0 || st == 3 then d
    else if st == 4 then d.setBlk b 0
    else d.blockLeaves b 3

/-- The block commands of the boundary, in the order of their control objects. -/
def Dev.blockBoundary (d : Dev) : Dev :=
  let cmds := d.block.cmds
  cmds.foldl (fun (d : Dev) c => match blockOfCtrl c.1 with
    | some b => d.blockAct b c.2
    | none => d) { d with block := { d.block with cmds := [] } }

/-! ## Readiness and faults (R18, R20, R21, R23) -/

/-- BLOCK_READY: the block's own hardware is configured, powered and clocked; it becomes ENABLED when its requirements are met
(R18, R21). -/
def blockReady (b : BlockId) (d : Dev) : Dev :=
  let mine := b.kind != .lane || d.laneReady b.n
  if b.ok && (unitOf b).isNone && d.blk b.kind b.n == 1 && d.required b && mine && !d.stopped then
    let again := d.block.resumed.contains b.state
    let d := { d.setBlk b 2 with block := { d.block with resumed := d.block.resumed.filter (· != b.state) } }
    if again then d.blockResumes b else d.blockStarts b
  else d

/-- Count a fault of a block and keep its cause (R18, R23). -/
def Dev.countFault (d : Dev) (b : BlockId) (cause : Nat) : Dev :=
  { d with block := { d.block with
      faults := setNum d.block.faults b.state ((numAt d.block.faults b.state + 1) % 2 ^ 32),
      causes := setNum d.block.causes b.state cause } }

/-- READINESS_LIMIT_EXPIRY: a block that has what it requires and is not ready in time is FAULTED, with cause 0 (R18, R20); a unit
of a pair goes out of service, its redundancy cause 5 (R21, R466, R469). -/
def readinessExpiry (b : BlockId) (d : Dev) : Dev :=
  if !b.ok || d.blk b.kind b.n != 1 || d.stopped then d
  else match unitOf b with
    | some u => d.outOfService u 5
    | none => d.when (d.required b) fun d => (d.countFault b 0).blockLeaves b 4

/-- DISABLING_COMPLETE: the spool sandbox first completes the requests outstanding (R18, R584). -/
def disablingComplete (b : BlockId) (d : Dev) : Dev :=
  if b.ok && d.blk b.kind b.n == 3 && (b.kind != .spool || d.spool.requests.isEmpty) then d.setBlk b 0 else d

/-- BLOCK_FAULT: the block is FAULTED, unless it is DISABLING, which it completes (R18, R23). The faults of a redundant unit
act through its heartbeat and comparison (R476). -/
def blockFault (b : BlockId) (cause : Nat) (d : Dev) : Dev :=
  if !b.ok then d
  else
    let st := d.blk b.kind b.n
    let d := d.countFault b cause
    if (unitOf b).isNone && (st == 1 || st == 2) then d.blockLeaves b 4 else d

/-! ## Plane status (R13, R14) -/

/-- The kinds of block of a plane: 0 Timing, 1 Switching, 2 Line, 3 Management (R15). -/
def planeKinds : Nat → List BlockKind
  | 0 => [.spindle, .servo, .refSelector, .refIn, .ptpEngine, .whorl, .ply, .tcDomain, .alignLine, .clkOut, .pulse, .evin,
          .mref, .calSequencer]
  | 1 => [.port, .queueSet, .table, .learning, .armature, .deepStore, .mirror, .reel, .reelTrigger]
  | 2 => [.quad, .lane, .laneAdapt, .patternTest]
  | _ => [.core, .mdpSession, .counterBank, .perfDump, .spool, .i2c]

/-- Some block of a plane is ENABLING or FAULTED: an object at its default reads DISABLED, so those that differ are
searched. -/
def Dev.degraded (d : Dev) (plane : Nat) : Bool :=
  let keys := (planeKinds plane).map fun k => k.objs.2
  d.objs.any fun e => keys.contains (e.1 / 256 * 256) && (e.2 == .num 1 || e.2 == .num 4)

/-- Update PlaneStatus (R13, R14). -/
def Dev.planeStatus (d : Dev) : Dev :=
  d.forEach (fun i d =>
    d.wr (inst Obj.PlaneStatus i)
      (if d.stopped || (i == 0 && !d.rdB Obj.PlinthPresent) then 2 else if d.degraded i then 1 else 0)) [0, 1, 2, 3]

/-! ## Meanings -/

/-- BLOCK_ENABLE_CMD (R19). -/
def execBlockEnableCmd (b : BlockId) (s : State) : Host.Outcome State Fault Refusal := s.effect (blockCmd b 1)

/-- BLOCK_DISABLE_CMD (R19). -/
def execBlockDisableCmd (b : BlockId) (s : State) : Host.Outcome State Fault Refusal := s.effect (blockCmd b 2)

/-- BLOCK_READY (R21). -/
def execBlockReady (b : BlockId) (s : State) : Host.Outcome State Fault Refusal := s.effect (blockReady b)

/-- READINESS_LIMIT_EXPIRY (R20). -/
def execReadinessLimitExpiry (b : BlockId) (s : State) : Host.Outcome State Fault Refusal := s.effect (readinessExpiry b)

/-- DISABLING_COMPLETE (R18). -/
def execDisablingComplete (b : BlockId) (s : State) : Host.Outcome State Fault Refusal := s.effect (disablingComplete b)

/-- BLOCK_FAULT (R18, R23). -/
def execBlockFault (b : BlockId) (cause : Nat) (s : State) : Host.Outcome State Fault Refusal := s.effect (blockFault b cause)

end Sys2Proof.Machine
end

