-- ==== Sys2Proof/Machine/HostRings.lean ====
section
/-! DEFINITION. Frames to and from the host over the descriptor rings (R354, R355, R418, R419, R547 to R556). -/

namespace Sys2Proof.Machine

/-! ## Ring control (R548 to R550, R554, R556) -/

/-- RING_TAIL_WRITE: descriptors are handed over; TAIL advanced to DONE with descriptors outstanding makes the ring count
as empty until TAIL moves again (R550). -/
def ringTail (r v : Nat) (d : Dev) : Dev :=
  d.setRing r fun g =>
    let new := v % g.size
    { g with tail := new, overrun := new == g.done && g.tail != g.done }

/-- RING_ENABLE: HALTED is cleared; a receive ring with BUF_UNITS 0 halts (R548, R550). -/
def ringEnable (r : Nat) (d : Dev) : Dev :=
  d.setRing r fun g =>
    let g := { g with enable := true, active := true, halted := false, haltCause := 0 }
    if 4 ≤ r && g.bufUnits == 0 then g.halt 3 else g

/-- Frames taken from a ring whose descriptors have not been written back. -/
def Dev.ringFrames (d : Dev) (r : Nat) : List Nat :=
  let open_ := ((d.ring r).fetched.filter fun t => t.status.isNone).map (·.index)
  d.fwd.frames.filterMap fun e => match e.2 with
    | some f => match f.ring with
      | some (r', i) => if r' == r && open_.contains i then some e.1 else none
      | none => none
    | none => none

/-- Frames leave the pipeline before they were replicated. -/
def Dev.dropFromPipes (d : Dev) (ids : List Nat) : Dev :=
  let keep (l : List Nat) : List Nat := l.filter fun i => !ids.contains i
  (d.setFifo 48 (keep (d.fifo 48))).setStage 0 (keep (d.stage 0))

/-- RING_DISABLE: no further descriptor is fetched; fetched transmit frames that have not been sent complete with status
6 (R554). -/
def ringDisable (r : Nat) (d : Dev) : Dev :=
  let d := d.setRing r fun g => { g with enable := false }
  if 4 ≤ r then d
  else
    let ids := d.ringFrames r
    let d := d.discardCopies (fun x => ids.any fun i => x.ofFrame i) 6
    let d := d.dropFromPipes ids
    let d := d.forEach (fun i d => (d.onFrame i fun f => { f with ring := none, replicated := true }).reapFrame i) ids
    d.setRing r fun g => g.writeBack (g.fetched.map fun t => { t with status := some (t.status.getD 6) })

/-- The bytes of a copy for HP: the stored bytes as received, FCS included (R419). -/
def Dev.copyBytes (d : Dev) (x : Copy) : List Byte :=
  match x.payload with
  | .engine m _ => d.engineFrame 48 m
  | .frame id => match d.frame id with
    | some f => d.storedBytes f
    | none => []

/-- Free a copy delivered to HP and count it (R419, R420). -/
def Dev.delivered (d : Dev) (x : Copy) : Dev :=
  let bs := d.copyBytes x
  (d.countTx 48 bs.length (bs.take 6) (fcsGood bs) false false false).freeCopy x

/-- RING_DISABLE_COMPLETE: a receive frame in delivery is completed, then ACTIVE clears (R554). -/
def ringDisableComplete (r : Nat) (d : Dev) : Dev :=
  if (d.ring r).enable then d
  else
    let x := (d.ring r).delivering
    let d := d.setRing r fun g => { g with active := false, delivering := none }
    match x with
    | some (c, _) => d.delivered c
    | none => d

/-- ATTENTION_COALESCE_EXPIRY: COALESCE microseconds have passed since the first completion (R556). -/
def coalesceExpiry (r : Nat) (d : Dev) : Dev := d.setRing r fun g => if g.coalescing then g.attend else g

/-- RING_ATTENTION_ACK: ATTENTION clears only when the value written equals SEQ (R556). -/
def attentionAck (r v : Nat) (d : Dev) : Dev :=
  d.setRing r fun g => if v % 4096 == g.seq then { g with attention := false } else g

/-! ## Transmit descriptors (R354, R418, R551, R552) -/

/-- The frame a descriptor hands over: padded when it is short, with its FCS (R418); the Boolean says that it was
padded. -/
def hostFrame (hostFcs : Bool) (bytes : List Byte) : List Byte × Bool :=
  let body := if hostFcs then bodyOf bytes else bytes
  if body.length < 60 then
    let b := body ++ List.replicate (60 - body.length) 0
    (b ++ fcsOf b, true)
  else if hostFcs then (bytes, false)
  else (bytes ++ fcsOf bytes, false)

/-- Take an injected frame into the fast store: into pipeline 0 in lookup mode, to its port and class in direct mode
(R354). -/
def Dev.inject (d : Dev) (r index : Nat) (x : TxDesc) (bytes : List Byte) (t : Int) : Dev :=
  let h := hostFrame x.hostFcs bytes
  let good := fcsGood h.1
  let d := d.countRx 48 h.1 good false false
  let id := d.fwd.nextFrame
  let f : Frame := { port := 48, bytes := h.1, stamp := t, turn := d.rdN Obj.TurnNumber, ended := true, padded := h.2,
                     ring := some (r, index) }
  if x.direct then
    let plan : CopyPlan := { out := x.port, cls := x.cls % 8, oneStep := x.oneStep,
                             launchAt := if x.launch then some (x.time, x.lateTolerance) else none }
    let dec : Decision := { parsed := some (d.parse 48 h.1), plans := [plan], whole := true }
    let f := { f with entered := true, replicated := true, decision := some dec }
    let res := (d.newFrame f).makeCopies id f dec t dec.plans
    (res.1.injectedStatus f res.2).finishFrame id
  else (d.newFrame { f with bad := !good }).setFifo 48 (d.fifo 48 ++ [id])

/-- TX_DESCRIPTOR_FETCH: the next descriptor from HEAD up to TAIL (R550 to R552). -/
def txFetch (r : Nat) (x : TxDesc) (bytes : List Byte) (err : Nat) (t : Int) (d : Dev) : Dev :=
  let d := d.until t
  let g := d.ring r
  if !(g.enable && g.active) || g.halted || g.waiting == 0 then d
  else if err != 0 then d.setRing r fun g => g.halt (min err 2)
  else
    let i := g.head
    let d := d.setRing r fun g => { g with head := g.next g.head 1, fetched := g.fetched ++
      [{ index := i, notify := x.notify, late := x.direct && (x.stamp || x.launch), wantStamp := x.stamp }] }
    let len := bytes.length - (if x.hostFcs then 4 else 0)
    if 47 < x.port || (!x.direct && (x.oneStep || x.stamp || x.launch)) then d.txStatus r i 7 none
    else if 9212 < len then d.txStatus r i 2 none
    else if !d.on .port 48 then d.txStatus r i 6 none
    else d.inject r i x bytes t

/-! ## Receive descriptors (R355, R419, R553) -/

/-- A copy for HP can be delivered: its frame is whole and checked, and a PTP event message has its refined stamp (R355,
R553). -/
def Dev.deliverable (d : Dev) (x : Copy) : Bool :=
  match x.payload with
  | .engine _ _ => true
  | .frame id => match d.frame id with
    | some f => f.ended && (f.awaits.isNone || f.refined.isSome)
    | none => false

/-- The descriptor of a buffer of a copy: what is written to it, LENGTH, FLAGS and what it reports of the frame (R553). -/
def Dev.rxBack (d : Dev) (x : Copy) (index from_ n : Nat) (bs : List Byte) : DescBack :=
  let total := bs.length
  let f := match x.payload with
    | .frame id => d.frame id
    | .engine _ _ => none
  let stamp := f.bind (·.refined)
  let trunc := match f with
    | some f => f.truncated
    | none => false
  { index := index, length := n, data := (bs.drop from_).take n, cls := x.plan.cls, reason := x.plan.reasons % 64, frameLen := total, stamp := stamp,
    flags := 2 * ofBool (from_ == 0) + 4 * ofBool (from_ + n == total) + 8 * ofBool trunc + 16 * ofBool stamp.isSome,
    port := (f.map (·.port)).getD 48, vid := (f.bind (·.decision)).elim 0 (·.vid) }

/-- Fill posted descriptors, one after another, until the copy is whole or none is left. -/
def Dev.fill (d : Dev) (r : Nat) (x : Copy) (bs : List Byte) : Nat → Nat → Dev
  | 0, done => d.setRing r fun g => { g with delivering := some (x, done) }
  | k + 1, done =>
    let g := d.ring r
    let n := min (256 * g.bufUnits) (bs.length - done)
    let back := d.rxBack x g.head done n bs
    let d := d.setRing r fun g => { g with head := g.next g.head 1 }.back back false
    if bs.length ≤ done + n then (d.setRing r fun g => { g with delivering := none }).delivered x
    else d.fill r x bs k (done + n)

/-- The copy of the HP queue that ring RX`ring` delivers next: the oldest that is first of its class and can be delivered (R547,
R553). -/
def Dev.nextDelivery (d : Dev) (ring : Nat) : Option Copy :=
  let q := d.queue 384
  let heads := [2 * ring, 2 * ring + 1].filterMap fun c => q.find? fun (x : Copy) => x.plan.cls == c
  q.find? fun (x : Copy) => heads.contains x && d.deliverable x

/-- HP_RX_DELIVERY: the oldest deliverable copy of the ring's two classes goes into posted descriptors (R547, R553). -/
def hpDelivery (ring err : Nat) (d : Dev) : Dev :=
  let r := 4 + ring
  let g := d.ring r
  if !(g.enable && g.active) || g.halted || g.waiting == 0 then d
  else
    let next := match g.delivering with
      | some x => some x
      | none => (d.nextDelivery ring).map fun x => (x, 0)
    match next with
    | none => d
    | some (x, done) =>
      if err != 0 then d.setRing r fun g => g.halt (min err 2)
      else
        let d := if g.delivering.isSome then d else d.setQueue 384 ((d.queue 384).erase x)
        (d.setRing r fun g => { g with written := [] }).fill r x (d.copyBytes x) g.waiting done

/-! ## Device-level faults (R555) -/

/-- Every descriptor from DONE up to TAIL is written back, transmit with status 1, receive DISCARDED (R555). -/
def ringFault (r : Nat) (d : Dev) : Dev :=
  d.setRing r fun g =>
    if g.done == g.tail then { g with fetched := [], delivering := none }
    else
      let back (i : Nat) : DescBack := if r < 4 then { index := i, status := 1 } else { index := i, flags := 32 }
      let backs := (List.range ((g.tail + g.size - g.done) % g.size)).map fun k => back (g.next g.done k)
      { g with head := g.tail, done := g.tail, fetched := [], delivering := none, overrun := false,
               written := backs }.completed (g.fetched.any (·.notify))

/-! ## Meanings -/

/-- RING_TAIL_WRITE (R550). -/
def execRingTailWrite (ring : Fin 8) (v : Nat) (s : State) : Host.Outcome State Fault Refusal := s.effect (ringTail ring v)

/-- RING_ENABLE (R548). -/
def execRingEnable (ring : Fin 8) (s : State) : Host.Outcome State Fault Refusal := s.effect (ringEnable ring)

/-- RING_DISABLE (R554). -/
def execRingDisable (ring : Fin 8) (s : State) : Host.Outcome State Fault Refusal := s.effect (ringDisable ring)

/-- RING_DISABLE_COMPLETE (R554). -/
def execRingDisableComplete (ring : Fin 8) (s : State) : Host.Outcome State Fault Refusal :=
  s.effect (ringDisableComplete ring)

/-- TX_DESCRIPTOR_FETCH (R551). -/
def execTxDescriptorFetch (ring : Fin 4) (x : TxDesc) (bytes : List Byte) (err : Nat) (t : Int) (s : State) :
    Host.Outcome State Fault Refusal := s.effect (txFetch ring x bytes err t)

/-- RING_ATTENTION_ACK (R556). -/
def execRingAttentionAck (ring : Fin 8) (v : Nat) (s : State) : Host.Outcome State Fault Refusal :=
  s.effect (attentionAck ring v)

/-- ATTENTION_COALESCE_EXPIRY (R556). -/
def execAttentionCoalesceExpiry (ring : Fin 8) (s : State) : Host.Outcome State Fault Refusal :=
  s.effect (coalesceExpiry ring)

/-- HP_RX_DELIVERY (R553). -/
def execHpRxDelivery (ring : Fin 4) (err : Nat) (s : State) : Host.Outcome State Fault Refusal :=
  s.effect (hpDelivery ring err)

end Sys2Proof.Machine
end

