-- ==== Sys2Proof/Machine/Faults.lean ====
section
/-! DEFINITION. Start-up, resets, device-level faults and restarts, the monitors of temperature, supply and pins, and DRAM
error correction (chapter 18); the fixed synth and the Plinth (R218 to R220). -/

namespace Sys2Proof.Machine

/-! ## Resets and boot (R587 to R596) -/

/-- A full reset: everything is lost but OTP, the flash and the MDP keys (R587). The device stays in reset until
RESET_RELEASE. -/
def deviceReset (cause : Int) (d : Dev) : Dev :=
  let e : Dev := { freeCount := d.freeCount,
                   fw := { slot := d.fw.slot, generation := d.fw.generation },
                   dict := { keys := d.dict.keys } }
  (e.wr Obj.ResetCause cause).forEach (fun i e =>
    e.wrB (inst Obj.MdpKeySet i) ((Sparse.get (fun _ => []) d.dict.keys i) != List.replicate 32 0 &&
      !(Sparse.get (fun _ => []) d.dict.keys i).isEmpty)) [0, 1, 2]

/-- RESET_RELEASE: the reset ends and the straps are sampled (R589). -/
def resetRelease (straps : Nat) (d : Dev) : Dev :=
  if d.boot.released then d
  else { d.wr Obj.BootStraps straps with boot := { d.boot with released := true } }

/-- PERST_ASSERT: only the PCIe function is held in reset, and every ring is disabled (R588). -/
def perstAssert (d : Dev) : Dev :=
  let d := d.forEach ringDisable (List.range 8)
  { d with boot := { d.boot with pcie := false } }

/-- PCIE_LINK_TRAINING: RESET_N and PERST_N are high and the fixed synth is LOCKED; STRAP[2] can hold the function in
reset (R589, R595). -/
def pcieTraining (d : Dev) : Dev :=
  d.when (d.boot.released && d.rd Obj.FixedSynthState == 1 && !bit (d.rdN Obj.BootStraps) 2) fun d =>
    { d with boot := { d.boot with pcie := true } }

/-- A boot record: its GENERATION and the slot it names, when its marker and CRC are good (R591). -/
def bootRecord (bs : List Byte) : Option (Nat × Nat) :=
  if bs.take 4 == [0x46, 0x42, 0x52, 0x31] && leNat ((bs.drop 12).take 4) == crc32 0xFFFFFFFF (bs.take 12) && bs.length == 16
  then some (leNat ((bs.drop 4).take 4), (leNat ((bs.drop 8).take 1)) % 2)
  else none

/-- The record in force: the valid copy with the higher GENERATION, else slot 0 (R591). -/
def bootChoice (r0 r1 : Option (Nat × Nat)) : Nat × Nat :=
  match r0, r1 with
  | some a, some b => if a.1 < b.1 then b else a
  | some a, none => a
  | none, some b => b
  | none, none => (0, 0)

/-- BOOT_IMAGE_READ_COMPLETE: the primary image is accepted, else the fallback, else neither (R589, R591, R592, R594). -/
def bootImageRead (record0 record1 slot0 slot1 : List Byte) (d : Dev) : Dev :=
  let mode := bits (d.rdN Obj.BootStraps) 0 2
  if !d.boot.released || d.boot.loaded || d.boot.refused || mode == 2 || d.stopped then d
  else
    let chosen := bootChoice (bootRecord record0) (bootRecord record1)
    let image (slot : Nat) : ImageRead :=
      let bs := if slot == 0 then slot0 else slot1
      readImage (fun a n => (bs.drop a).take n) 8388608
    let ok (slot : Nat) : Bool := (image slot).genuine && decide (d.rdN Obj.FwMinVersion ≤ (image slot).image.version)
    let primary := chosen.2
    let fallback := 1 - primary
    let d := d.wrs [(Obj.FwPrimaryVersion, (image primary).image.version), (Obj.FwFallbackVersion, (image fallback).image.version)]
    let d := { d with fw := { d.fw with slot := primary, generation := chosen.1 } }
    let use (slot : Nat) (source : Int) (d : Dev) : Dev :=
      let d := d.wrs [(Obj.BootImageSlot, slot), (Obj.BootImageSource, source)]
      { d with fw := { d.fw with running := (image slot).image, flash := (image slot).image }, boot := { d.boot with loaded := true } }
    if mode != 1 && ok primary then use primary 0 d
    else if ok fallback then use fallback 1 d
    else { d with boot := { d.boot with refused := true } }

/-- SERVER_READY: the firmware runs and serves local requests; it enables the 16 MDP session blocks (R594, R596). -/
def serverReady (d : Dev) : Dev :=
  if !d.boot.loaded || d.dict.ready || d.stopped then d
  else
    let d := { d with dict := { d.dict with ready := true } }
    let d := d.wrs [(Obj.BootDuration, quot Config.roundsUp d.time.uptime 1000000),
      (inst Obj.EventStatus 63, (d.rdN (inst Obj.EventStatus 63) % 4096 : Nat)),
      (inst Obj.FwRunningVersion 0, d.fw.running.version)]
    d.forEach (fun n d => blockCmd ⟨.mdpSession, n⟩ 1 d) (List.range 16)

/-- STANDBY_RETURN_AT_BOOT: core B and spindle B are returned as by an enable (R484, R594). -/
def standbyReturn (d : Dev) : Dev :=
  if !d.dict.ready then d
  else ((d.unitEnable 1).unitEnable 3).wr (inst Obj.FwRunningVersion 1) d.fw.running.version

/-- DEEP_STORE_TRAINING_COMPLETE: a failure leaves the deep store manager FAULTED and the Reel without contents (R602). -/
def deepTraining (ok : Bool) (d : Dev) : Dev :=
  if ok then d
  else
    let b : BlockId := ⟨.deepStore, 0⟩
    let d := ((d.countFault b 9).blockLeaves b 4).wrs
      [(Obj.DeepStoreLost, 1), (Obj.ReelOldestOffset, 0), (Obj.ReelWriteOffset, 0), (Obj.ReelRecordCount, 0)]
    { d with buf := { d.buf with reel := [], reelHeld := 0 }, boot := { d.boot with scratchBad := true } }

/-! ## Discard (R599) -/

/-- Everything in the ingress FIFOs, the stores and the queues goes, with its cells; nothing counts as transmitted (R426). -/
def Dev.dropFrames (d : Dev) : Dev :=
  let txs := (List.range 49).filterMap fun p => (d.egress p).tx.map (·.copy)
  let inHand := (List.range 4).filterMap fun i => (d.ring (4 + i)).delivering.map (·.1)
  let d := d.forEach (fun p d => d.setEgress p fun e => { e with tx := none }) (List.range 49)
  let d := d.forEach ringFault (List.range 8)
  let d := (d.discardAll 1 (txs ++ inHand)).discardCopies (fun _ => true) 1
  let d := (d.addLanding (-(d.rd Obj.LandingFill))).checkStores
  { d with fwd := { d.fwd with frames := [], receiving := [], fifo := [], stage := [] } }

/-- A port's link is reported down, and its link timing loses its lock; no event and no flush is counted (R599). -/
def faultLink (p : Nat) (d : Dev) : Dev :=
  let d := { d with line := { d.line with checked := d.line.checked.filter (· != p) } }
  let d := (d.timingLost p).wrs [(inst Obj.PortLinkUp p, 0), (inst Obj.PortLineRate p, 0)]
  let d := d.when (d.isNq p) fun d =>
    (d.wrs [(inst Obj.NqActiveTxSet (p / 4), 0), (inst Obj.NqActiveRxSet (p / 4), 0)]).setNq (p / 4) fun n =>
      { n with lost := 0, txNext := none, widening := none, rxNext := none, low := 0 }
  d.when (decide (p < 48)) fun d =>
    (d.when (d.isNq p) fun d => d.setLink p fun k => { k with folded := false }).roleDown p

/-- Every transmitter goes to electrical idle, and every receive lane is held in NO_SIGNAL (R599). -/
def faultLane (l : Nat) (d : Dev) : Dev :=
  let d := d.when (decide (2 ≤ d.rd (inst Obj.LaneTxState l))) fun d => d.wr (inst Obj.LaneTxState l) 1
  d.when (decide (2 ≤ d.rxState l)) fun d => d.rxTo l 1 true

/-- Mailbox operations and transfers are discarded; what they held is reported at restart (R543). -/
def faultBox (n : Nat) (d : Dev) : Dev :=
  let b : MailboxSt := Sparse.get (fun _ => {}) d.dict.boxes n
  if b.busy || b.transfer.isSome then
    let b := { b with transfer := none, done := none, lost := true }
    { d with dict := { d.dict with boxes := Sparse.set (fun _ => {}) d.dict.boxes n b } }
  else d

/-- MDP requests not committed and open transfers are discarded; each open session is to report it (R522). -/
def faultSession (n : Nat) (d : Dev) : Dev :=
  d.when (d.slotState n == 2) fun d => d.setSession n fun x => { x with transfer := none, recover := true }

/-- The spool run in progress and the queued spool requests are discarded; their status words read RECOVERED (R584). -/
def Dev.faultSpool (d : Dev) : Dev :=
  let memory := d.spool.requests.foldl (fun m r => writeBytes m r.buffer (leBytes 4 0x10)) d.spool.memory
  { d with spool := { d.spool with memory := memory, run := none, ready := [], requests := [], endings := [] } }

/-- Frames, links, lanes and requests in progress are discarded. -/
def Dev.discardTraffic (d : Dev) : Dev :=
  let d := d.dropFrames
  let d := d.forEach (fun p d => d.when (d.rdB (inst Obj.PortLinkUp p)) (faultLink p)) (List.range 49)
  let d := (d.forEach faultLane (List.range 48)).bmca
  (d.forEach faultBox (List.range 4)).forEach faultSession (List.range 16)

/-- The waiting requests, a table operation and the learning queue are discarded. -/
def Dev.discardQueues (d : Dev) : Dev :=
  let d := { d with dict := { d.dict with queue := [] } }
  let d := d.when d.fwd.tableOp.isSome fun d => { d.wr Obj.TableOpCmd 0x80 with fwd := { d.fwd with tableOp := none } }
  d.setLearnQueue []

/-- Measurements, recordings, dumps and spool runs end. -/
def Dev.discardRecords (d : Dev) : Dev :=
  let d := (d.forEach faultMeetsEvin (List.range 16)).faultMeetsCal
  let d := d.reelQuiet
  ({ d with perf := { d.perf with due := [] } }.perfFlags 4).faultSpool

/-- A firmware update that has not reached its handover fails, and a copy into flash ends. -/
def Dev.discardUpdate (d : Dev) : Dev :=
  let st := d.rd Obj.FwUpdateState
  let d := d.when (d.fw.verifying || (decide (1 ≤ st) && decide (st ≤ 5))) fun d =>
    { (d.disarm fun c => c.kind == .handover).wr Obj.FwUpdateState 9 with fw := { d.fw with verifying := false } }
  d.when (d.rd Obj.FwFlashState == 1) fun d => d.wr Obj.FwFlashState 3

/-- All work in flight is discarded, as the named rules state (R599). -/
def Dev.discardWork (d : Dev) : Dev :=
  let d := d.discardTraffic.discardQueues.discardRecords.discardUpdate
  let d := d.forEach (fun p d => d.setPair p fun x => { x with act := none }) [0, 1]
  d.when (!d.dict.ready) fun d => { d with boot := { d.boot with loaded := false } }

/-- A device-level fault (R598, R599, R603, R611). While the device is already stopped a further cause is recorded, and the
restart waits for its condition as well. -/
def deviceFault (cause : Nat) (core : Bool) (d : Dev) : Dev :=
  let phase := d.rd Obj.DeviceFaultPhase
  let now := d.time.uptime
  let recent := d.boot.faults.filter fun t => decide (now ≤ t + 3600000000000)
  let halt := decide (d.rdN Obj.DeviceFaultLimit ≤ recent.length)
  let turn := d.rdN Obj.TurnNumber
  let d := ((d.inc Obj.DeviceFaultCount).wrs [(Obj.DeviceFaultLastCause, cause),
    (Obj.DeviceFaultPhase, if halt || phase == 3 then 3 else 1), (Obj.DeviceFaultLastTurn, turn),
    (Obj.DeviceFaultLastUptime, now)]).raise 63
  let again := phase == 1 || phase == 3
  let d := { d with
    boot := { d.boot with
      faults := recent ++ [now], held := if d.boot.held.contains cause then d.boot.held else d.boot.held ++ [cause],
      detected := if again then d.boot.detected else now,
      reloadCores := d.boot.reloadCores || cause == 4 || (core && (cause == 5 || cause == 6)),
      reloadSpindles := d.boot.reloadSpindles || (!core && cause == 5) } }
  if again then d
  else
    let d := { d with turn := { d.turn with
      cut := if d.turn.running then some (turn, d.unfinished) else d.turn.cut,
      running := false, gap := false, openItems := [] } }
    let d := d.discardWork
    d.refreshLines.planeStatus

/-- DEVICE_LEVEL_FAULT: one of the causes of R598. -/
def deviceLevelFault (cause : Nat) (core : Bool) (d : Dev) : Dev :=
  d.when (decide (1 ≤ cause) && decide (cause ≤ 9) && d.boot.released) (deviceFault cause core)

/-! ## Restart (R600 to R603) -/

/-- The condition of a cause holds, so that it no longer keeps the service stopped (R598). What it asks to last is told by
DEVICE_RESTART. -/
def Dev.conditionHolds (d : Dev) (cause : Nat) : Bool :=
  let fixed := d.rd Obj.FixedSynthState == 1
  let both := fixed && d.rd Obj.SteeredSynthState == 1
  match cause with
  | 1 => fixed
  | 2 => d.rdB Obj.PlinthPresent && both
  | 3 => both
  | 7 => (List.range 8).all fun r => d.rd (inst Obj.SupplyState r) == 0
  | 8 => d.rd Obj.ThermalState != 2
  | _ => true

/-- What a loss of the configuration leaves: time, roles, the state of the synths, the firmware and the environment (R601). -/
def keptAtLoss (k : Nat) : Bool :=
  let i := k / 256
  (match objRow k with
    | some r => r.acc == .ro
    | none => false) &&
  (i == 0x110A || i == 0x1303 || (decide (0x2001 ≤ i) && decide (i ≤ 0x2004)) || i == 0x2101
    || (decide (0x2103 ≤ i) && decide (i ≤ 0x2105)) || i == 0x2108 || (decide (0x2500 ≤ i) && decide (i ≤ 0x2506))
    || (decide (0x5100 ≤ i) && decide (i < 0x5200)) || (decide (0x5400 ≤ i) && decide (i < 0x5600)))

/-- The configuration is lost: every object returns to its default, every session closes and every ring is disabled; the
device is as after boot, with roles and time kept (R601). -/
def Dev.configLost (d : Dev) : Dev :=
  let e : Dev := {
    objs := d.objs.filter fun x => keptAtLoss x.1,
    freeCount := d.freeCount, turn := { d.turn with queue := [] },
    time := { d.time with hostWord := none, hostMisses := 0, fallbackFrom := none, snapPending := false },
    ref := { ncoPhase := d.ref.ncoPhase },
    red := d.red, fw := d.fw, perf := { d.perf with cfg := [], staged := [], since := [], raised := [], read := [] },
    spool := { memory := d.spool.memory, log := d.spool.log }, boot := d.boot,
    buf := { reel := d.buf.reel },
    fwd := { nextFrame := d.fwd.nextFrame },
    dict := { ready := d.dict.ready, keys := d.dict.keys } }
  (e.wr Obj.ConfigLost 1).forEach (fun n e => blockCmd ⟨.mdpSession, n⟩ 1 e) (List.range 16)

/-- Step 3, cause 5 of the spindle pair: both spindles load the active counter, and the active one enters HOLDOVER when it
has a narrow-band value and FREE_RUN otherwise (R600). -/
def Dev.reloadPair (d : Dev) : Dev :=
  let x := d.spindle d.active
  let d := d.setSpindle d.standby fun _ => x
  if d.ref.narrow.isSome then d.noteLoss.enterHoldover else d.enterFreeRun

/-- A mailbox that lost its operation reads VALID with CODE RECOVERED and a data area of zeros (R543). -/
def boxRecovers (n : Nat) (d : Dev) : Dev :=
  let b : MailboxSt := Sparse.get (fun _ => {}) d.dict.boxes n
  if b.lost then
    let b := { b with lost := false, busy := false, valid := true, code := 0x10, data := List.replicate 64 0 }
    { d with dict := { d.dict with boxes := Sparse.set (fun _ => {}) d.dict.boxes n b } }
  else d

/-- Steps 1 and 2 of the restart: the tables and the buffers are cleared, and the configuration is checked (R600, R601). -/
def Dev.restartClears (configBad : Bool) (d : Dev) : Dev :=
  let d := (d.macFlush 0xFF 0xFFFF).1
  let d := d.forEach (fun p d => (d.setEgress p fun e => { lastDrr := e.lastDrr }).wrs
    [(inst Obj.QueuePausedMask p, 0), (inst Obj.PauseXoffState p, 0)]) (List.range 48)
  let d := { d with buf := { d.buf with deficit := [], pfcCells := [] } }
  d.when configBad (·.configLost)

/-- Both cores are reloaded from the copy in scratch, or from the flash when the copy fails (R600). -/
def Dev.reloadCores (d : Dev) : Dev :=
  let d := d.when d.boot.scratchBad fun d => { d with fw := { d.fw with running := d.fw.flash, before := none, handedAt := none } }
  let d := d.wrs [(inst Obj.FwRunningVersion 0, d.fw.running.version), (inst Obj.FwRunningVersion 1, d.fw.running.version)]
  { d with boot := { d.boot with reloadCores := false, scratchBad := false } }

/-- Steps 3 and 4: units are reloaded, the factory tables are in force, and the mailboxes recover (R600, R602). -/
def Dev.restartReloads (d : Dev) : Dev :=
  let d := (d.when d.boot.reloadCores (·.reloadCores)).when d.boot.reloadSpindles (·.reloadPair)
  let d := d.factoryTables
  let d := { d with cal := { d.cal with due := true }, boot := { d.boot with reloadSpindles := false } }
  d.forEach boxRecovers (List.range 4)

/-- What an item of the Turn that a device-level fault cut short leads to (R48): a missed word and missed heartbeats; the rest of
the work in flight the fault has discarded (R599). -/
def cutLeads (item : Nat) (d : Dev) : Dev :=
  match item with
  | 3 => d.missWord
  | 11 => d.slotsMissed silentPair silentPair
  | _ => d

/-- The items of the Turn that the fault cut short are recorded, and EV18 is owed for the first Turn after the restart (R48,
R58). -/
def Dev.restartRecords (d : Dev) : Dev :=
  let d := match d.turn.cut with
    | some (turn, items) =>
      let d : Dev := { d with turn := { d.turn with owedAt := none } }
      d.forEach (fun i d => cutLeads i (d.overrun i 4 turn)) items
    | none => d
  { d with turn := { d.turn with cut := none } }

/-- Steps 1 to 5 of the restart (R600). `configBad` is what the check of step 2 finds. -/
def restartBegins (configBad : Bool) (d : Dev) : Dev :=
  let d := (d.restartClears configBad).restartReloads.restartRecords
  let d := (d.discontinuity (d.firstTurnAt d.now)).showAllGates d.now
  ({ d with boot := { d.boot with held := [] } }.wr Obj.DeviceFaultPhase 2).planeStatus

/-- DEVICE_RESTART: the conditions of every cause hold (R598, R600, R611). -/
def deviceRestart (configBad : Bool) (d : Dev) : Dev :=
  d.when (d.rd Obj.DeviceFaultPhase == 1 && d.boot.held.all d.conditionHolds) (restartBegins configBad)

/-- A block at the boundary of step 6: one that was ENABLED or ENABLING enters ENABLING, one that was DISABLING becomes
DISABLED, and a unit of a pair keeps its role (R600). -/
def restartBlock (b : BlockId) (d : Dev) : Dev :=
  if (unitOf b).isSome then d
  else
    let st := d.blk b.kind b.n
    if st == 1 || st == 2 then
      let d := { d.setBlk b 1 with block := { d.block with
        resumed := if st == 2 then d.block.resumed ++ [b.state] else d.block.resumed } }
      match b.kind with
      | .lane => d.laneEnabling b.n
      | .refIn => refreshCand b.n d
      | .alignLine => d.refreshLines
      | .clkOut => refreshOut b.n d
      | .pulse => refreshOut (8 + b.n) (outStops (8 + b.n) d)
      | _ => d
    else d.when (st == 3) fun d => d.setBlk b 0

/-- Steps 6 and 7, at the first Turn boundary: the standbys resynchronise, EV63 is raised again, and the device runs (R600). -/
def Dev.restartCompletes (d : Dev) : Dev :=
  if d.rd Obj.DeviceFaultPhase != 2 then d
  else
    let blocks := d.objs.filterMap fun e => blockOfState e.1
    let d := blocks.foldl (fun (d : Dev) b => restartBlock b d) d
    let d := d.forEach (fun p d => d.when (d.unitState (d.standbyUnit p) != 0) fun d => d.unitSync (d.standbyUnit p)) [0, 1]
    let took := quot Config.roundsUp (d.time.uptime - d.boot.detected : Nat) 1000
    (d.wrs [(Obj.DeviceFaultPhase, 0), (Obj.RecoveryLastDuration, took)]).raise 63

/-- DEVICE_RESTART_CMD: a halted device is to restart; at any other time the command is refused (R603, R613). -/
def deviceRestartCmd (d : Dev) : Dev :=
  if d.rd Obj.DeviceFaultPhase == 3 then d.wrs [(Obj.DeviceRestartCmd, 1), (Obj.DeviceFaultPhase, 1)]
  else d.wr Obj.DeviceRestartCmd 0x80

/-- CONFIG_LOST_ACK (R601). -/
def configLostAck (d : Dev) : Dev := d.wrs [(Obj.ConfigLostAck, 0), (Obj.ConfigLost, 0)]

/-! ## The fixed synth and the Plinth (R218 to R220) -/

/-- The loss of the fixed synth is counted and reported, and a pulse in progress ends at once (R218, R238). -/
def Dev.fixedLost (d : Dev) : Dev :=
  let d := d.forEach (fun n d => d.setPulse n fun p => { p with active := false }) (List.range 16)
  ((d.wr Obj.FixedSynthState 2).inc Obj.FixedSynthLossCount).raise 32

/-- Both synths are unlocked with the Plinth present: the counters advance per Plinth cycle (R220). -/
def Dev.bothUnlocked (d : Dev) : Dev := { d with time := { d.time with perPlinth := d.time.counting } }

/-- STEERED_SYNTH_LOSS: LOCKED becomes HOLDING; while the fixed synth is not LOCKED either, it is a device-level fault of cause 3
(R215, R216, R220). -/
def steeredLoss (d : Dev) : Dev :=
  if d.rd Obj.SteeredSynthState != 1 then d
  else
    let d := d.steeredLost 2
    d.when (d.rd Obj.FixedSynthState != 1 && d.rdB Obj.PlinthPresent) fun d =>
      d.bothUnlocked.refreshLines |> deviceFault 3 false

/-- FIXED_SYNTH_LOSS: a device-level fault, of cause 3 when the steered synth is not LOCKED either (R218, R220). -/
def fixedSynthLoss (d : Dev) : Dev :=
  if d.rd Obj.FixedSynthState != 1 then d
  else if d.rd Obj.SteeredSynthState == 1 then d.fixedLost.refreshLines |> deviceFault 1 false
  else d.fixedLost.bothUnlocked.refreshLines |> deviceFault 3 false

/-- Both synths lose lock with the Plinth (R216, R219). -/
def Dev.plinthGone (d : Dev) : Dev :=
  let d := d.when (d.rd Obj.FixedSynthState == 1) (·.fixedLost)
  let d := (d.steeredLost 0).wr Obj.PlinthPresent 0
  { d with time := { d.time with perPlinth := false } }

/-- PLINTH_LOSS: both synths lose lock, the counters stop and time is no longer valid (R87, R219). -/
def plinthLoss (d : Dev) : Dev :=
  if !d.rdB Obj.PlinthPresent then d
  else
    let d := d.plinthGone.when (d.rdB Obj.TimeValid) fun d =>
      (d.wrs [(Obj.TimeValid, 0), (Obj.TimeSource, 0), (Obj.TimeSourceInstance, 0xFF)]).refreshPhase.raiseSpindles 3
    d.refreshLines |> deviceFault 2 false

/-- PLINTH_RETURN: the counters resume from their held value, per Plinth cycle until both synths are LOCKED (R219). -/
def plinthReturn (d : Dev) : Dev :=
  if d.rdB Obj.PlinthPresent then d
  else
    let d := d.wr Obj.PlinthPresent 1
    { d with time := { d.time with perPlinth := d.time.counting, untilBoth := d.time.counting } }.planeStatus

/-- FIXED_SYNTH_LOCK: from LOCKING or LOST, with the Plinth present; the first lock after a reset finds it present
(R218, R219, R594). -/
def fixedSynthLock (d : Dev) : Dev :=
  d.when (d.rd Obj.FixedSynthState != 1 && (d.rdB Obj.PlinthPresent || d.rd Obj.FixedSynthState == 0) && d.boot.released)
    fun d => (((plinthReturn d).wr Obj.FixedSynthState 1).plinthRateEnds).refreshLines

/-- BOTH_SYNTHS_UNLOCKED: both lose lock with the Plinth present (R220). -/
def bothSynthsUnlocked (d : Dev) : Dev :=
  let fixed := d.rd Obj.FixedSynthState == 1
  let steered := d.rd Obj.SteeredSynthState == 1
  if !d.rdB Obj.PlinthPresent || !(fixed || steered) then d
  else
    let d := d.when fixed (·.fixedLost)
    let d := d.when steered fun d => d.steeredLost 2
    d.bothUnlocked.refreshLines |> deviceFault 3 false

/-! ## Thermal and supply monitors (R604 to R606) -/

/-- A transition of the thermal state, with its event (R604). -/
def Dev.thermalTo (d : Dev) (st cause : Int) : Dev := (d.wrs [(Obj.ThermalState, st), (Obj.ThermalEventCause, cause)]).raise 60

/-- THERMAL_SAMPLE: the four sensors, and the response to the hottest (R604, R605). -/
def thermalSample (temps : List Int) (lasting : Bool) (d : Dev) : Dev :=
  let ts := (List.range 4).map fun i => clampI (-32768) 32767 (temps.getD i 0)
  let hottest := ts.foldl max (ts.headD 0)
  let d := d.wrs ((ts.zipIdx).map fun e => (inst Obj.DieTemperature e.2, e.1))
  let d := d.wr Obj.DieTemperaturePeak (if d.boot.tempSeen then max (d.rd Obj.DieTemperaturePeak) hottest else hottest)
  let d := { d with boot := { d.boot with tempSeen := true } }.calTemps
  let warn := d.rd Obj.ThermalWarnLimit
  let hot := decide (1250 ≤ hottest) && lasting
  let d := if d.rd Obj.ThermalState == 0 && decide (warn ≤ hottest) then (d.thermalTo 1 1).reelStop 3 else d
  if d.rd Obj.ThermalState == 1 && hot then
    (((d.thermalTo 2 3).reelStop 3).inc Obj.ThermalShutdownCount) |> deviceFault 8 false
  else if d.rd Obj.ThermalState == 1 && decide (hottest ≤ warn - 50) then d.thermalTo 0 2
  else if d.rd Obj.ThermalState == 2 && decide (hottest < 950) then d.thermalTo 1 4
  else d

/-- A rail: nominal mV, and the percentages of its warning and fault windows (R606). -/
def rails : List (Int × Int × Int) :=
  [(750, 3, 6), (900, 3, 6), (1200, 3, 6), (1200, 3, 5), (2500, 5, 8), (1800, 2, 5), (1800, 5, 8), (3300, 5, 8)]

/-- A reading lies outside a window of `pct` % about a nominal. -/
def outside (mv nominal pct : Int) : Bool := decide (nominal * pct < 100 * (mv - nominal).natAbs)

/-- One rail of a supply sample: its state and EV61 (R606). -/
def railSample (mv : Nat) (lasting : Bool) (r : Nat) (d : Dev) : Dev :=
  let rail := rails.getD r (0, 0, 0)
  let old := d.rd (inst Obj.SupplyState r)
  let new : Int := if outside mv rail.1 rail.2.2 && (lasting || old == 2) then 2 else if outside mv rail.1 rail.2.1 then 1 else 0
  let low := if d.boot.supplySeen then min (d.rdN (inst Obj.SupplyMinimum r)) mv else mv
  let d := d.wrs [(inst Obj.SupplyVoltage r, mv), (inst Obj.SupplyMinimum r, low)]
  if new == old then d
  else
    let cause : Int := if new == 0 then 3 else new
    (d.wrs [(inst Obj.SupplyState r, new), (Obj.SupplyEventCause, cause + 256 * (r + 1))]).raise 61

/-- SUPPLY_SAMPLE: the eight rails; a rail newly in fault is a device-level fault of cause 7 (R606). -/
def supplySample (mv : List Nat) (lasting : Nat) (d : Dev) : Dev :=
  let ok := (List.range 8).filter fun r => d.rd (inst Obj.SupplyState r) != 2
  let d := d.forEach (fun r d => railSample (mv.getD r 0 % 65536) (bit lasting r) r d) (List.range 8)
  let d := { d with boot := { d.boot with supplySeen := true } }
  if ok.any fun r => d.rd (inst Obj.SupplyState r) == 2 then deviceFault 7 false d else d

/-! ## Pins (R607, R608) -/

/-- The status object of a pin, none where the group has no such pin. -/
def pinKey (group n : Nat) : Option Nat :=
  match group with
  | 0 => if n < 4 then some (inst Obj.RefInPinStatus n) else none
  | 1 => if n == 0 then some Obj.MrefPinStatus else none
  | 2 => if n < 8 then some (inst Obj.ClkOutPinStatus n) else none
  | _ => some (inst Obj.PulsePinStatus n)

/-- A status that the pins of a group can have (R607). -/
def pinStatusOk (group status : Nat) : Bool :=
  match group with
  | 0 => decide (status ≤ 4)
  | 1 => decide (status ≤ 3)
  | 2 => decide (status ≤ 3) || status == 6
  | _ => status == 0 || status == 2 || status == 3

/-- An output as R608 numbers it here: CLKOUT 0-7, PULSE 8-23. -/
def limitedOut (group n : Nat) : Option Nat := if group == 2 then some n else if group == 3 then some (8 + n) else none

/-- PIN_FAULT_DETECT: the status and EV59; a shorted output is limited, and a swapped REFIN pair is corrected from the next
boundary where RefInSwapCorrect says so (R607, R608). -/
def pinFaultDetect (group n status : Nat) (d : Dev) : Dev :=
  match pinKey group n with
  | none => d
  | some k =>
    let input := d.rdN (inst Obj.ClkOutMonitorInput n)
    let monitored := group != 2 || status != 6 || (decide (input < 16) && d.on .evin input)
    let enabled := status != 1 || group == 2 || (if group == 0 then d.on .refIn n else d.on .mref 0)
    let corrects := d.rdB (inst Obj.RefInSwapCorrect n)
    let st := if group == 0 && status == 4 && !corrects then 5 else status
    if !pinStatusOk group status || !monitored || !enabled || d.rd k == (st : Int) then d
    else
      let d := (d.wrs [(k, st), (Obj.PinEventCause, st + 256 * (group + 1))]).raise 59
      let d := match limitedOut group n with
        | some o =>
          let rest := d.boot.limited.filter (· != o)
          { d with boot := { d.boot with limited := if st == 2 || st == 3 then rest ++ [o] else rest } }
        | none => d
      d.when (group == 0 && st == 4) fun d => d.setRefIn n fun g => { g with invertNext := !g.inverted }

/-- The inversion of a REFIN pair takes effect at the boundary: the candidate qualifies anew (R608). -/
def refInversion (n : Nat) (d : Dev) : Dev :=
  let g := d.refIn n
  if g.inverted == g.invertNext then d
  else
    let d := d.setRefIn n fun g => { g with inverted := g.invertNext }
    d.when (d.qual n == 1 || d.qual n == 2) fun d => d.startQualifying n

/-- SHORT_RETRY: an output that is limited tries full drive, and a short that has gone clears (R607, R608). -/
def shortRetry (o : Nat) (cleared : Bool) (d : Dev) : Dev :=
  if d.boot.limited.contains o && cleared then
    (if o < 8 then pinFaultDetect 2 o 0 d else pinFaultDetect 3 (o - 8) 0 d)
  else d

/-! ## DRAM error correction (R610) -/

/-- A corrected error: EV62 only when more than 1,000 occur within 1 s. -/
def Dev.eccCorrected (d : Dev) (stack : Nat) : Dev :=
  let now := d.time.uptime
  let d := d.inc (inst Obj.DramEccCorrectedCount stack)
  let times := d.boot.eccTimes
  let many := decide (1000 ≤ times.length) && decide (now ≤ times.headD 0 + 1000000000)
  let d := d.when many (·.raise 62)
  { d with boot := { d.boot with eccTimes := if many then [] else lastN 1000 (times ++ [now]) } }

/-- What an uncorrectable error spoils. -/
def Dev.eccSpoils (d : Dev) (at_ : DramPlace) : Dev :=
  match at_ with
  | .packet p c i =>
    let k := queueKey p.val c.val
    let mark (e : Copy × Nat) : Copy :=
      if e.2 == i && (e.1.pool == .deepGuarantee || e.1.pool == .deepShared) then { e.1 with ecc := true } else e.1
    d.setQueue k ((d.queue k).zipIdx.map mark)
  | .reel a =>
    let cap := readBytes d.buf.reel (a + 18) 2
    let header := (reelHeader 0 0xFF 0 0 0 0 0 0).take 18 ++ cap ++ List.replicate 12 0
    if d.reelByte (a + 12) == 0xFF || leNat cap == 0 then d
    else { d with buf := { d.buf with reel := writeBytes d.buf.reel a header } }
  | .dump i =>
    { d with perf := { d.perf with dump := d.perf.dump.map fun e => if e.1 == i then (i, List.replicate e.2.length 0) else e } }
  | .scratch => { d with boot := { d.boot with scratchBad := true } }
  | .none => d

/-- DRAM_ECC_ERROR (R610). -/
def dramEcc (stack : Nat) (uncorrectable : Bool) (at_ : DramPlace) (d : Dev) : Dev :=
  if uncorrectable then ((d.inc (inst Obj.DramEccUncorrectedCount stack)).raise 62).eccSpoils at_
  else d.eccCorrected stack

/-- DRAM_SCRUB: the errors a pass has corrected are counted; it lasts 24 h (R610). -/
def dramScrub (corrected0 corrected1 : Nat) (d : Dev) : Dev :=
  (d.add32 (inst Obj.DramEccCorrectedCount 0) corrected0).add32 (inst Obj.DramEccCorrectedCount 1) corrected1

/-! ## Meanings -/

/-- POWER_ON_RESET (R587). -/
def execPowerOnReset (s : State) : Host.Outcome State Fault Refusal := s.effect (deviceReset 0)

/-- RESET_N_ASSERT (R587). -/
def execResetNAssert (s : State) : Host.Outcome State Fault Refusal := s.effect (deviceReset 1)

/-- SUPPLY_RESET (R587). -/
def execSupplyReset (s : State) : Host.Outcome State Fault Refusal := s.effect (deviceReset 2)

/-- DEVICE_RESET_CMD (R587, R613). -/
def execDeviceResetCmd (s : State) : Host.Outcome State Fault Refusal := s.effect (deviceReset 3)

/-- RESET_RELEASE (R589). -/
def execResetRelease (straps : Fin 16) (s : State) : Host.Outcome State Fault Refusal := s.effect (resetRelease straps)

/-- PERST_ASSERT (R588). -/
def execPerstAssert (s : State) : Host.Outcome State Fault Refusal := s.effect perstAssert

/-- PCIE_LINK_TRAINING (R595). -/
def execPcieLinkTraining (s : State) : Host.Outcome State Fault Refusal := s.effect pcieTraining

/-- BOOT_IMAGE_READ_COMPLETE (R594). -/
def execBootImageReadComplete (record0 record1 slot0 slot1 : List Byte) (s : State) : Host.Outcome State Fault Refusal :=
  s.effect (bootImageRead record0 record1 slot0 slot1)

/-- SERVER_READY (R594). -/
def execServerReady (s : State) : Host.Outcome State Fault Refusal := s.effect serverReady

/-- STANDBY_RETURN_AT_BOOT (R594). -/
def execStandbyReturnAtBoot (s : State) : Host.Outcome State Fault Refusal := s.effect standbyReturn

/-- DEVICE_LEVEL_FAULT (R598, R599). -/
def execDeviceLevelFault (cause : Fin 10) (core : Bool) (s : State) : Host.Outcome State Fault Refusal :=
  s.effect (deviceLevelFault cause core)

/-- DEVICE_RESTART (R600). -/
def execDeviceRestart (configBad : Bool) (s : State) : Host.Outcome State Fault Refusal := s.effect (deviceRestart configBad)

/-- DEVICE_RESTART_CMD (R603). -/
def execDeviceRestartCmd (s : State) : Host.Outcome State Fault Refusal := s.effect deviceRestartCmd

/-- CONFIG_LOST_ACK (R601). -/
def execConfigLostAck (s : State) : Host.Outcome State Fault Refusal := s.effect configLostAck

/-- THERMAL_SAMPLE (R604). -/
def execThermalSample (temps : List Int) (lasting : Bool) (s : State) : Host.Outcome State Fault Refusal :=
  s.effect (thermalSample temps lasting)

/-- SUPPLY_SAMPLE (R606). -/
def execSupplySample (mv : List Nat) (lasting : Nat) (s : State) : Host.Outcome State Fault Refusal :=
  s.effect (supplySample mv lasting)

/-- PIN_FAULT_DETECT (R607). -/
def execPinFaultDetect (group : Fin 4) (n : Fin 16) (status : Fin 7) (s : State) : Host.Outcome State Fault Refusal :=
  s.effect (pinFaultDetect group n status)

/-- SHORT_RETRY (R608). -/
def execShortRetry (o : Fin 24) (cleared : Bool) (s : State) : Host.Outcome State Fault Refusal := s.effect (shortRetry o cleared)

/-- DRAM_ECC_ERROR (R610). -/
def execDramEccError (stack : Fin 2) (uncorrectable : Bool) (at_ : DramPlace) (s : State) : Host.Outcome State Fault Refusal :=
  s.effect (dramEcc stack uncorrectable at_)

/-- DRAM_SCRUB (R610). -/
def execDramScrub (corrected0 corrected1 : Nat) (s : State) : Host.Outcome State Fault Refusal :=
  s.effect (dramScrub corrected0 corrected1)

/-- STEERED_SYNTH_LOSS (R216). -/
def execSteeredSynthLoss (s : State) : Host.Outcome State Fault Refusal := s.effect steeredLoss

/-- FIXED_SYNTH_LOSS (R218). -/
def execFixedSynthLoss (s : State) : Host.Outcome State Fault Refusal := s.effect fixedSynthLoss

/-- FIXED_SYNTH_LOCK (R218). -/
def execFixedSynthLock (s : State) : Host.Outcome State Fault Refusal := s.effect fixedSynthLock

/-- PLINTH_LOSS (R219). -/
def execPlinthLoss (s : State) : Host.Outcome State Fault Refusal := s.effect plinthLoss

/-- PLINTH_RETURN (R219). -/
def execPlinthReturn (s : State) : Host.Outcome State Fault Refusal := s.effect plinthReturn

/-- BOTH_SYNTHS_UNLOCKED (R220). -/
def execBothSynthsUnlocked (s : State) : Host.Outcome State Fault Refusal := s.effect bothSynthsUnlocked

/-- DEEP_STORE_TRAINING_COMPLETE (R602). -/
def execDeepStoreTrainingComplete (ok : Bool) (s : State) : Host.Outcome State Fault Refusal := s.effect (deepTraining ok)

end Sys2Proof.Machine
end

