-- ==== Sys2Proof/Machine/Groups.lean ====
section
/-! DEFINITION. Groups of objects that must agree, and the values stored while one does not (R546). -/

namespace Sys2Proof.Machine

/-- The members of the group an object belongs to, of its instance; none where it belongs to none. -/
def groupMembers (k : Nat) : List Nat :=
  let base := k / 256 * 256
  let n := k % 256 - 1
  let arr (os : List Nat) : List Nat := if os.contains base then os.map (inst · n) else []
  let one (os : List Nat) : List Nat := if os.contains k then os else []
  arr [Obj.PulseMode, Obj.PulsePeriod, Obj.PulseWidth, Obj.PulseTurnDivider, Obj.PulseTurnOffset]
    ++ arr [Obj.ClkOutDivider, Obj.ClkOutPhaseOffset]
    ++ arr [Obj.EvinInputType, Obj.EvinTermination, Obj.EvinThreshold]
    ++ arr [Obj.LaneTxPre, Obj.LaneTxMain, Obj.LaneTxPost]
    ++ arr [Obj.PauseXonCells, Obj.PauseXoffCells]
    ++ arr [Obj.NqThinLow, Obj.NqWidenHigh]
    ++ one [Obj.RefSoftLimit, Obj.RefHardLimit]
    ++ one [Obj.HoldoverWindowStart, Obj.HoldoverWindowEnd]
    ++ one [Obj.DeepPartitionPacket, Obj.DeepPartitionReel, Obj.DeepPartitionDump, Obj.DeepPartitionScratch]

/-- The group an object belongs to is consistent. -/
def Dev.groupOk (d : Dev) (k : Nat) : Bool :=
  let base := k / 256 * 256
  let n := k % 256 - 1
  let at_ (o : Nat) : Int := d.rd (inst o n)
  if [Obj.PulseMode, Obj.PulsePeriod, Obj.PulseWidth, Obj.PulseTurnDivider, Obj.PulseTurnOffset].contains base then d.pulseMayEnable n
  else if [Obj.ClkOutDivider, Obj.ClkOutPhaseOffset].contains base then d.mayEnable ⟨.clkOut, n⟩
  else if [Obj.EvinInputType, Obj.EvinTermination, Obj.EvinThreshold].contains base then d.evinMayEnable n
  else if [Obj.LaneTxPre, Obj.LaneTxMain, Obj.LaneTxPost].contains base then
    decide (at_ Obj.LaneTxPre + at_ Obj.LaneTxMain + at_ Obj.LaneTxPost ≤ 63)
  else if [Obj.PauseXonCells, Obj.PauseXoffCells].contains base then decide (at_ Obj.PauseXonCells < at_ Obj.PauseXoffCells)
  else if [Obj.NqThinLow, Obj.NqWidenHigh].contains base then decide (at_ Obj.NqThinLow < at_ Obj.NqWidenHigh)
  else if [Obj.RefSoftLimit, Obj.RefHardLimit].contains k then decide (d.rd Obj.RefSoftLimit ≤ d.rd Obj.RefHardLimit)
  else if [Obj.HoldoverWindowStart, Obj.HoldoverWindowEnd].contains k then
    decide (d.rd Obj.HoldoverWindowEnd < d.rd Obj.HoldoverWindowStart)
  else if [Obj.DeepPartitionPacket, Obj.DeepPartitionReel, Obj.DeepPartitionDump, Obj.DeepPartitionScratch].contains k then
    d.deepMayEnable
  else true

/-- The device as its objects read: the values stored of inconsistent groups stand in for those in use. -/
def Dev.stored (d : Dev) : Dev := d.dict.mixed.foldl (fun (d : Dev) e => d.wrV e.1 e.2) d

/-- Some value of the group of an object is stored and not in use. -/
def Dev.groupMixed (d : Dev) (k : Nat) : Bool := d.dict.mixed.any fun e => (groupMembers k).contains e.1

/-- MIXED.ACTIVE says whether some group is inconsistent. -/
def Dev.mixedActive (d : Dev) : Dev :=
  let a := !d.dict.mixed.isEmpty
  (d.wrB Obj.MixedConfigActive a).wr Obj.MixedConfigLast (setBit (d.rdN Obj.MixedConfigLast) 31 a : Nat)

/-- The group takes what is stored of it, as one set. -/
def Dev.groupTakes (d : Dev) (k : Nat) (v : Val) : Dev :=
  let ms := groupMembers k
  let was := d.groupMixed k
  let mine := d.dict.mixed.filter fun e => ms.contains e.1
  let d := (mine.foldl (fun (d : Dev) e => d.wrV e.1 e.2) d).wrV k v
  let d : Dev := { d with dict := { d.dict with mixed := d.dict.mixed.filter fun e => !ms.contains e.1 } }
  d.when was fun d => d.mixedActive.raise 54

/-- A value is stored and not used. -/
def Dev.groupStores (d : Dev) (k : Nat) (v : Val) : Dev := { d with dict := { d.dict with mixed := Sparse.put d.dict.mixed k v } }

/-- A write to a member of a group that a window write left inconsistent, or that this one, through the window, may leave so. -/
def Dev.groupWrite (d : Dev) (window : Bool) (k : Nat) (v : Val) : Dev :=
  if (d.stored.wrV k v).groupOk k then d.groupTakes k v
  else
    let d := d.groupStores k v
    d.when window fun d =>
      ((((d.inc Obj.MixedConfigCount).wr Obj.MixedConfigLast (k / 256 + 65536 * (k % 256) : Nat)).mixedActive).raise 54)

end Sys2Proof.Machine
end

