-- ==== Sys2Proof/Machine/Maquette.lean ====
section
/-! DEFINITION. The Maquette and its swap (R373, R376, R383 to R387). -/

namespace Sys2Proof.Machine

/-- A swap is armed (R385). -/
def Dev.swapArmed (d : Dev) : Bool := d.turn.queue.any fun c => c.kind == .swap

/-- A Maquette command: done, or refused with 0x80. -/
def Dev.cmdDone (d : Dev) (o : Nat) (refused : Bool) : Dev := d.wr o (if refused then 0x80 else 0)

/-! ## Gate entries (R373, R384) -/

/-- Set an entry of a port's Armature or Maquette list; its reserved bytes are 0 (R373). -/
def Dev.setGate (d : Dev) (maq : Bool) (p i e : Nat) : Dev :=
  let put (l : List (Nat × Nat)) : List (Nat × Nat) := Sparse.set (fun _ => 0) l (64 * p + i) (e % 2 ^ 40)
  if maq then { d with buf := { d.buf with maqGates := put d.buf.maqGates } }
  else { d with buf := { d.buf with armGates := put d.buf.armGates } }

/-- GateOpCmd 1 and 2: entries 8g to 8g + 7 of the port into GateOpData. -/
def gateRead (maq : Bool) (d : Dev) : Dev :=
  let p := d.rdN Obj.GateOpPort
  let g := d.rdN Obj.GateOpGroup
  let bs := ((List.range 8).map fun j => leBytes 8 (d.gateEntry maq p (8 * g + j))).flatten
  (d.wrV Obj.GateOpData (.oct bs)).cmdDone Obj.GateOpCmd false

/-- GateOpCmd 3: GateOpData into the Maquette, refused while a swap is armed (R384). -/
def gateWrite (d : Dev) : Dev :=
  if d.swapArmed then d.cmdDone Obj.GateOpCmd true
  else
    let p := d.rdN Obj.GateOpPort
    let g := d.rdN Obj.GateOpGroup
    let bs := (d.rdV Obj.GateOpData).bytes
    let d := d.forEach (fun j d => d.setGate true p (8 * g + j) (leNat ((bs.drop (8 * j)).take 8))) (List.range 8)
    d.cmdDone Obj.GateOpCmd false

/-! ## The stream image (R383, R384) -/

/-- An entry of the image. -/
def Dev.imageAt (d : Dev) (i : Nat) : Nat := Sparse.get (fun _ => 0) d.buf.maqStream i

/-- Set an entry of the image. -/
def Dev.setImage (d : Dev) (i e : Nat) : Dev :=
  { d with buf := { d.buf with maqStream := Sparse.set (fun _ => 0) d.buf.maqStream i e } }

/-- MaquetteStreamCmd 1: an image entry into MaquetteStreamData. -/
def imageRead (d : Dev) : Dev :=
  let i := d.rdN Obj.MaquetteStreamIndex
  if 4096 ≤ i then (d.wr Obj.MaquetteStreamStatus 5).cmdDone Obj.MaquetteStreamCmd false
  else ((d.wrV Obj.MaquetteStreamData (.oct (leBytes 64 (d.imageAt i)))).wr Obj.MaquetteStreamStatus 0).cmdDone
    Obj.MaquetteStreamCmd false

/-- MaquetteStreamCmd 2: MaquetteStreamData into the image; refused while a swap is armed, and with status 6 for an entry
that R350 calls invalid. -/
def imageWrite (d : Dev) : Dev :=
  let i := d.rdN Obj.MaquetteStreamIndex
  let e := entryOf 3 (d.rdV Obj.MaquetteStreamData).bytes
  if d.swapArmed then d.cmdDone Obj.MaquetteStreamCmd true
  else if 4096 ≤ i then (d.wr Obj.MaquetteStreamStatus 5).cmdDone Obj.MaquetteStreamCmd false
  else if badStream e then (d.wr Obj.MaquetteStreamStatus 6).cmdDone Obj.MaquetteStreamCmd true
  else ((d.setImage i e).wr Obj.MaquetteStreamStatus 0).cmdDone Obj.MaquetteStreamCmd false

/-! ## Copy (R386) -/

/-- MaquetteCopyCmd 1: the Armature lists and every scheduled stream entry go to the Maquette, and the other image entries
are cleared. It is refused while a swap is armed or a copy runs. -/
def maquetteCopy (d : Dev) : Dev :=
  if d.swapArmed || d.buf.copying then d.wr Obj.MaquetteCopyCmd 0x80
  else
    let d := d.forEach (fun p d => d.wr (inst Obj.MaquetteListLength p) (d.rd (inst Obj.ArmatureListLength p))) (List.range 48)
    let image := d.fwd.stream.filter fun e => bit e.2 4
    { d.wr Obj.MaquetteCopyCmd 1 with buf := { d.buf with maqGates := d.buf.armGates, maqStream := image, copying := true } }

/-- MAQUETTE_COPY_COMPLETE (R386). -/
def maquetteCopyComplete (d : Dev) : Dev :=
  if d.buf.copying then { d.wr Obj.MaquetteCopyCmd 0 with buf := { d.buf with copying := false } } else d

/-! ## The swap (R385 to R387) -/

/-- An entry meets R373. -/
def gateOk (e : Nat) : Bool := let i := bits e 0 32; decide (8 ≤ i) && decide (i ≤ 10000000) && i % 2 == 0

/-- The checks of R385 against a period in cycles of 2 ns: 0, or the first failure in the table's order. -/
def Dev.swapChecks (d : Dev) (period : Nat) : Nat :=
  let turn := 2 * period
  let lists := (List.range 48).map fun p => d.gateList true p
  let entries (p : Nat) : List Nat := (List.range (d.rdN (inst Obj.MaquetteListLength p))).map (d.gateEntry true p)
  if lists.any fun l => decide (turn < (l.map (·.1)).sum) then 2
  else if (List.range 48).any fun p => (entries p).any fun e => !gateOk e then 3
  else if d.buf.maqStream.any fun e => bit e.2 4 && (decide (turn ≤ bits e.2 384 32) || decide (turn ≤ bits e.2 448 32)) then 4
  else 0

/-- MaquetteSwapCmd 1 (R385). -/
def swapArm (d : Dev) : Dev :=
  let n := d.rdN Obj.MaquetteSwapAt
  let change := d.turn.queue.any fun c => c.isParam && c.turn == n
  let bad := if change then 0 else d.swapChecks (d.rdN Obj.TurnPeriod)
  if d.swapArmed || !d.canArm n then d.wr Obj.MaquetteSwapCmd 0x80
  else if bad != 0 then (d.wr Obj.MaquetteSwapCmd 0x80).wr Obj.MaquetteSwapResult bad
  else (d.arm n .swap).wr Obj.MaquetteSwapCmd 1

/-- MaquetteSwapCmd 3: cancel the armed swap (R385). -/
def swapCancel (d : Dev) : Dev :=
  if d.swapArmed then ((d.disarm fun c => c.kind == .swap).wr Obj.MaquetteSwapCmd 0).wr Obj.MaquetteSwapResult 5
  else d.wr Obj.MaquetteSwapCmd 0

/-- Exchange one stream entry where either is scheduled (R386). -/
def swapStream (i : Nat) (d : Dev) : Dev :=
  let a := d.streamAt i
  let b := d.imageAt i
  if bit a 4 || bit b 4 then (d.setStream i b).setImage i a else d

/-- The swap at the boundary of Turn `n`, against the period now in force (R386, R387). -/
def applySwap (n : Nat) (d : Dev) : Dev :=
  let bad := d.swapChecks (d.rdN Obj.TurnPeriod)
  if bad != 0 then ((d.wr Obj.MaquetteSwapCmd 0x80).wr Obj.MaquetteSwapResult bad).raise 17
  else
    let keys := (d.fwd.stream.map (·.1) ++ d.buf.maqStream.map (·.1)).eraseDups
    let d := d.forEach swapStream keys
    let d := d.forEach (fun p d =>
      d.wrs [(inst Obj.ArmatureListLength p, d.rd (inst Obj.MaquetteListLength p)),
        (inst Obj.MaquetteListLength p, d.rd (inst Obj.ArmatureListLength p))]) (List.range 48)
    let d := { d with buf := { d.buf with armGates := d.buf.maqGates, maqGates := d.buf.armGates } }
    let d := d.wrs [(Obj.MaquetteSwapCmd, 2), (Obj.MaquetteSwapResult, 1), (Obj.MaquetteLastSwapTurn, n)]
    (d.inc Obj.MaquetteSwapCount).raise 17

/-- A Turn in which some list does not fit the period counts once (R376). -/
def countCut (d : Dev) : Dev :=
  let turn := 2 * d.rdN Obj.TurnPeriod
  d.when (d.on .armature 0 && (List.range 48).any fun p => decide (turn < ((d.gateList false p).map (·.1)).sum)) fun d =>
    d.inc Obj.ArmatureCutCount

/-! ## Meanings -/

/-- GATE_OP_READ_ARMATURE (R373). -/
def execGateOpReadArmature (s : State) : Host.Outcome State Fault Refusal := s.effect (gateRead false)

/-- GATE_OP_READ_MAQUETTE (R373). -/
def execGateOpReadMaquette (s : State) : Host.Outcome State Fault Refusal := s.effect (gateRead true)

/-- GATE_OP_WRITE_MAQUETTE (R384). -/
def execGateOpWriteMaquette (s : State) : Host.Outcome State Fault Refusal := s.effect gateWrite

/-- MAQUETTE_STREAM_READ (R384). -/
def execMaquetteStreamRead (s : State) : Host.Outcome State Fault Refusal := s.effect imageRead

/-- MAQUETTE_STREAM_WRITE (R384). -/
def execMaquetteStreamWrite (s : State) : Host.Outcome State Fault Refusal := s.effect imageWrite

/-- MAQUETTE_COPY (R386). -/
def execMaquetteCopy (s : State) : Host.Outcome State Fault Refusal := s.effect maquetteCopy

/-- MAQUETTE_COPY_COMPLETE (R386). -/
def execMaquetteCopyComplete (s : State) : Host.Outcome State Fault Refusal := s.effect maquetteCopyComplete

/-- MAQUETTE_SWAP_ARM (R385). -/
def execMaquetteSwapArm (s : State) : Host.Outcome State Fault Refusal := s.effect swapArm

/-- MAQUETTE_SWAP_CANCEL (R385). -/
def execMaquetteSwapCancel (s : State) : Host.Outcome State Fault Refusal := s.effect swapCancel

end Sys2Proof.Machine
end

