-- ==== Sys2Proof/Machine/Perf.lean ====
section
/-! DEFINITION. The performance counter banks, their captures and dumps, and sampling (R566 to R577). -/

namespace Sys2Proof.Machine

/-- Counter `k` of bank `b`: the key of its configuration and period objects, and of its count. -/
def perfKey (o b k : Nat) : Nat := inst o (8 * b + k)

/-- The cycle counter of a bank: CCLK, whose cycles of 1 ns UptimeNs counts (R91), TCLK, or the cores' 600 MHz (R566). -/
def Dev.perfCycles (d : Dev) (b : Nat) : Nat :=
  (match b with
    | 0 => d.time.uptime
    | 1 => d.perf.tclk
    | _ => d.time.uptime * 3 / 5) % 2 ^ 64

/-- FLAGS of a record of a bank: what held in the interval, and what holds now (R570). -/
def Dev.perfFlagsOf (d : Dev) (b : Nat) : Nat :=
  numAt d.perf.flags b ||| 8 * ofBool (!d.rdB (inst Obj.PerfBankRun b)) ||| 32 * ofBool (d.rd Obj.SteeredSynthState != 1)

/-- The counts of a bank. -/
def Dev.perfCounts (d : Dev) (b : Nat) : List Nat := (List.range 8).map fun k => numAt d.perf.counts (8 * b + k)

/-- A record of a bank with the FLAGS and counts given (R570). -/
def Dev.perfRecord (d : Dev) (b flags : Nat) (counts : List Nat) : List Byte :=
  leBytes 8 (d.rdN Obj.TurnNumber) ++ leBytes 8 d.time.uptime ++ leBytes 8 (d.perfCycles b) ++ leBytes 1 b ++ leBytes 1 flags ++
    leBytes 2 (numAt d.perf.records b) ++ leBytes 1 (numAt d.perf.wrap b) ++ leBytes 3 0 ++
    (counts.map (leBytes 8)).flatten ++ ((List.range 8).map fun k => leBytes 4 (numAt d.perf.cfg (8 * b + k))).flatten

/-- Another record of a bank is made. -/
def Dev.perfCounted (d : Dev) (b : Nat) : Dev :=
  { d with perf := { d.perf with records := setNum d.perf.records b ((numAt d.perf.records b + 1) % 2 ^ 16) } }

/-- The counters and WRAP of a bank are cleared, and a new interval begins with what holds now (R571). -/
def Dev.perfClear (d : Dev) (b : Nat) : Dev :=
  let now := 8 * ofBool (!d.rdB (inst Obj.PerfBankRun b)) + 32 * ofBool (d.rd Obj.SteeredSynthState != 1)
  { d with perf := { d.perf with counts := (List.range 8).foldl (fun l k => setNum l (8 * b + k) 0) d.perf.counts,
                                 wrap := setNum d.perf.wrap b 0, flags := setNum d.perf.flags b now } }

/-- A clearing capture: its record (R571). -/
def Dev.perfCapture (d : Dev) (b extra : Nat) : Dev × List Byte :=
  let d := d.perfCounted b
  let rec_ := d.perfRecord b (d.perfFlagsOf b ||| extra) (d.perfCounts b)
  (d.perfClear b, rec_)

/-- Counter configurations written come into force at the boundary: the counters are cleared and FLAGS [1] noted (R567). -/
def Dev.perfApply (d : Dev) : Dev :=
  let one (i : Nat) (d : Dev) : Dev :=
    { d with perf := { d.perf with cfg := setNum d.perf.cfg i (d.rdN (inst Obj.PerfCounterConfig i)),
                                   counts := setNum d.perf.counts i 0,
                                   since := setNum d.perf.since i 0, raised := setNum d.perf.raised i 0,
                                   flags := setNum d.perf.flags (i / 8) (numAt d.perf.flags (i / 8) ||| 2) } }
  let d := d.forEach one d.perf.staged
  { d with perf := { d.perf with staged := [] } }

/-- The banks due at the boundary of a Turn are captured (R572). -/
def Dev.perfBoundary (d : Dev) (turn : Nat) : Dev :=
  d.forEach (fun b d =>
    let k := max (d.rdN (inst Obj.PerfDumpPeriod b)) 1
    if d.on .perfDump b && !d.rdB (inst Obj.ModeF5CounterDump b) && turn % k == 0 then
      let counts := d.perfCounts b
      let r := d.perfCapture b 0
      { r.1 with perf := { r.1.perf with due := r.1.perf.due ++ [(b, r.2, counts)] } }
    else d) (List.range 3)

/-- Records the dump area holds (R359, R572). -/
def Dev.dumpSize (d : Dev) : Nat := d.rdN Obj.DeepPartitionDump * 2 ^ 20 / 128

/-- The host copy of a record goes into the next posted descriptor of the ring named (R574). -/
def Dev.perfHostCopy (d : Dev) (b : Nat) (bytes : List Byte) : Dev :=
  let ring := d.rdN (inst Obj.PerfDumpHostRing b)
  if 4 ≤ ring then d
  else
    let r := 4 + ring
    let g := d.ring r
    if !(g.enable && g.active) || g.halted || g.waiting == 0 then d.inc Obj.PerfDumpHostMissCount
    else
      let back : DescBack := { index := g.head, length := 128, flags := 6, port := 0xFF, frameLen := 128, data := bytes }
      d.setRing r fun g => { g with head := g.next g.head 1, written := [] }.back back false

/-- A record is written to the dump area (R572, R574). -/
def Dev.perfWrite (d : Dev) (b : Nat) (rec_ : List Byte) : Dev :=
  let at_ := d.rdN Obj.PerfDumpWriteIndex
  let d := { d with perf := { d.perf with dump := Sparse.set (fun _ => []) d.perf.dump at_ rec_ } }
  let d := (d.wr Obj.PerfDumpWriteIndex ((at_ + 1) % max d.dumpSize 1 : Nat)).wr Obj.PerfDumpLastTurn (d.rd Obj.TurnNumber)
  (d.wrV (inst Obj.PerfBankSnapshot b) (.oct rec_)).perfHostCopy b rec_

/-- COUNTER_DUMP: work item 6 writes the records due in bank order; EV57 when there were any (R572). -/
def counterDump (d : Dev) : Dev :=
  d.workItem 6 fun d =>
    let due := d.perf.due
    let d := due.foldl (fun d x => d.perfWrite x.1 x.2.1) { d with perf := { d.perf with due := [] } }
    d.when (!due.isEmpty) fun d => d.record 57

/-- Work item 6 is abandoned: no counter had been copied, so all keep their counts, and the records are written with zeros
and FLAGS [0] (R573). -/
def Dev.dumpAbandoned (d : Dev) : Dev :=
  let due := d.perf.due
  due.foldl (fun d (x : Nat × List Byte × List Nat) =>
    let b := x.1
    let counts := (List.range 8).foldl (fun l k => setNum l (8 * b + k) ((numAt l (8 * b + k) + x.2.2.getD k 0) % 2 ^ 48))
      d.perf.counts
    let d := { d with perf := { d.perf with counts := counts } }
    let flags := (x.2.1.getD 25 0).toNat ||| 1
    d.perfWrite b (x.2.1.take 25 ++ leBytes 1 flags ++ (x.2.1.drop 26).take 6 ++ List.replicate 64 0 ++ x.2.1.drop 96))
    { d with perf := { d.perf with due := [] } }

/-- The local address of a register of a bank (R568). -/
def bankReg (b off : Nat) : Nat := 0x3000 + 0x100 * b + off

/-- PERF_BANK_SNAP: a non-clearing capture into the SNAP registers (R568, R569). -/
def bankSnap (b : Nat) (d : Dev) : Dev :=
  let cyc := d.perfCycles b
  let d := { d with perf := { d.perf with snaps := setNum d.perf.snaps b (numAt d.perf.snaps b + 1) } }
  let d := (d.setReg (bankReg b 0x08) (bits cyc 0 32)).setReg (bankReg b 0x0C) (bits cyc 32 32)
  d.forEach (fun k d =>
    let v := numAt d.perf.counts (8 * b + k)
    (d.setReg (bankReg b (0x10 + 8 * k)) (bits v 0 32)).setReg (bankReg b (0x14 + 8 * k)) (bits v 32 16)) (List.range 8)

/-- BANK_STATUS of a bank: WRAP, SNAP_VALID and SNAP_SEQ (R568). -/
def Dev.bankStatus (d : Dev) (b : Nat) : Nat :=
  let n := numAt d.perf.snaps b
  numAt d.perf.wrap b % 256 + 256 * ofBool (n != 0) + 65536 * (n % 65536)

/-- PERF_COUNTER_CONFIG_WRITE: CNT_CFG is written and comes into force at the next boundary (R567). -/
def counterConfig (b k v : Nat) (d : Dev) : Dev :=
  let i := 8 * b + k
  let d := d.wr (inst Obj.PerfCounterConfig i) (v % 2 ^ 18 : Nat)
  { d with perf := { d.perf with staged := if d.perf.staged.contains i then d.perf.staged else d.perf.staged ++ [i] } }

/-- PERF_BANK_SNAPSHOT_READ: in host-assisted mode a clearing capture, which is the host's delivery; in hardware mode the
last dump record (R575). -/
def bankSnapshotRead (b : Nat) (d : Dev) : Dev :=
  if d.rdB (inst Obj.ModeF5CounterDump b) then
    let r := d.perfCapture b 16
    let d := r.1.wrV (inst Obj.PerfBankSnapshot b) (.oct r.2)
    { d with perf := { d.perf with read := if d.perf.read.contains b then d.perf.read else d.perf.read ++ [b] } }
  else d

/-- PERF_BANK_PEEK: a capture that clears nothing (R575). -/
def bankPeek (b : Nat) (d : Dev) : Dev :=
  let d := d.perfCounted b
  d.wrV (inst Obj.PerfBankPeek b) (.oct (d.perfRecord b (d.perfFlagsOf b ||| 16) (d.perfCounts b)))

/-- A sampling interrupt of a counter is taken: one that is raised, else the one that the event being counted raises, with which
the period is reloaded (R576). -/
def Dev.sampleTaken (d : Dev) (i : Nat) : Dev :=
  match numAt d.perf.raised i with
  | 0 => { d with perf := { d.perf with since := setNum d.perf.since i 0 } }
  | n + 1 => { d with perf := { d.perf with raised := setNum d.perf.raised i n } }

/-- SAMPLING_INTERRUPT: a sample of a counter in sampling is stored, or lost in a full buffer (R576). -/
def samplingInterrupt (b k pc : Nat) (user : Bool) (slot : Nat) (d : Dev) : Dev :=
  let c := numAt d.perf.cfg (8 * b + k)
  if !(bit c 16 && bit c 17) then d
  else if 4096 ≤ d.perf.samples.length then (d.sampleTaken (8 * b + k)).inc Obj.PerfSampleLossCount
  else
    let d := d.sampleTaken (8 * b + k)
    let x := leBytes 4 pc ++ leBytes 1 (ofBool user) ++ leBytes 1 slot ++ leBytes 1 b ++ leBytes 1 k ++
      leBytes 8 (d.rdN Obj.TurnNumber)
    let d := { d with perf := { d.perf with samples := d.perf.samples ++ [x] } }
    let d := d.wr Obj.PerfSampleFill d.perf.samples.length
    d.when (decide (d.rd Obj.PerfSampleWatermark ≤ d.perf.samples.length)) fun d => d.raise 58

/-- PERF_SAMPLE_READ: the oldest four samples are returned and removed; empty places read as zeros (R576). -/
def sampleRead (d : Dev) : Dev :=
  let out := (d.perf.samples.take 4).flatten
  let d := d.wrV Obj.PerfSampleRead (.oct (out ++ List.replicate (64 - out.length) 0))
  let d := { d with perf := { d.perf with samples := d.perf.samples.drop 4 } }
  d.wr Obj.PerfSampleFill d.perf.samples.length

/-- The record at PerfDumpReadIndex; a place never written holds zeros (R585). -/
def Dev.dumpAt (d : Dev) (i : Nat) : List Byte :=
  let r := Sparse.get (fun _ => []) d.perf.dump i
  r ++ List.replicate (128 - r.length) 0

/-! ## Meanings -/

/-- COUNTER_DUMP (R572). -/
def execCounterDump (s : State) : Host.Outcome State Fault Refusal := s.effect counterDump

/-- PERF_BANK_SNAP (R569). -/
def execPerfBankSnap (b : Fin 3) (s : State) : Host.Outcome State Fault Refusal := s.effect (bankSnap b)

/-- PERF_COUNTER_CONFIG_WRITE (R567). -/
def execPerfCounterConfigWrite (b : Fin 3) (k : Fin 8) (v : Nat) (s : State) : Host.Outcome State Fault Refusal :=
  s.effect (counterConfig b k v)

/-- PERF_BANK_SNAPSHOT_READ (R575). -/
def execPerfBankSnapshotRead (b : Fin 3) (s : State) : Host.Outcome State Fault Refusal := s.effect (bankSnapshotRead b)

/-- PERF_BANK_PEEK (R575). -/
def execPerfBankPeek (b : Fin 3) (s : State) : Host.Outcome State Fault Refusal := s.effect (bankPeek b)

/-- SAMPLING_INTERRUPT (R576). -/
def execSamplingInterrupt (b : Fin 3) (k : Fin 8) (pc : Nat) (user : Bool) (slot : Nat) (s : State) :
    Host.Outcome State Fault Refusal := s.effect (samplingInterrupt b k pc user slot)

/-- PERF_SAMPLE_READ (R576). -/
def execPerfSampleRead (s : State) : Host.Outcome State Fault Refusal := s.effect sampleRead

end Sys2Proof.Machine
end

