-- ==== Sys2Proof/Machine/Dictionary.lean ====
section
/-! DEFINITION. The object dictionary as a server of reads and writes: values on the wire, the checks of R502, captures, and
what a write does (chapter 15). -/

namespace Sys2Proof.Machine

/-! ## Statuses (R512) -/

/-- Statuses of R512. -/
abbrev stOk : Nat := 0
abbrev stNoObject : Nat := 1
abbrev stNoSubindex : Nat := 2
abbrev stReadOnly : Nat := 3
abbrev stLevel : Nat := 4
abbrev stLength : Nat := 5
abbrev stValue : Nat := 6
abbrev stBlockEnabled : Nat := 7
abbrev stRefused : Nat := 8
abbrev stSequence : Nat := 9
abbrev stAuth : Nat := 10
abbrev stNoSession : Nat := 11
abbrev stSessionsFull : Nat := 12
abbrev stSegment : Nat := 13
abbrev stSkipped : Nat := 15
abbrev stRecovered : Nat := 16
abbrev stTooLarge : Nat := 17
abbrev stUnsupported : Nat := 18
abbrev stLockedOut : Nat := 19

/-! ## Values on the wire (R500) -/

/-- Type code and length of a type; for a VSTRING its largest length (R500, R510). -/
def ObjTy.code : ObjTy → Nat × Nat
  | .bool => (1, 1)
  | .u8 => (2, 1)
  | .u16 => (3, 2)
  | .u32 => (4, 4)
  | .u64 => (5, 8)
  | .i16 => (6, 2)
  | .i32 => (7, 4)
  | .i64 => (8, 8)
  | .time96 => (9, 12)
  | .dur64 => (10, 8)
  | .dfreq => (11, 8)
  | .octets n => (12, n)
  | .vstring n => (13, n)

/-- A value as its bytes, least significant first (R500). -/
def ObjTy.encode (ty : ObjTy) (v : Val) : List Byte :=
  match ty with
  | .time96 => timeBytes v.toInt
  | .octets n => v.bytes.take n ++ List.replicate (n - v.bytes.length) 0
  | .vstring _ => v.bytes
  | _ => leBytes ty.code.2 (toField (8 * ty.code.2) v.toInt)

/-- Bytes that continue a character of UTF-8. -/
def utf8Tail (b : Byte) : Bool := b.toNat / 64 == 2

/-- UTF-8 text (R10): no overlong form, no surrogate, nothing above U+10FFFF. -/
def utf8Ok : Nat → List Byte → Bool
  | 0, bs => bs.isEmpty
  | _, [] => true
  | fuel + 1, b :: rest =>
    let n := b.toNat
    if n < 0x80 then utf8Ok fuel rest
    else
      let (len, low) := if n / 32 == 6 then (1, 0x80) else if n / 16 == 14 then (2, 0x800) else if n / 8 == 30 then (3, 0x10000)
        else (0, 0)
      let tail := rest.take len
      let v := tail.foldl (fun v b => v * 64 + b.toNat % 64) (n % 2 ^ (6 - len))
      len != 0 && tail.length == len && tail.all utf8Tail && decide (low ≤ v) && decide (v ≤ 0x10FFFF)
        && !(decide (0xD800 ≤ v) && decide (v ≤ 0xDFFF)) && utf8Ok fuel (rest.drop len)

/-- The value that bytes spell in a type, or the status of the check they fail (R10, R62, R63, R500). -/
def ObjTy.decode (ty : ObjTy) (bs : List Byte) : Except Nat Val :=
  match ty with
  | .vstring n => if n < bs.length then .error stLength else if utf8Ok bs.length bs then .ok (.oct bs) else .error stValue
  | _ =>
    if bs.length != ty.code.2 then .error stLength
    else match ty with
      | .bool => if leNat bs ≤ 1 then .ok (.num (leNat bs)) else .error stValue
      | .i16 => .ok (.num (ofField 16 (leNat bs)))
      | .i32 => .ok (.num (ofField 32 (leNat bs)))
      | .i64 | .dfreq => .ok (.num (ofField 64 (leNat bs)))
      | .dur64 => if leNat bs == 2 ^ 63 then .error stValue else .ok (.num (ofField 64 (leNat bs)))
      | .time96 => match timeOfBytes bs with
        | some t => .ok (.num t)
        | none => .error stValue
      | .octets _ => .ok (.oct bs)
      | _ => .ok (.num (leNat bs))

/-- A range of an object table (R502). -/
def Rng.holds (r : Rng) (v : Int) : Bool :=
  match r with
  | .any => true
  | .between lo hi => decide (lo ≤ v) && decide (v ≤ hi)
  | .oneOf l => l.contains v
  | .zeroOr lo hi => v == 0 || (decide (lo ≤ v) && decide (v ≤ hi))
  | .orElse lo hi x => v == x || (decide (lo ≤ v) && decide (v ≤ hi))

/-- A value lies in the range its row gives. -/
def Rng.holdsVal (r : Rng) (v : Val) : Bool :=
  match v with
  | .num n => r.holds n
  | .oct _ => true

/-! ## Objects (R498, R499) -/

/-- The row of an object; subindex 0 of an array reads its highest subindex. Check 1 of R502. -/
def objInfo (k : Nat) : Except Nat ObjRow :=
  let idx := k / 256
  match objRow k with
  | some r => .ok r
  | none =>
    if (objPage (idx / 256)).any (fun r => decide (r.idxLo ≤ idx) && decide (idx ≤ r.idxHi)) then
      if k % 256 == 0 && highestSub idx != 0 then .ok ⟨idx, idx, 0, 0, .u8, .ro, 0, .const (highestSub idx), .any⟩
      else .error stNoSubindex
    else .error stNoObject

/-- The key an index and a subindex spell. -/
def objKey (index sub : Nat) : Nat := index % 65536 * 256 + sub % 256

/-- Objects whose value the device forms as it is read. -/
def Dev.live (d : Dev) (k : Nat) : Option Val :=
  let base := k / 256 * 256
  let n := k % 256 - 1
  let arr := decide (1 ≤ k % 256)
  let num (v : Int) : Option Val := some (.num v)
  let table (id : Nat) : Option Val := some (.oct (((List.range 128).map fun c => leBytes 2 (d.calCentre id c)).flatten))
  if base == Obj.TimeNow then num d.now
  else if base == Obj.UptimeNs then num (d.time.uptime % 2 ^ 64 : Nat)
  else if base == Obj.TurnQueueDepth then num d.turn.queue.length
  else if base == Obj.FastSharedFree then num (max 0 d.fastSharedFree)
  else if base == Obj.DeepSharedFree then num (max 0 d.deepSharedFree)
  else if base == Obj.ClockIdentity then some (.oct (beBytes 8 d.clockIdentity))
  else if base == Obj.DictionarySheetDigest then some (.oct (sha256 (d.rdV Obj.DictionarySheet).bytes))
  else if base == Obj.PerfDumpRead then some (.oct (d.dumpAt (d.rdN Obj.PerfDumpReadIndex)))
  else if base == Obj.SpoolAppliedBudget then num d.spoolBudget
  else if base == Obj.SpoolImage then some (.oct (readBytes d.spool.image 0 262144))
  else if !arr then none
  else if base == Obj.SpindleTime then num (d.spindleTime n)
  else if base == Obj.MacPortAddress then some (.oct (d.portMac n))
  else if base == Obj.PtpEffectiveSyncTurns then
    num (d.effectiveSyncTurns n)
  else if base == Obj.TimingLane then num (d.timingLane n)
  else if base == Obj.RefCandidateKind then num (d.candKind n)
  else if base == Obj.RefWtrRemaining then num (d.waitLeft n)
  else if base == Obj.CalEvinTableRise then table n
  else if base == Obj.CalEvinTableFall then table (16 + n)
  else if base == Obj.CalWhorlTable then table (32 + n)
  else if base == Obj.LaneRxCoeffs then some (.oct (d.coeffs n))
  else if base == Obj.RedHealthRecord then some (.oct (d.healthRecord n))
  else if base == Obj.RedRevertRemaining then num (d.revertLeft n)
  else none

/-- The value a read returns: a stored value of an inconsistent group, a value formed at the read, or the object; a WO object
reads zeros (R11, R502, R546). -/
def Dev.readVal (d : Dev) (k : Nat) (r : ObjRow) : Val :=
  if r.acc == .wo then (match r.ty with | .octets n => .oct (List.replicate n 0) | _ => .num 0)
  else match d.dict.mixed.find? (fun e => e.1 == k) with
    | some e => e.2
    | none => (d.live k).getD (d.rdV k)

/-- A capture: what the read of an object does before its value is taken (R398, R424, R520, R575, R576, R586). -/
def captureRead (k : Nat) (d : Dev) : Dev :=
  let base := k / 256 * 256
  let n := k % 256 - 1
  if base == Obj.LearnQueueRead then learnQueueRead d
  else if base == Obj.ReelReadData then reelRead d
  else if base == Obj.PerfSampleRead then sampleRead d
  else if base == Obj.SpoolLogRead then spoolLogRead d
  else if k % 256 == 0 then d
  else if base == Obj.StatSnapshot then statSnapshot n d
  else if base == Obj.StatPeek then statPeek n d
  else if base == Obj.EvinStampRead then stampRead n d
  else if base == Obj.EvinResultHeader then resultRead n d
  else if base == Obj.PerfBankSnapshot then bankSnapshotRead n d
  else if base == Obj.PerfBankPeek then bankPeek n d
  else d

/-- A read clears or removes (descriptor flag [1], R510, R520). -/
def readClears (k : Nat) : Bool :=
  [Obj.LearnQueueRead, Obj.PerfSampleRead, Obj.SpoolLogRead, Obj.StatSnapshot, Obj.EvinStampRead, Obj.EvinResultHeader,
   Obj.PerfBankSnapshot].contains (k / 256 * 256) && (objRow k).isSome

/-- The identity of the device and its firmware is constant while the firmware runs (descriptor flag [2], R510, R520). -/
def readConstant (k : Nat) : Bool :=
  let i := k / 256
  (decide (0x1000 ≤ i) && decide (i ≤ 0x1009)) || i == 0x100C

/-- The descriptor of an object (R510). -/
def descriptor (k : Nat) (r : ObjRow) : List Byte :=
  let acc := match r.acc with | .ro => 0 | .rw => 1 | .rwd => 2 | .wo => 3 | .cmd => 4
  let flags := ofBool (k % 256 == 0 && highestSub (k / 256) != 0) + 2 * ofBool (readClears k) + 4 * ofBool (readConstant k)
  leBytes 1 r.ty.code.1 ++ leBytes 1 acc ++ leBytes 1 r.level ++ leBytes 1 flags ++ leBytes 4 r.ty.code.2

/-- A read at a level: checks 1 and 3, the size against the room there is, then the capture (R502, R520). -/
def Dev.readObj (d : Dev) (level room k : Nat) : Dev × Except Nat (List Byte) :=
  match objInfo k with
  | .error e => (d, .error e)
  | .ok r =>
    if level < r.level then (d, .error stLevel)
    else
      let size := match r.ty with
        | .vstring _ => (d.readVal k r).bytes.length
        | _ => r.ty.code.2
      if room < size then (d, .error stTooLarge)
      else
        let d := captureRead k d
        (d, .ok (r.ty.encode (d.readVal k r)))

/-! ## Owners of RWD objects (R24) -/

/-- The blocks that own an RWD object: all of them must be DISABLED for a write. -/
def ownersOf (k : Nat) : List BlockId :=
  let i := k / 256
  let n := k % 256 - 1
  let within (lo hi : Nat) : Bool := decide (lo ≤ i) && decide (i ≤ hi)
  let each (b : BlockKind) : List BlockId := (List.range b.count).map fun m => ⟨b, m⟩
  if within 0x2112 0x2113 || within 0x2253 0x2266 || i == 0x1201 then [⟨.servo, 0⟩]
  else if within 0x2307 0x2310 || i == 0x2340 || within 0x2420 0x2424 || within 0x2710 0x2714 || i == 0x1200 then
    [⟨.ptpEngine, n⟩]
  else if within 0x2320 0x2326 then each .ptpEngine
  else if within 0x2332 0x2334 then [⟨.tcDomain, n⟩]
  else if within 0x2403 0x2413 then [⟨.ply, n⟩]
  else if within 0x2232 0x2233 then [⟨.refIn, n⟩]
  else if within 0x2522 0x2524 then [⟨.clkOut, n⟩]
  else if within 0x2532 0x253F then [⟨.pulse, n⟩]
  else if within 0x2602 0x2632 then [⟨.evin, n⟩]
  else if within 0x2652 0x2655 then [⟨.mref, 0⟩]
  else if within 0x3410 0x3411 then each .queueSet
  else if within 0x3602 0x3605 then [⟨.deepStore, 0⟩]
  else if within 0x3702 0x3703 then [⟨.mirror, 0⟩]
  else if within 0x3712 0x3714 then [⟨.reel, 0⟩]
  else if within 0x3100 0x3103 then [⟨.port, n⟩]
  else if within 0x4002 0x4008 then [⟨.quad, n⟩]
  else if within 0x4102 0x4109 then [⟨.lane, n⟩]
  else if within 0x4202 0x4205 then [⟨.patternTest, n⟩]
  else if within 0x5212 0x5213 || i == 0x1205 then [⟨.perfDump, n⟩]
  else if within 0x5232 0x5235 then [⟨.spool, 0⟩]
  else if i == 0x1202 then [⟨.refSelector, 0⟩]
  else if i == 0x1203 then [⟨.learning, 0⟩]
  else if i == 0x1204 then [⟨.calSequencer, 0⟩]
  else if i == 0x1206 then [⟨.laneAdapt, n⟩]
  else if i == 0x1207 then [⟨.reelTrigger, 0⟩]
  else []

/-- Check 6 of R502: the owning block is DISABLED. -/
def Dev.ownersIdle (d : Dev) (k : Nat) : Bool := (ownersOf k).all fun b => d.blk b.kind b.n == 0

/-! ## Ranges that depend on other objects (R502, check 5) -/

/-- The guarantees of both stores stay within their limits (R368). -/
def Dev.minCellsOk (d : Dev) : Bool :=
  decide (d.guarantees true ≤ 45056) && decide (2 * d.guarantees false ≤ d.packetCells)

/-- The part of a range that depends on other objects. -/
def Dev.rangeOk (d : Dev) (k : Nat) (v : Int) : Bool :=
  let base := k / 256 * 256
  let n := k % 256 - 1
  let at_ (o : Nat) : Int := d.rd (inst o n)
  if base == Obj.RefSoftLimit then decide (v ≤ d.rd Obj.RefHardLimit)
  else if base == Obj.RefHardLimit then decide (d.rd Obj.RefSoftLimit ≤ v)
  else if base == Obj.PauseXonCells then decide (v < at_ Obj.PauseXoffCells)
  else if base == Obj.PauseXoffCells then decide (at_ Obj.PauseXonCells < v)
  else if base == Obj.NqThinLow then decide (v < at_ Obj.NqWidenHigh)
  else if base == Obj.NqWidenHigh then decide (at_ Obj.NqThinLow < v)
  else if base == Obj.HoldoverWindowEnd then decide (v < d.rd Obj.HoldoverWindowStart)
  else if base == Obj.ClkOutPhaseOffset then decide (v * 10 < at_ Obj.ClkOutDivider * 2 * nsT)
  else if base == Obj.ClassMinCells then (d.wr k v).minCellsOk
  else if [Obj.DeepPartitionPacket, Obj.DeepPartitionReel, Obj.DeepPartitionDump, Obj.DeepPartitionScratch,
      Obj.ReelReadOffset, Obj.FwStageOffset].contains base then v % 64 == 0
  else if base == Obj.RefInMode then v != 2 || n % 2 == 0
  else if base == Obj.PortSTagTpid then v != 0x8100
  else if base == Obj.MaquetteListLength then !d.swapArmed
  else if base == Obj.MacMaxFrameSize then n != 48 || v == at_ Obj.MacMaxFrameSize
  else true

/-- Checks 1 to 5 of R502 on a write. `local_` says that it comes through the local register interface (R613). A range that depends on other objects is
judged by their stored values (R546). -/
def Dev.checkValue (d : Dev) (level : Nat) (local_ : Bool) (k : Nat) (bs : List Byte) : Except Nat Val :=
  match objInfo k with
  | .error e => .error e
  | .ok r =>
    if r.acc == .ro then .error stReadOnly
    else if level < r.level || (k == Obj.DeviceResetCmd && !local_) then .error stLevel
    else match r.ty.decode bs with
      | .error e => .error e
      | .ok v =>
        if r.rng.holdsVal v && (match v with | .num x => d.stored.rangeOk k x | .oct _ => true) then .ok v else .error stValue

/-- The object is of access RWD. -/
def isRwd (k : Nat) : Bool :=
  match objRow k with
  | some r => r.acc == .rwd
  | none => false

/-- The object is of access CMD. -/
def isCmd (k : Nat) : Bool :=
  match objRow k with
  | some r => r.acc == .cmd
  | none => false

/-- Checks 1 to 6 of R502 on a write. -/
def Dev.checkWrite (d : Dev) (level : Nat) (local_ : Bool) (k : Nat) (bs : List Byte) : Except Nat Val :=
  match d.checkValue level local_ k bs with
  | .error e => .error e
  | .ok v => if isRwd k && !d.ownersIdle k then .error stBlockEnabled else .ok v

/-! ## Keys (R517, R518) -/

/-- MDP_KEY_WRITE: the key of a level is set; with MdpKeyRevoke its open sessions close. -/
def keyWrite (level : Nat) (key : List Byte) (d : Dev) : Dev :=
  let i := level - 1
  let d := { d with dict := { d.dict with keys := Sparse.set (fun _ => []) d.dict.keys i key } }
  let d := (d.wr (inst Obj.MdpKeySet i) 1).sessionEvent 7
  d.when (d.rdB Obj.MdpKeyRevoke) fun d => d.forEach (fun n d =>
    d.when (d.slotState n == 2 && d.rdN (inst Obj.MdpSessionLevel n) == level) fun d => d.closeSession 2 n) (List.range 16)

/-! ## Event acknowledgement (R557) -/

/-- EV_ACK_WRITE: PENDING and COUNT clear when the value equals SEQ. -/
def eventAck (n v : Nat) (d : Dev) : Dev :=
  let st := d.rdN (inst Obj.EventStatus n)
  d.when (decide (n < 64) && st % 4096 == v % 4096) fun d => d.wr (inst Obj.EventStatus n) (st % 4096 : Nat)

/-! ## What a write does -/

/-- A command of the Turn, time and reference planes (R54 to R56, R61, R78, R93, R120, R168, R180, R182, R206, R243). -/
def timingCmd (base n v : Nat) (d : Dev) : Option Dev :=
  if base == Obj.TurnChangeCmd then
    some (if v == 1 then armPeriod d else if v == 2 then armReanchor d else cancelParam d)
  else if base == Obj.OverrunClear then some (overrunClear n d)
  else if base == Obj.TimeStepCmd then some (if v == 1 then armStepRel d else if v == 2 then armStepAbs d else cancelStep d)
  else if base == Obj.TimeSnapshotCmd then some (snapshotCmd d)
  else if base == Obj.HostLinkRecordCmd then some (hostLinkRecordCmd n d)
  else if base == Obj.PathStepDecisionCmd then some (pathDecision v n d)
  else if base == Obj.HostRefSelectCmd then some (hostRefSelect d)
  else if base == Obj.RefInLabelCmd then some (if v == 1 then labelApply n d else labelClear n d)
  else if base == Obj.HostRefCmd then some (hostRefCmd d)
  else if base == Obj.OutputRealignCmd then some (if v == 1 then realignArm d else realignCancel d)
  else if base == Obj.EvinFreqCmd then some (if v == 3 then gateStop n d else gateRequest n v d)
  else none

/-- A command of the calibration sequencer (R293, R300, R307, R309). -/
def calCmd (base v : Nat) (d : Dev) : Option Dev :=
  if base == Obj.CalRunCmd then some (if v == 1 then binRunCmd d else if v == 2 then portRunCmd d else runAbort d)
  else if base == Obj.CalPortNextCmd then some (portNext d)
  else if base == Obj.CalStepCmd then
    some (match v with
      | 1 => hostCollect false d
      | 2 => hostCollect true d
      | 3 => hostEvaluate d
      | 4 => hostCommit d
      | 5 => hostDiscard d
      | 6 => hostTrim d
      | 7 => hostPortLoop d
      | 8 => hostPortMeasure d
      | _ => hostCommitPort d)
  else none

/-- A command of the switching plane (R348, R374, R384 to R387, R396, R397). -/
def switchingCmd (base v : Nat) (d : Dev) : Option Dev :=
  if base == Obj.TableOpCmd then
    some (match v with
      | 1 => tableOpStart 1 d
      | 2 => tableOpStart 2 d
      | 3 => tableOpStart 3 d
      | 4 => tableOpStart 4 d
      | 5 => tableOpStart 5 d
      | _ => tableOpStart 6 d)
  else if base == Obj.GateOpCmd then
    some (if v == 1 then gateRead false d else if v == 2 then gateRead true d else gateWrite d)
  else if base == Obj.MaquetteStreamCmd then some (if v == 1 then imageRead d else imageWrite d)
  else if base == Obj.MaquetteCopyCmd then some (maquetteCopy d)
  else if base == Obj.MaquetteSwapCmd then some (if v == 1 then swapArm d else swapCancel d)
  else if base == Obj.ReelCmd then some (reelCommand v d)
  else if base == Obj.ReelTriggerCmd then some (reelTrigger d)
  else none

/-- A command of the line and management planes (R439, R445, R457, R484, R488, R490 to R493, R557, R587, R601, R603). -/
def otherCmd (base n v : Nat) (d : Dev) : Option Dev :=
  if base == Obj.LaneTxSleepCmd then some (if v == 1 then laneTxSleep n d else laneTxWake n d)
  else if base == Obj.LaneRxSleepCmd then some (if v == 1 then laneRxSleep n d else laneRxWake n d)
  else if base == Obj.LaneHostCoeffCmd then some (hostCoeffs n d)
  else if base == Obj.PtClearCmd then some (ptClear n d)
  else if base == Obj.PtInjectCmd then some (ptInject n d)
  else if base == Obj.RedReturnCmd then some (redReturn n d)
  else if base == Obj.RedSwitchCmd then some (redSwitch n d)
  else if base == Obj.FwUpdateCmd then
    some (if v == 1 then fwVerify d else if v == 2 then fwArm d else if v == 3 then fwCancel d else fwWriteFlash d)
  else if base == Obj.EventAck then some (eventAck n v (d.wr (inst Obj.EventAck n) v))
  else if base == Obj.ConfigLostAck then some (configLostAck d)
  else if base == Obj.DeviceResetCmd then some (deviceReset 3 d)
  else if base == Obj.DeviceRestartCmd then some (deviceRestartCmd d)
  else none

/-- A committed write whose command was refused: the object reads 0x80 (R502, check 7). -/
def Dev.cmdRefused (d : Dev) (k : Nat) : Bool := isCmd k && d.rd k == 0x80 && k / 256 * 256 != Obj.EventAck

/-- A write to a CMD object triggers its action (R11). What the object reads of an earlier refusal does not outlive it. -/
def runCmd (k : Nat) (v : Val) (d : Dev) : Dev :=
  let d := d.when (d.cmdRefused k) fun d => d.wr k 0
  match blockOfCtrl k with
  | some b => blockCmd b v.toInt.toNat d
  | none =>
    let base := k / 256 * 256
    let n := k % 256 - 1
    let x := v.toInt.toNat
    ((((timingCmd base n x d).or (calCmd base x d)).or (switchingCmd base x d)).or (otherCmd base n x d)).getD d

/-- A write to a RW or RWD object whose value the device acts on as it is written. -/
def noticeWrite (k : Nat) (old new : Int) (d : Dev) : Dev :=
  let base := k / 256 * 256
  let n := k % 256 - 1
  if base == Obj.ClkOutDelayComp then outDelayComp n old new d
  else if base == Obj.PulseDelayComp then outDelayComp (8 + n) old new d
  else if base == Obj.CalPortTxDelay || base == Obj.CalPortRxDelay then d.wr (inst Obj.CalPortSource n) 3
  else if base == Obj.CalUseFactory then d.when (new != old) (·.trim)
  else if base == Obj.OutputAlignTolerance then d.forEach refreshPending (List.range 24)
  else if base == Obj.EvinFifoWatermark then refreshFifo n d
  else if base == Obj.EsmcAssumedQl then refreshCand (52 + n) (refreshCand (4 + n) d)
  else if base == Obj.RefInQl then refreshCand n d
  else if base == Obj.HostRefQl then refreshCand 100 d
  else if base == Obj.FixedAsymmetry || base == Obj.WavelengthCoeff then d.updateA n
  else if base == Obj.SlaveOnly then d.updateClass.bmca
  else if base == Obj.FastStoreThreshold || base == Obj.DeepStoreThreshold then d.checkStores
  else if base == Obj.PerfBankRun && new == 0 then
    { d with perf := { d.perf with flags := setNum d.perf.flags n (numAt d.perf.flags n ||| 8) } }
  else d

/-- A write that has passed its checks is committed. Writes without effect: PortCutThrough of HP (R344), and the operands of a
table operation while one runs (R348). -/
def commitWrite (k : Nat) (v : Val) (d : Dev) : Dev :=
  let base := k / 256 * 256
  let n := k % 256 - 1
  let x := v.toInt
  if isCmd k then runCmd k v d
  else if base == Obj.MdpKey then keyWrite (n + 1) v.bytes d
  else if k == Obj.FwStageData then stageData v.bytes d
  else if base == Obj.HostNcoPhase then hostNcoPhaseWrite x d
  else if base == Obj.HostServoState then hostServoStateWrite x.toNat d
  else if base == Obj.SpoolSlotEnable then spoolSlotEnable n (x != 0) d
  else if base == Obj.PerfCounterConfig then counterConfig (n / 8) (n % 8) x.toNat d
  else if base == Obj.PortCutThrough && n == 48 then d
  else if [Obj.TableOpTable, Obj.TableOpIndex, Obj.TableOpData].contains base && d.rd Obj.TableOpCmd == 1 then d
  else if base == Obj.SpoolImage then
    { d with spool := { d.spool with image := writeBytes [] 0 v.bytes } }
  else if d.groupMixed k then d.groupWrite false k v
  else
    let old := d.rd k
    noticeWrite k old x (d.wrV k v)

/-- A write refused because its block is not DISABLED is logged, with its source, and EV53 is raised (R24, R502, R535). -/
def Dev.logIgnored (d : Dev) (index sub source : Nat) : Dev :=
  ((d.inc Obj.IgnoredWriteCount).wr Obj.IgnoredWriteLast (index + 65536 * sub + 2 ^ 24 * source : Nat)).raise 53

/-- One write by one requester: checked, and committed when it passes; the status it takes (R502, R503). Sources are those of
IGN_WRITE. -/
def Dev.writeObj (d : Dev) (level : Nat) (local_ : Bool) (source k : Nat) (bs : List Byte) : Dev × Nat :=
  match d.checkWrite level local_ k bs with
  | .error e => (d.when (e == stBlockEnabled) fun d => d.logIgnored (k / 256) (k % 256) source, e)
  | .ok v =>
    let d := commitWrite k v d
    (d, if d.cmdRefused k then stRefused else stOk)

/-- The dictionary server runs: not before SERVER_READY, nor while a device-level fault holds it; a halted device serves its
dictionary (R522, R535, R603). -/
def Dev.serverUp (d : Dev) : Bool := d.dict.ready && (!d.stopped || d.rd Obj.DeviceFaultPhase == 3)

/-- The server executes queued requests: not in the handover Turn of an update, which holds them (R491). -/
def Dev.serving (d : Dev) : Bool := d.serverUp && d.fw.handedAt != some d.turn.started

/-! ## Segmented transfers (R520, R521) -/

/-- SEG_READ_INIT: the value is captured, or read in place when it is longer than the buffer; its length. -/
def Dev.segReadInit (d : Dev) (level k : Nat) : Dev × Except Nat (Transfer × Nat) :=
  match objInfo k with
  | .ok r =>
    let n := (d.readVal k r).bytes.length
    if decide (r.level ≤ level) && readConstant k && decide (262144 < n) then (d, .ok (.inPlace k, n))
    else match d.readObj level 262144 k with
      | (d, .ok bs) => (d, .ok (.read bs, bs.length))
      | (d, .error e) => (d, .error e)
  | .error e => (d, .error e)

/-- The bytes of a transfer that reads. -/
def Dev.transferBytes (d : Dev) (t : Option Transfer) : Option (List Byte) :=
  match t with
  | some (.read bs) => some bs
  | some (.inPlace k) => some (d.rdV k).bytes
  | _ => none

/-- SEG_READ: bytes of the captured value, at most `most`. -/
def Dev.segRead (d : Dev) (t : Option Transfer) (offset len most : Nat) : Except Nat (List Byte) :=
  match d.transferBytes t with
  | some bs => if most < len || bs.length < offset + len then .error stSegment else .ok ((bs.drop offset).take len)
  | none => .error stSegment

/-- SEG_WRITE_INIT: the object must be writable and long enough. -/
def segWriteInit (level : Nat) (local_ : Bool) (k total : Nat) : Except Nat Transfer :=
  match objInfo k with
  | .error e => .error e
  | .ok r =>
    let fits := match r.ty with
      | .vstring n => decide (total ≤ n)
      | _ => total == r.ty.code.2
    if r.acc == .ro then .error stReadOnly
    else if level < r.level || (k == Obj.DeviceResetCmd && !local_) then .error stLevel
    else if 262144 < total || !fits then .error stLength
    else .ok (.write k total [])

/-- SEG_WRITE: bytes at an offset; the one that supplies the last missing byte commits the whole value as one write. -/
def Dev.segWrite (d : Dev) (level : Nat) (local_ : Bool) (source : Nat) (t : Option Transfer) (offset most : Nat)
    (bs : List Byte) : Dev × Option Transfer × Nat :=
  match t with
  | some (.write k total cells) =>
    if most < bs.length || total < offset + bs.length then (d, t, stSegment)
    else
      let cells := ((bs.zipIdx offset).map fun e => (e.2, e.1)).foldl (fun l e => Sparse.put l e.1 e.2) cells
      if cells.length < total then (d, some (.write k total cells), stOk)
      else
        let r := d.writeObj level local_ source k (cells.map (·.2))
        (r.1, none, r.2)
  | _ => (d, t, stSegment)

/-! ## Meanings -/

/-- MDP_KEY_WRITE (R517). -/
def execMdpKeyWrite (level : Fin 3) (key : List Byte) (s : State) : Host.Outcome State Fault Refusal :=
  s.effect fun d => d.when (key.length == 32) (keyWrite (level + 1) key)

/-- EV_ACK_WRITE (R557). -/
def execEvAckWrite (n : Fin 64) (v : Nat) (s : State) : Host.Outcome State Fault Refusal := s.effect (eventAck n v)

end Sys2Proof.Machine
end

