-- ==== Sys2Proof/Machine/Mailbox.lean ====
section
/-! DEFINITION. The mailboxes (R540 to R543). -/

namespace Sys2Proof.Machine

/-- A mailbox. -/
def Dev.box (d : Dev) (n : Nat) : MailboxSt := Sparse.get (fun _ => {}) d.dict.boxes n

/-- Change a mailbox. -/
def Dev.setBox (d : Dev) (n : Nat) (f : MailboxSt → MailboxSt) : Dev :=
  { d with dict := { d.dict with boxes := Sparse.set (fun _ => {}) d.dict.boxes n (f (d.box n)) } }

/-- The object MB_ADDR names. -/
def MailboxSt.key (b : MailboxSt) : Nat := objKey b.index b.subindex

/-- The data area with bytes written from its start. -/
def MailboxSt.filled (b : MailboxSt) (bs : List Byte) : List Byte := bs ++ b.data.drop bs.length

/-- A write to MB_CMD clears VALID, sets BUSY and queues the operation (R503, R542). -/
def mailboxStart (n v : Nat) (d : Dev) : Dev :=
  let d := d.setBox n fun b => { b with op := v % 16, notify := bit v 8, valid := false, busy := true, done := none }
  { d with dict := { d.dict with queue := d.dict.queue ++ [.mailbox n] } }

/-- What an operation leaves: its code and, where it is OK, the data area, MB_LENGTH and MB_TOTAL. -/
def Dev.boxDone (d : Dev) (n code : Nat) (data : List Byte) (len total : Nat) : Dev :=
  d.setBox n fun b => { b with done := some (code, data, len, total) }

/-- An operation ends with a code and changes nothing else the host reads. -/
def Dev.boxStatus (d : Dev) (n code : Nat) : Dev :=
  let b := d.box n
  d.boxDone n code b.data b.length b.total

/-- The operation at the head of the queue executes when it is this mailbox's and of this kind (R503). -/
def Dev.boxHead (d : Dev) (n op : Nat) (f : MailboxSt → Dev → Dev) : Dev :=
  match d.dict.queue with
  | .mailbox m :: rest =>
    let b := d.box n
    d.when (m == n && b.op == op && b.done.isNone && d.serving) fun d =>
      f b ({ d with dict := { d.dict with queue := rest } }.counted 2 0x08 0 1)
  | _ => d

/-- OP 1. -/
def mailboxRead (n : Nat) (d : Dev) : Dev :=
  d.boxHead n 1 fun b d =>
    match d.readObj 3 64 b.key with
    | (d, .ok bs) => d.boxDone n stOk (b.filled bs) bs.length b.total
    | (d, .error e) => d.boxStatus n e

/-- OP 2. -/
def mailboxWrite (n : Nat) (d : Dev) : Dev :=
  d.boxHead n 2 fun b d =>
    if 64 < b.length then d.boxStatus n stLength
    else
      let (d, status) := d.writeObj 3 true (1 + n) b.key (b.data.take b.length)
      d.boxStatus n status

/-- OP 3. -/
def mailboxDescribe (n : Nat) (d : Dev) : Dev :=
  d.boxHead n 3 fun b d =>
    match objInfo b.key with
    | .ok r => d.boxDone n stOk (b.filled (descriptor b.key r)) b.length b.total
    | .error e => d.boxStatus n e

/-- The transfer of a mailbox. -/
def Dev.boxTransfer (d : Dev) (n : Nat) (t : Option Transfer) : Dev := d.setBox n fun b => { b with transfer := t }

/-- OP 4. -/
def mailboxSegReadInit (n : Nat) (d : Dev) : Dev :=
  d.boxHead n 4 fun b d =>
    let d := d.boxTransfer n none
    match d.segReadInit 3 b.key with
    | (d, .ok (t, total)) => (d.boxTransfer n (some t)).boxDone n stOk b.data b.length total
    | (d, .error e) => d.boxStatus n e

/-- OP 5. -/
def mailboxSegRead (n : Nat) (d : Dev) : Dev :=
  d.boxHead n 5 fun b d =>
    match d.segRead b.transfer b.offset b.length 64 with
    | .ok bs => d.boxDone n stOk (b.filled bs) b.length b.total
    | .error e => d.boxStatus n e

/-- OP 6. -/
def mailboxSegWriteInit (n : Nat) (d : Dev) : Dev :=
  d.boxHead n 6 fun b d =>
    let d := d.boxTransfer n none
    match segWriteInit 3 true b.key b.total with
    | .ok t => (d.boxTransfer n (some t)).boxStatus n stOk
    | .error e => d.boxStatus n e

/-- OP 7. -/
def mailboxSegWrite (n : Nat) (d : Dev) : Dev :=
  d.boxHead n 7 fun b d =>
    if 64 < b.length then d.boxStatus n stSegment
    else
      let (d, t, status) := d.segWrite 3 true (1 + n) b.transfer b.offset 64 (b.data.take b.length)
      (d.boxTransfer n t).boxStatus n status

/-- OP 8. -/
def mailboxSegAbort (n : Nat) (d : Dev) : Dev :=
  d.boxHead n 8 fun b d => (d.boxTransfer n none).boxStatus n (if b.transfer.isSome then stOk else stSegment)

/-- An OP value that R541 does not name completes with UNSUPPORTED. -/
def mailboxUnsupported (n : Nat) (d : Dev) : Dev :=
  let op := (d.box n).op
  if op == 0 || 9 ≤ op then d.boxHead n op fun _ d => d.boxStatus n stUnsupported else d

/-- Completion: the result is written, BUSY clears, VALID is set, SEQ counts, and with NOTIFY EV52 is raised (R542). -/
def mailboxComplete (n : Nat) (d : Dev) : Dev :=
  let d := mailboxUnsupported n d
  let b := d.box n
  match b.done with
  | none => d
  | some (code, data, len, total) =>
    let d := d.setBox n fun b => { b with code := code, data := data, length := len, total := total, done := none,
                                          busy := false, valid := true, seq := (b.seq + 1) % 4096 }
    d.when b.notify (·.raise 52)

/-! ## Meanings -/

/-- MB_READ (R541). -/
def execMbRead (n : Fin 4) (s : State) : Host.Outcome State Fault Refusal := s.effect (mailboxRead n)

/-- MB_WRITE (R541). -/
def execMbWrite (n : Fin 4) (s : State) : Host.Outcome State Fault Refusal := s.effect (mailboxWrite n)

/-- MB_DESCRIBE (R541). -/
def execMbDescribe (n : Fin 4) (s : State) : Host.Outcome State Fault Refusal := s.effect (mailboxDescribe n)

/-- MB_SEG_READ_INIT (R541). -/
def execMbSegReadInit (n : Fin 4) (s : State) : Host.Outcome State Fault Refusal := s.effect (mailboxSegReadInit n)

/-- MB_SEG_READ (R541). -/
def execMbSegRead (n : Fin 4) (s : State) : Host.Outcome State Fault Refusal := s.effect (mailboxSegRead n)

/-- MB_SEG_WRITE_INIT (R541). -/
def execMbSegWriteInit (n : Fin 4) (s : State) : Host.Outcome State Fault Refusal := s.effect (mailboxSegWriteInit n)

/-- MB_SEG_WRITE (R541). -/
def execMbSegWrite (n : Fin 4) (s : State) : Host.Outcome State Fault Refusal := s.effect (mailboxSegWrite n)

/-- MB_SEG_ABORT (R541). -/
def execMbSegAbort (n : Fin 4) (s : State) : Host.Outcome State Fault Refusal := s.effect (mailboxSegAbort n)

/-- MB_OPERATION_COMPLETE (R542). -/
def execMbOperationComplete (n : Fin 4) (s : State) : Host.Outcome State Fault Refusal := s.effect (mailboxComplete n)

end Sys2Proof.Machine
end

