-- ==== Sys2Proof/Machine/Mdp.lean ====
section
/-! DEFINITION. MDP over UDP: datagrams of both generations, sessions and their authentication, sequence numbers, the
operations, and the address replies (R503, R506 to R524). -/

namespace Sys2Proof.Machine

/-! ## Datagrams (R509, R511, R513) -/

/-- A request as its datagram spells it. -/
structure MdpReq where
  v2 : Bool
  opcode : Nat
  slot : Nat
  flags : Nat
  count : Nat
  seq : Nat
  index : Nat
  sub : Nat
  payload : List Byte
  tag : Option (List Byte)
  /-- Header and payload, which the tag covers (R515). -/
  signed : List Byte
deriving DecidableEq, Repr

/-- An operation record of a request (R510). -/
structure MdpOp where
  key : Nat
  index : Nat
  sub : Nat
  value : List Byte
deriving DecidableEq, Repr

/-- The number of bytes that pad `n` to a multiple of 4. -/
def pad4 (n : Nat) : Nat := (4 - n % 4) % 4

/-- The operation records of a payload, with their values in a WRITE; none where the layout does not fit (R510). -/
def mdpOps (write : Bool) : Nat → List Byte → Option (List MdpOp)
  | 0, bs => if bs.isEmpty then some [] else none
  | n + 1, bs =>
    match slice bs 0 8 with
    | none => none
    | some h =>
      let len := leNat ((h.drop 4).take 2)
      let size := if write then len + pad4 len else 0
      if leNat (h.drop 6) != 0 || (!write && len != 0) then none
      else match slice bs 8 size with
        | none => none
        | some v =>
          let i := leNat (h.take 2)
          let s := leNat ((h.drop 2).take 1)
          (mdpOps write n (bs.drop (8 + size))).map
            fun rest => { key := objKey i s, index := i, sub := s, value := v.take len } :: rest

/-- An MDP 2 request; none where magic, version, lengths or reserved bits are wrong (R509). -/
def parseMdp2 (bs : List Byte) : Option MdpReq :=
  let len := leNat ((bs.drop 12).take 2)
  let flags := leNat ((bs.drop 5).take 1)
  let tagged := bit flags 1
  let op := leNat ((bs.drop 3).take 1)
  let count := leNat ((bs.drop 6).take 2)
  let payload := (bs.drop 16).take len
  let whole := bs.length == 16 + len + (if tagged then 16 else 0) && decide (len ≤ 1280)
  let fields := bs.take 3 == [0x4D, 0x44, 2] && !bit flags 0 && flags / 8 == 0 && decide (count ≤ 16)
    && (bs.drop 14).take 2 == [0, 0]
  let records := if op == 0x10 || op == 0x11 || op == 0x12 then (mdpOps (op == 0x11) count payload).isSome else true
  if whole && fields && records then
    some { v2 := true, opcode := op, slot := leNat ((bs.drop 4).take 1), flags := flags, count := count,
           seq := leNat ((bs.drop 8).take 4), index := 0, sub := 0, payload := payload,
           tag := if tagged then some (bs.drop (16 + len)) else none, signed := bs.take (16 + len) }
  else none

/-- An MDP 1 request; a tag shows in the length. A WRITE of more than 240 bytes is a request, to be refused (R513). -/
def parseMdp1 (bs : List Byte) : Option MdpReq :=
  let len := leNat ((bs.drop 10).take 2)
  let op := leNat ((bs.drop 2).take 1)
  let session := leNat ((bs.drop 3).take 1)
  let whole := decide (12 ≤ bs.length) && (bs.length == 12 + len || bs.length == 28 + len)
    && (decide (len ≤ 240) || op == 0x11)
  if whole && bs.take 2 == [0x4D, 1] && session / 16 == 0 then
    some { v2 := false, opcode := op, slot := session, flags := 0, count := 1, seq := leNat ((bs.drop 4).take 2),
           index := leNat ((bs.drop 6).take 2), sub := leNat ((bs.drop 8).take 1), payload := (bs.drop 12).take len,
           tag := if bs.length == 28 + len then some (bs.drop (12 + len)) else none, signed := bs.take (12 + len) }
  else none

/-- A request of either generation. -/
def parseMdp (bs : List Byte) : Option MdpReq := if bs.take 2 == [0x4D, 1] then parseMdp1 bs else parseMdp2 bs

/-- The opcodes each generation carries in requests (R511). -/
def MdpReq.carried (q : MdpReq) : Bool :=
  (if q.v2 then [0x01, 0x03, 0x04, 0x05, 0x06, 0x10, 0x11, 0x12, 0x20, 0x21, 0x22, 0x23, 0x24]
   else [0x01, 0x03, 0x04, 0x05, 0x10, 0x11, 0x20, 0x21, 0x24]).contains q.opcode

/-- The bytes of a response, with its tag where a session key is given (R509, R513, R515). -/
def MdpReq.response (q : MdpReq) (ks : Option (List Byte)) (op slot status seq : Nat) (payload : List Byte) : List Byte :=
  let head := if q.v2 then
      [0x4D, 0x44, 2] ++ leBytes 1 op ++ leBytes 1 slot ++ leBytes 1 (1 + 2 * ofBool ks.isSome) ++ leBytes 2 q.count
        ++ leBytes 4 seq ++ leBytes 2 payload.length ++ leBytes 1 status ++ [0]
    else
      [0x4D, 1] ++ leBytes 1 op ++ leBytes 1 (slot % 16 + 128) ++ leBytes 2 seq ++ leBytes 2 q.index ++ leBytes 1 q.sub
        ++ leBytes 1 status ++ leBytes 2 payload.length
  match ks with
  | some k => head ++ payload ++ (hmac k (head ++ payload)).take 16
  | none => head ++ payload

/-- The tag a reply on a port carries: that of a frame without one, with classification VID MdpVlan (R339, R508). -/
def Dev.replyTag (d : Dev) (p : Nat) : List Byte :=
  let vid := d.rdN Obj.MdpVlan
  if bit (d.vlanAt vid) (49 + p) then []
  else
    let tpid := if d.rd (inst Obj.PortTagMode p) == 0 then 0x8100 else d.rdN (inst Obj.PortSTagTpid p)
    beBytes 2 tpid ++ beBytes 2 (d.rdN (inst Obj.PortDefaultPcp p) * 8192 + vid)

/-- A response leaves by the port its request came by, to where it came from (R508). -/
def Dev.mdpSend (d : Dev) (g : Datagram) (bs : List Byte) : Dev :=
  let v6 := g.local_.length == 16
  let ip := (g.peer.take 16).drop (if v6 then 0 else 12)
  d.sendEngine g.port (.reply (g.mac ++ d.portMac g.port ++ d.replyTag g.port
    ++ udpFrame v6 g.local_ ip 31744 (beNat (g.peer.drop 16)) 64 bs))

/-- Answer a request outside any session key. -/
def Dev.mdpAnswer (d : Dev) (g : Datagram) (q : MdpReq) (status seq : Nat) : Dev :=
  d.mdpSend g (q.response none q.opcode q.slot status seq [])

/-! ## Sessions (R513 to R519, R522) -/

/-- The session a request names: open, ENABLED, and held by this peer in this generation (R512). -/
def Dev.mdpHolds (d : Dev) (g : Datagram) (q : MdpReq) (state : Int) : Bool :=
  decide (q.slot < 16) && d.on .mdpSession q.slot && d.slotState q.slot == state
    && (d.rdV (inst Obj.MdpSessionPeer q.slot)).bytes == g.peer
    && d.rd (inst Obj.MdpSessionVersion q.slot) == (if q.v2 then 2 else 1)

/-- The key that signs a session's datagrams; none where they carry no tag (R513 to R515). -/
def SessionSt.key (x : SessionSt) : Option (List Byte) := if x.secure then some x.ks else none

/-- A tag is right: present exactly in a session that carries tags, and computed with its key (R515). -/
def SessionSt.tagOk (x : SessionSt) (q : MdpReq) : Bool :=
  match x.key, q.tag with
  | some k, some t => t == (hmac k q.signed).take 16
  | none, none => true
  | _, _ => false

/-- LAST of a session (R519). -/
def Dev.lastSeq (d : Dev) (n : Nat) : Nat := d.rdN (inst Obj.MdpSessionLastSeq n)

/-- The sequence number after one, 0 skipped (R519). -/
def MdpReq.next (q : MdpReq) (last : Nat) : Nat :=
  let n := (last + 1) % (if q.v2 then 2 ^ 32 else 2 ^ 16)
  if n = 0 then 1 else n

/-- A datagram is discarded and counted (R503, R509). -/
def Dev.mdpDiscard (d : Dev) : Dev := d.inc Obj.MdpDatagramDiscardCount

/-- The slot a request names is not ENABLED: its datagrams are discarded (R15). -/
def Dev.slotOff (d : Dev) (q : MdpReq) : Bool := decide (q.slot < 16) && !d.on .mdpSession q.slot

/-- A request of an open session: discarded, NO_SESSION, or AUTH without a tag, or what `f` does with it (R512, R515). -/
def Dev.mdpInSession (d : Dev) (g : Datagram) (q : MdpReq) (f : SessionSt → Dev → Dev) : Dev :=
  if d.slotOff q then d.mdpDiscard
  else if !d.mdpHolds g q 2 then d.mdpAnswer g q stNoSession q.seq
  else
    let x := d.session q.slot
    if x.tagOk q then f x d else d.mdpAnswer g q stAuth q.seq

/-- A sequenced request: executed once, its response stored; resent from the store; or SEQUENCE (R519). -/
def Dev.mdpSequenced (d : Dev) (g : Datagram) (q : MdpReq) (f : Nat → SessionSt → Dev → Dev × Nat × List Byte) : Dev :=
  d.mdpInSession g q fun x d =>
    let n := q.slot
    let last := d.lastSeq n
    if q.seq == q.next last then
      let (d, status, payload) := f (d.rdN (inst Obj.MdpSessionLevel n)) x (d.counted 2 0x08 0 1)
      let bs := q.response x.key q.opcode n status q.seq payload
      let d := d.when (d.slotState n == 2) fun d =>
        (d.wr (inst Obj.MdpSessionLastSeq n) q.seq).setSession n fun y =>
          { y with stored := ((q.seq, bs) :: y.stored).take 16 }
      d.mdpSend g bs
    else match x.stored.find? (fun e => e.1 == q.seq) with
      | some (_, bs) => d.mdpSend g bs
      | none => d.mdpSend g (q.response x.key q.opcode n stSequence last [])

/-- The head of the queue executes when it is a datagram of an opcode and the server serves (R503). -/
def Dev.mdpHead (d : Dev) (op : Nat) (f : Datagram → MdpReq → Dev → Dev) : Dev :=
  match d.dict.queue with
  | .datagram g :: rest =>
    match parseMdp g.bytes with
    | some q => d.when (d.serving && q.opcode == op) fun d => f g q { d with dict := { d.dict with queue := rest } }
    | none => d
  | _ => d

/-! ## Reception (R503, R506, R511, R522) -/

/-- The source of a datagram as MdpSessionPeer codes it: IPv6 address, IPv4 mapped, then UDP port (R528). -/
def peerOf (i : IpInfo) (port : List Byte) : List Byte :=
  (if i.v6 then i.sa else List.replicate 10 0 ++ [0xFF, 0xFF] ++ i.sa) ++ port

/-- The UDP payload of a frame, by the length its UDP header gives. -/
def udpPayload (bs : List Byte) (i : IpInfo) : Option (List Byte) :=
  let len := be bs (i.l4 + 4) 2
  if len < 8 then none else slice bs (i.l4 + 8) (len - 8)

/-- The datagrams that wait in the server's queue (R503). -/
def Dev.datagramsWaiting (d : Dev) : Nat :=
  (d.dict.queue.filter fun w => match w with | .datagram _ => true | .mailbox _ => false).length

/-- A well-formed datagram: discarded where its slot is not ENABLED, RECOVERED to the first of a session after a restart, UNSUPPORTED, or a place in the queue. -/
def Dev.mdpAccept (d : Dev) (g : Datagram) (q : MdpReq) : Dev :=
  let x := d.session q.slot
  let known := d.mdpHolds g q 2 && x.tagOk q
  if q.opcode != 1 && d.slotOff q then d.mdpDiscard
  else if known && x.recover then
    let d := ((d.setSession q.slot fun y => { y with recover := false }).inc Obj.MdpRecoveredCount).sessionEvent 6
    d.mdpSend g (q.response x.key q.opcode q.slot stRecovered (d.lastSeq q.slot) [])
  else if !q.carried then
    d.mdpSend g (q.response (if known then x.key else none) q.opcode q.slot stUnsupported q.seq [])
  else if 64 ≤ d.datagramsWaiting then d.mdpDiscard
  else { d with dict := { d.dict with queue := d.dict.queue ++ [.datagram g] } }

/-- A datagram addressed to the device reaches the server; before SERVER_READY, and while the device is stopped, nothing takes
it. -/
def mdpReceive (p : Nat) (bs : List Byte) (d : Dev) : Dev :=
  let x := d.parse p bs
  match x.ip with
  | none => d
  | some i =>
    if !(d.serverUp && d.mdpTaken p (d.classVid p x).1 x == some true) then d
    else
      let d := d.counted 2 0x09 0 1
      match udpPayload bs i, i.ports with
      | some pay, some (sp, _) =>
        match parseMdp pay with
        | some q => d.mdpAccept { port := p, mac := x.sa, peer := peerOf i sp, local_ := i.da, bytes := pay } q
        | none => d.mdpDiscard
      | _, _ => d.mdpDiscard

/-! ## Opening (R514 to R516) -/

/-- The lowest usable free slot (R514). -/
def Dev.freeSlotOf (d : Dev) : Option Nat :=
  (List.range 16).find? fun n => d.on .mdpSession n && d.slotState n == 0

/-- A session is open: EV56 with cause 1, LAST 0 (R514, R515, R518). -/
def Dev.slotOpens (d : Dev) (n : Nat) : Dev :=
  (d.wrs [(inst Obj.MdpSessionState n, 2), (inst Obj.MdpSessionLastSeq n, 0),
    (inst Obj.MdpSessionOpenedTurn n, d.rd Obj.TurnNumber)]).sessionEvent 1

/-- A slot is taken by a peer at a level. -/
def Dev.slotTaken (d : Dev) (g : Datagram) (v2 : Bool) (n level : Nat) (x : SessionSt) : Dev :=
  ((d.wrs [(inst Obj.MdpSessionState n, 1), (inst Obj.MdpSessionLevel n, level),
    (inst Obj.MdpSessionVersion n, if v2 then 2 else 1)]).wrV (inst Obj.MdpSessionPeer n) (.oct g.peer)).setSession n fun _ => x

/-- OPEN: refused, open at once at level 0, or answered with a challenge. -/
def mdpOpen (g : Datagram) (q : MdpReq) (d : Dev) : Dev :=
  let d := d.counted 2 0x08 0 1
  let want := leNat (q.payload.take 1)
  let level := if want == 0 && !d.rdB Obj.MdpL0Open then 1 else want
  if d.dict.lockouts.contains (g.peer.take 16) then d.mdpAnswer g q stLockedOut 0
  else if q.payload.length != 17 then d.mdpAnswer g q stLength 0
  else if 3 < level then d.mdpAnswer g q stValue 0
  else if level != 0 && !d.rdB (inst Obj.MdpKeySet (level - 1)) then d.mdpAnswer g q stAuth 0
  else match d.freeSlotOf with
    | none => d.mdpAnswer g q stSessionsFull 0
    | some n =>
      if level == 0 then
        ((d.slotTaken g q.v2 n 0 { port := g.port }).slotOpens n).mdpSend g (q.response none 0x01 n stOk 0 [])
      else
        let nd := leBytes 16 (toField 128 d.free)
        (d.drawn.slotTaken g q.v2 n level { port := g.port, secure := true, nc := q.payload.drop 1, nd := nd }).mdpSend g
          (q.response none 0x02 n stOk 0 nd)

/-- The key of a level (R515). -/
def Dev.levelKey (d : Dev) (level : Nat) : List Byte := Sparse.get (fun _ => []) d.dict.keys (level - 1)

/-- A proof of R515 over slot, level and both nonces; `who` is the code of the letter that ends its label. -/
def proofOf (key : List Byte) (who : Byte) (slot level : Nat) (x : SessionSt) : List Byte :=
  hmac key ([0x4D, 0x44, 0x50, 0x2D, who] ++ leBytes 1 slot ++ leBytes 1 level ++ x.nc ++ x.nd)

/-- A failed PROVE frees its slot and counts against its source address; the third within 60 s locks it out (R516). -/
def Dev.proofFailed (d : Dev) (n : Nat) (addr : List Byte) : Dev :=
  let d := (d.freeSlot n).sessionEvent 4
  let d := d.inc Obj.MdpAuthFailCount
  let now := d.time.uptime
  let recent : List Failure := d.dict.failures.filter (fun f => decide (now ≤ f.time + 60000000000)) ++ [{ time := now, address := addr }]
  if 3 ≤ (recent.filter fun f => f.address == addr).length then
    let d : Dev := { d with dict := { d.dict with
      failures := recent.filter (fun f => f.address != addr), lockouts := d.dict.lockouts.filter (· != addr) ++ [addr] } }
    d.sessionEvent 5
  else { d with dict := { d.dict with failures := recent } }

/-- PROVE: a good proof opens the session and is answered with the device's. -/
def mdpProve (g : Datagram) (q : MdpReq) (d : Dev) : Dev :=
  let d := d.counted 2 0x08 0 1
  if d.slotOff q then d.mdpDiscard
  else if !d.mdpHolds g q 1 then d.mdpAnswer g q stNoSession q.seq
  else
    let n := q.slot
    let x := d.session n
    let level := d.rdN (inst Obj.MdpSessionLevel n)
    let key := d.levelKey level
    if q.payload == proofOf key 0x50 n level x then
      let d := (d.setSession n fun y => { y with ks := hmac key ([0x4D, 0x44, 0x50, 0x2D, 0x53] ++ x.nc ++ x.nd) }).slotOpens n
      d.mdpSend g (q.response none q.opcode n stOk q.seq (proofOf key 0x44 n level x))
    else (d.proofFailed n (g.peer.take 16)).mdpAnswer g q stAuth q.seq

/-! ## Requests without a sequence number (R511, R518) -/

/-- KEEPALIVE: a valid datagram, which resets the timer. -/
def mdpKeepalive (g : Datagram) (q : MdpReq) (d : Dev) : Dev :=
  d.mdpInSession g q fun x d => (d.counted 2 0x08 0 1).mdpSend g (q.response x.key q.opcode q.slot stOk q.seq [])

/-- STATUS: the last applied sequence number. -/
def mdpStatus (g : Datagram) (q : MdpReq) (d : Dev) : Dev :=
  d.mdpInSession g q fun x d =>
    (d.counted 2 0x08 0 1).mdpSend g (q.response x.key q.opcode q.slot stOk (d.lastSeq q.slot) [])

/-! ## Operations (R502, R503, R510, R520, R521) -/

/-- The record of a response: its operation's status and value. -/
def opRecord (o : MdpOp) (status : Nat) (value : List Byte) : List Byte :=
  leBytes 2 o.index ++ leBytes 1 o.sub ++ leBytes 1 status ++ leBytes 2 value.length ++ [0, 0] ++ value
    ++ List.replicate (pad4 value.length) 0

/-- READ, record after record; `room` is what the payload has left for the records still to answer. -/
def readOps (level : Nat) (stop : Bool) : List MdpOp → Nat → Bool → Dev → Dev × List Byte
  | [], _, _, d => (d, [])
  | o :: rest, room, failed, d =>
    let (d, status, value) := if failed && stop then (d, stSkipped, [])
      else match d.readObj level (room - 8 * (rest.length + 1)) o.key with
        | (d, .ok bs) => (d, stOk, bs)
        | (d, .error e) => (d, e, [])
    let r := opRecord o status value
    let (d, more) := readOps level stop rest (room - r.length) (failed || status != stOk) d
    (d, r ++ more)

/-- Every write of a request is checked first, on the state before any of them (R503). -/
def checkOps (level : Nat) (stop : Bool) (d : Dev) : List MdpOp → Bool → List (MdpOp × Except Nat Val)
  | [], _ => []
  | o :: rest, failed =>
    let r := if failed && stop then Except.error stSkipped else d.checkWrite level false o.key o.value
    let bad := match r with | .ok _ => false | .error _ => true
    (o, r) :: checkOps level stop d rest (failed || bad)

/-- The writes that passed are committed together; a command that is refused fails its operation (R502, R503). -/
def commitOps (stop : Bool) : List (MdpOp × Except Nat Val) → Bool → Dev → Dev × List Byte
  | [], _, d => (d, [])
  | (o, r) :: rest, failed, d =>
    let (d, status) := match r with
      | .error e => (d.when (e == stBlockEnabled) fun d => d.logIgnored o.index o.sub 5, e)
      | .ok v =>
        if failed && stop then (d, stSkipped)
        else
          let d := commitWrite o.key v d
          (d, if d.cmdRefused o.key then stRefused else stOk)
    let (d, more) := commitOps stop rest (failed || status != stOk) d
    (d, opRecord o status [] ++ more)

/-- DESCRIBE, record after record. -/
def describeOps (stop : Bool) : List MdpOp → Bool → List Byte
  | [], _ => []
  | o :: rest, failed =>
    let (status, value) := if failed && stop then (stSkipped, [])
      else match objInfo o.key with
        | .ok r => (stOk, descriptor o.key r)
        | .error e => (e, [])
    opRecord o status value ++ describeOps stop rest (failed || status != stOk)

/-- The operation records of a request. -/
def MdpReq.ops (q : MdpReq) : List MdpOp := (mdpOps (q.opcode == 0x11) q.count q.payload).getD []

/-- The object an MDP 1 header names. -/
def MdpReq.key (q : MdpReq) : Nat := objKey q.index q.sub

/-- READ. -/
def mdpRead (g : Datagram) (q : MdpReq) (d : Dev) : Dev :=
  d.mdpSequenced g q fun level _ d =>
    if q.v2 then
      let (d, bs) := readOps level (bit q.flags 2) q.ops 1280 false d
      (d, stOk, bs)
    else match d.readObj level 240 q.key with
      | (d, .ok bs) => (d, stOk, bs)
      | (d, .error e) => (d, e, [])

/-- WRITE. -/
def mdpWrite (g : Datagram) (q : MdpReq) (d : Dev) : Dev :=
  d.mdpSequenced g q fun level _ d =>
    if q.v2 then
      let stop := bit q.flags 2
      let (d, bs) := commitOps stop (checkOps level stop d q.ops false) false d
      (d, stOk, bs)
    else if 240 < q.payload.length then (d, stTooLarge, [])
    else
      let (d, status) := d.writeObj level false 5 q.key q.payload
      (d, status, [])

/-- DESCRIBE. -/
def mdpDescribe (g : Datagram) (q : MdpReq) (d : Dev) : Dev :=
  d.mdpSequenced g q fun _ _ d => (d, stOk, describeOps (bit q.flags 2) q.ops false)

/-- The transfer of a session. -/
def Dev.setTransfer (d : Dev) (n : Nat) (t : Option Transfer) : Dev := d.setSession n fun y => { y with transfer := t }

/-- The object a segmented INIT names: the record of MDP 2, the header of MDP 1. -/
def MdpReq.segKey (q : MdpReq) : Nat :=
  if q.v2 then objKey (leNat (q.payload.take 2)) (leNat ((q.payload.drop 2).take 1)) else q.key

/-- SEG_READ_INIT. -/
def mdpSegReadInit (g : Datagram) (q : MdpReq) (d : Dev) : Dev :=
  d.mdpSequenced g q fun level _ d =>
    let d := d.setTransfer q.slot none
    if q.v2 && q.payload.length != 8 then (d, stLength, [])
    else match d.segReadInit level q.segKey with
      | (d, .ok (t, n)) => (d.setTransfer q.slot (some t), stOk, leBytes 4 n)
      | (d, .error e) => (d, e, [])

/-- SEG_READ. -/
def mdpSegRead (g : Datagram) (q : MdpReq) (d : Dev) : Dev :=
  d.mdpSequenced g q fun _ x d =>
    if q.payload.length != 8 then (d, stLength, [])
    else match d.segRead x.transfer (leNat (q.payload.take 4)) (leNat ((q.payload.drop 4).take 2))
        (if q.v2 then 1024 else 240) with
      | .ok bs => (d, stOk, bs)
      | .error e => (d, e, [])

/-- SEG_WRITE_INIT. -/
def mdpSegWriteInit (g : Datagram) (q : MdpReq) (d : Dev) : Dev :=
  d.mdpSequenced g q fun level _ d =>
    let d := d.setTransfer q.slot none
    if q.payload.length != 12 then (d, stLength, [])
    else match Machine.segWriteInit level false q.segKey (leNat (q.payload.drop 8)) with
      | .ok t => (d.setTransfer q.slot (some t), stOk, leBytes 4 (leNat (q.payload.drop 8)))
      | .error e => (d, e, [])

/-- SEG_WRITE. -/
def mdpSegWrite (g : Datagram) (q : MdpReq) (d : Dev) : Dev :=
  d.mdpSequenced g q fun level x d =>
    if q.payload.length < 4 then (d, stLength, [])
    else
      let (d, t, status) := d.segWrite level false 5 x.transfer (leNat (q.payload.take 4)) 1280 (q.payload.drop 4)
      (d.when (d.slotState q.slot == 2) fun d => d.setTransfer q.slot t, status, [])

/-- SEG_ABORT. -/
def mdpSegAbort (g : Datagram) (q : MdpReq) (d : Dev) : Dev :=
  d.mdpSequenced g q fun _ x d =>
    if x.transfer.isSome then (d.setTransfer q.slot none, stOk, []) else (d, stSegment, [])

/-- CLOSE: the session closes when it executes, and its slot is free at once (R518). -/
def mdpClose (g : Datagram) (q : MdpReq) (d : Dev) : Dev :=
  d.mdpSequenced g q fun _ _ d => (d.closeSession 2 q.slot, stOk, [])

/-! ## Address replies (R507) -/

/-- MDP is served on a port and a VLAN (R506, R507). -/
def Dev.mdpPortOk (d : Dev) (p vid : Nat) : Bool :=
  d.rdB Obj.MdpEnable && bit (d.rdN Obj.MdpPortMask) p && d.rdN Obj.MdpVlan == vid

/-- An ARP request for MdpIpv4Address is answered on its port, with that port's address (R507; log entry 31). -/
def arpRequest (p : Nat) (bs : List Byte) (d : Dev) : Dev :=
  let x := d.parse p bs
  let o := x.at_ + 2
  let mine := (d.rdV Obj.MdpIpv4Address).bytes
  let asks := x.ethertype == 0x0806 && be bs (o + 6) 2 == 1 && mine != List.replicate 4 0 && slice bs (o + 24) 4 == some mine
  d.when (d.serverUp && asks && d.mdpPortOk p (d.classVid p x).1) fun d =>
    let asker := (bs.drop (o + 8)).take 6
    d.sendEngine p (.reply (asker ++ d.portMac p ++ d.replyTag p ++ beBytes 2 0x0806 ++ [0, 1, 8, 0, 6, 4, 0, 2]
      ++ d.portMac p ++ mine ++ (bs.drop (o + 8)).take 10))

/-- A neighbour solicitation for one of the two IPv6 addresses is answered on its port (R507; log entry 31). -/
def neighbourSolicitation (p : Nat) (bs : List Byte) (d : Dev) : Dev :=
  let x := d.parse p bs
  match x.ip with
  | none => d
  | some i =>
    let target := (slice bs (i.l4 + 8) 16).getD []
    let mine := target == (d.rdV Obj.MdpIpv6Address).bytes || target == d.linkLocalIp
    let asks := i.v6 && i.proto == 58 && be bs i.l4 1 == 135 && target.length == 16 && mine
    -- solicited, override; an asker without an address is answered to all nodes
    let named := i.sa != List.replicate 16 0
    let dst := if named then i.sa else [0xFF, 0x02] ++ List.replicate 13 0 ++ [1]
    let head (sum : Nat) : List Byte := [136, 0] ++ beBytes 2 sum ++ [if named then 0x60 else 0x20, 0, 0, 0] ++ target
      ++ [2, 1] ++ d.portMac p
    let sum := inetSum (target ++ dst ++ beBytes 4 32 ++ beBytes 4 58 ++ head 0)
    d.when (d.serverUp && asks && d.mdpPortOk p (d.classVid p x).1) fun d =>
      d.sendEngine p (.reply ((if named then x.sa else [0x33, 0x33, 0, 0, 0, 1]) ++ d.portMac p ++ d.replyTag p
        ++ beBytes 2 0x86DD ++ beBytes 4 0x60000000 ++ beBytes 2 32 ++ [58, 255] ++ target ++ dst ++ head sum))

/-! ## Timers (R514, R516, R518) -/

/-- A slot held 5 s for its PROVE is freed. -/
def proveTimeout (n : Nat) (d : Dev) : Dev := d.when (d.slotState n == 1) fun d => d.freeSlot n

/-- A session without a valid datagram for MdpSessionTimeout closes. -/
def sessionTimeout (n : Nat) (d : Dev) : Dev := d.when (d.slotState n == 2) fun d => d.closeSession 3 n

/-- The lockout of an address ends. -/
def lockoutEnds (addr : List Byte) (d : Dev) : Dev :=
  { d with dict := { d.dict with lockouts := d.dict.lockouts.filter (· != addr) } }

/-! ## Meanings -/

/-- MDP_DATAGRAM_RX (R506). -/
def execMdpDatagramRx (p : PortHp) (frame : List Byte) (s : State) : Host.Outcome State Fault Refusal :=
  s.effect (mdpReceive p frame)

/-- MDP_OPEN (R514). -/
def execMdpOpen (s : State) : Host.Outcome State Fault Refusal := s.effect fun d => d.mdpHead 0x01 mdpOpen

/-- MDP_PROVE (R515). -/
def execMdpProve (s : State) : Host.Outcome State Fault Refusal := s.effect fun d => d.mdpHead 0x03 mdpProve

/-- MDP_CLOSE (R518). -/
def execMdpClose (s : State) : Host.Outcome State Fault Refusal := s.effect fun d => d.mdpHead 0x04 mdpClose

/-- MDP_KEEPALIVE (R518). -/
def execMdpKeepalive (s : State) : Host.Outcome State Fault Refusal := s.effect fun d => d.mdpHead 0x05 mdpKeepalive

/-- MDP_STATUS (R511). -/
def execMdpStatus (s : State) : Host.Outcome State Fault Refusal := s.effect fun d => d.mdpHead 0x06 mdpStatus

/-- MDP_READ (R510). -/
def execMdpRead (s : State) : Host.Outcome State Fault Refusal := s.effect fun d => d.mdpHead 0x10 mdpRead

/-- MDP_WRITE (R503). -/
def execMdpWrite (s : State) : Host.Outcome State Fault Refusal := s.effect fun d => d.mdpHead 0x11 mdpWrite

/-- MDP_DESCRIBE (R502). -/
def execMdpDescribe (s : State) : Host.Outcome State Fault Refusal := s.effect fun d => d.mdpHead 0x12 mdpDescribe

/-- MDP_SEG_READ_INIT (R520). -/
def execMdpSegReadInit (s : State) : Host.Outcome State Fault Refusal := s.effect fun d => d.mdpHead 0x20 mdpSegReadInit

/-- MDP_SEG_READ (R520). -/
def execMdpSegRead (s : State) : Host.Outcome State Fault Refusal := s.effect fun d => d.mdpHead 0x21 mdpSegRead

/-- MDP_SEG_WRITE_INIT (R521). -/
def execMdpSegWriteInit (s : State) : Host.Outcome State Fault Refusal :=
  s.effect fun d => d.mdpHead 0x22 mdpSegWriteInit

/-- MDP_SEG_WRITE (R521). -/
def execMdpSegWrite (s : State) : Host.Outcome State Fault Refusal := s.effect fun d => d.mdpHead 0x23 mdpSegWrite

/-- MDP_SEG_ABORT (R520). -/
def execMdpSegAbort (s : State) : Host.Outcome State Fault Refusal := s.effect fun d => d.mdpHead 0x24 mdpSegAbort

/-- ARP_REQUEST_RX (R507). -/
def execArpRequestRx (p : PortHp) (frame : List Byte) (s : State) : Host.Outcome State Fault Refusal :=
  s.effect (arpRequest p frame)

/-- NEIGHBOUR_SOLICITATION_RX (R507). -/
def execNeighbourSolicitationRx (p : PortHp) (frame : List Byte) (s : State) : Host.Outcome State Fault Refusal :=
  s.effect (neighbourSolicitation p frame)

/-- PROVE_WAIT_TIMEOUT (R514). -/
def execProveWaitTimeout (slot : Fin 16) (s : State) : Host.Outcome State Fault Refusal := s.effect (proveTimeout slot)

/-- MDP_SESSION_TIMEOUT (R518). -/
def execMdpSessionTimeout (slot : Fin 16) (s : State) : Host.Outcome State Fault Refusal :=
  s.effect (sessionTimeout slot)

/-- AUTH_LOCKOUT_EXPIRY (R516). -/
def execAuthLockoutExpiry (addr : List Byte) (s : State) : Host.Outcome State Fault Refusal :=
  s.effect (lockoutEnds addr)

end Sys2Proof.Machine
end

