-- ==== Sys2Proof/Machine/RegisterMap.lean ====
section
/-! DEFINITION. The local register map over PCIe and SPI: bus checks, the registers of its own, the direct map and the Benig
window (R530 to R546, R548 to R550, R557, R568). -/

namespace Sys2Proof.Machine

/-! ## Accesses and bus errors (R532 to R537) -/

/-- One access of the map: its interface, its direction, its width (0 8-bit to 3 64-bit) and its byte address. -/
structure Access where
  spi : Bool
  write : Bool
  width : Nat
  addr : Nat
deriving DecidableEq, Repr

/-- A bus error, or a cause 5 or 8 found after the write was accepted, is logged (R537). -/
def Dev.busError (d : Dev) (a : Access) (cause addr : Nat) : Dev :=
  ((d.inc Obj.BusErrorCount).wrs [(Obj.BusErrorLastInfo,
      (cause + 256 * ofBool a.spi + 512 * ofBool a.write + 1024 * a.width : Nat)),
    (Obj.BusErrorLastAddress, (addr % 2 ^ 24 : Nat))]).raise 55

/-- A bus error that its interface signals: UR on PCIe, ERROR on SPI (R537). -/
def Dev.busFails (d : Dev) (a : Access) (cause addr : Nat) : Dev :=
  let d := d.busError a cause addr
  { d with bus := { d.bus with error := true } }

/-- An access is unaligned, or too wide for the word it begins in (R536). -/
def misaligned (width addr : Nat) : Bool :=
  let size := 2 ^ width
  if size ≤ 2 then decide (4 < addr % 4 + size) else addr % size != 0

/-- The words of 32 bits it is performed as, low word first (R536). -/
def accessParts (width addr v : Nat) : List (Nat × Nat) :=
  if width == 3 then [(addr, bits v 0 32), (addr + 4, bits v 32 32)] else [(addr, bits v 0 32)]

/-- Regions of R534; inside the last performance page only the registers of R568 exist. -/
inductive Region where
  | identity | bus | rings | boxData (n : Nat) | boxCtrl (n : Nat) | events | perf (b off : Nat) | direct | window
deriving DecidableEq, Repr

/-- The region of an address, and none outside all of them or in one that MAP_SELECT disables. -/
def Dev.region (d : Dev) (addr : Nat) : Option Region :=
  if addr < 0x100 then some .identity
  else if addr < 0x200 then some .bus
  else if addr < 0x300 then some .rings
  else if addr < 0x1000 then none
  else if addr < 0x1100 then some (.boxData ((addr - 0x1000) / 64))
  else if addr < 0x1180 then some (.boxCtrl ((addr - 0x1100) / 32))
  else if addr < 0x2000 then none
  else if addr < 0x230C then some .events
  else if addr < 0x3000 then none
  else if addr < 0x4000 then
    let b := (addr - 0x3000) / 256
    let off := addr % 256
    if b < 3 && off < 0x90 then some (.perf b off) else none
  else if 0x100000 ≤ addr && addr < 0x600000 then (if d.rdB Obj.DirectMapEnable then some .direct else none)
  else if 0x800000 ≤ addr && addr < 0x810000 then (if d.rdB Obj.BenigWindowEnable then some .window else none)
  else none

/-- An object of 32 bits or less (R538). -/
def narrowObj (k : Nat) : Option (Nat × ObjRow) :=
  match objInfo k with
  | .ok r => match r.ty with
    | .bool | .u8 | .u16 | .u32 | .i16 | .i32 => some (k, r)
    | _ => none
  | .error _ => none

/-- The object of a word of the direct map, when it has one of 32 bits or less (R538). -/
def directObj (addr : Nat) : Option (Nat × ObjRow) :=
  narrowObj ((0x1000 + (addr - 0x100000) / 256) * 256 + addr % 256 / 4)

/-- The object that the running firmware binds to a word of the window (R544, log entry 3). -/
def Dev.windowObj (d : Dev) (addr : Nat) : Option (Nat × ObjRow) :=
  (Config.benigBinding (d.rdN Obj.BenigWindowVersion) ((addr - 0x800000) / 4)).bind narrowObj

/-- The bus error an aligned access meets (R534, R536, R537). -/
def Dev.partError (d : Dev) (a : Access) (addr : Nat) : Option Nat :=
  match d.region addr with
  | none => some 1
  | some g =>
    if a.write && a.width < 2 then some 2
    else match g with
      | .direct => if !d.dict.ready then some 9 else if (directObj addr).isNone then some 4 else none
      | .boxData n | .boxCtrl n => if !d.dict.ready then some 9 else if a.write && (d.box n).busy then some 6 else none
      | _ => none

/-! ## What the registers read (R535, R538, R540, R544, R548, R557, R568) -/

/-- Fields of a word: value and lowest bit. -/
def word (fs : List (Nat × Nat)) : Nat := (fs.map fun f => f.1 * 2 ^ f.2).sum

/-- A word whose bits are conditions, from bit 0 up. -/
def flagWord (f : Nat → Bool) : Nat := word ((List.range 32).map fun i => (ofBool (f i), i))

/-- What an object of 32 bits or less reads as: zero-extended, a signed one sign-extended (R538). -/
def Dev.objWord (d : Dev) (o : Option (Nat × ObjRow)) : Nat :=
  match o with
  | some (k, r) => toField 32 (d.readVal k r).toInt
  | none => 0

/-- The boot is at its fixed-synth step: before it the local registers do not answer (R594, R623). -/
def Dev.awaitsSynth (d : Dev) : Bool := d.boot.released && d.rd Obj.FixedSynthState == 0

/-- An interrupt pin is asserted: 0 INTA_N, 1 INTB_N (R559); INTA_N also while no image can be booted, and while the boot waits
for PLINTH_IN (R594, R623). -/
def Dev.pinAsserted (d : Dev) (route : Nat) : Bool :=
  d.eventPin route || d.ringPin route || (route == 0 && (d.boot.refused || (d.awaitsSynth && !d.rdB Obj.PlinthPresent)))

/-- The MSI vectors that a change of the device sends on PCIe: vector 0 as INTA_N becomes asserted, vector 1 as INTB_N does
(R559). -/
def Dev.msi (before after : Dev) : List Nat := if after.boot.pcie then [0, 1].filter fun v => !before.pinAsserted v && after.pinAsserted v else []

/-- Scratch register of R535. -/
abbrev scratchReg : Nat := 0x00C

/-- A source is PENDING (R557). -/
def Dev.eventPending (d : Dev) (n : Nat) : Bool := bit (d.rdN (inst Obj.EventStatus n)) 31

/-- The identity registers and the log of bus errors. -/
def Dev.identityRead (d : Dev) (addr : Nat) : Nat :=
  match addr with
  | 0x000 => 0x46444848
  | 0x004 => word [(d.rdN Obj.DieRevision, 0), (d.rdN Obj.Grade, 8)]
  | 0x008 => word [(d.rdN Obj.BenigWindowEnable, 0), (d.rdN Obj.DirectMapEnable, 1)]
  | 0x00C => d.reg scratchReg
  | 0x010 => ofBool d.dict.ready
  | 0x100 => d.rdN Obj.BusErrorLastAddress
  | 0x104 => d.rdN Obj.BusErrorLastInfo
  | 0x108 => d.rdN Obj.BusErrorCount
  | 0x10C => d.rdN Obj.IgnoredWriteLast
  | 0x110 => d.rdN Obj.IgnoredWriteCount
  | 0x114 => d.rdN Obj.MixedConfigLast
  | 0x118 => d.rdN Obj.MixedConfigCount
  | _ => (Config.unlistedWord addr).toNat

/-- A ring register. -/
def Dev.ringRead (d : Dev) (addr : Nat) : Nat :=
  let g := d.ring ((addr - 0x200) / 32)
  match addr % 32 with
  | 0x00 => g.baseLo
  | 0x04 => g.baseHi
  | 0x08 => word [(ofBool g.enable, 0), (ofBool g.active, 1), (g.sizeLog2, 2), (ofBool g.attnEn, 6), (g.attnRoute, 7),
      (g.bufUnits, 8), (g.coalesce, 16)]
  | 0x0C => g.tail
  | 0x10 => g.head
  | 0x14 => g.done
  | 0x18 => word [(g.seq, 0), (g.haltCause, 28), (ofBool g.halted, 30), (ofBool g.attention, 31)]
  | _ => (Config.unlistedWord addr).toNat

/-- A control register of a mailbox. -/
def Dev.boxCtrlRead (d : Dev) (n addr : Nat) : Nat :=
  let b := d.box n
  match addr % 32 with
  | 0x00 => word [(b.op, 0), (ofBool b.notify, 8)]
  | 0x04 => word [(b.index, 0), (b.subindex, 16)]
  | 0x08 => b.offset
  | 0x0C => b.length
  | 0x10 => word [(b.seq, 0), (b.code, 16), (ofBool b.busy, 30), (ofBool b.valid, 31)]
  | 0x14 => b.total
  | _ => (Config.unlistedWord addr).toNat

/-- A register of the event controller. -/
def Dev.eventRead (d : Dev) (addr : Nat) : Nat :=
  let n := addr % 256 / 4
  if addr < 0x2100 then d.rdN (inst Obj.EventStatus n)
  else if 0x2200 ≤ addr && addr < 0x2300 then word [(d.rdN (inst Obj.EventEnable n), 0), (d.rdN (inst Obj.EventRoute n), 1)]
  else if addr == 0x2300 then flagWord d.eventPending
  else if addr == 0x2304 then flagWord fun n => d.eventPending (32 + n)
  else if addr == 0x2308 then word [(ofBool (d.pinAsserted 0), 0), (ofBool (d.pinAsserted 1), 1)]
  else (Config.unlistedWord addr).toNat

/-- A register of a counter bank. -/
def Dev.perfRegRead (d : Dev) (b off : Nat) : Nat :=
  if off == 0 then word [(d.rdN (inst Obj.PerfBankRun b), 0), (d.rdN (inst Obj.PerfUserEnable b), 1)]
  else if off == 4 then d.bankStatus b
  else if off < 0x50 then d.reg (bankReg b off)
  else if off < 0x70 then d.rdN (perfKey Obj.PerfCounterConfig b ((off - 0x50) / 4))
  else d.rdN (perfKey Obj.PerfSamplePeriod b ((off - 0x70) / 4))

/-- What an aligned word of the map reads as. A word that no table lists, or that is write-only, is open (log entry 3). -/
def Dev.regRead (d : Dev) (addr : Nat) : Nat :=
  match d.region addr with
  | some .identity | some .bus => d.identityRead addr
  | some .rings => d.ringRead addr
  | some (.boxData n) => leNat (((d.box n).data.drop (addr % 64)).take 4)
  | some (.boxCtrl n) => d.boxCtrlRead n addr
  | some .events => d.eventRead addr
  | some (.perf b off) => d.perfRegRead b off
  | some .direct => d.objWord (directObj addr)
  | some .window => d.objWord (d.windowObj addr)
  | none => 0

/-- The bytes an access of a width reads out of the aligned word its address lies in (R536). -/
def Dev.busRead (d : Dev) (a : Access) (addr : Nat) : Dev :=
  let w := d.regRead (addr / 4 * 4)
  { d with bus := { d.bus with words := d.bus.words ++ [if a.width < 2 then bits w (8 * (addr % 4)) (8 * 2 ^ a.width) else w] } }

/-- The IDCODE of the JTAG port (R634). -/
def Dev.idcode (d : Dev) : Nat := word [(1, 0), (Config.bsdlManufacturer.toNat, 1), (0x4848, 12), (d.rdN Obj.DieRevision % 16, 28)]

/-! ## The direct map (R538, R539) -/

/-- The value of a word: its low bits, the others zero or the sign extension (R539). -/
def wordValue (ty : ObjTy) (w : Nat) : Option (List Byte) :=
  let n := ty.code.2
  let low := bits w 0 (8 * n)
  let ok := match ty with
    | .i16 | .i32 => w == toField 32 (ofField (8 * n) low)
    | _ => w == low
  if ok then some (leBytes n low) else none

/-- A value of a direct-map write is checked and committed. -/
def Dev.directCommit (d : Dev) (a : Access) (addr k : Nat) (bs : List Byte) : Dev :=
  match d.checkWrite 3 true k bs with
  | .ok v => commitWrite k v d
  | .error e => if e == stBlockEnabled then d.logIgnored (k / 256) (k % 256) 0 else d.busError a 5 addr

/-- A direct-map write to an object, if one is mapped at the address. -/
def Dev.directTo (d : Dev) (a : Access) (addr w : Nat) : Option (Nat × ObjRow) → Dev
  | none => d
  | some (k, r) =>
    d.when d.serverUp fun d =>
      let d := d.counted 2 0x08 0 1
      match wordValue r.ty w with
      | none => d.busError a 5 addr
      | some bs => d.directCommit a addr k bs

/-- A direct-map write: a one-operation local request at L3. -/
def Dev.directWrite (d : Dev) (a : Access) (addr w : Nat) : Dev := d.directTo a addr w (directObj addr)

/-! ## The Benig window (R544 to R546) -/

/-- A value written through the window passes every check but that of its block; members of a group are not judged against
one another. -/
def Dev.checkWindow (d : Dev) (k : Nat) (bs : List Byte) : Option Val :=
  match objInfo k with
  | .error _ => none
  | .ok r =>
    if r.acc == .ro then none
    else match r.ty.decode bs with
      | .error _ => none
      | .ok v =>
        let free := !(groupMembers k).isEmpty
        if r.rng.holdsVal v && (free || (match v with | .num x => d.stored.rangeOk k x | .oct _ => true)) then some v
        else none

/-- A value is written through the window to an object: committed at once, or refused with cause 8. -/
def Dev.windowCommit (d : Dev) (a : Access) (addr k w : Nat) (r : ObjRow) : Dev :=
  match (wordValue r.ty w).bind (d.checkWindow k) with
  | none => d.busError a 8 addr
  | some v => if (groupMembers k).isEmpty then commitWrite k v d else d.groupWrite true k v

/-- A window write to an object, if one is bound to the word. -/
def Dev.windowTo (d : Dev) (a : Access) (addr w : Nat) : Option (Nat × ObjRow) → Dev
  | none => d
  | some (k, r) => d.when d.serverUp fun d => (d.counted 2 0x08 0 1).windowCommit a addr k w r

/-- A window write. -/
def Dev.windowWrite (d : Dev) (a : Access) (addr w : Nat) : Dev := d.windowTo a addr w (d.windowObj addr)

/-! ## Ring registers (R548 to R550) -/

/-- A write to a ring's configuration was ignored (R549): its register offset is logged with source 6. -/
def Dev.ringIgnored (d : Dev) (addr : Nat) : Dev := d.logIgnored (addr % 65536) 0 6

/-- CTRL: the configuration fields change only while the ring is at rest, and within their ranges. -/
def Dev.ringCtrl (d : Dev) (r addr w : Nat) : Dev :=
  let g := d.ring r
  let size := bits w 2 4
  let units := bits w 8 8
  let free := !g.enable && !g.active
  let sizeOk := size == g.sizeLog2 || (free && decide (4 ≤ size) && decide (size ≤ 12))
  let unitsOk := units == g.bufUnits || (free && (r < 4 || (decide (1 ≤ units) && decide (units ≤ 64))))
  let d := d.setRing r fun g => { g with attnEn := bit w 6, attnRoute := bits w 7 1, coalesce := bits w 16 16,
                                          sizeLog2 := if sizeOk then size else g.sizeLog2,
                                          bufUnits := if unitsOk then units else g.bufUnits }
  let d := d.when (!(sizeOk && unitsOk)) fun d => d.ringIgnored addr
  if bit w 0 && !g.enable then ringEnable r d
  else if !bit w 0 && g.enable then ringDisable r d
  else d

/-- A write to a ring register. -/
def Dev.ringWrite (d : Dev) (addr w : Nat) : Dev :=
  let r := (addr - 0x200) / 32
  let g := d.ring r
  let busy := g.enable || g.active
  match addr % 32 with
  | 0x00 => let v := w / 32 * 32
            if busy then d.ringIgnored addr else d.setRing r fun g => { g with baseLo := v }
  | 0x04 => if busy then d.ringIgnored addr else d.setRing r fun g => { g with baseHi := w }
  | 0x08 => d.ringCtrl r addr w
  | 0x0C => ringTail r (w % 4096) d
  | 0x1C => attentionAck r w d
  | _ => d

/-! ## The other registers -/

/-- A write to a mailbox control register (R540, R542). -/
def Dev.boxCtrlWrite (d : Dev) (n addr w : Nat) : Dev :=
  match addr % 32 with
  | 0x00 => mailboxStart n w d
  | 0x04 => d.setBox n fun b => { b with index := bits w 0 16, subindex := bits w 16 8 }
  | 0x08 => d.setBox n fun b => { b with offset := bits w 0 18 }
  | 0x0C => d.setBox n fun b => { b with length := bits w 0 7 }
  | 0x14 => d.setBox n fun b => { b with total := bits w 0 19 }
  | _ => d

/-- A write to a mailbox data area. -/
def Dev.boxDataWrite (d : Dev) (n addr w : Nat) : Dev :=
  let o := addr % 64
  d.setBox n fun b => { b with data := b.data.take o ++ leBytes 4 w ++ b.data.drop (o + 4) }

/-- A write to the event controller (R557). -/
def Dev.eventWrite (d : Dev) (addr w : Nat) : Dev :=
  if 0x2100 ≤ addr && addr < 0x2200 then eventAck ((addr - 0x2100) / 4) w d
  else if 0x2200 ≤ addr && addr < 0x2300 then
    let n := (addr - 0x2200) / 4
    (d.wrB (inst Obj.EventEnable n) (bit w 0)).wr (inst Obj.EventRoute n) (bits w 1 1 : Nat)
  else d

/-- A write to a counter register (R568). -/
def Dev.perfRegWrite (d : Dev) (b off w : Nat) : Dev :=
  if off == 0 then
    let run := inst Obj.PerfBankRun b
    let old := d.rd run
    let d := noticeWrite run old (ofBool (bit w 0)) (d.wrB run (bit w 0))
    let d := d.wrB (inst Obj.PerfUserEnable b) (bit w 1)
    d.when (bit w 2) (bankSnap b)
  else if 0x50 ≤ off && off < 0x70 then counterConfig b ((off - 0x50) / 4) (bits w 0 18) d
  else if 0x70 ≤ off then d.wr (perfKey Obj.PerfSamplePeriod b ((off - 0x70) / 4)) w
  else d

/-- A write to the identity registers (R535). -/
def Dev.identityWrite (d : Dev) (addr w : Nat) : Dev :=
  if addr == 0x008 then (d.wrB Obj.BenigWindowEnable (bit w 0)).wrB Obj.DirectMapEnable (bit w 1)
  else if addr == scratchReg then d.setReg scratchReg w
  else d

/-- The effect of an aligned write of 32 bits anywhere in the map. -/
def regWrite (a : Access) (addr w : Nat) (d : Dev) : Dev :=
  match d.region addr with
  | some .identity => d.identityWrite addr w
  | some .rings => d.ringWrite addr w
  | some (.boxData n) => d.boxDataWrite n addr w
  | some (.boxCtrl n) => d.boxCtrlWrite n addr w
  | some .events => d.eventWrite addr w
  | some (.perf b off) => d.perfRegWrite b off w
  | some .direct => d.directWrite a addr w
  | some .window => d.windowWrite a addr w
  | some .bus | none => d

/-! ## PCIe and SPI transactions (R530 to R533, R536) -/

/-- The words of an access in order; the first in error ends it (R533, R536). -/
def Dev.performParts (a : Access) : List (Nat × Nat) → Dev → Dev
  | [], d => d
  | (addr, w) :: rest, d =>
    match d.partError a addr with
    | some c => d.busFails a c addr
    | none => Dev.performParts a rest (if a.write then regWrite a addr w d else d.busRead a addr)

/-- A PCIe access, over a link that is trained (R588, R595). A read that fails returns no data. -/
def Dev.pcieAccess (d : Dev) (a : Access) (malformed : Bool) (v : Nat) : Dev :=
  if !d.boot.pcie then d
  else if malformed || misaligned a.width a.addr then d.busFails a 3 a.addr
  else
    let d := Dev.performParts a (accessParts a.width a.addr v) d
    if d.bus.error then { d with bus := { d.bus with words := [] } } else d

/-- The SPI status byte (R533). -/
def Dev.spiStatus (d : Dev) (ready : Bool) : Byte :=
  BitVec.ofNat 8 (word [(ofBool d.bus.error, 0), (ofBool (d.pinAsserted 1), 5), (ofBool (d.pinAsserted 0), 6), (ofBool ready, 7)])

/-- An SPI transaction as its command byte, its address and its bytes from the fourth on spell it (R532). -/
structure SpiFrame where
  read : Bool
  width : Nat
  count : Nat
  addr : Nat
  data : List Byte
deriving DecidableEq, Repr

/-- The frame of a transaction; one that ends before its address does is none. -/
def spiFrame : List Byte → Option SpiFrame
  | c :: a2 :: a1 :: a0 :: data =>
    some ⟨bit c.toNat 7, bits c.toNat 5 2, bits c.toNat 0 5 + 1, a2.toNat * 65536 + a1.toNat * 256 + a0.toNat, data⟩
  | _ => none

/-- Bytes of a word. -/
def SpiFrame.size (x : SpiFrame) : Nat := 2 ^ x.width

/-- The bytes of words that are clocked: what follows the status bytes of a read, or the data of a write. -/
def SpiFrame.clocked (x : SpiFrame) (waits : Nat) : Nat := if x.read then x.data.length - (waits + 1) else x.data.length

/-- The words clocked to their end. -/
def SpiFrame.whole (x : SpiFrame) (waits : Nat) : Nat := min x.count (x.clocked waits / x.size)

/-- The whole words with their addresses, ascending by 4, and the data of a write, least significant byte first. -/
def SpiFrame.parts (x : SpiFrame) (waits : Nat) : List (Nat × Nat) :=
  (List.range (x.whole waits)).map fun i => ((x.addr + 4 * i) % 2 ^ 24, leNat ((x.data.drop (x.size * i)).take x.size))

/-- SCS_N rises within a word (R537, cause 7). -/
def SpiFrame.cut (x : SpiFrame) (waits : Nat) : Bool :=
  decide (x.whole waits < x.count) && x.clocked waits % x.size != 0

/-- Framing errors that show before a word is performed (R537, cause 7). -/
def SpiFrame.bad (x : SpiFrame) (waits : Nat) : Bool := x.width == 3 || (decide (x.width < 2) && x.count != 1) || decide (64 ≤ waits)

/-- The words of a transaction are performed; the first in error ends it. While the boot awaits the fixed synth none is performed,
and the transaction ends with ERROR (R623). -/
def Dev.spiWords (d : Dev) (x : SpiFrame) (waits : Nat) : Dev :=
  let a : Access := ⟨true, !x.read, x.width, x.addr⟩
  if d.awaitsSynth then { d with bus := { d.bus with error := true } }
  else if x.bad waits then d.busFails a 7 x.addr
  else if misaligned x.width x.addr then d.busFails a 3 x.addr
  else
    let d := Dev.performParts a (x.parts waits) d
    if x.cut waits && !d.bus.error then d.busFails a 7 (x.addr + 4 * x.whole waits) else d

/-- What SDO carries from the fourth byte on of a read: status bytes until READY, then the data, zeros from the first word in
error on; of a write: one status byte (R532, R533, log entry 44). -/
def Dev.spiOut (d before : Dev) (x : SpiFrame) (waits : Nat) : List Byte :=
  if !x.read then [d.spiStatus true]
  else if 64 ≤ waits then List.replicate 63 (before.spiStatus false) ++ [d.spiStatus false]
  else
    let data := (d.bus.words.map (leBytes x.size)).flatten
    (List.replicate waits (before.spiStatus false) ++ [d.spiStatus true] ++ data ++
      List.replicate (x.size * x.count - data.length) 0).take x.data.length

/-- An SPI transaction; the device in reset takes none. Only reads at 0x00_4000 and above can be late (R533). -/
def Dev.spiAccess (d : Dev) (sdi : List Byte) (waits : Nat) : Dev :=
  match if d.boot.released then spiFrame sdi else none with
  | none => d
  | some x =>
    let waits := if x.read && decide (0x4000 ≤ x.addr) then waits else 0
    let e := d.spiWords x waits
    { e with bus := { e.bus with sdo := e.spiOut d x waits } }

/-- A transaction of PCIe or SPI on the local map; an SPI transaction says itself whether it reads or writes. -/
def busTransaction (write : Bool) (t : BusAccess) (v : Nat) (d : Dev) : Dev :=
  let d : Dev := { d with bus := {} }
  match t with
  | .pcie width addr malformed => d.pcieAccess ⟨false, write, width, addr⟩ malformed v
  | .spi sdi waits => d.spiAccess sdi waits

/-! ## Work item 5 (R560) -/

/-- Work item 5 raises the Turn sources recorded before it started. -/
def eventEvaluation (d : Dev) : Dev :=
  d.workItem 5 fun d =>
    let sources := d.turnEvents ++ List.replicate d.turn.owed 18
    ({ d with turnEvents := [], turn := { d.turn with owed := 0 } } : Dev).forEach (fun n d => d.raise n) sources

/-! ## Meanings -/

/-- DIRECT_MAP_WRITE (R539). -/
def execDirectMapWrite (t : BusAccess) (v : Nat) (s : State) : Host.Outcome State Fault Refusal := s.effect (busTransaction true t v)

/-- BENIG_WINDOW_WRITE (R545). -/
def execBenigWindowWrite (t : BusAccess) (lo hi : BitVec 32) (s : State) : Host.Outcome State Fault Refusal :=
  s.effect (busTransaction true t (payload lo hi))

/-- REGISTER_WRITE (R534). -/
def execRegisterWrite (t : BusAccess) (v : Nat) (s : State) : Host.Outcome State Fault Refusal := s.effect (busTransaction true t v)

/-- LOCAL_REGISTER_READ (R536): the words read are in `bus`; a read changes nothing else but the log of the check it fails. -/
def execLocalRegisterRead (t : BusAccess) (s : State) : Host.Outcome State Fault Refusal := s.effect (busTransaction false t 0)

/-- EVENT_EVALUATION (R560). -/
def execEventEvaluation (s : State) : Host.Outcome State Fault Refusal := s.effect eventEvaluation

end Sys2Proof.Machine
end

