-- ==== Sys2Proof/Machine/Spool.lean ====
section
/-! DEFINITION. Spool programs: the runs of work item 12, their system calls and their dictionary requests (R579 to R584). The
instructions between two calls are the program's own: a call says which bytes they stored and how long they took. -/

namespace Sys2Proof.Machine

/-- The size of the sandbox (R578). -/
abbrev sandboxSize : Nat := 262144

/-- The stores of a program; those outside the sandbox do not happen (R583). -/
def Dev.spoolStores (d : Dev) (stores : List (Nat × Byte)) : Dev :=
  { d with spool := { d.spool with
      memory := stores.foldl (fun m (c : Nat × Byte) => if c.1 < sandboxSize then writeBytes m c.1 [c.2] else m) d.spool.memory } }

/-- The device writes bytes into the sandbox. -/
def Dev.spoolWrite (d : Dev) (at_ : Nat) (bs : List Byte) : Dev :=
  { d with spool := { d.spool with memory := writeBytes d.spool.memory at_ bs } }

/-- A buffer of a call is good: 4-byte aligned and wholly in the sandbox (R580). -/
def bufferOk (at_ n : Nat) : Bool := at_ % 4 == 0 && decide (at_ + n ≤ sandboxSize)

/-! ## Requests (R581) -/

/-- A request executes at SpoolAccessLevel: its status word takes the status and the length, a read its value after it. -/
def spoolServe (d : Dev) (r : SpoolReq) : Dev :=
  let d := d.counted 2 0x08 0 1
  let level := min (d.rdN Obj.SpoolAccessLevel) 2
  match r.value with
  | none =>
    match d.readObj level r.max r.key with
    | (d, .ok bs) => d.spoolWrite r.buffer (leBytes 4 (stOk + 256 * bs.length) ++ bs)
    | (d, .error e) => d.spoolWrite r.buffer (leBytes 4 e)
  | some bs =>
    let (d, status) := d.writeObj level false 5 r.key bs
    d.spoolWrite r.buffer (leBytes 4 (status + 256 * bs.length))

/-- The end of work item 12: the requests of its runs reach the server, in slot order and call order; in the handover Turn of an
update they wait for the next (R491, R581, R584). -/
def Dev.spoolFinish (d : Dev) : Dev :=
  let d := { d with spool := { d.spool with run := none, ready := [] } }
  let d := if d.serving then
      d.spool.requests.foldl spoolServe { d with spool := { d.spool with requests := [] } }
    else d
  d.closeItem 12

/-! ## Runs (R579, R582, R583) -/

/-- The slots that have not started are skipped (R582). -/
def Dev.spoolSkip (d : Dev) : Dev := d.forEach (fun s d => d.inc (inst Obj.SpoolSlotSkipCount s)) d.spool.ready

/-- The next slot starts, or the item ends: with no slot left, or with the applied budget used up. -/
def Dev.spoolNext (d : Dev) : Dev :=
  match d.spool.ready with
  | [] => d.spoolFinish
  | s :: rest =>
    if d.spool.left == 0 then d.spoolSkip.spoolFinish
    else
      let own := d.rdN (inst Obj.SpoolSlotBudget s)
      let run : SpoolRun :=
        { slot := s, limit := if own == 0 then d.spool.left else min own d.spool.left,
          entry := leNat (d.spoolBytes (16 + 4 * s) 4), a0 := (Sparse.get (fun _ => 3) d.spool.endings s : Nat),
          a1 := d.rdN Obj.TurnNumber % 2 ^ 32 }
      { d with spool := { d.spool with run := some run, ready := rest } }

/-- A run ends after `cycles`; `ending` is the a0 of the slot's next run. -/
def Dev.spoolEnds (d : Dev) (r : SpoolRun) (cycles ending : Nat) : Dev :=
  let s := r.slot
  let d := (d.wr (inst Obj.SpoolSlotLastCycles s) (cycles % 2 ^ 32 : Nat)).counted 2 0x0B s cycles
  let streak := if ending == 2 then numAt d.spool.faulted s + 1 else 0
  { d with spool := { d.spool with
      run := none, left := d.spool.left - cycles, endings := Sparse.set (fun _ => 3) d.spool.endings s ending,
      faulted := setNum d.spool.faulted s streak } }

/-- A call of the run in progress, its stores made and its cycles counted, of which the call itself charges 200 (R580). -/
def Dev.spoolCall (d : Dev) (stores : List (Nat × Byte)) (cycles : Nat) (f : SpoolRun → Dev → Dev) : Dev :=
  match d.spool.run with
  | none => d
  | some r =>
    let r := { r with used := max cycles (r.used + 200) }
    let d := d.spoolStores stores
    let d : Dev := { d with spool := { d.spool with run := some r } }
    f r (d.counted 2 0x0A r.slot 1)

/-- The result of a call, in a0. -/
def Dev.spoolResult (d : Dev) (v : Int) : Dev :=
  { d with spool := { d.spool with run := d.spool.run.map fun r => { r with a0 := v } } }

/-- The start of work item 12: the slots due in the Turn run in ascending order (R579, R582). -/
def spoolStart (d : Dev) : Dev :=
  if !d.itemStarts 12 || d.spool.run.isSome then d
  else if !d.on .spool 0 then d.spoolFinish
  else
    let due := d.dueSlots
    let left := d.spoolBudget
    { d with spool := { d.spool with ready := due, left := left } }.spoolNext

/-- A run faults (R583). -/
def spoolFault (cause pc cycles : Nat) (stores : List (Nat × Byte)) (d : Dev) : Dev :=
  match d.spool.run with
  | none => d
  | some r =>
    let s := r.slot
    let d := ((d.spoolStores stores).inc (inst Obj.SpoolSlotFaultCount s)).wrs
      [(inst Obj.SpoolSlotFaultCause s, (cause : Int)), (inst Obj.SpoolSlotFaultPc s, ((pc % 2 ^ 32 : Nat) : Int))]
    let d := d.spoolEnds r (max cycles r.used) 2
    let d := d.when (decide (d.rdN Obj.SpoolFaultLimit ≤ numAt d.spool.faulted s)) fun d => d.wr (inst Obj.SpoolSlotState s) 2
    d.spoolNext

/-- A run reaches its limit: it is stopped, and the stop is an overrun of item 12 (R582). -/
def spoolBudgetStop (stores : List (Nat × Byte)) (d : Dev) : Dev :=
  match d.spool.run with
  | none => d
  | some r =>
    let d := ((d.spoolStores stores).overrun 12 1 (d.rdN Obj.TurnNumber)).inc (inst Obj.SpoolSlotOverrunCount r.slot)
    (d.spoolEnds r r.limit 1).spoolNext

/-- Work item 12 overran: the run in progress is stopped, and no other starts (R48, R582). -/
def Dev.spoolOverrun (d : Dev) : Dev :=
  let d := match d.spool.run with
    | some r => (d.inc (inst Obj.SpoolSlotOverrunCount r.slot)).spoolEnds r r.used 1
    | none =>
      let due := d.dueSlots
      { d with spool := { d.spool with ready := due } }
  d.spoolSkip.spoolFinish

/-! ## System calls (R580) -/

/-- SYS_DONE: the run ends. -/
def sysDone (stores : List (Nat × Byte)) (cycles : Nat) (d : Dev) : Dev :=
  d.spoolCall stores cycles fun r d => (d.spoolEnds r r.used 0).spoolNext

/-- SYS_TIME. -/
def sysTime (buffer : Nat) (stores : List (Nat × Byte)) (cycles : Nat) (d : Dev) : Dev :=
  d.spoolCall stores cycles fun _ d =>
    if bufferOk buffer 16 then
      (d.spoolWrite buffer (timeBytes d.now ++ leBytes 1 (d.rdN Obj.TimeValid) ++ leBytes 1 (d.rdN Obj.TurnInPhase)
        ++ leBytes 2 0)).spoolResult 0
    else d.spoolResult (-2)

/-- A dictionary request is queued, its status word set; at most 4 of a slot are outstanding (R581). -/
def Dev.spoolRequest (d : Dev) (r : SpoolReq) : Dev :=
  if 4 ≤ (d.spool.requests.filter fun q => q.slot == r.slot).length then d.spoolResult (-3)
  else
    let d := d.spoolWrite r.buffer (leBytes 4 (2 ^ 32 - 1))
    ({ d with spool := { d.spool with requests := d.spool.requests ++ [r] } } : Dev).spoolResult 0

/-- SYS_READ. -/
def sysRead (object buffer most : Nat) (stores : List (Nat × Byte)) (cycles : Nat) (d : Dev) : Dev :=
  d.spoolCall stores cycles fun r d =>
    if 64 < most || !bufferOk buffer (4 + most) then d.spoolResult (-2)
    else d.spoolRequest { slot := r.slot, key := objKey (object / 256) object, buffer := buffer, max := most, value := none }

/-- SYS_WRITE: the bytes after the buffer's status word. -/
def sysWrite (object buffer len : Nat) (stores : List (Nat × Byte)) (cycles : Nat) (d : Dev) : Dev :=
  d.spoolCall stores cycles fun r d =>
    if 64 < len || !bufferOk buffer (4 + len) then d.spoolResult (-2)
    else d.spoolRequest { slot := r.slot, key := objKey (object / 256) object, buffer := buffer, max := 0,
                          value := some (readBytes d.spool.memory (buffer + 4) len) }

/-- SYS_PERF: a counter's count, when the bank is open to programs. -/
def sysPerf (counter buffer : Nat) (stores : List (Nat × Byte)) (cycles : Nat) (d : Dev) : Dev :=
  d.spoolCall stores cycles fun _ d =>
    let b := counter / 256
    let k := counter % 256
    if 3 ≤ b || 8 ≤ k then d.spoolResult (-2)
    else if !d.rdB (inst Obj.PerfUserEnable b) then d.spoolResult (-1)
    else if !bufferOk buffer 8 then d.spoolResult (-2)
    else (d.spoolWrite buffer (leBytes 8 (numAt d.perf.counts (8 * b + k)))).spoolResult 0

/-- SYS_BUDGET: the cycles left in the run. -/
def sysBudget (stores : List (Nat × Byte)) (cycles : Nat) (d : Dev) : Dev :=
  d.spoolCall stores cycles fun r d => d.spoolResult (r.limit - r.used : Nat)

/-- SYS_LOG: an entry of the log, or a loss when it is full (R580, R586). -/
def sysLog (buffer len : Nat) (stores : List (Nat × Byte)) (cycles : Nat) (d : Dev) : Dev :=
  d.spoolCall stores cycles fun r d =>
    if 56 < len || !bufferOk buffer len then d.spoolResult (-2)
    else if 1024 ≤ d.spool.log.length then (d.inc Obj.SpoolLogLossCount).spoolResult 0
    else
      let entry := leBytes 4 (d.rdN Obj.TurnNumber) ++ leBytes 1 r.slot ++ leBytes 1 len ++ leBytes 2 0
        ++ readBytes d.spool.memory buffer len ++ List.replicate (56 - len) 0
      ({ d with spool := { d.spool with log := d.spool.log ++ [entry] } } : Dev).spoolResult 0

/-! ## Meanings -/

/-- SPOOL_PROGRAMS (R579, R583). -/
def execSpoolPrograms (e : SpoolStep) (stores : List (Nat × Byte)) (s : State) : Host.Outcome State Fault Refusal :=
  s.effect fun d => match e with
    | .start => spoolStart d
    | .fault cause pc cycles => spoolFault cause pc cycles stores d

/-- SPOOL_BUDGET_STOP (R582). -/
def execSpoolBudgetStop (stores : List (Nat × Byte)) (s : State) : Host.Outcome State Fault Refusal :=
  s.effect (spoolBudgetStop stores)

/-- SYS_DONE (R580). -/
def execSysDone (stores : List (Nat × Byte)) (cycles : Nat) (s : State) : Host.Outcome State Fault Refusal :=
  s.effect (sysDone stores cycles)

/-- SYS_TIME (R580). -/
def execSysTime (buffer : Nat) (stores : List (Nat × Byte)) (cycles : Nat) (s : State) : Host.Outcome State Fault Refusal :=
  s.effect (sysTime buffer stores cycles)

/-- SYS_READ (R580). -/
def execSysRead (object buffer most : Nat) (stores : List (Nat × Byte)) (cycles : Nat) (s : State) :
    Host.Outcome State Fault Refusal := s.effect (sysRead object buffer most stores cycles)

/-- SYS_WRITE (R580). -/
def execSysWrite (object buffer len : Nat) (stores : List (Nat × Byte)) (cycles : Nat) (s : State) :
    Host.Outcome State Fault Refusal := s.effect (sysWrite object buffer len stores cycles)

/-- SYS_PERF (R580). -/
def execSysPerf (counter buffer : Nat) (stores : List (Nat × Byte)) (cycles : Nat) (s : State) :
    Host.Outcome State Fault Refusal := s.effect (sysPerf counter buffer stores cycles)

/-- SYS_BUDGET (R580). -/
def execSysBudget (stores : List (Nat × Byte)) (cycles : Nat) (s : State) : Host.Outcome State Fault Refusal :=
  s.effect (sysBudget stores cycles)

/-- SYS_LOG (R580). -/
def execSysLog (buffer len : Nat) (stores : List (Nat × Byte)) (cycles : Nat) (s : State) :
    Host.Outcome State Fault Refusal := s.effect (sysLog buffer len stores cycles)

end Sys2Proof.Machine
end

