-- ==== Sys2Proof/Machine/Turn.lean ====
section
/-! DEFINITION. The Turn: its boundary with the changes due and the boundary commit, overruns of its work items, the
deadlines of host-assisted functions, and the heartbeats of item 11 (chapters 01, 02 and 14). -/

namespace Sys2Proof.Machine

/-! ## The end of a Turn (R42, R46, R88, R202) -/

/-- The Turn in progress ends: its length in CCLK cycles, its part in the history of the servo, and the steps the device arms for
itself. -/
def Dev.turnEnds (d : Dev) (cclk : Nat) : Dev :=
  let d := d.wr Obj.TurnCclkLength (cclk % 2 ^ 32 : Nat)
  let d := d.turnHistory
  let d := { d with turn := { d.turn with before := some (d.turn.start, d.rdN Obj.TurnPeriod * 131072) } }
  d.initialStep.hostSet

/-! ## Abandoned work items (R46 to R48) -/

/-- What an abandoned work item leads to (R48); of item 11, `spindles` and `cores` say which heartbeats had come. -/
def Dev.abandoned (d : Dev) (item : Nat) (spindles cores : PairObs) : Dev :=
  match item with
  | 3 => d.missWord
  | 6 => d.dumpAbandoned
  | 7 => d.calOverrun
  | 11 => d.slotsMissed spindles cores
  | 12 => d.spoolOverrun
  | _ => d

/-- A work item is abandoned: recorded with a cause, and no longer open (R46, R48). -/
def Dev.abandons (d : Dev) (item : Nat) (cause : Int) (spindles cores : PairObs) : Dev :=
  ((d.overrun item cause (d.rdN Obj.TurnNumber)).abandoned item spindles cores).closeItem item

/-- What is unfinished when the Turn in progress ends is abandoned, with cause 2 at a boundary and 4 at a discontinuity (R46,
R58). -/
def Dev.cutItems (d : Dev) (cause : Int) : Dev :=
  d.forEach (fun i d => d.abandons i cause silentPair silentPair) d.unfinished

/-! ## The changes due at a boundary (R50, R53 to R55, R58, R60, R81) -/

/-- The step or Turn parameter change that is due next at the boundary of Turn `n`: the lower Turn first, a step first (R60,
R81). -/
def Dev.nextChange (d : Dev) (n : Nat) : Option Change :=
  let due (p : Change → Bool) : Option Change := d.turn.queue.find? fun c => p c && decide (c.turn ≤ n)
  match due Change.isStep, due Change.isParam with
  | some a, some b => if a.turn ≤ b.turn then some a else some b
  | some a, none => some a
  | none, x => x

/-- A step at the boundary of Turn `n`, named for that Turn or for one that a discontinuity skipped; it is a discontinuity (R58,
R60, R81, R171, R181, R186, R240, R285). -/
def Dev.makeStep (d : Dev) (n : Nat) (c : Change) : Dev :=
  let amount := d.stepAmount c.turn c.kind
  let after := d.boundaryTime n + amount
  let d := (d.cutItems 4).applyStep c.turn n c.kind
  let d := (d.forEach (stepMeetsBridging amount) (List.range 48)).forEach (stepMeetsWatch amount) (List.range 48)
  let d := (d.forEach (stepMeetsCand amount) (List.range 101) |> stepMeetsLabels amount |> stepMeetsOut amount)
  let d := d.forEach (stepMeetsEvin amount) (List.range 16)
  let d : Dev := { d with ref := { d.ref with binValid := false }, buf := { d.buf with reelStep := true } }
  d.discontinuity (d.firstTurnAt after)

/-- Put a change into a list in ascending order of Turns, behind those of the same Turn. -/
def insertChange (c : Change) : List Change → List Change
  | [] => [c]
  | x :: rest => if c.turn < x.turn then c :: x :: rest else x :: insertChange c rest

/-- A swap, a re-alignment or a firmware handover takes effect at the boundary of Turn `n`. -/
def applyOther (n : Nat) (d : Dev) (c : Change) : Dev :=
  match c.kind with
  | .swap => applySwap n d
  | .realign mask => applyRealign mask d
  | .handover => fwHandover n d
  | _ => d

/-- The swaps, re-alignments and handovers named for Turns up to `last` take effect at the boundary of Turn `n`, in ascending
order of their Turns and then in the order in which they were armed (R53, R60). -/
def Dev.othersUpTo (d : Dev) (n last : Nat) : Dev :=
  let others := (d.turn.queue.filter fun c => !c.isStep && !c.isParam && decide (c.turn ≤ last)).foldl
    (fun l c => insertChange c l) []
  others.foldl (applyOther n) (d.disarm fun c => others.contains c)

/-- The steps and Turn parameter changes due at the boundary of Turn `n`, each after what is named for an earlier Turn (R60); the
Turn that starts, or none where a gap begins instead. Where a re-anchor makes the numbers jump and its boundary meets that of
Turn `n`, a change named for a number left out is due at that boundary (log entry 12). -/
def Dev.boundaryChanges : Nat → Nat → Dev → Dev × Option Nat
  | 0, n, d => (d, some n)
  | fuel + 1, n, d =>
    match d.nextChange n with
    | none => (d, some n)
    | some c =>
      let d := (d.disarm (· == c)).when (decide (0 < c.turn)) fun d => d.othersUpTo n (c.turn - 1)
      match c.kind with
      | .period p =>
        let t := d.boundaryTime n
        Dev.boundaryChanges fuel n (d.wrs [(Obj.TurnPeriod, p), (Obj.TurnAnchorTime, t), (Obj.TurnAnchorNumber, n), (Obj.TurnChangeCmd, 2)])
      | .reanchor p ta na =>
        let t := d.boundaryTime n
        let d := d.wrs [(Obj.TurnPeriod, p), (Obj.TurnAnchorTime, ta), (Obj.TurnAnchorNumber, na), (Obj.TurnChangeCmd, 2)]
        let m := d.firstTurnAt t
        if d.boundaryTime m == t then Dev.boundaryChanges fuel m d else ((d.cutItems 4).discontinuity m, none)
      | _ => (d.makeStep n c, none)

/-! ## The start of a Turn: work item 0 (R43, R44, R34, R53, R71, R95) -/

/-- Turn `n` is in progress: its work items are open, and what is counted per Turn starts anew. The first Turn after a
discontinuity is the one reported (R57). -/
def Dev.opens (d : Dev) (n : Nat) : Dev :=
  let d := (d.wr Obj.TurnNumber n).when d.turn.gap (·.wr Obj.TurnLastDiscontinuity n)
  { d with
    turn := { d.turn with last := some n, running := true, gap := false, next := n + 1, openItems := (List.range 13).drop 1,
                          upMark := d.time.uptime, start := d.boundaryTime n, started := d.turn.started + 1,
                          runs := lastTurns 1024 (turnStarted n (d.rdN Obj.TurnPeriod) (d.boundaryTime n) d.turn.runs) },
    fwd := { d.fwd with budgetUsed := [] },
    buf := { d.buf with raisedBefore := d.buf.raisedNow, raisedNow := 0, recordedBefore := d.buf.recordedNow,
                        recordedNow := [] } }

/-- SpindleTimeDifference is sampled, but for a DISABLED spindle (R95). -/
def sampleDifference (u : Nat) (d : Dev) : Dev :=
  d.when (d.blk .spindle u != 0) fun d => d.wr (inst Obj.SpindleTimeDifference u) (dur (d.spindleTime u - d.now))

/-- The changeover back to the steered synth counts as a transmit lock of the lanes (R126, R217). -/
def Dev.changesBack (d : Dev) : Dev :=
  let back := d.rd Obj.SteeredSynthState == 1 && !d.time.tclkSteered
  d.changeoverBack.when back (·.txRelockAll)

/-- What is decided for the boundary of Turn `n` takes effect: the host's words and records, references and synths (R34, R43, R44,
R71, R73). -/
def Dev.decisionsAtBoundary (d : Dev) : Dev :=
  let d := d.blockBoundary
  let d := d.hostWordApply.wordsAtBoundary
  let d := d.forEach applyHostRecord (List.range 48)
  let d := d.forEach applyDecision (List.range 48)
  let d := (d.forEach edgesAtBoundary (List.range 4)).forEach pairAtBoundary (List.range 4)
  let d := d.forEach (fun i d => refInversion i (labelBoundary i d)) (List.range 4)
  d.referenceSwitch.wordsWithin.changesBack

/-- What waits for the boundary of Turn `n` in the other blocks comes into force, and the outputs and the store follow. -/
def Dev.restAtBoundary (d : Dev) (n : Nat) : Dev :=
  let d := d.forEach (fun i d => inversionBoundary i (gateOpens i d)) (List.range 16)
  let d := (d.calBoundary.reelBoundary).forEach coeffsAtBoundary (List.range 48)
  let d := ((d.fwBeforeHandover n).spindleSync).perfApply.perfBoundary n
  let d := d.forEach turnPulse (List.range 16)
  let d := countCut (d.startsFrom 32 none (d.boundaryTime n * 1000) false true)
  let d := d.showAllGates (d.boundaryTime n)
  let d := (d.forEach sampleDifference [0, 1]).refreshPhase
  (d.refreshOuts.forEach refreshPending (List.range 24)).planeStatus

/-- The boundary commit of Turn `n` (R43, R44): the decisions made, what the pairs and the firmware update do (R476, R491), the
queued changes, then the rest. -/
def Dev.turnStarts (d : Dev) (n : Nat) : Dev :=
  let d := (d.opens n).restartCompletes.decisionsAtBoundary
  let d := pairBoundary n 1 (pairBoundary n 0 (d.fwAfterHandover n))
  (d.othersUpTo n n).restAtBoundary n

/-- The Turn in progress ends at the boundary: time reaches it, UptimeNs with it, and its events are counted (R37, R42, R91). -/
def Dev.reachBoundary (d : Dev) (cclk : Nat) (cs : List PerfCount) : Dev :=
  let d := d.advanceTo (d.boundaryTime d.turn.next)
  let d := { d with time := { d.time with uptime := max d.time.uptime (d.turn.upMark + cclk) } }
  cs.foldl (fun (d : Dev) c => d.counted c.bank c.event c.instance_ c.n) d

/-- TURN_BOUNDARY: the time of the active spindle reaches the boundary time of the next Turn (R37, R38). `cs` are the events of
the Turn that ends which only clocks of the block could count. -/
def turnBoundary (cclk : Nat) (cs : List PerfCount) (d : Dev) : Dev :=
  let phase := d.rd Obj.DeviceFaultPhase
  if !d.counting || !(phase == 0 || phase == 2) then d
  else
    let d := (d.reachBoundary cclk cs).when d.turn.running fun d => d.turnEnds cclk
    match Dev.boundaryChanges (d.turn.queue.length + 1) d.turn.next d with
    | (d, some m) => (d.cutItems 2).turnStarts m
    | (d, none) => ({ d with turn := { d.turn with upMark := d.time.uptime } }).showAllGates d.now

/-! ## Overruns and deadlines (R31, R33, R46 to R49) -/

/-- WORK_ITEM_OVERRUN: an unfinished item is abandoned and recorded (R46). Item 0 cannot overrun. -/
def itemOverrun (item : Nat) (atBoundary : Bool) (spindles cores : PairObs) (d : Dev) : Dev :=
  if d.unfinished.contains item then d.abandons item (if atBoundary then 2 else 1) spindles cores else d

/-- The work item whose record keeps a function's missed deadlines (R49). -/
def fnItem : HostFn → Nat
  | .f0 _ => 2
  | .f1 => 3
  | .f2 => 4
  | .f3 => 9
  | .f4 => 7
  | .f5 _ => 6
  | .f6 _ => 8

/-- A function is host-assisted, its decision block ENABLED, and its decision is due (R28, R31). -/
def Dev.fnAwaits (d : Dev) (f : HostFn) : Bool :=
  match f with
  | .f0 p => d.on .ptpEngine p && d.rdB (inst Obj.ModeF0PtpEngine p)
  | .f1 => d.servoHost
  | .f2 => d.on .refSelector 0 && d.rdB Obj.ModeF2RefSelector && d.ref.asked.isSome
  | .f3 => d.on .learning 0 && d.rdB Obj.ModeF3Learning
  | .f4 => d.on .calSequencer 0 && d.rdB Obj.ModeF4Calibration && d.cal.hostDone.isSome
  | .f5 b => d.on .perfDump b && d.rdB (inst Obj.ModeF5CounterDump b) && !d.perf.read.contains b.val
  | .f6 l => d.on .laneAdapt l && d.rdB (inst Obj.ModeF6LaneAdapt l) && !(d.lane l).delivered

/-- Learn events older than 64 Turns are discarded, oldest first, with EV16; their age is counted in Turns started (R31, R59). -/
def Dev.discardOldEvents (d : Dev) : Dev :=
  let old := d.fwd.learnQueue.takeWhile fun e => decide (e.started + 64 < d.turn.started)
  d.when (!old.isEmpty) fun d =>
    ((d.setLearnQueue (d.fwd.learnQueue.drop old.length)).add32 Obj.LearnDropCount old.length).record 16

/-- The fallback action of a function (R31). -/
def Dev.fallback (d : Dev) (f : HostFn) : Dev :=
  match f with
  | .f0 p => f0Fallback p (d.setLink p fun k => { k with f0Misses := k.f0Misses + 1 })
  | .f1 => d.missHostWord
  | .f2 => { d with ref := { d.ref with asked := none } }
  | .f3 => d.discardOldEvents
  | .f4 => d.abandonRun
  | .f5 _ => d
  | .f6 l => coeffDeadline l d

/-- HOST_DEADLINE_MISS: the miss is recorded with cause 3, and the function falls back (R31, R33, R49). A bank that was read in
time begins its next period. -/
def hostDeadlineMiss (f : HostFn) (d : Dev) : Dev :=
  if d.fnAwaits f then (d.overrun (fnItem f) 3 (d.rdN Obj.TurnNumber)).fallback f
  else match f with
    | .f5 b => { d with perf := { d.perf with read := d.perf.read.filter (· != b.val) } }
    | _ => d

/-! ## Heartbeats (R470, R474 to R476, R59) -/

/-- The device-level fault that a pair's arbitration calls for, if any (R476). -/
def faultOf (r : Dev × Option (Nat × Bool)) : Dev :=
  match r.2 with
  | some (cause, cores) => deviceFault cause cores r.1
  | none => r.1

/-- Work item 11. -/
def heartbeat (spindles cores : PairObs) (d : Dev) : Dev :=
  if d.turn.openItems.contains 11 then faultOf ((d.closeItem 11).arbitrateAll spindles cores true) else d

/-- During a gap the heartbeats go on and nothing is compared; what the exchange before decided is made first (R59, R475). -/
def gapHeartbeat (spindles cores : PairObs) (d : Dev) : Dev :=
  if d.turn.gap && !d.stopped then
    let n := d.rdN Obj.TurnNumber
    let d := ((d.pairAct 0 n).1.pairAct 1 n).1
    faultOf (d.arbitrateAll spindles cores false)
  else d

/-! ## Meanings -/

/-- TURN_BOUNDARY (R37). -/
def execTurnBoundary (cclk : Nat) (counted : List PerfCount) (s : State) : Host.Outcome State Fault Refusal :=
  s.effect (turnBoundary cclk counted)

/-- WORK_ITEM_OVERRUN (R46). -/
def execWorkItemOverrun (item : Fin 13) (o : OverrunObs) (s : State) : Host.Outcome State Fault Refusal :=
  s.effect (itemOverrun item o.atBoundary o.spindles o.cores)

/-- HOST_DEADLINE_MISS (R33). -/
def execHostDeadlineMiss (f : HostFn) (s : State) : Host.Outcome State Fault Refusal := s.effect (hostDeadlineMiss f)

/-- HEARTBEAT_AND_COMPARISON (R470). -/
def execHeartbeatAndComparison (spindles cores : PairObs) (s : State) : Host.Outcome State Fault Refusal :=
  s.effect (heartbeat spindles cores)

/-- GAP_HEARTBEAT (R59). -/
def execGapHeartbeat (spindles cores : PairObs) (s : State) : Host.Outcome State Fault Refusal :=
  s.effect (gapHeartbeat spindles cores)

end Sys2Proof.Machine
end

