-- ==== Sys2Proof/Machine/Dispatch.lean ====
section
/-! DEFINITION. One arm for each command: a direct call of its meaning. -/

namespace Sys2Proof.Machine

def exec (i : Instr) (s : State) : Host.Outcome State Fault Refusal :=
  match i with
  | .turnBoundary cclk counted => Sys2Proof.Machine.execTurnBoundary cclk counted s
  | .whorlReadingDelivery readings => Sys2Proof.Machine.execWhorlReadingDelivery readings s
  | .linkTimingUpdate => Sys2Proof.Machine.execLinkTimingUpdate s
  | .servoUpdate => Sys2Proof.Machine.execServoUpdate s
  | .referenceSelection => Sys2Proof.Machine.execReferenceSelection s
  | .eventEvaluation => Sys2Proof.Machine.execEventEvaluation s
  | .counterDump => Sys2Proof.Machine.execCounterDump s
  | .calibrationStep => Sys2Proof.Machine.execCalibrationStep s
  | .laneEqualisationAdaptation moves => Sys2Proof.Machine.execLaneEqualisationAdaptation moves s
  | .addressLearning => Sys2Proof.Machine.execAddressLearning s
  | .reelTriggerEvaluation => Sys2Proof.Machine.execReelTriggerEvaluation s
  | .heartbeatAndComparison spindles cores => Sys2Proof.Machine.execHeartbeatAndComparison spindles cores s
  | .spoolPrograms e stores => Sys2Proof.Machine.execSpoolPrograms e stores s
  | .workItemOverrun item o => Sys2Proof.Machine.execWorkItemOverrun item o s
  | .spoolBudgetStop stores => Sys2Proof.Machine.execSpoolBudgetStop stores s
  | .turnChangeContinuous => Sys2Proof.Machine.execTurnChangeContinuous s
  | .turnReanchor => Sys2Proof.Machine.execTurnReanchor s
  | .turnChangeCancel => Sys2Proof.Machine.execTurnChangeCancel s
  | .gapHeartbeat spindles cores => Sys2Proof.Machine.execGapHeartbeat spindles cores s
  | .overrunClear item => Sys2Proof.Machine.execOverrunClear item s
  | .blockEnableCmd b => Sys2Proof.Machine.execBlockEnableCmd b s
  | .blockDisableCmd b => Sys2Proof.Machine.execBlockDisableCmd b s
  | .blockReady b => Sys2Proof.Machine.execBlockReady b s
  | .readinessLimitExpiry b => Sys2Proof.Machine.execReadinessLimitExpiry b s
  | .disablingComplete b => Sys2Proof.Machine.execDisablingComplete b s
  | .blockFault b cause => Sys2Proof.Machine.execBlockFault b cause s
  | .hostDeadlineMiss f => Sys2Proof.Machine.execHostDeadlineMiss f s
  | .hostNcoPhaseWrite v => Sys2Proof.Machine.execHostNcoPhaseWrite v s
  | .hostServoStateWrite v => Sys2Proof.Machine.execHostServoStateWrite v s
  | .timeStepRelative => Sys2Proof.Machine.execTimeStepRelative s
  | .timeSetAbsolute => Sys2Proof.Machine.execTimeSetAbsolute s
  | .timeStepCancel => Sys2Proof.Machine.execTimeStepCancel s
  | .timeSnapshotCmd => Sys2Proof.Machine.execTimeSnapshotCmd s
  | .timeSnapshotCapture => Sys2Proof.Machine.execTimeSnapshotCapture s
  | .syncRx p seq twoStep origin corr source st => Sys2Proof.Machine.execSyncRx p seq twoStep origin corr source st s
  | .followUpRx p seq origin corr source => Sys2Proof.Machine.execFollowUpRx p seq origin corr source s
  | .delayReqRx p seq corr requester st => Sys2Proof.Machine.execDelayReqRx p seq corr requester st s
  | .delayRespRx p seq t4 corr => Sys2Proof.Machine.execDelayRespRx p seq t4 corr s
  | .pdelayReqRx p seq corr requester domain st => Sys2Proof.Machine.execPdelayReqRx p seq corr requester domain st s
  | .pdelayRespRx p seq twoStep t2 corr st => Sys2Proof.Machine.execPdelayRespRx p seq twoStep t2 corr st s
  | .pdelayRespFollowUpRx p seq t3 corr => Sys2Proof.Machine.execPdelayRespFollowUpRx p seq t3 corr s
  | .announceRx p source m => Sys2Proof.Machine.execAnnounceRx p source m s
  | .signalingRx p up => Sys2Proof.Machine.execSignalingRx p up s
  | .ptpManagementRx p bytes st => Sys2Proof.Machine.execPtpManagementRx p bytes st s
  | .syncTx p => Sys2Proof.Machine.execSyncTx p s
  | .delayReqTx p => Sys2Proof.Machine.execDelayReqTx p s
  | .delayRespTx p => Sys2Proof.Machine.execDelayRespTx p s
  | .pdelayRespTx p => Sys2Proof.Machine.execPdelayRespTx p s
  | .announceTx p => Sys2Proof.Machine.execAnnounceTx p s
  | .l1SyncTx p => Sys2Proof.Machine.execL1SyncTx p s
  | .announceReceiptTimeout p => Sys2Proof.Machine.execAnnounceReceiptTimeout p s
  | .syncReceiptLoss p => Sys2Proof.Machine.execSyncReceiptLoss p s
  | .esmcPduRx p ssm enhanced => Sys2Proof.Machine.execEsmcPduRx p ssm enhanced s
  | .esmcInformationTx p => Sys2Proof.Machine.execEsmcInformationTx p s
  | .esmcEventTx p => Sys2Proof.Machine.execEsmcEventTx p s
  | .esmcRxTimeout p => Sys2Proof.Machine.execEsmcRxTimeout p s
  | .hostLinkRecordCmd p => Sys2Proof.Machine.execHostLinkRecordCmd p s
  | .plyRelockWindowExpiry n => Sys2Proof.Machine.execPlyRelockWindowExpiry n s
  | .relockSyncPairTx n => Sys2Proof.Machine.execRelockSyncPairTx n s
  | .plySyncPairTimeout n => Sys2Proof.Machine.execPlySyncPairTimeout n s
  | .pathStepDecisionSplit p => Sys2Proof.Machine.execPathStepDecisionSplit p s
  | .pathStepDecisionReplace p => Sys2Proof.Machine.execPathStepDecisionReplace p s
  | .pathStepAutoDecision p => Sys2Proof.Machine.execPathStepAutoDecision p s
  | .refinEdgeStamp n e => Sys2Proof.Machine.execRefinEdgeStamp n e s
  | .refinLabelApply n => Sys2Proof.Machine.execRefinLabelApply n s
  | .refinLabelClear n => Sys2Proof.Machine.execRefinLabelClear n s
  | .hostRefCmd => Sys2Proof.Machine.execHostRefCmd s
  | .refinPresenceTimeout n => Sys2Proof.Machine.execRefinPresenceTimeout n s
  | .hostRefIntervalExpiry => Sys2Proof.Machine.execHostRefIntervalExpiry s
  | .freqMonitorReport k at_ => Sys2Proof.Machine.execFreqMonitorReport k at_ s
  | .qualifyTimeElapsed k => Sys2Proof.Machine.execQualifyTimeElapsed k s
  | .refHoldOffExpiry k => Sys2Proof.Machine.execRefHoldOffExpiry k s
  | .switchSettleComplete => Sys2Proof.Machine.execSwitchSettleComplete s
  | .switchTimeout => Sys2Proof.Machine.execSwitchTimeout s
  | .waitToRestoreExpiry k => Sys2Proof.Machine.execWaitToRestoreExpiry k s
  | .hostRefSelectCmd => Sys2Proof.Machine.execHostRefSelectCmd s
  | .holdoverBin => Sys2Proof.Machine.execHoldoverBin s
  | .holdoverEstimateUpdate => Sys2Proof.Machine.execHoldoverEstimateUpdate s
  | .steeredSynthLoss => Sys2Proof.Machine.execSteeredSynthLoss s
  | .steeredSynthLock => Sys2Proof.Machine.execSteeredSynthLock s
  | .fixedSynthLoss => Sys2Proof.Machine.execFixedSynthLoss s
  | .plinthLoss => Sys2Proof.Machine.execPlinthLoss s
  | .plinthReturn => Sys2Proof.Machine.execPlinthReturn s
  | .bothSynthsUnlocked => Sys2Proof.Machine.execBothSynthsUnlocked s
  | .alignmentLineLock n shift tap => Sys2Proof.Machine.execAlignmentLineLock n shift tap s
  | .alignmentLineLockLoss n => Sys2Proof.Machine.execAlignmentLineLockLoss n s
  | .outputRealignArm => Sys2Proof.Machine.execOutputRealignArm s
  | .outputRealignCancel => Sys2Proof.Machine.execOutputRealignCancel s
  | .pulseRisingEdge n t => Sys2Proof.Machine.execPulseRisingEdge n t s
  | .pulseFallingEdge n => Sys2Proof.Machine.execPulseFallingEdge n s
  | .evinEdge n rising tc tap blanked => Sys2Proof.Machine.execEvinEdge n rising tc tap blanked s
  | .mrefStampConversion n j before after => Sys2Proof.Machine.execMrefStampConversion n j before after s
  | .measurementTimeout n => Sys2Proof.Machine.execMeasurementTimeout n s
  | .evinPinFault n status => Sys2Proof.Machine.execEvinPinFault n status s
  | .evinSwapCheck n edges high => Sys2Proof.Machine.execEvinSwapCheck n edges high s
  | .mrefPresent epoch => Sys2Proof.Machine.execMrefPresent epoch s
  | .mrefAbsent => Sys2Proof.Machine.execMrefAbsent s
  | .freqGateOne n => Sys2Proof.Machine.execFreqGateOne n s
  | .freqGateContinuous n => Sys2Proof.Machine.execFreqGateContinuous n s
  | .freqGateStop n => Sys2Proof.Machine.execFreqGateStop n s
  | .freqGateClose n => Sys2Proof.Machine.execFreqGateClose n s
  | .evinStampRead n => Sys2Proof.Machine.execEvinStampRead n s
  | .evinResultHeaderRead n => Sys2Proof.Machine.execEvinResultHeaderRead n s
  | .calBinRunCmd => Sys2Proof.Machine.execCalBinRunCmd s
  | .calPortRunCmd => Sys2Proof.Machine.execCalPortRunCmd s
  | .calRunAbort => Sys2Proof.Machine.execCalRunAbort s
  | .histogramComplete target h1 h2 => Sys2Proof.Machine.execHistogramComplete target h1 h2 s
  | .calCollectLimitExpiry target => Sys2Proof.Machine.execCalCollectLimitExpiry target s
  | .calPortNextCmd => Sys2Proof.Machine.execCalPortNextCmd s
  | .calLoopPhaseComplete => Sys2Proof.Machine.execCalLoopPhaseComplete s
  | .calMeasuringPhaseComplete => Sys2Proof.Machine.execCalMeasuringPhaseComplete s
  | .temperatureTrigger => Sys2Proof.Machine.execTemperatureTrigger s
  | .calStepCollectSignal => Sys2Proof.Machine.execCalStepCollectSignal s
  | .calStepCollectDither => Sys2Proof.Machine.execCalStepCollectDither s
  | .calStepEvaluate => Sys2Proof.Machine.execCalStepEvaluate s
  | .calStepCommitTable => Sys2Proof.Machine.execCalStepCommitTable s
  | .calStepDiscard => Sys2Proof.Machine.execCalStepDiscard s
  | .calStepTrim => Sys2Proof.Machine.execCalStepTrim s
  | .calStepPortLoop => Sys2Proof.Machine.execCalStepPortLoop s
  | .calStepPortMeasure => Sys2Proof.Machine.execCalStepPortMeasure s
  | .calStepCommitPort => Sys2Proof.Machine.execCalStepCommitPort s
  | .frameRxStart p bytes codeErr st => Sys2Proof.Machine.execFrameRxStart p bytes codeErr st s
  | .pipelineEntry e => Sys2Proof.Machine.execPipelineEntry e s
  | .replication pipe t => Sys2Proof.Machine.execReplication pipe t s
  | .oversizeTruncation p => Sys2Proof.Machine.execOversizeTruncation p s
  | .frameRxEnd p => Sys2Proof.Machine.execFrameRxEnd p s
  | .cutThroughStart p t marker bits => Sys2Proof.Machine.execCutThroughStart p t marker bits s
  | .learnQueueRead => Sys2Proof.Machine.execLearnQueueRead s
  | .macAgeingVisit => Sys2Proof.Machine.execMacAgeingVisit s
  | .tableOpRead => Sys2Proof.Machine.execTableOpRead s
  | .tableOpWrite => Sys2Proof.Machine.execTableOpWrite s
  | .tableOpInsert => Sys2Proof.Machine.execTableOpInsert s
  | .tableOpDelete => Sys2Proof.Machine.execTableOpDelete s
  | .tableOpSearch => Sys2Proof.Machine.execTableOpSearch s
  | .tableOpFlush => Sys2Proof.Machine.execTableOpFlush s
  | .tableOpComplete => Sys2Proof.Machine.execTableOpComplete s
  | .hpRxDelivery ring err => Sys2Proof.Machine.execHpRxDelivery ring err s
  | .transmitSelection p t marker bits => Sys2Proof.Machine.execTransmitSelection p t marker bits s
  | .frameTxEnd p t => Sys2Proof.Machine.execFrameTxEnd p t s
  | .gateEntryStart p t => Sys2Proof.Machine.execGateEntryStart p t s
  | .launchTimeReached p t => Sys2Proof.Machine.execLaunchTimeReached p t s
  | .gateOpReadArmature => Sys2Proof.Machine.execGateOpReadArmature s
  | .gateOpReadMaquette => Sys2Proof.Machine.execGateOpReadMaquette s
  | .gateOpWriteMaquette => Sys2Proof.Machine.execGateOpWriteMaquette s
  | .maquetteStreamRead => Sys2Proof.Machine.execMaquetteStreamRead s
  | .maquetteStreamWrite => Sys2Proof.Machine.execMaquetteStreamWrite s
  | .maquetteCopy => Sys2Proof.Machine.execMaquetteCopy s
  | .maquetteCopyComplete => Sys2Proof.Machine.execMaquetteCopyComplete s
  | .maquetteSwapArm => Sys2Proof.Machine.execMaquetteSwapArm s
  | .maquetteSwapCancel => Sys2Proof.Machine.execMaquetteSwapCancel s
  | .pauseFrameRx p quanta => Sys2Proof.Machine.execPauseFrameRx p quanta s
  | .pfcFrameRx p vector times => Sys2Proof.Machine.execPfcFrameRx p vector times s
  | .pauseTimerExpiry p prio => Sys2Proof.Machine.execPauseTimerExpiry p prio s
  | .xoffRepeat p prio => Sys2Proof.Machine.execXoffRepeat p prio s
  | .pauseFrameTx p t => Sys2Proof.Machine.execPauseFrameTx p t s
  | .reelStart => Sys2Proof.Machine.execReelStart s
  | .reelStop => Sys2Proof.Machine.execReelStop s
  | .reelResume => Sys2Proof.Machine.execReelResume s
  | .reelTriggerCmd => Sys2Proof.Machine.execReelTriggerCmd s
  | .reelRead => Sys2Proof.Machine.execReelRead s
  | .statSnapshot p => Sys2Proof.Machine.execStatSnapshot p s
  | .statPeek p => Sys2Proof.Machine.execStatPeek p s
  | .signalDetect l => Sys2Proof.Machine.execSignalDetect l s
  | .lossOfSignal l => Sys2Proof.Machine.execLossOfSignal l s
  | .signalHoldElapsed l => Sys2Proof.Machine.execSignalHoldElapsed l s
  | .cdrLock l => Sys2Proof.Machine.execCdrLock l s
  | .cdrLockLoss l => Sys2Proof.Machine.execCdrLockLoss l s
  | .adaptationConverged l coeffs => Sys2Proof.Machine.execAdaptationConverged l coeffs s
  | .alignmentFound l rxSlip rxGearbox position inverted => Sys2Proof.Machine.execAlignmentFound l rxSlip rxGearbox position inverted s
  | .alignHuntTimeout l => Sys2Proof.Machine.execAlignHuntTimeout l s
  | .alignmentLoss l errors => Sys2Proof.Machine.execAlignmentLoss l errors s
  | .highBerOnset l errors => Sys2Proof.Machine.execHighBerOnset l errors s
  | .lanePllLock q pll => Sys2Proof.Machine.execLanePllLock q pll s
  | .lanePllLockLoss q pll => Sys2Proof.Machine.execLanePllLockLoss q pll s
  | .portLinkUp p sgmii halfDuplex => Sys2Proof.Machine.execPortLinkUp p sgmii halfDuplex s
  | .portLinkDown p => Sys2Proof.Machine.execPortLinkDown p s
  | .laneHostCoeffCmd l => Sys2Proof.Machine.execLaneHostCoeffCmd l s
  | .loopbackBeaconTx p => Sys2Proof.Machine.execLoopbackBeaconTx p s
  | .loopbackBeaconRx p source => Sys2Proof.Machine.execLoopbackBeaconRx p source s
  | .loopCheckHoldExpiry p => Sys2Proof.Machine.execLoopCheckHoldExpiry p s
  | .loopbackClear p => Sys2Proof.Machine.execLoopbackClear p s
  | .ptClearCmd l => Sys2Proof.Machine.execPtClearCmd l s
  | .ptInjectCmd l => Sys2Proof.Machine.execPtInjectCmd l s
  | .ptCheckerLock l bits errors => Sys2Proof.Machine.execPtCheckerLock l bits errors s
  | .ptCheckerLockLoss l bits errors => Sys2Proof.Machine.execPtCheckerLockLoss l bits errors s
  | .laneTxSleep l => Sys2Proof.Machine.execLaneTxSleep l s
  | .laneTxWake l => Sys2Proof.Machine.execLaneTxWake l s
  | .laneRxSleep l => Sys2Proof.Machine.execLaneRxSleep l s
  | .laneRxWake l => Sys2Proof.Machine.execLaneRxWake l s
  | .nqThinWindow q bytes => Sys2Proof.Machine.execNqThinWindow q bytes s
  | .nqLaneSetBlockRx q txSet txAt rxGood rxAck seq => Sys2Proof.Machine.execNqLaneSetBlockRx q txSet txAt rxGood rxAck seq s
  | .nqTxAtMarker q rx => Sys2Proof.Machine.execNqTxAtMarker q rx s
  | .nqLaneLoss q lane frames => Sys2Proof.Machine.execNqLaneLoss q lane frames s
  | .nqMarkerLockLoss q lane => Sys2Proof.Machine.execNqMarkerLockLoss q lane s
  | .nqRestoreHoldExpiry q lane => Sys2Proof.Machine.execNqRestoreHoldExpiry q lane s
  | .checkerError u => Sys2Proof.Machine.execCheckerError u s
  | .selfTestCycleComplete u failed corrected uncorrectable => Sys2Proof.Machine.execSelfTestCycleComplete u failed corrected uncorrectable s
  | .isolatedSelfTestComplete u failed => Sys2Proof.Machine.execIsolatedSelfTestComplete u failed s
  | .redReturnCmd u => Sys2Proof.Machine.execRedReturnCmd u s
  | .redSwitchCmd pair => Sys2Proof.Machine.execRedSwitchCmd pair s
  | .revertHoldExpiry pair => Sys2Proof.Machine.execRevertHoldExpiry pair s
  | .coreRegisterLoad core => Sys2Proof.Machine.execCoreRegisterLoad core s
  | .fwStageDataWrite bytes => Sys2Proof.Machine.execFwStageDataWrite bytes s
  | .fwVerify => Sys2Proof.Machine.execFwVerify s
  | .fwVerifyComplete => Sys2Proof.Machine.execFwVerifyComplete s
  | .fwArm => Sys2Proof.Machine.execFwArm s
  | .fwCancel => Sys2Proof.Machine.execFwCancel s
  | .fwWriteFlash => Sys2Proof.Machine.execFwWriteFlash s
  | .fwStandbyLoaded ok => Sys2Proof.Machine.execFwStandbyLoaded ok s
  | .fwFlashWriteComplete ok => Sys2Proof.Machine.execFwFlashWriteComplete ok s
  | .mdpDatagramRx p frame => Sys2Proof.Machine.execMdpDatagramRx p frame s
  | .mdpOpen => Sys2Proof.Machine.execMdpOpen s
  | .mdpProve => Sys2Proof.Machine.execMdpProve s
  | .mdpClose => Sys2Proof.Machine.execMdpClose s
  | .mdpKeepalive => Sys2Proof.Machine.execMdpKeepalive s
  | .mdpStatus => Sys2Proof.Machine.execMdpStatus s
  | .mdpRead => Sys2Proof.Machine.execMdpRead s
  | .mdpWrite => Sys2Proof.Machine.execMdpWrite s
  | .mdpDescribe => Sys2Proof.Machine.execMdpDescribe s
  | .mdpSegReadInit => Sys2Proof.Machine.execMdpSegReadInit s
  | .mdpSegRead => Sys2Proof.Machine.execMdpSegRead s
  | .mdpSegWriteInit => Sys2Proof.Machine.execMdpSegWriteInit s
  | .mdpSegWrite => Sys2Proof.Machine.execMdpSegWrite s
  | .mdpSegAbort => Sys2Proof.Machine.execMdpSegAbort s
  | .arpRequestRx p frame => Sys2Proof.Machine.execArpRequestRx p frame s
  | .neighbourSolicitationRx p frame => Sys2Proof.Machine.execNeighbourSolicitationRx p frame s
  | .proveWaitTimeout slot => Sys2Proof.Machine.execProveWaitTimeout slot s
  | .mdpSessionTimeout slot => Sys2Proof.Machine.execMdpSessionTimeout slot s
  | .authLockoutExpiry addr => Sys2Proof.Machine.execAuthLockoutExpiry addr s
  | .mdpKeyWrite level key => Sys2Proof.Machine.execMdpKeyWrite level key s
  | .mbRead n => Sys2Proof.Machine.execMbRead n s
  | .mbWrite n => Sys2Proof.Machine.execMbWrite n s
  | .mbDescribe n => Sys2Proof.Machine.execMbDescribe n s
  | .mbSegReadInit n => Sys2Proof.Machine.execMbSegReadInit n s
  | .mbSegRead n => Sys2Proof.Machine.execMbSegRead n s
  | .mbSegWriteInit n => Sys2Proof.Machine.execMbSegWriteInit n s
  | .mbSegWrite n => Sys2Proof.Machine.execMbSegWrite n s
  | .mbSegAbort n => Sys2Proof.Machine.execMbSegAbort n s
  | .mbOperationComplete n => Sys2Proof.Machine.execMbOperationComplete n s
  | .directMapWrite t v => Sys2Proof.Machine.execDirectMapWrite t v s
  | .benigWindowWrite t lo hi => Sys2Proof.Machine.execBenigWindowWrite t lo hi s
  | .registerWrite t v => Sys2Proof.Machine.execRegisterWrite t v s
  | .evAckWrite n v => Sys2Proof.Machine.execEvAckWrite n v s
  | .ringTailWrite ring v => Sys2Proof.Machine.execRingTailWrite ring v s
  | .ringEnable ring => Sys2Proof.Machine.execRingEnable ring s
  | .ringDisable ring => Sys2Proof.Machine.execRingDisable ring s
  | .ringDisableComplete ring => Sys2Proof.Machine.execRingDisableComplete ring s
  | .txDescriptorFetch ring x bytes err t => Sys2Proof.Machine.execTxDescriptorFetch ring x bytes err t s
  | .ringAttentionAck ring v => Sys2Proof.Machine.execRingAttentionAck ring v s
  | .attentionCoalesceExpiry ring => Sys2Proof.Machine.execAttentionCoalesceExpiry ring s
  | .perfBankSnap b => Sys2Proof.Machine.execPerfBankSnap b s
  | .perfCounterConfigWrite b k v => Sys2Proof.Machine.execPerfCounterConfigWrite b k v s
  | .perfBankSnapshotRead b => Sys2Proof.Machine.execPerfBankSnapshotRead b s
  | .perfBankPeek b => Sys2Proof.Machine.execPerfBankPeek b s
  | .samplingInterrupt b k pc user slot => Sys2Proof.Machine.execSamplingInterrupt b k pc user slot s
  | .perfSampleRead => Sys2Proof.Machine.execPerfSampleRead s
  | .sysDone stores cycles => Sys2Proof.Machine.execSysDone stores cycles s
  | .sysTime buffer stores cycles => Sys2Proof.Machine.execSysTime buffer stores cycles s
  | .sysRead object buffer max stores cycles => Sys2Proof.Machine.execSysRead object buffer max stores cycles s
  | .sysWrite object buffer len stores cycles => Sys2Proof.Machine.execSysWrite object buffer len stores cycles s
  | .sysPerf counter buffer stores cycles => Sys2Proof.Machine.execSysPerf counter buffer stores cycles s
  | .sysBudget stores cycles => Sys2Proof.Machine.execSysBudget stores cycles s
  | .sysLog buffer len stores cycles => Sys2Proof.Machine.execSysLog buffer len stores cycles s
  | .spoolLogRead => Sys2Proof.Machine.execSpoolLogRead s
  | .powerOnReset => Sys2Proof.Machine.execPowerOnReset s
  | .resetNAssert => Sys2Proof.Machine.execResetNAssert s
  | .supplyReset => Sys2Proof.Machine.execSupplyReset s
  | .deviceResetCmd => Sys2Proof.Machine.execDeviceResetCmd s
  | .resetRelease straps => Sys2Proof.Machine.execResetRelease straps s
  | .perstAssert => Sys2Proof.Machine.execPerstAssert s
  | .pcieLinkTraining => Sys2Proof.Machine.execPcieLinkTraining s
  | .bootImageReadComplete record0 record1 slot0 slot1 => Sys2Proof.Machine.execBootImageReadComplete record0 record1 slot0 slot1 s
  | .serverReady => Sys2Proof.Machine.execServerReady s
  | .standbyReturnAtBoot => Sys2Proof.Machine.execStandbyReturnAtBoot s
  | .deviceLevelFault cause core => Sys2Proof.Machine.execDeviceLevelFault cause core s
  | .deviceRestart configBad => Sys2Proof.Machine.execDeviceRestart configBad s
  | .deviceRestartCmd => Sys2Proof.Machine.execDeviceRestartCmd s
  | .configLostAck => Sys2Proof.Machine.execConfigLostAck s
  | .thermalSample temps lasting => Sys2Proof.Machine.execThermalSample temps lasting s
  | .supplySample mv lasting => Sys2Proof.Machine.execSupplySample mv lasting s
  | .pinFaultDetect group n status => Sys2Proof.Machine.execPinFaultDetect group n status s
  | .shortRetry o cleared => Sys2Proof.Machine.execShortRetry o cleared s
  | .dramEccError stack uncorrectable at_ => Sys2Proof.Machine.execDramEccError stack uncorrectable at_ s
  | .dramScrub corrected0 corrected1 => Sys2Proof.Machine.execDramScrub corrected0 corrected1 s
  | .fixedSynthLock => Sys2Proof.Machine.execFixedSynthLock s
  | .localRegisterRead t => Sys2Proof.Machine.execLocalRegisterRead t s
  | .deepStoreTrainingComplete ok => Sys2Proof.Machine.execDeepStoreTrainingComplete ok s
  | .fecUncorrectableCodeword l corrected => Sys2Proof.Machine.execFecUncorrectableCodeword l corrected s
  | .preMasterQualificationTimeout p => Sys2Proof.Machine.execPreMasterQualificationTimeout p s

end Sys2Proof.Machine
end

