-- ==== Sys2Proof/Safety.lean ====
section
/-! DEFINITION. What claims say about a run: which parts of the block a command leaves alone, and the order the block's own
stores are in. -/

namespace Sys2Proof.Machine

/-- The object dictionary, the registers outside it and the MDP keys are stored in canonical form: keys rising, and nothing
listed that reads the same unlisted, so that equal contents are equal data. -/
def soundIn (objs : List (Nat × Val)) (regs : List (Nat × Nat)) (keys : List (Nat × List Byte)) : Prop :=
  Sparse.wf objDefault objs = true ∧ Sparse.wf (fun _ => 0) regs = true ∧ Sparse.wf (fun _ => []) keys = true

/-- The stores of a block are in canonical form. -/
def Dev.sound (d : Dev) : Prop := soundIn d.objs d.regs d.dict.keys

/-- How many Turn numbers are behind the block: one more than that of the last Turn started (R39). -/
def TurnSt.reached (t : TurnSt) : Nat :=
  match t.last with
  | some l => l + 1
  | none => 0

/-- The next Turn to start has a number above that of every Turn started (R39). -/
def Dev.ordered (d : Dev) : Prop := d.turn.reached ≤ d.turn.next

/-- What was so before a command: UptimeNs, the Turn numbers reached, and the count of Turns started. -/
structure Mark where
  /-- UptimeNs (R91). -/
  up : Nat
  /-- The Turn numbers reached (R39). -/
  turn : Nat
  /-- The count of Turns started. -/
  started : Nat

/-- What is so now. -/
def Dev.mark (d : Dev) : Mark := ⟨d.time.uptime, d.turn.reached, d.turn.started⟩

/-- Since `m`, and unless a reset began, the uptime has not gone back (R91), the Turn number has not gone back, and a Turn
that started has a higher number (R39). -/
def Dev.since (m : Mark) (d : Dev) : Prop :=
  (m.up ≤ d.time.uptime ∧ m.turn ≤ d.turn.reached ∧ (d.turn.started = m.started ∨ m.turn < d.turn.reached))
    ∨ d.boot.released = false

end Sys2Proof.Machine
end

