-- ==== Sys2Proof/Certificates/Slice0/Obligations.lean ====
section
/-! DEFINITION. The statements for the provers. -/

open Sys2Proof Sys2Proof.Machine

/-- A step takes the command at the front of the queue and runs it with the rest of the queue. -/
def Obligations.StepRunsTheFrontCommand : Prop :=
  ∀ (d : Dev) (c : Instr) (rest : List Instr), step ⟨d, c :: rest⟩ = exec c ⟨d, rest⟩

/-- The choice of log entry 4: with no command waiting, one cycle of the clocks passes once the reset has ended. UptimeNs
grows by the length of that cycle, kept to 2^-48 ns, and no object changes. -/
def Obligations.IdleStepIsOneClockCycle : Prop :=
  ∀ d : Dev,
    (d.boot.released = false → step ⟨d, []⟩ = .next ⟨d, []⟩) ∧
    (d.boot.released = true → ∃ e, step ⟨d, []⟩ = .next ⟨e, []⟩ ∧
      e.time.uptime * 2 ^ 48 + e.time.upRest = d.time.uptime * 2 ^ 48 + d.time.upRest +
        (if d.time.tclkSteered = true then 2 ^ 97 / (2 ^ 48 + d.rd (inst Obj.NcoWord d.active)).toNat
         else if d.time.perPlinth = true then 40 * 2 ^ 48 else 2 * 2 ^ 48) ∧ e.time.upRest < 2 ^ 48 ∧
      (∀ k, e.rdV k = d.rdV k) ∧ e.regs = d.regs ∧ e.turn = d.turn)

/-- What reset leaves, by R36, R37, R91 and R561. -/
def Obligations.ResetLeavesTheBlockWaiting : Prop :=
  State.reset.pending = [] ∧ State.reset.dev.time.uptime = 0 ∧ State.reset.dev.turn.last = none ∧
  State.reset.dev.boot.released = false ∧
  (∀ n < 64, State.reset.dev.rdN (inst Obj.EventStatus n) = 0 ∧ State.reset.dev.rd (inst Obj.EventRoute n) = 0 ∧
    State.reset.dev.rdB (inst Obj.EventEnable n) = (n == 63)) ∧
  State.reset.dev.rd (inst Obj.SpindleState 0) = 0 ∧ State.reset.dev.rd (inst Obj.SpindleState 1) = 0 ∧
  State.reset.dev.rdB Obj.TimeValid = false ∧ State.reset.dev.rdN Obj.TurnPeriod = 62500 ∧
  State.reset.dev.rd Obj.TurnAnchorTime = 0 ∧ State.reset.dev.rdN Obj.TurnAnchorNumber = 0 ∧
  ∀ n : Nat, State.reset.dev.boundaryTime n = n * 62500 * (2 * nsT)

/-- The start of the invariant that EveryStepKeepsStoresAndTurnOrder keeps. -/
def Obligations.ResetStateIsSoundAndOrdered : Prop :=
  State.reset.dev.sound ∧ State.reset.dev.ordered

/-- An invariant every step keeps: canonical stores, so that equal contents are equal data, and a next Turn whose number is above
that of every Turn started. -/
def Obligations.EveryStepKeepsStoresAndTurnOrder : Prop :=
  ∀ s t : State, s.dev.sound → s.dev.ordered → step s = .next t → t.dev.sound ∧ t.dev.ordered

/-- R39. The number of the last Turn started never falls, and a Turn that starts has a higher one; only a reset starts the
numbers anew. -/
def Obligations.TurnNumbersIncreaseStrictly : Prop :=
  ∀ s t : State, s.dev.sound → s.dev.ordered → step s = .next t → t.dev.boot.released = true →
    s.dev.turn.reached ≤ t.dev.turn.reached ∧
    (t.dev.turn.started ≠ s.dev.turn.started → s.dev.turn.reached < t.dev.turn.reached)

/-- R91: no command changes UptimeNs but a reset; time only adds to it. -/
def Obligations.UptimeNeverGoesBack : Prop :=
  ∀ s t : State, s.dev.sound → s.dev.ordered → step s = .next t →
    s.dev.time.uptime ≤ t.dev.time.uptime ∨ t.dev.boot.released = false

/-- No command stops the block, and none touches the queue: completion for every constructor at once. -/
def Obligations.EveryCommandAnswersAndLeavesTheQueue : Prop :=
  ∀ (c : Instr) (d : Dev) (q : List Instr), ∃ e, exec c ⟨d, q⟩ = .next ⟨e, q⟩

/-- Reading after writing in the object dictionary. Equal contents are equal stores. -/
def Obligations.ObjectsReadWhatWasWritten : Prop :=
  ∀ (d e : Dev) (k : Nat) (v : Val), d.sound → e.sound →
    (d.wrV k v).rdV k = v ∧ (∀ j, j ≠ k → (d.wrV k v).rdV j = d.rdV j) ∧ (d.wrV k v).sound ∧
    ((∀ j, d.rdV j = e.rdV j) → d.objs = e.objs)

/-- R557 and the first sentence of R558, over the shared operation that every event goes through. -/
def Obligations.EventLatchSaturatesAndItsSequenceReturns : Prop :=
  ∀ st : Nat,
    latchRaise st / 2 ^ 31 = 1 ∧ latchRaise st % 4096 = (st + 1) % 4096 ∧
    latchRaise st / 2 ^ 16 % 256 = min 255 (st / 2 ^ 16 % 256 + 1) ∧
    ((latchRaise^[4096]) st) % 4096 = st % 4096 ∧ ((latchRaise^[4096]) st) / 2 ^ 16 % 256 = 255

/-- R557 and R560, and EV18 of R47. The sources recorded are raised by work item 5, in the order they were recorded. -/
def Obligations.InstantAndTurnEventsAreRaised : Prop :=
  (∀ (d : Dev) (n : Nat), n < 64 →
    (d.raise n).rdN (inst Obj.EventStatus n) = latchRaise (d.rdN (inst Obj.EventStatus n)) ∧
    (d.raise n).rdN (inst Obj.EventRaiseTotal n) = (d.rdN (inst Obj.EventRaiseTotal n) + 1) % 2 ^ 32 ∧
    (d.raise n).rd (inst Obj.EventLastRaiseTurn n) = d.rd Obj.TurnNumber ∧
    (∀ k, k ≠ inst Obj.EventStatus n → k ≠ inst Obj.EventRaiseTotal n → k ≠ inst Obj.EventLastRaiseTurn n →
      (d.raise n).rdV k = d.rdV k) ∧
    (d.raise n).regs = d.regs ∧ (d.raise n).turn = d.turn ∧ (d.raise n).time = d.time) ∧
  (∀ (d : Dev) (q : List Instr), 5 ∈ d.turn.openItems →
    exec .eventEvaluation ⟨d, q⟩ = .next ⟨((d.turnEvents ++ List.replicate d.turn.owed 18).foldl (fun (e : Dev) n => e.raise n)
      { d with turnEvents := [], turn := { d.turn with owed := 0 } }).closeItem 5, q⟩) ∧
  (∀ d : Dev, d.turn.owedAt ≠ some d.turn.started → d.owesEvent.turn.owed = d.turn.owed + 1 ∧
    d.owesEvent.owesEvent = d.owesEvent) ∧
  ∀ (d : Dev) (q : List Instr), 5 ∉ d.turn.openItems → exec .eventEvaluation ⟨d, q⟩ = .next ⟨d, q⟩

/-- R51, R52, R54 to R56 and R80. -/
def Obligations.TurnChangesAreArmedOrRefused : Prop :=
  ∀ (d : Dev) (q : List Instr),
    (d.canArm (d.rdN Obj.TurnChangeAt) = true → d.turn.queue.all (fun c => !c.isParam) = true →
      d.turn.queue.all (fun c => !(c.isStep && c.turn == d.rdN Obj.TurnChangeAt)) = true →
      exec .turnChangeContinuous ⟨d, q⟩ = .next ⟨{ d.wr Obj.TurnChangeCmd 1 with
        turn := { d.turn with queue := d.turn.queue ++ [⟨d.rdN Obj.TurnChangeAt, .period (d.rdN Obj.TurnStagedPeriod)⟩] } }, q⟩ ∧
      (d.rdN Obj.TurnChangeAt ≤ firstAtOf (d.rdN Obj.TurnStagedPeriod) (d.rd Obj.TurnStagedAnchorTime)
          (d.rdN Obj.TurnStagedAnchorNumber) (d.boundaryTime (d.rdN Obj.TurnChangeAt)) →
        exec .turnReanchor ⟨d, q⟩ = .next ⟨{ d.wr Obj.TurnChangeCmd 1 with
          turn := { d.turn with queue := d.turn.queue ++ [⟨d.rdN Obj.TurnChangeAt, .reanchor (d.rdN Obj.TurnStagedPeriod)
            (d.rd Obj.TurnStagedAnchorTime) (d.rdN Obj.TurnStagedAnchorNumber)⟩] } }, q⟩) ∧
      (firstAtOf (d.rdN Obj.TurnStagedPeriod) (d.rd Obj.TurnStagedAnchorTime)
          (d.rdN Obj.TurnStagedAnchorNumber) (d.boundaryTime (d.rdN Obj.TurnChangeAt)) < d.rdN Obj.TurnChangeAt →
        exec .turnReanchor ⟨d, q⟩ = .next ⟨d.wr Obj.TurnChangeCmd 0x80, q⟩)) ∧
    (d.canArm (d.rdN Obj.TurnChangeAt) = false ∨ d.turn.queue.any Change.isParam = true →
      exec .turnChangeContinuous ⟨d, q⟩ = .next ⟨d.wr Obj.TurnChangeCmd 0x80, q⟩ ∧
      exec .turnReanchor ⟨d, q⟩ = .next ⟨d.wr Obj.TurnChangeCmd 0x80, q⟩) ∧
    exec .turnChangeCancel ⟨d, q⟩ = .next ⟨{ d.wr Obj.TurnChangeCmd 0 with
      turn := { d.turn with queue := d.turn.queue.filter fun c => !c.isParam } }, q⟩

/-- R80. -/
def Obligations.ParameterChangeMeetsAPendingStep : Prop :=
  ∀ (d : Dev) (q : List Instr), d.turn.queue.any (fun c => c.isStep && c.turn == d.rdN Obj.TurnChangeAt) = true →
    exec .turnChangeContinuous ⟨d, q⟩ = .next ⟨d.wr Obj.TurnChangeCmd 0x80, q⟩ ∧
    exec .turnReanchor ⟨d, q⟩ = .next ⟨d.wr Obj.TurnChangeCmd 0x80, q⟩

/-- R78, R79, R89 and R93. -/
def Obligations.StepsOfTimeAreArmedOrRefused : Prop :=
  ∀ (d : Dev) (q : List Instr),
    (d.canArm (d.rdN Obj.TimeStepAt) = true → d.turn.queue.all (fun c => !c.isStep && !(c.isParam && c.turn == d.rdN Obj.TimeStepAt)) = true →
      (d.rd Obj.TimeStepValue ≠ 0 → 0 ≤ d.boundaryTime (d.rdN Obj.TimeStepAt) + d.rd Obj.TimeStepValue →
        d.boundaryTime (d.rdN Obj.TimeStepAt) + d.rd Obj.TimeStepValue ≤ maxT →
        exec .timeStepRelative ⟨d, q⟩ = .next ⟨{ d.wr Obj.TimeStepCmd 1 with
          turn := { d.turn with queue := d.turn.queue ++ [⟨d.rdN Obj.TimeStepAt, .stepRel (d.rd Obj.TimeStepValue)⟩] } }, q⟩) ∧
      (0 ≤ d.rd Obj.TimeSetValue → d.rd Obj.TimeSetValue ≤ maxT →
        exec .timeSetAbsolute ⟨d, q⟩ = .next ⟨{ d.wr Obj.TimeStepCmd 1 with
          turn := { d.turn with queue := d.turn.queue ++ [⟨d.rdN Obj.TimeStepAt, .stepAbs (d.rd Obj.TimeSetValue)⟩] } }, q⟩)) ∧
    (d.rd Obj.TimeStepValue = 0 → exec .timeStepRelative ⟨d, q⟩ = .next ⟨d.wr Obj.TimeStepCmd 0x80, q⟩) ∧
    (d.turn.queue.any Change.isInitialStep = false → exec .timeStepCancel ⟨d, q⟩ = .next ⟨{ d.wr Obj.TimeStepCmd 0 with
      turn := { d.turn with queue := d.turn.queue.filter fun c => !c.isStep } }, q⟩) ∧
    (d.turn.queue.any Change.isInitialStep = true → exec .timeStepCancel ⟨d, q⟩ = .next ⟨{ d.wr Obj.TimeStepCmd 0 with
      turn := { d.turn with queue := d.turn.queue.filter fun c => !c.isStep },
      ref := { d.ref with initial := none, cancelled := some d.turn.started } }, q⟩) ∧
    (d.time.snapPending = false → exec .timeSnapshotCmd ⟨d, q⟩ = .next ⟨{ d.wr Obj.TimeSnapshotCmd 1 with
      time := { d.time with snapPending := true } }, q⟩) ∧
    (d.time.snapPending = true → exec .timeSnapshotCmd ⟨d, q⟩ = .next ⟨d, q⟩)

/-- R93 and R94: the snapshot set holds the values of the moment of the capture. -/
def Obligations.SnapshotReassemblesTheTime : Prop :=
  ∀ (d : Dev) (q : List Instr), d.time.snapPending = true → 0 ≤ d.now → d.now < 2 ^ 48 * secT →
    d.rdN Obj.TurnNumber < 2 ^ 64 → d.time.uptime < 2 ^ 64 →
    ∃ e, exec .timeSnapshotCapture ⟨d, q⟩ = .next ⟨e, q⟩ ∧
      (e.rd Obj.SnapActiveSecondsHigh * 2 ^ 32 + e.rd Obj.SnapActiveSecondsLow) * secT
        + e.rd Obj.SnapActiveNanoseconds * nsT + e.rd Obj.SnapActiveFraction = d.now ∧
      e.rdN Obj.SnapTurnHigh * 2 ^ 32 + e.rdN Obj.SnapTurnLow = d.rdN Obj.TurnNumber ∧
      e.rdN Obj.SnapUptimeHigh * 2 ^ 32 + e.rdN Obj.SnapUptimeLow = d.time.uptime ∧
      e.rd Obj.SnapTimeValid = d.rd Obj.TimeValid ∧
      e.rdN Obj.SnapshotStatus = 2 ^ 31 + (d.rdN Obj.SnapshotStatus % 2 ^ 16 + 1) % 2 ^ 16 ∧
      e.rd Obj.TimeSnapshotCmd = 0 ∧
      (∀ k, k / 256 ≠ 0x2010 → k / 256 ≠ 0x2011 → e.rdV k = d.rdV k) ∧
      { e with objs := d.objs } = { d with time := { d.time with snapPending := false } }

/-- R37, R42, R43, R46, R53 and R58. `boundaryChanges` is the shared operation for what is due before work item 0, `cutItems` that for
the items still unfinished. -/
def Obligations.BoundaryStartsTheNextTurn : Prop :=
  ∀ (d : Dev) (q : List Instr) (cclk : Nat) (cs : List PerfCount),
    (d.counting = true → (d.rd Obj.DeviceFaultPhase = 0 ∨ d.rd Obj.DeviceFaultPhase = 2) →
      (let e := (d.reachBoundary cclk cs).when d.turn.running fun e => e.turnEnds cclk
       (e.nextChange e.turn.next = none → exec (.turnBoundary cclk cs) ⟨d, q⟩ = .next ⟨(e.cutItems 2).turnStarts e.turn.next, q⟩) ∧
       (∀ f m, Dev.boundaryChanges (e.turn.queue.length + 1) e.turn.next e = (f, some m) →
         exec (.turnBoundary cclk cs) ⟨d, q⟩ = .next ⟨(f.cutItems 2).turnStarts m, q⟩) ∧
       (∀ f, Dev.boundaryChanges (e.turn.queue.length + 1) e.turn.next e = (f, none) →
         exec (.turnBoundary cclk cs) ⟨d, q⟩ = .next ⟨({ f with turn := { f.turn with upMark := f.time.uptime } } : Dev).showAllGates f.now, q⟩))) ∧
    (d.counting = false ∨ d.rd Obj.DeviceFaultPhase = 1 ∨ d.rd Obj.DeviceFaultPhase = 3 →
      exec (.turnBoundary cclk cs) ⟨d, q⟩ = .next ⟨d, q⟩) ∧
    ∀ m : Nat, (d.opens m).rd Obj.TurnNumber = m ∧ (d.opens m).turn.last = some m ∧ (d.opens m).turn.next = m + 1 ∧
      (d.opens m).turn.openItems = [1, 2, 3, 4, 5, 6, 7, 8, 9, 10, 11, 12] ∧ (d.opens m).turn.gap = false

/-- R37 and R58, over the shared operations of the numbering. -/
def Obligations.BoundariesAreEvenlySpaced : Prop :=
  ∀ (p : Nat) (ta : Int) (na n : Nat) (t : Int), 0 < p →
    boundaryOf p ta na (n + 1) = boundaryOf p ta na n + p * (2 * nsT) ∧ boundaryOf p ta na na = ta ∧
    (ta ≤ t → t ≤ boundaryOf p ta na (firstAtOf p ta na t) ∧
      boundaryOf p ta na (firstAtOf p ta na t) < t + p * (2 * nsT))

/-- R46 to R48 and R61. `abandoned` is what the table of R48 asks for; for items 1, 2, 4, 5, 8, 9 and 10 it adds nothing. -/
def Obligations.OverrunsAreRecordedAndCleared : Prop :=
  (∀ (d : Dev) (q : List Instr) (i : Fin 13) (late : Bool) (x y : PairObs), i.val ∈ d.unfinished →
    exec (.workItemOverrun i ⟨late, x, y⟩) ⟨d, q⟩ = .next ⟨((((((d.wr (inst Obj.OverrunCount i)
      ((d.rdN (inst Obj.OverrunCount i) + 1) % 2 ^ 32 : Nat)).wr (inst Obj.OverrunLastTurn i) (d.rdN Obj.TurnNumber)).wr
      (inst Obj.OverrunCause i) (if late then 2 else 1)).owesEvent).abandoned i x y).closeItem i), q⟩) ∧
  (∀ (d : Dev) (q : List Instr) (i : Fin 13) (late : Bool) (x y : PairObs), i.val ∉ d.unfinished →
    exec (.workItemOverrun i ⟨late, x, y⟩) ⟨d, q⟩ = .next ⟨d, q⟩) ∧
  (∀ (d : Dev) (i : Nat) (x y : PairObs), i ∈ [1, 2, 4, 5, 8, 9, 10] → d.abandoned i x y = d) ∧
  (∀ (d : Dev) (i : Nat), i ∈ d.unfinished ↔ i ∈ d.turn.openItems ∧ d.itemActive i = true) ∧
  ∀ (d : Dev) (q : List Instr) (i : Fin 13), ∃ e, exec (.overrunClear i) ⟨d, q⟩ = .next ⟨e, q⟩ ∧
    e.rd (inst Obj.OverrunCount i) = 0 ∧ e.rd (inst Obj.OverrunLastTurn i) = 0 ∧ e.rd (inst Obj.OverrunCause i) = 0 ∧
    (∀ k, k ≠ inst Obj.OverrunCount i → k ≠ inst Obj.OverrunLastTurn i → k ≠ inst Obj.OverrunCause i → e.rdV k = d.rdV k) ∧
    { e with objs := d.objs } = d

/-- R15, R19 and R22: the first check. -/
def Obligations.BlockCommandsAreCheckedWhenWritten : Prop :=
  ∀ (d : Dev) (q : List Instr) (b : BlockId), b.ok = true →
    (d.mayEnable b = true ∨ d.blk b.kind b.n = 1 ∨ d.blk b.kind b.n = 2 → exec (.blockEnableCmd b) ⟨d, q⟩ =
      .next ⟨{ d.wr b.ctrl 1 with block := { d.block with cmds := setNum d.block.cmds b.ctrl 1 } }, q⟩) ∧
    (d.mayEnable b = false → d.blk b.kind b.n ≠ 1 → d.blk b.kind b.n ≠ 2 →
      exec (.blockEnableCmd b) ⟨d, q⟩ = .next ⟨d.wr b.ctrl 0x80, q⟩) ∧
    ((∀ u, unitOf b = some u → d.unitState u ≠ 3) → exec (.blockDisableCmd b) ⟨d, q⟩ =
      .next ⟨{ d.wr b.ctrl 2 with block := { d.block with cmds := setNum d.block.cmds b.ctrl 2 } }, q⟩) ∧
    (∀ u, unitOf b = some u → d.unitState u = 3 → exec (.blockDisableCmd b) ⟨d, q⟩ = .next ⟨d.wr b.ctrl 0x80, q⟩)

/-- R18, R20, R21 and R25. `blockStarts` and `blockResumes` are what each kind of block does on becoming ENABLED. -/
def Obligations.BlocksLeaveEnabling : Prop :=
  (∀ (d : Dev) (q : List Instr) (b : BlockId) (u : Nat), b.ok = true → unitOf b = some u → d.blk b.kind b.n = 1 →
    d.stopped = false → exec (.readinessLimitExpiry b) ⟨d, q⟩ = .next ⟨d.outOfService u 5, q⟩) ∧
  ∀ (d : Dev) (q : List Instr) (b : BlockId), b.ok = true → unitOf b = none →
    (d.blk b.kind b.n = 1 → d.required b = true → d.stopped = false → (b.kind = .lane → d.laneReady b.n = true) →
      (let e : Dev := { d.wr b.state 2 with block := { d.block with resumed := d.block.resumed.filter (· != b.state) } }
       exec (.blockReady b) ⟨d, q⟩ =
        .next ⟨if d.block.resumed.contains b.state = true then e.blockResumes b else e.blockStarts b, q⟩ ∧
       e.blk b.kind b.n = 2)) ∧
    (d.blk b.kind b.n = 1 → d.required b = true → d.stopped = false →
      exec (.readinessLimitExpiry b) ⟨d, q⟩ = .next ⟨(d.countFault b 0).blockLeaves b 4, q⟩) ∧
    (d.blk b.kind b.n ≠ 1 → exec (.blockReady b) ⟨d, q⟩ = .next ⟨d, q⟩ ∧
      exec (.readinessLimitExpiry b) ⟨d, q⟩ = .next ⟨d, q⟩)

/-- R23. -/
def Obligations.FaultWhileDisablingIsOnlyCounted : Prop :=
  ∀ (d : Dev) (q : List Instr) (b : BlockId) (cause : Nat), b.ok = true →
    (d.blk b.kind b.n = 3 → ∃ e, exec (.blockFault b cause) ⟨d, q⟩ = .next ⟨e, q⟩ ∧ e.objs = d.objs ∧
      e.blk b.kind b.n = 3 ∧ numAt e.block.faults b.state = (numAt d.block.faults b.state + 1) % 2 ^ 32 ∧
      { e with block := d.block } = d ∧
      (b.kind ≠ .spool ∨ d.spool.requests = [] → exec (.disablingComplete b) ⟨e, q⟩ = .next ⟨e.wr b.state 0, q⟩) ∧
      (e.wr b.state 0).blk b.kind b.n = 0) ∧
    (unitOf b = none → d.blk b.kind b.n = 2 ∨ d.blk b.kind b.n = 1 →
      exec (.blockFault b cause) ⟨d, q⟩ = .next ⟨(d.countFault b cause).blockLeaves b 4, q⟩)

/-- R31, R33 and R49. -/
def Obligations.MissedDeadlinesFallBack : Prop :=
  ∀ (d : Dev) (q : List Instr) (f : HostFn),
    (d.fnAwaits f = true → exec (.hostDeadlineMiss f) ⟨d, q⟩ = .next ⟨(d.overrun (fnItem f) 3 (d.rdN Obj.TurnNumber)).fallback f, q⟩) ∧
    (d.fnAwaits f = false → (∀ b, f ≠ .f5 b) → exec (.hostDeadlineMiss f) ⟨d, q⟩ = .next ⟨d, q⟩) ∧
    (∀ b, f = .f5 b → d.fnAwaits f = false → exec (.hostDeadlineMiss f) ⟨d, q⟩ =
      .next ⟨{ d with perf := { d.perf with read := d.perf.read.filter (· != b.val) } }, q⟩) ∧
    fnItem f = (match f with | .f0 _ => 2 | .f1 => 3 | .f2 => 4 | .f3 => 9 | .f4 => 7 | .f5 _ => 6 | .f6 _ => 8) ∧
    d.fallback .f2 = { d with ref := { d.ref with asked := none } } ∧ (∀ b, d.fallback (.f5 b) = d)

/-- R59, R470, R475 and R476. -/
def Obligations.HeartbeatsAndGaps : Prop :=
  ∀ (d : Dev) (q : List Instr) (x y : PairObs),
    (11 ∈ d.turn.openItems → exec (.heartbeatAndComparison x y) ⟨d, q⟩ =
      .next ⟨faultOf ((d.closeItem 11).arbitrateAll x y true), q⟩) ∧
    (11 ∉ d.turn.openItems → exec (.heartbeatAndComparison x y) ⟨d, q⟩ = .next ⟨d, q⟩) ∧
    (d.turn.gap = true → d.stopped = false → exec (.gapHeartbeat x y) ⟨d, q⟩ =
      .next ⟨faultOf ((((d.pairAct 0 (d.rdN Obj.TurnNumber)).1.pairAct 1 (d.rdN Obj.TurnNumber)).1).arbitrateAll x y false), q⟩) ∧
    (d.turn.gap = false → exec (.gapHeartbeat x y) ⟨d, q⟩ = .next ⟨d, q⟩) ∧
    (∀ (e : Dev), faultOf (e, none) = e) ∧ (∀ (e : Dev) c b, faultOf (e, some (c, b)) = deviceFault c b e)

/-- R69: |y| is clamped, and the phase term is reduced first. -/
def Obligations.NcoWordKeepsItsLimit : Prop :=
  ∀ yf yp : Int, (clampWord yf yp).1 + (clampWord yf yp).2 ≤ 56294995342 ∧
    -56294995342 ≤ (clampWord yf yp).1 + (clampWord yf yp).2 ∧
    (-56294995342 ≤ yf + yp → yf + yp ≤ 56294995342 → -56294995342 ≤ yf → yf ≤ 56294995342 → clampWord yf yp = (yf, yp)) ∧
    (-56294995342 ≤ yf → yf ≤ 56294995342 → (clampWord yf yp).1 = yf ∧ |(clampWord yf yp).2| ≤ |yp|) ∧
    (56294995342 < yf → clampWord yf yp = (56294995342, 0)) ∧ (yf < -56294995342 → clampWord yf yp = (-56294995342, 0))

/-- R71, R73, R75, R77, R198, R202 to R205. `freqStep` and `phaseStep` are the two gains of R198. -/
def Obligations.ServoHoldsItsWord : Prop :=
  (∀ (d : Dev) (q : List Instr), d.itemStarts 3 = true →
    (d.steered = true → d.on .servo 0 = true → d.rdB Obj.ModeF1Servo = false →
      (let e : Dev := { d with time := { d.time with hostMisses := 0 } }
       (d.spindleState = 3 ∨ d.spindleState = 4 →
         exec .servoUpdate ⟨d, q⟩ = .next ⟨(e.stageWord (d.rd Obj.HoldoverValue) 0).closeItem 3, q⟩) ∧
       (d.spindleState = 0 → exec .servoUpdate ⟨d, q⟩ =
         .next ⟨(e.stageWord (if d.ref.hasTerm then quot Config.roundsUp d.ref.yf (2 ^ 48) else 0) 0).closeItem 3, q⟩) ∧
       (d.spindleState = 1 ∨ d.spindleState = 2 →
         (let m : Dev := match e.selected with
            | some k => takeMeasurement k e
            | none => e
          let theta : Int := match m.selected with
            | some k => if (m.cand k).measured = m.turn.started ∧ (m.cand k).jumped = false then m.rd (inst Obj.RefPhaseError k)
                else m.carriedTheta
            | none => m.carriedTheta
          let b100 := (ladder (m.rdN Obj.ServoStep)).2.2.2
          let lim := m.slewLimit m.spindleState
          ∃ f, exec .servoUpdate ⟨d, q⟩ = .next ⟨f, q⟩ ∧ f.rd Obj.ServoPhaseError = theta ∧
            f.ref.yf = m.ref.yf + freqStep b100 (m.rdN Obj.TurnPeriod) theta ∧
            (∀ u, u < 2 → (f.spindle u).nextWord =
              some (clampWord (quot Config.roundsUp f.ref.yf (2 ^ 48)) (clampI (-lim) lim (phaseStep b100 theta)))) ∧
            3 ∉ f.turn.openItems)))) ∧
    (d.steered = true → d.servoHost = true → exec .servoUpdate ⟨d, q⟩ = .next ⟨if d.spindleState = 3 ∨ d.spindleState = 4
      then (d.stageWord (d.rd Obj.HoldoverValue) 0).closeItem 3 else d.closeItem 3, q⟩) ∧
    (d.steered = false ∨ d.on .servo 0 = false → exec .servoUpdate ⟨d, q⟩ = .next ⟨d.closeItem 3, q⟩)) ∧
  (∀ (d : Dev) (yf yp : Int), (d.stageWord yf yp).spindle 0 = { d.spindle 0 with nextWord := some (clampWord yf yp) } ∧
    (d.stageWord yf yp).spindle 1 = { d.spindle 1 with nextWord := some (clampWord yf yp) }) ∧
  (∀ (d : Dev) (q : List Instr) (v : Int),
    (d.servoHost = true → exec (.hostNcoPhaseWrite v) ⟨d, q⟩ = .next ⟨{ d.wr Obj.HostNcoPhase v with
      time := { d.time with hostWord := some (d.rd Obj.HostNcoFrequency, v),
                            hostLast := some (d.rd Obj.HostNcoFrequency, v) } }, q⟩) ∧
    (d.servoHost = false → exec (.hostNcoPhaseWrite v) ⟨d, q⟩ = .next ⟨d.wr Obj.HostNcoPhase v, q⟩)) ∧
  (∀ (d : Dev) (q : List Instr) (v : Fin 3), exec (.hostServoStateWrite v) ⟨d, q⟩ =
    .next ⟨{ d.wr Obj.HostServoState (v.val + 1 : Nat) with ref := { d.ref with hostState := some (v.val + 1) } }, q⟩) ∧
  (∀ (d : Dev) (q : List Instr), d.spindleState ≠ 3 → d.spindleState ≠ 4 →
    exec .holdoverEstimateUpdate ⟨d, q⟩ = .next ⟨d, q⟩) ∧
  (∀ (d : Dev) (q : List Instr), d.spindleState = 4 →
    (let t := min (d.rdN Obj.HoldoverElapsed + 1) (2 ^ 32 - 1)
     let grown : Int := (172800 * d.rd Obj.HoldoverUncertainty * t + d.rd Obj.HoldoverAgingRate * t * t) * 1000000000
     exec .holdoverEstimateUpdate ⟨d, q⟩ = .next ⟨(d.wr Obj.HoldoverElapsed t).wr Obj.HoldoverEstimate
       (min (d.ref.e0 + quot Config.roundsUp grown (172800 * 2 ^ 32)) (2 ^ 63 - 1)), q⟩)) ∧
  ∀ (d : Dev) (q : List Instr), exec .holdoverBin ⟨d, q⟩ = .next ⟨{ d with ref := { d.ref with
    bins := if d.ref.binCount = 0 then d.ref.bins else lastN 3600 (d.ref.bins ++
      [⟨d.time.uptime / 1000000000, quot Config.roundsUp d.ref.binSum d.ref.binCount, d.ref.binValid⟩]),
    binSum := 0, binCount := 0, binValid := true } }, q⟩

/-- R43 and R46 for work items 1, 2 and 4 (R123, R132, R193, R202, R206). -/
def Obligations.WorkItemsRunOnceInTheirTurn : Prop :=
  (∀ (d : Dev) (i : Nat), d.itemStarts i = true ↔ i ∈ d.turn.openItems ∧ ∀ j ∈ startsAfter i, j ∉ d.unfinished) ∧
  startsAfter 1 = [] ∧ startsAfter 2 = [1] ∧ startsAfter 4 = [1] ∧ startsAfter 3 = [2, 4] ∧
  ∀ (d : Dev) (q : List Instr),
    (∀ rs : List (Nat × Int × Nat), d.itemStarts 1 = true →
      (let one (e : Dev) (r : Nat × Int × Nat) : Dev :=
         if r.1 < 48 ∧ e.on .whorl r.1 = true ∧ e.rdB (inst Obj.WhorlLocked r.1) = true then
           ((e.wr (inst Obj.WhorlPhase r.1) (r.2.1 % markerT)).wr (inst Obj.WhorlNoise r.1) (r.2.2 % 2 ^ 32 : Nat)).setWhorl r.1
             fun w => w.take (r.2.1 % markerT) e.turn.started
               (match e.turn.before with | some b => b.2 | none => e.rdN Obj.TurnPeriod * 131072)
         else e
       exec (.whorlReadingDelivery rs) ⟨d, q⟩ = .next ⟨(rs.foldl one d).closeItem 1, q⟩)) ∧
    (d.itemStarts 2 = true → exec .linkTimingUpdate ⟨d, q⟩ =
      .next ⟨((d.refineHost.forEach linkUpdatePort (List.range 48)).forEach
        (fun n e => if e.on .ply n then (e.plyTransitions n).plySolve n else e) (List.range 24)).closeItem 2, q⟩) ∧
    (d.itemStarts 4 = true →
      (let e := d.forEach (fun k e => waitKept k (takeMeasurement k (refreshCand k e))) (List.range 101)
       (e.on .refSelector 0 = true → e.rdB Obj.ModeF2RefSelector = false →
         (let f : Dev := match e.selected with
            | some c => if e.refEligible c then { e with ref := { e.ref with lossAt := none } } else e.noteLoss
            | none => e
          exec .referenceSelection ⟨d, q⟩ = .next ⟨({ f with
            ref := { f.ref with next := f.selects, strayed := false, asked := none } } : Dev).initialStep.hostSet.closeItem 4, q⟩)) ∧
       (e.on .refSelector 0 = true → e.rdB Obj.ModeF2RefSelector = true → exec .referenceSelection ⟨d, q⟩ =
         .next ⟨(e.strays true).initialStep.hostSet.closeItem 4, q⟩) ∧
       (e.on .refSelector 0 = false → exec .referenceSelection ⟨d, q⟩ =
         .next ⟨(e.strays false).initialStep.hostSet.closeItem 4, q⟩))) ∧
    (∀ rs, d.itemStarts 1 = false → exec (.whorlReadingDelivery rs) ⟨d, q⟩ = .next ⟨d, q⟩) ∧
    (d.itemStarts 2 = false → exec .linkTimingUpdate ⟨d, q⟩ = .next ⟨d, q⟩) ∧
    (d.itemStarts 4 = false → exec .referenceSelection ⟨d, q⟩ = .next ⟨d, q⟩)

/-- R113 to R115, R124, R129 and R131. -/
def Obligations.PtpMessagesAreReceived : Prop :=
  ∀ (d : Dev) (q : List Instr) (p : Port) (seq source requester : Nat) (origin corr t : Int) (st : RxStamp),
    (let e := d.eventRx p
     (∀ two : Bool, e.ptpHere p = true → e.role p = 8 ∨ e.role p = 9 → e.fromMaster p source = true →
       exec (.syncRx p seq two origin corr source st) ⟨d, q⟩ =
         .next ⟨(e.add32 (inst Obj.LinkAbandonedCount p) ((e.link p).syncs.filter fun x => x.complete.isNone).length).setLink p
           fun k => { k with syncs := k.syncs.filter (fun x => x.complete.isSome) ++
             [{ seq := seq, origin := if two then 0 else origin, corr := corr, source := source, t2 := e.stampNow p st, at_ := e.time.uptime, complete := if two then none else some e.turn.started }] }, q⟩) ∧
     (∀ two : Bool, e.ptpHere p = false ∨ (e.role p ≠ 8 ∧ e.role p ≠ 9) ∨ e.fromMaster p source = false →
       exec (.syncRx p seq two origin corr source st) ⟨d, q⟩ = .next ⟨e, q⟩) ∧
     (e.ptpHere p = true → e.role p = 6 → e.rd (inst Obj.PtpDelayMechanism p) = 1 →
       exec (.delayReqRx p seq corr requester st) ⟨d, q⟩ = .next ⟨e.setLink p fun k => { k with answers := k.answers ++
         [{ type := 1, seq := seq, requester := requester, corr := corr, domain := none, stamp := e.stampNow p st }] }, q⟩) ∧
     (e.ptpHere p = true → e.rd (inst Obj.PtpDelayMechanism p) = 2 →
       exec (.pdelayReqRx p seq corr requester none st) ⟨d, q⟩ = .next ⟨e.setLink p fun k => { k with answers := k.answers ++
         [{ type := 2, seq := seq, requester := requester, corr := corr, domain := none, stamp := e.stampNow p st }] }, q⟩) ∧
     (∀ n : Fin 4, e.on .tcDomain n = true → e.rd (inst Obj.TcDomainType n) = 2 →
       exec (.pdelayReqRx p seq corr requester (some n) st) ⟨d, q⟩ = .next ⟨e.setLink p fun k => { k with answers := k.answers ++
         [{ type := 2, seq := seq, requester := requester, corr := corr, domain := some n.val, stamp := e.stampNow p st }] }, q⟩) ∧
     (∀ two : Bool, exec (.pdelayRespRx p seq two t corr st) ⟨d, q⟩ = .next ⟨e.setLink p fun k => { k with
       pdelays := k.pdelays.map fun x => if x.seq = seq ∧ x.resp = none then
         { x with resp := some (t, corr), t4 := some (e.stampNow p st), fup := (t, 0), complete := if two then none else some e.turn.started } else x }, q⟩) ∧
     (e.ptpHere p = false → exec (.delayReqRx p seq corr requester st) ⟨d, q⟩ = .next ⟨e, q⟩ ∧
       exec (.pdelayReqRx p seq corr requester none st) ⟨d, q⟩ = .next ⟨e, q⟩)) ∧
    (let mine (x : SyncX) : Bool := x.complete.isNone && x.seq == seq && x.source == source
     (∀ x, (d.link p).syncs.find? mine = some x → d.time.uptime ≤ x.at_ + logIntervalNs (d.rd (inst Obj.LogSyncInterval p)) →
       exec (.followUpRx p seq origin corr source) ⟨d, q⟩ = .next ⟨d.setLink p fun k => { k with
         syncs := k.syncs.map fun y => if mine y then { y with origin := origin, corrFup := corr, complete := some d.turn.started } else y }, q⟩) ∧
     (∀ x, (d.link p).syncs.find? mine = some x → x.at_ + logIntervalNs (d.rd (inst Obj.LogSyncInterval p)) < d.time.uptime →
       exec (.followUpRx p seq origin corr source) ⟨d, q⟩ = .next ⟨(d.inc (inst Obj.LinkAbandonedCount p)).setLink p fun k =>
         { k with syncs := k.syncs.filter fun y => !mine y }, q⟩) ∧
     ((∀ x ∈ (d.link p).syncs, mine x = false) → exec (.followUpRx p seq origin corr source) ⟨d, q⟩ = .next ⟨d, q⟩)) ∧
    (exec (.delayRespRx p seq t corr) ⟨d, q⟩ = .next ⟨d.setLink p fun k => { k with dreqs := k.dreqs.map fun x =>
      if x.seq = seq ∧ x.complete = none then { x with resp := some (t, corr), complete := some d.turn.started } else x }, q⟩) ∧
    (exec (.pdelayRespFollowUpRx p seq t corr) ⟨d, q⟩ = .next ⟨d.setLink p fun k => { k with pdelays := k.pdelays.map fun x =>
      if x.seq = seq ∧ x.resp.isSome ∧ x.complete = none then { x with fup := (t, corr), complete := some d.turn.started }
      else x }, q⟩) ∧
    (∀ up : Bool, (d.ptpHere p = true → exec (.signalingRx p up) ⟨d, q⟩ =
        .next ⟨d.setLink p fun k => { k with peerL1 := some up }, q⟩) ∧
      (d.ptpHere p = false → exec (.signalingRx p up) ⟨d, q⟩ = .next ⟨d, q⟩))

/-- R111 to R115, R117, R141, R156 and R160. `sendPtp` and `sendEngine` enqueue a frame of the engine at its port. -/
def Obligations.PtpMessagesAreSent : Prop :=
  ∀ (d : Dev) (q : List Instr) (p : Port), d.plyOf p = none →
    (d.ptpHere p = true → d.asCapable p = true → d.role p = 6 → (d.link p).syncSent ≠ d.turn.started + 1 →
      exec (.syncTx p) ⟨d, q⟩ = .next ⟨(d.sendPtp p { type := 0, seq := (d.link p).seqSync, twoStep := d.rd (inst Obj.PtpStepMode p) == 0 }).setLink p fun k =>
        { k with seqSync := ((d.link p).seqSync + 1) % 65536, syncSent := d.turn.started + 1 }, q⟩) ∧
    (d.role p ≠ 6 ∨ d.ptpHere p = false ∨ (d.link p).syncSent = d.turn.started + 1 →
      exec (.syncTx p) ⟨d, q⟩ = .next ⟨d, q⟩) ∧
    (d.ptpHere p = true → d.role p = 8 ∨ d.role p = 9 → (d.link p).reqSent ≠ d.turn.started + 1 →
      exec (.delayReqTx p) ⟨d, q⟩ = .next ⟨(d.sendPtp p { type := if d.rd (inst Obj.PtpDelayMechanism p) = 2 then 2 else 1, seq := (d.link p).seqReq }).setLink p fun k =>
        { k with seqReq := ((d.link p).seqReq + 1) % 65536, reqSent := d.turn.started + 1 }, q⟩) ∧
    (∀ x t4, (d.link p).answers.find? (fun y => y.type == 1 && y.stamp.ready && d.answers p y) = some x → x.stamp.ref = some t4 →
      exec (.delayRespTx p) ⟨d, q⟩ = .next ⟨(d.sendPtp p { type := 9, seq := x.seq, time := t4 - subNs t4, corr := x.corr - subNs t4, requester := x.requester }).setLink p fun k => { k with answers := k.answers.erase x }, q⟩) ∧
    (let early : Bool := d.rd (inst Obj.PtpStepMode p) == 1 && d.rd (inst Obj.PtpProfile p) != 3
     (∀ x t2, (d.link p).answers.find? (fun y => y.type == 2 && (early || y.stamp.ready) && d.answers p y) = some x →
       (if early then some x.stamp.tInst else x.stamp.ref) = some t2 → exec (.pdelayRespTx p) ⟨d, q⟩ = .next ⟨(d.sendPtp p
         { type := 3, seq := x.seq, corr := x.corr, requester := x.requester, t2 := t2, twoStep := d.rd (inst Obj.PtpStepMode p) != 1, domain := x.domain }).setLink p
           fun k => { k with answers := k.answers.erase x }, q⟩)) ∧
    ((d.link p).answers = [] → exec (.delayRespTx p) ⟨d, q⟩ = .next ⟨d, q⟩ ∧ exec (.pdelayRespTx p) ⟨d, q⟩ = .next ⟨d, q⟩) ∧
    (let e := d.updateClass
     e.plyOf p = none → e.ptpHere p = true → e.asCapable p = true → e.role p = 6 → exec (.announceTx p) ⟨d, q⟩ =
       .next ⟨(e.sendEngine p (.announce (e.link p).seqAnn e.announces)).setLink p
         fun k => { k with seqAnn := (k.seqAnn + 1) % 65536 }, q⟩) ∧
    (d.ptpHere p = true → d.rd (inst Obj.PtpProfile p) = 0 → exec (.l1SyncTx p) ⟨d, q⟩ =
      .next ⟨(d.sendEngine p (.l1Sync (d.link p).seqSig (decide (2 ≤ d.linkState p)))).setLink p
        fun k => { k with seqSig := (k.seqSig + 1) % 65536 }, q⟩) ∧
    (∀ (n : Fin 24) (a b : Nat), d.members n = (a, b) → d.on .ply n = true → d.plyState n = 5 → d.role a = 6 → d.role b = 6 →
      d.rdB (inst Obj.PortLinkUp a) = true → d.rdB (inst Obj.PortLinkUp b) = true →
      (let one (c : Nat) (e : Dev) : Dev := (e.sendPtp c { type := 0, seq := (d.link a).seqSync, twoStep := e.rd (inst Obj.PtpStepMode c) == 0 }).setLink c fun k =>
        { k with seqSync := ((d.link a).seqSync + 1) % 65536, syncSent := e.turn.started + 1 }
       exec (.relockSyncPairTx n) ⟨d, q⟩ =
         .next ⟨((one b (one a d)).setPly n fun y => { y with window := false, relock := false }).plyTo n 3, q⟩)) ∧
    (∀ n : Fin 24, d.plyState n ≠ 5 → exec (.relockSyncPairTx n) ⟨d, q⟩ = .next ⟨d, q⟩)

/-- R109, R111, R116, R120, R133, R135 and R155. `bmca` is the state decision of every port. -/
def Obligations.AnnouncesAndTimeoutsDecideRoles : Prop :=
  ∀ (d : Dev) (q : List Instr) (p : Port),
    (∀ (source : Nat) (m : AnnounceMsg), d.ptpHere p = true → 4 ≤ d.role p → source / 65536 ≠ d.clockIdentity →
      m.stepsRemoved < 255 → (d.rd (inst Obj.PtpProfile p) = 3 → d.clockIdentity ∉ m.path) →
      (let a := d.ptpPort p
       let fs := (d.link a).foreign
       exec (.announceRx p source m) ⟨d, q⟩ = .next ⟨((d.setLink a fun k => { k with
         foreign := fs.filter (fun f => f.source != source) ++ [{
           source := source, msg := m, last := d.time.uptime, before := (fs.find? fun f => f.source == source).map (·.last) }] }).updateClass.bmca), q⟩)) ∧
    (∀ (source : Nat) (m : AnnounceMsg), source / 65536 = d.clockIdentity ∨ 255 ≤ m.stepsRemoved →
      exec (.announceRx p source m) ⟨d, q⟩ = .next ⟨d, q⟩) ∧
    (d.ptpHere p = true → d.roleHeld p = false →
      (d.role p = 4 ∨ 7 ≤ d.role p → exec (.announceReceiptTimeout p) ⟨d, q⟩ = .next ⟨(((d.setLink p fun k => { k with foreign := [] }).wr
        (inst Obj.PtpPortState p) (if d.rdB Obj.SlaveOnly then 4 else 6)).updateClass.bmca), q⟩) ∧
      (d.role p = 5 ∨ d.role p = 6 → exec (.announceReceiptTimeout p) ⟨d, q⟩ =
        .next ⟨(d.setLink p fun k => { k with foreign := [] }).updateClass.bmca, q⟩)) ∧
    (d.role p < 4 → exec (.announceReceiptTimeout p) ⟨d, q⟩ = .next ⟨d, q⟩) ∧
    (d.role p = 5 → (∀ n, d.plyOf p ≠ some (n, false)) → exec (.preMasterQualificationTimeout p) ⟨d, q⟩ =
      .next ⟨d.wr (inst Obj.PtpPortState p) 6, q⟩) ∧
    (∀ n, d.role p = 5 → d.plyOf p = some (n, false) → exec (.preMasterQualificationTimeout p) ⟨d, q⟩ =
      .next ⟨(d.wr (inst Obj.PtpPortState p) 6).bTakesRole n, q⟩) ∧
    (d.role p ≠ 5 → exec (.preMasterQualificationTimeout p) ⟨d, q⟩ = .next ⟨d, q⟩) ∧
    (d.linkState p = 3 → d.rdB (inst Obj.ModeF0PtpEngine p) = false → exec (.syncReceiptLoss p) ⟨d, q⟩ =
      .next ⟨((d.holdMedian p).setLink p fun k => { k with ranged := 0 }).wr (inst Obj.LinkTimingState p) 2, q⟩) ∧
    (d.linkState p ≠ 3 ∨ d.rdB (inst Obj.ModeF0PtpEngine p) = true → exec (.syncReceiptLoss p) ⟨d, q⟩ = .next ⟨d, q⟩) ∧
    (d.on .ptpEngine p = true → d.rdB (inst Obj.ModeF0PtpEngine p) = true → exec (.hostLinkRecordCmd p) ⟨d, q⟩ =
      .next ⟨(d.wr (inst Obj.HostLinkRecordCmd p) 1).setLink p fun k =>
        { k with hostRecord := some (d.rd (inst Obj.HostLinkOffset p), d.rd (inst Obj.HostLinkMeanPathDelay p)) }, q⟩) ∧
    (d.on .ptpEngine p = false ∨ d.rdB (inst Obj.ModeF0PtpEngine p) = false → exec (.hostLinkRecordCmd p) ⟨d, q⟩ =
      .next ⟨d.wr (inst Obj.HostLinkRecordCmd p) 1, q⟩) ∧
    (∀ (bs : List Byte) (st : RxStamp), d.on .ptpEngine p = true →
      (let plan : CopyPlan := { out := 48, cls := d.copyClass p 0 none }
       let x : Decision := { parsed := some (d.parse p bs), plans := [plan], whole := true }
       let f : Frame := { port := p, bytes := bs, stamp := d.rxInst p st, turn := d.rdN Obj.TurnNumber, entered := true, ended := true, decision := some x, replicated := true }
       exec (.ptpManagementRx p bs st) ⟨d, q⟩ =
         .next ⟨(((d.newFrame f).makeCopy d.fwd.nextFrame f x plan d.now).1.finishFrame d.fwd.nextFrame), q⟩)) ∧
    (∀ (bs : List Byte) (st : RxStamp), d.on .ptpEngine p = false → exec (.ptpManagementRx p bs st) ⟨d, q⟩ = .next ⟨d, q⟩)

/-- R105 to R108. -/
def Obligations.EsmcRunsWhileEnabled : Prop :=
  ∀ (d : Dev) (q : List Instr) (p : Port) (ssm : Nat),
    (d.rdB (inst Obj.EsmcEnable p) = true →
      exec (.esmcPduRx p ssm false) ⟨d, q⟩ = .next ⟨d.wr (inst Obj.EsmcRxQl p) (ssmCode (ssm % 16)), q⟩ ∧
      exec (.esmcPduRx p ssm true) ⟨d, q⟩ =
        .next ⟨(d.wr (inst Obj.EsmcRxQl p) (ssmCode (ssm % 16))).inc (inst Obj.EsmcIgnoredTlvCount p), q⟩ ∧
      exec (.esmcRxTimeout p) ⟨d, q⟩ = .next ⟨(d.wr (inst Obj.EsmcRxQl p) 0xFF).inc (inst Obj.EsmcTimeoutCount p), q⟩ ∧
      (let e := d.wr (inst Obj.EsmcTxQl p) (d.txQl p)
       exec (.esmcInformationTx p) ⟨d, q⟩ = .next ⟨e.sendEngine p (.esmc false (d.txQl p).toNat), q⟩ ∧
       exec (.esmcEventTx p) ⟨d, q⟩ = .next ⟨e.sendEngine p (.esmc true (d.txQl p).toNat), q⟩)) ∧
    (d.rdN Obj.RefSelected = 52 + p.val → d.txQl p = 0xF) ∧
    (d.rdN Obj.RefSelected ≠ 52 + p.val → d.spindleState = 1 ∨ d.spindleState = 2 → d.txQl p = d.selectedQl) ∧
    (d.rdN Obj.RefSelected ≠ 52 + p.val → d.spindleState ≠ 1 → d.spindleState ≠ 2 → d.txQl p = 0xB) ∧
    (d.rdB (inst Obj.EsmcEnable p) = false →
      ∀ c ∈ [Instr.esmcPduRx p ssm false, .esmcPduRx p ssm true, .esmcRxTimeout p, .esmcInformationTx p, .esmcEventTx p],
        exec c ⟨d, q⟩ = .next ⟨d, q⟩)

/-- R160, R161, R168 and R169. -/
def Obligations.PlyAlarmsAndPathStepDecisions : Prop :=
  ∀ (d : Dev) (q : List Instr),
    (∀ n : Fin 24, (d.ply n).window = true → d.plyState n = 4 ∨ d.plyState n = 5 → exec (.plyRelockWindowExpiry n) ⟨d, q⟩ =
      .next ⟨((((d.wr (inst Obj.PlyAlarmCause n) 6).inc (inst Obj.PlyAlarmCount n)).raise 30).plyIncomplete n), q⟩) ∧
    (∀ n : Fin 24, (d.ply n).window = false → exec (.plyRelockWindowExpiry n) ⟨d, q⟩ = .next ⟨d, q⟩) ∧
    (∀ n : Fin 24, d.plyState n = 1 ∨ d.plyState n = 2 → exec (.plySyncPairTimeout n) ⟨d, q⟩ =
      .next ⟨((d.wr (inst Obj.PlyAlarmCause n) 5).inc (inst Obj.PlyAlarmCount n)).raise 30, q⟩) ∧
    (∀ n : Fin 24, d.plyState n ≠ 1 → d.plyState n ≠ 2 → exec (.plySyncPairTimeout n) ⟨d, q⟩ = .next ⟨d, q⟩) ∧
    (∀ p : Port, d.linkState p = 4 → 16 ≤ (d.link p).sinceStep → (∀ s, (d.link p).stepAt = some s → s.2 ≠ d.turn.started) →
      exec (.pathStepDecisionSplit p) ⟨d, q⟩ =
        .next ⟨(d.wr (inst Obj.PathStepDecisionCmd p) 1).setLink p fun k => { k with decision := some 1 }, q⟩ ∧
      exec (.pathStepDecisionReplace p) ⟨d, q⟩ =
        .next ⟨(d.wr (inst Obj.PathStepDecisionCmd p) 1).setLink p fun k => { k with decision := some 2 }, q⟩) ∧
    (∀ p : Port, d.linkState p ≠ 4 ∨ (d.link p).sinceStep < 16 →
      exec (.pathStepDecisionSplit p) ⟨d, q⟩ = .next ⟨d.wr (inst Obj.PathStepDecisionCmd p) 0x80, q⟩ ∧
      exec (.pathStepDecisionReplace p) ⟨d, q⟩ = .next ⟨d.wr (inst Obj.PathStepDecisionCmd p) 0x80, q⟩) ∧
    (∀ p : Port, d.linkState p = 4 → 16 ≤ (d.link p).sinceStep → (d.link p).decision = none →
      (∀ s, (d.link p).stepAt = some s → s.1 + d.rdN Obj.RefHoldOff * 1000000000 ≤ d.time.uptime) →
      (d.rd (inst Obj.PathStepAutoDecision p) = 1 → exec (.pathStepAutoDecision p) ⟨d, q⟩ =
        .next ⟨d.setLink p fun k => { k with decision := some 1 }, q⟩) ∧
      (d.rd (inst Obj.PathStepAutoDecision p) = 2 → exec (.pathStepAutoDecision p) ⟨d, q⟩ =
        .next ⟨(d.wr (inst Obj.PathStepAsymmetry p) (d.rd (inst Obj.PathStepBridgeEstimate p))).setLink p
          fun k => { k with decision := some 2 }, q⟩)) ∧
    (∀ p : Port, d.rd (inst Obj.PathStepAutoDecision p) = 0 ∨ d.linkState p ≠ 4 ∨ (d.link p).sinceStep < 16 ∨
        (∃ s, (d.link p).stepAt = some s ∧ d.time.uptime < s.1 + d.rdN Obj.RefHoldOff * 1000000000) →
      exec (.pathStepAutoDecision p) ⟨d, q⟩ = .next ⟨d, q⟩)

/-- R178 to R182, R184 and R185. -/
def Obligations.ReferenceInputsTakeEdgesAndLabels : Prop :=
  ∀ (d : Dev) (q : List Instr) (n : Fin 4),
    (∀ (tc : Int) (tap : Fin 128),
      (let st := tc - nearest (Config.otpBin (80 + n.val) tap * 4096) 1000 - d.rd (inst Obj.RefInCableDelay n)
       let pair := n.val % 2 = 1 ∧ d.refMode (n - 1) = 2 ∧ d.on .refIn (n - 1) = true
       let e := d.setRefIn n fun g => g.addEdge st (d.comparison n)
       (pair → exec (.refinEdgeStamp n ⟨tc, tap⟩) ⟨d, q⟩ = .next ⟨e, q⟩) ∧
       (¬pair → d.on .refIn n = true → d.refMode n = 0 → exec (.refinEdgeStamp n ⟨tc, tap⟩) ⟨d, q⟩ = .next ⟨e, q⟩) ∧
       (¬pair → d.on .refIn n = true → d.refMode n = 1 → exec (.refinEdgeStamp n ⟨tc, tap⟩) ⟨d, q⟩ = .next ⟨e.pulse n st, q⟩) ∧
       (¬pair → d.on .refIn n = true → d.refMode n = 2 →
         exec (.refinEdgeStamp n ⟨tc, tap⟩) ⟨d, q⟩ = .next ⟨(e.pulse n st).pairEdge n st, q⟩) ∧
       (¬pair → d.on .refIn n = false → exec (.refinEdgeStamp n ⟨tc, tap⟩) ⟨d, q⟩ = .next ⟨d, q⟩))) ∧
    (∀ (e : Dev) (t : Int), (e.pulse n t).rdN (inst Obj.RefInPulseSeq n) = (e.rdN (inst Obj.RefInPulseSeq n) + 1) % 2 ^ 32 ∧
      (e.pulse n t).rd (inst Obj.RefInLastPulseStamp n) = t ∧ ((e.pulse n t).refIn n).pulses.length ≤ 16) ∧
    (∀ x : Nat × Int, d.on .refIn n = true → d.refMode n ≠ 0 →
      (d.refIn n).pulses.find? (fun y => y.1 == d.rdN (inst Obj.RefInLabelPulseSeq n)) = some x →
      (let k := d.rd (inst Obj.RefInLabelSeconds n) - nearest x.2 secT.toNat
       exec (.refinLabelApply n) ⟨d, q⟩ = .next ⟨((((d.setRefIn n fun g => { g with label := some k, relabelled := true }).wr
         (inst Obj.RefInSecondsKnown n) 1).wr (inst Obj.RefInLabelCmd n) 0).wr (inst Obj.RefInEventCause n) 4).raise (20 + n), q⟩)) ∧
    ((∀ x ∈ (d.refIn n).pulses, x.1 ≠ d.rdN (inst Obj.RefInLabelPulseSeq n)) ∨ d.on .refIn n = false ∨ d.refMode n = 0 →
      exec (.refinLabelApply n) ⟨d, q⟩ = .next ⟨d.wr (inst Obj.RefInLabelCmd n) 0x80, q⟩) ∧
    ((d.refIn n).label ≠ none → exec (.refinLabelClear n) ⟨d, q⟩ =
      .next ⟨((((d.setRefIn n fun g => { g with label := none, relabelled := true }).wr (inst Obj.RefInSecondsKnown n) 0).wr
        (inst Obj.RefInEventCause n) 5).raise (20 + n)).wr (inst Obj.RefInLabelCmd n) 0, q⟩) ∧
    ((d.refIn n).label = none → exec (.refinLabelClear n) ⟨d, q⟩ = .next ⟨d.wr (inst Obj.RefInLabelCmd n) 0, q⟩) ∧
    (let e := refreshCand n (d.setRefIn n fun g => { g with present := false, edges := 0, phases := 0, fresh := false })
     (n.val % 2 = 0 → exec (.refinPresenceTimeout n) ⟨d, q⟩ = .next ⟨e, q⟩) ∧
     (n.val % 2 = 1 → exec (.refinPresenceTimeout n) ⟨d, q⟩ = .next ⟨refreshCand (n - 1) e, q⟩)) ∧
    (∀ t, startedAt (d.rdN Obj.HostRefAtTurn) 1024 d.turn.runs = some t →
      exec .hostRefCmd ⟨d, q⟩ = .next ⟨refreshCand 100 ({ d with ref := { d.ref with
        host := some (dur (d.rd Obj.HostRefTime - t), d.turn.started) } }.wr Obj.HostRefCmd 0), q⟩) ∧
    (startedAt (d.rdN Obj.HostRefAtTurn) 1024 d.turn.runs = none →
      (d.turn.next ≤ d.rdN Obj.HostRefAtTurn → d.rdN Obj.HostRefAtTurn < d.turn.next + 1024 →
        exec .hostRefCmd ⟨d, q⟩ = .next ⟨refreshCand 100 ({ d with ref := { d.ref with
          host := some (dur (d.rd Obj.HostRefTime - d.boundaryTime (d.rdN Obj.HostRefAtTurn)), d.turn.started) } }.wr Obj.HostRefCmd 0), q⟩) ∧
      (d.rdN Obj.HostRefAtTurn < d.turn.next ∨ d.turn.next + 1024 ≤ d.rdN Obj.HostRefAtTurn →
        exec .hostRefCmd ⟨d, q⟩ = .next ⟨d.wr Obj.HostRefCmd 0x80, q⟩)) ∧
    (∀ (r : TurnRun) (i : Nat), startedAt i 1024 [r] =
      if r.first ≤ i ∧ i ≤ r.last ∧ r.last < i + 1024 then some (boundaryOf r.period r.start r.first i) else none) ∧
    exec .hostRefIntervalExpiry ⟨d, q⟩ = .next ⟨refreshCand 100 { d with ref := { d.ref with host := none } }, q⟩

/-- R186 to R191 and R195. -/
def Obligations.CandidatesQualify : Prop :=
  ∀ (d : Dev) (q : List Instr) (k : Cand) (at_ : Nat),
    (d.qual k = 1 → 16 ≤ (d.cand k).count → d.rdN Obj.RefFreqMonitorWindow ≤ (d.cand k).hardSecs →
      exec (.qualifyTimeElapsed k) ⟨d, q⟩ = .next ⟨(d.setQual k 2).setZero k, q⟩ ∧ ((d.setQual k 2).setZero k).qual k = 2) ∧
    (d.qual k ≠ 1 ∨ (d.cand k).count < 16 ∨ (d.cand k).hardSecs < d.rdN Obj.RefFreqMonitorWindow →
      exec (.qualifyTimeElapsed k) ⟨d, q⟩ = .next ⟨d, q⟩) ∧
    (let held := (d.cand k).mon.filter fun e => decide (at_ ≤ e.1 + d.rdN Obj.RefFreqMonitorWindow * 1000000000)
     (d.qual k = 0 → d.freqSlope k at_ = none) ∧ (d.qual k ≠ 0 → d.freqSlope k at_ = slopeOf held)) ∧
    (d.freqSlope k at_ = none → exec (.freqMonitorReport k at_) ⟨d, q⟩ = .next ⟨d, q⟩) ∧
    (∀ sl : Int, d.freqSlope k at_ = some sl →
      (let w := d.wr (inst Obj.RefFreqOffset k) sl
       (d.rd Obj.RefSoftLimit < |sl| → d.rd Obj.RefHardLimit < |sl| → exec (.freqMonitorReport k at_) ⟨d, q⟩ =
         .next ⟨((w.setCand k fun c => { c with softSecs := 0, hardSecs := 0 }).softAlarm k true).disqualify k 2, q⟩) ∧
       (d.rd Obj.RefSoftLimit < |sl| → |sl| ≤ d.rd Obj.RefHardLimit → 0 < d.rdN Obj.RefFreqMonitorWindow →
         exec (.freqMonitorReport k at_) ⟨d, q⟩ =
           .next ⟨(w.setCand k fun c => { c with softSecs := 0, hardSecs := c.hardSecs + 1 }).softAlarm k true, q⟩) ∧
       (|sl| ≤ d.rd Obj.RefSoftLimit → |sl| ≤ d.rd Obj.RefHardLimit →
         (let e := w.setCand k fun c => { c with softSecs := c.softSecs + 1, hardSecs := c.hardSecs + 1 }
          ((d.cand k).softSecs + 1 < d.rdN Obj.RefFreqMonitorWindow → exec (.freqMonitorReport k at_) ⟨d, q⟩ = .next ⟨e, q⟩) ∧
          (d.rdN Obj.RefFreqMonitorWindow ≤ (d.cand k).softSecs + 1 → bit (d.cand k).causes 2 = false →
            exec (.freqMonitorReport k at_) ⟨d, q⟩ = .next ⟨e.softAlarm k false, q⟩) ∧
          (d.rdN Obj.RefFreqMonitorWindow ≤ (d.cand k).softSecs + 1 → bit (d.cand k).causes 2 = true →
            exec (.freqMonitorReport k at_) ⟨d, q⟩ = .next ⟨(e.softAlarm k false).clearCause k 2, q⟩))))) ∧
    (let e := d.setCand k fun c => { c with heldOff := true }
     (bit (d.cand k).causes 1 = true → exec (.refHoldOffExpiry k) ⟨d, q⟩ = .next ⟨refreshCand k (e.clearCause k 1), q⟩) ∧
     (bit (d.cand k).causes 1 = false → exec (.refHoldOffExpiry k) ⟨d, q⟩ = .next ⟨refreshCand k e, q⟩)) ∧
    (d.qual k = 3 → (d.cand k).causes = 2 →
      d.clearCause k 1 = (d.setCand k fun c => { c with causes := 0 }).startQualifying k) ∧
    (d.refEligible k = true → d.rd Obj.RefSelectorState = 2 → exec (.waitToRestoreExpiry k) ⟨d, q⟩ =
      .next ⟨d.setCand k fun c => { c with served := true }, q⟩) ∧
    (d.refEligible k = false ∨ d.rd Obj.RefSelectorState ≠ 2 → exec (.waitToRestoreExpiry k) ⟨d, q⟩ = .next ⟨d, q⟩)

/-- R194 and R206. -/
def Obligations.SwitchesCompleteAndTheHostSelects : Prop :=
  ∀ (d : Dev) (q : List Instr),
    (d.rd Obj.RefSelectorState = 1 → d.spindleState = 2 → exec .switchSettleComplete ⟨d, q⟩ =
      .next ⟨{ (((d.wr Obj.RefSelectorState 2).wr Obj.RefEventCause 2).raise 27) with
        ref := { d.ref with switchDone := d.time.uptime } }, q⟩) ∧
    (d.rd Obj.RefSelectorState = 1 → exec .switchTimeout ⟨d, q⟩ =
      .next ⟨{ (((d.wr Obj.RefSelectorState 2).wr Obj.RefEventCause 3).raise 27) with
        ref := { d.ref with switchDone := d.time.uptime } }, q⟩) ∧
    (d.rd Obj.RefSelectorState ≠ 1 → exec .switchSettleComplete ⟨d, q⟩ = .next ⟨d, q⟩ ∧ exec .switchTimeout ⟨d, q⟩ = .next ⟨d, q⟩) ∧
    (d.spindleState ≠ 2 → exec .switchSettleComplete ⟨d, q⟩ = .next ⟨d, q⟩) ∧
    (d.on .refSelector 0 = true → d.rdB Obj.ModeF2RefSelector = true →
      (d.rdN Obj.HostRefSelect ≤ 100 → d.refEligible (d.rdN Obj.HostRefSelect) = true → exec .hostRefSelectCmd ⟨d, q⟩ =
        .next ⟨{ d.wr Obj.HostRefSelectCmd 0 with ref := { d.ref with next := some (d.rdN Obj.HostRefSelect), asked := none } }, q⟩) ∧
      (d.rdN Obj.HostRefSelect = 0xFE → exec .hostRefSelectCmd ⟨d, q⟩ =
        .next ⟨{ d.wr Obj.HostRefSelectCmd 0 with ref := { d.ref with next := some 101, asked := none } }, q⟩) ∧
      (100 < d.rdN Obj.HostRefSelect ∨ d.refEligible (d.rdN Obj.HostRefSelect) = false → d.rdN Obj.HostRefSelect ≠ 0xFE →
        exec .hostRefSelectCmd ⟨d, q⟩ = .next ⟨d.wr Obj.HostRefSelectCmd 0x80, q⟩)) ∧
    (d.on .refSelector 0 = false ∨ d.rdB Obj.ModeF2RefSelector = false →
      exec .hostRefSelectCmd ⟨d, q⟩ = .next ⟨d.wr Obj.HostRefSelectCmd 0x80, q⟩)

/-- R215 to R220, R238, R594 and R598. `deviceFault` is the shared operation of R599. -/
def Obligations.SynthsLoseAndRegainLock : Prop :=
  ∀ (d : Dev) (q : List Instr),
    (d.rd Obj.SteeredSynthState = 1 →
      (let y := d.rd (inst Obj.NcoWord d.active)
       let e := ((((((d.wr Obj.SteeredSynthState 2).wr Obj.SteeredHeldWord y).wr Obj.SynthEventCause 1).inc
         Obj.SteeredSynthLossCount).perfFlags 32).raise 33)
       let f := ({ e with time := { d.time with yHeld := y, tclkSteered := false }, out := { d.out with steeredReturn := [0, 1, 2, 3] } } : Dev).refreshLines
       (d.rd Obj.FixedSynthState = 1 ∨ d.rdB Obj.PlinthPresent = false → exec .steeredSynthLoss ⟨d, q⟩ = .next ⟨f, q⟩) ∧
       (d.rd Obj.FixedSynthState ≠ 1 → d.rdB Obj.PlinthPresent = true → exec .steeredSynthLoss ⟨d, q⟩ =
         .next ⟨deviceFault 3 false f.bothUnlocked.refreshLines, q⟩))) ∧
    (d.rd Obj.SteeredSynthState ≠ 1 → exec .steeredSynthLoss ⟨d, q⟩ = .next ⟨d, q⟩) ∧
    (d.rd Obj.SteeredSynthState ≠ 1 → d.rdB Obj.PlinthPresent = true →
      (let e := (d.wr Obj.SteeredSynthState 1).plinthRateEnds
       (d.turn.last ≠ none ∨ d.stopped = true → exec .steeredSynthLock ⟨d, q⟩ =
         .next ⟨({ e with time := { e.time with counting := true } } : Dev).refreshLines, q⟩) ∧
       (d.turn.last = none → d.stopped = false → exec .steeredSynthLock ⟨d, q⟩ =
         .next ⟨({ e with time := { e.time with counting := true, tclkSteered := true } } : Dev).refreshLines, q⟩))) ∧
    (d.rd Obj.SteeredSynthState = 1 ∨ d.rdB Obj.PlinthPresent = false → exec .steeredSynthLock ⟨d, q⟩ = .next ⟨d, q⟩) ∧
    (∀ e : Dev, e.bothUnlocked = { e with time := { e.time with perPlinth := e.time.counting } } ∧
      e.fixedLost = ((((e.forEach (fun n g => g.setPulse n fun p => { p with active := false }) (List.range 16)).wr
        Obj.FixedSynthState 2).inc Obj.FixedSynthLossCount).raise 32)) ∧
    (d.rd Obj.FixedSynthState = 1 →
      (d.rd Obj.SteeredSynthState = 1 → exec .fixedSynthLoss ⟨d, q⟩ = .next ⟨deviceFault 1 false d.fixedLost.refreshLines, q⟩) ∧
      (d.rd Obj.SteeredSynthState ≠ 1 → exec .fixedSynthLoss ⟨d, q⟩ =
        .next ⟨deviceFault 3 false d.fixedLost.bothUnlocked.refreshLines, q⟩)) ∧
    (d.rd Obj.FixedSynthState ≠ 1 → exec .fixedSynthLoss ⟨d, q⟩ = .next ⟨d, q⟩) ∧
    (d.rd Obj.FixedSynthState ≠ 1 → d.boot.released = true →
      (d.rdB Obj.PlinthPresent = true →
        exec .fixedSynthLock ⟨d, q⟩ = .next ⟨((d.wr Obj.FixedSynthState 1).plinthRateEnds).refreshLines, q⟩) ∧
      (d.rdB Obj.PlinthPresent = false → d.rd Obj.FixedSynthState = 0 → exec .fixedSynthLock ⟨d, q⟩ =
        .next ⟨(((plinthReturn d).wr Obj.FixedSynthState 1).plinthRateEnds).refreshLines, q⟩) ∧
      (d.rdB Obj.PlinthPresent = false → d.rd Obj.FixedSynthState ≠ 0 → exec .fixedSynthLock ⟨d, q⟩ = .next ⟨d, q⟩)) ∧
    (d.boot.released = false ∨ d.rd Obj.FixedSynthState = 1 → exec .fixedSynthLock ⟨d, q⟩ = .next ⟨d, q⟩) ∧
    (d.rdB Obj.PlinthPresent = true →
      (d.rdB Obj.TimeValid = false → exec .plinthLoss ⟨d, q⟩ = .next ⟨deviceFault 2 false d.plinthGone.refreshLines, q⟩) ∧
      (d.rdB Obj.TimeValid = true → exec .plinthLoss ⟨d, q⟩ =
        .next ⟨deviceFault 2 false ((((d.plinthGone.wr Obj.TimeValid 0).wr Obj.TimeSource 0).wr
          Obj.TimeSourceInstance 0xFF).refreshPhase.raiseSpindles 3).refreshLines, q⟩)) ∧
    (d.rdB Obj.PlinthPresent = false → exec .plinthLoss ⟨d, q⟩ = .next ⟨d, q⟩ ∧
      exec .plinthReturn ⟨d, q⟩ = .next ⟨plinthReturn d, q⟩ ∧
      plinthReturn d = ({ d.wr Obj.PlinthPresent 1 with
        time := { d.time with perPlinth := d.time.counting, untilBoth := d.time.counting } } : Dev).planeStatus ∧
      exec .bothSynthsUnlocked ⟨d, q⟩ = .next ⟨d, q⟩) ∧
    (d.rdB Obj.PlinthPresent = true → exec .plinthReturn ⟨d, q⟩ = .next ⟨d, q⟩) ∧
    (d.rdB Obj.PlinthPresent = true → d.rd Obj.FixedSynthState = 1 ∨ d.rd Obj.SteeredSynthState = 1 →
      (let e := if d.rd Obj.FixedSynthState = 1 then d.fixedLost else d
       let f := if d.rd Obj.SteeredSynthState = 1 then e.steeredLost 2 else e
       exec .bothSynthsUnlocked ⟨d, q⟩ = .next ⟨deviceFault 3 false f.bothUnlocked.refreshLines, q⟩))

/-- R221 to R223, R231, R232, R234, R235, R240, R242 and R243. `pulseRise` answers the instant at which a pulse is driven. -/
def Obligations.LinesAndOutputsFollowTheirCommands : Prop :=
  ∀ (d : Dev) (q : List Instr),
    (∀ (n : Fin 4) (sh : Int) (tap : Nat), d.rd (inst Obj.AlLockState n) = 1 →
      (let e := (((d.wr (inst Obj.AlLockState n) 2).raise (34 + n)).inc (inst Obj.AlLockCount n)).wr
         (inst Obj.AlTapSetting n) (tap % 65536 : Nat)
       (n.val ∉ d.out.steeredReturn → exec (.alignmentLineLock n sh tap) ⟨d, q⟩ =
         .next ⟨(e.wr (inst Obj.AlLastRelockShift n) sh).refreshOuts, q⟩) ∧
       (n.val ∈ d.out.steeredReturn →
         (let shift := nearest sh tapT * tapT
          let mine := (List.range 24).filter fun o => lineOf o == n.val
          let f := ({ e with out := { e.out with steeredReturn := e.out.steeredReturn.filter (· != n.val) } } : Dev).forEach
            (addMis shift) mine
          (|shift| ≤ d.rd Obj.OutputAlignTolerance → exec (.alignmentLineLock n sh tap) ⟨d, q⟩ = .next ⟨f.refreshOuts, q⟩) ∧
          (d.rd Obj.OutputAlignTolerance < |shift| → exec (.alignmentLineLock n sh tap) ⟨d, q⟩ = .next ⟨(f.forEach
            (fun o g => if 8 ≤ o then g.setPulse (o - 8) fun p => { p with awaits := true } else g) mine).refreshOuts, q⟩))))) ∧
    (∀ (n : Fin 4) (sh : Int) (tap : Nat), d.rd (inst Obj.AlLockState n) ≠ 1 →
      exec (.alignmentLineLock n sh tap) ⟨d, q⟩ = .next ⟨d, q⟩) ∧
    (∀ n : Fin 4, d.rd (inst Obj.AlLockState n) = 2 → exec (.alignmentLineLockLoss n) ⟨d, q⟩ =
      .next ⟨((d.wr (inst Obj.AlLockState n) 1).raise (34 + n)).refreshOuts, q⟩) ∧
    (∀ n : Fin 4, d.rd (inst Obj.AlLockState n) ≠ 2 → exec (.alignmentLineLockLoss n) ⟨d, q⟩ = .next ⟨d, q⟩) ∧
    (d.rdN Obj.OutputRealignMask ≠ 0 → d.canArm (d.rdN Obj.OutputRealignAt) = true → d.turn.queue.any Change.isRealign = false →
      exec .outputRealignArm ⟨d, q⟩ = .next ⟨{ d.wr Obj.OutputRealignCmd 1 with turn := { d.turn with
        queue := d.turn.queue ++ [⟨d.rdN Obj.OutputRealignAt, .realign (d.rdN Obj.OutputRealignMask)⟩] } }, q⟩) ∧
    (d.rdN Obj.OutputRealignMask = 0 ∨ d.canArm (d.rdN Obj.OutputRealignAt) = false ∨ d.turn.queue.any Change.isRealign = true →
      exec .outputRealignArm ⟨d, q⟩ = .next ⟨d.wr Obj.OutputRealignCmd 0x80, q⟩) ∧
    exec .outputRealignCancel ⟨d, q⟩ = .next ⟨{ d.wr Obj.OutputRealignCmd 0 with
      turn := { d.turn with queue := d.turn.queue.filter fun c => !c.isRealign } }, q⟩ ∧
    (∀ (n : Fin 16) (t : Int), d.on .pulse n = false ∨ d.programmed n t = false →
      exec (.pulseRisingEdge n t) ⟨d, q⟩ = .next ⟨d, q⟩) ∧
    (∀ (n : Fin 16) (t i : Int) (e : Dev), pulseRise n t d = (e, some i) →
      exec (.pulseRisingEdge n t) ⟨d, q⟩ = .next ⟨e.startsFrom (16 + n) none (i * 1000) false true, q⟩) ∧
    (∀ (n : Fin 16) (t : Int) (e : Dev), pulseRise n t d = (e, none) → exec (.pulseRisingEdge n t) ⟨d, q⟩ = .next ⟨e, q⟩) ∧
    (∀ n : Fin 16, (d.pulseSt n).active = false → exec (.pulseFallingEdge n) ⟨d, q⟩ = .next ⟨d, q⟩) ∧
    (∀ (n : Fin 16) (r : Int), (d.pulseSt n).active = true → (d.pulseSt n).lastRise = some r →
      exec (.pulseFallingEdge n) ⟨d, q⟩ = .next ⟨(d.until (r + d.rd (inst Obj.PulseWidth n) * nsT)).setPulse n
        fun p => { p with active := false }, q⟩) ∧
    (∀ n : Fin 16, (d.pulseSt n).active = true → (d.pulseSt n).lastRise = none →
      exec (.pulseFallingEdge n) ⟨d, q⟩ = .next ⟨d.setPulse n fun p => { p with active := false }, q⟩)

/-- R255, R258, R261 to R263, R266, R267 and R271 to R275. `binCentre` is the calibrated place of the tap in 1/16 ps, `stampFlags` the flags of
R268; a stamp is in thousandths of 2^-16 ns until it is rounded. -/
def Obligations.EvinEdgesAreStamped : Prop :=
  ∀ (d : Dev) (q : List Instr) (n : Evin),
    (∀ (r : Bool) (tc : Int) (tap : Fin 128) (b : Bool), d.on .evin n = false → exec (.evinEdge n r tc tap b) ⟨d, q⟩ = .next ⟨d, q⟩) ∧
    (∀ (r : Bool) (tc : Int) (tap : Fin 128), d.on .evin n = true → exec (.evinEdge n r tc tap true) ⟨d, q⟩ =
      .next ⟨(((d.until tc).inc (inst Obj.EvinDeadTimeLossCount n)).counted 1 0x08 n 1).setEvin n fun x => { x with lost := true }, q⟩) ∧
    (∀ (r : Bool) (tc : Int) (tap : Fin 128), d.on .evin n = true →
      (let e := d.until tc
       let up := r != ((e.evin n).inverted && e.rd (inst Obj.EvinInputType n) == 1)
       let f := e.binCentre n up tap
       let crossed := tc - nearest (f * 4096) 1000
       let t := tc * 1000 - f * 4096 -
         (Config.inputDelay n up (nearest (e.rd (inst Obj.EvinThreshold n) * 4) 5) + e.rd (inst Obj.EvinDelayComp n)) * 1000
       let g := e.setEvin n fun x => { x with lastEdge := some crossed }
       let accepted := e.rd (inst Obj.EvinSlope n) = 3 ∨ (e.rd (inst Obj.EvinSlope n) = 1 ↔ up = true)
       (g.baseNow n = none → exec (.evinEdge n r tc tap false) ⟨d, q⟩ = .next ⟨g.inc (inst Obj.EvinOverflowCount n), q⟩) ∧
       (∀ l, (e.evin n).lastEdge = some l → crossed - l < 3 * nsT → g.baseNow n ≠ none →
         exec (.evinEdge n r tc tap false) ⟨d, q⟩ = .next ⟨((g.inc (inst Obj.EvinDeadTimeLossCount n)).counted 1 0x08 n 1).setEvin n
           (fun x => { x with
             lost := true
             gate := x.gate.map (fun y => { y with dead := true })
             meas := if accepted then x.meas.map (fun m => { m with flags := setBit m.flags 5 true }) else x.meas }), q⟩) ∧
       (∀ base, (∀ l, (e.evin n).lastEdge = some l → 3 * nsT ≤ crossed - l) → g.baseNow n = some base →
         (let h := g.startsFrom n (some up) t (g.factoryBins n up) false
          let fl := g.stampFlags n up base
          (¬accepted → exec (.evinEdge n r tc tap false) ⟨d, q⟩ = .next ⟨h, q⟩) ∧
          (accepted → h.rd (inst Obj.EvinMode n) = 1 → exec (.evinEdge n r tc tap false) ⟨d, q⟩ =
            .next ⟨((h.inc (inst Obj.EvinStampCount n)).counted 1 0x07 n 1).takeStamp n base t
              (setBit fl 7 (bit fl 5) - 32 * ofBool (bit fl 5)) .stop, q⟩) ∧
          (accepted → h.rd (inst Obj.EvinMode n) ≠ 1 →
            (let count := (h.evin n).edges + 1
             let k := h.setEvin n fun x => { x with edges := count }
             let pre := max (k.rdN (inst Obj.EvinPrescale n)) 1
             (count % pre ≠ 0 → exec (.evinEdge n r tc tap false) ⟨d, q⟩ = .next ⟨k, q⟩) ∧
             (count % pre = 0 → exec (.evinEdge n r tc tap false) ⟨d, q⟩ =
               .next ⟨(((k.inc (inst Obj.EvinStampCount n)).counted 1 0x07 n 1).setEvin n
                 fun x => { x with seq := ((k.evin n).seq + 1) % 65536 }).takeStamp n base t fl
                   (.stamp (count / pre) (((k.evin n).seq + 1) % 65536)), q⟩))))))) ∧
    (∀ j bs as, (d.evin n).waits = [] → exec (.mrefStampConversion n j bs as) ⟨d, q⟩ = .next ⟨d, q⟩) ∧
    (∀ w rest j (bs as : List Int), (d.evin n).waits = w :: rest →
      (let ys := bs ++ as
       let xs : List Int := (List.range ys.length).map Int.ofNat
       let k : Int := ys.length
       let sxx := (xs.map fun x => x * x).sum
       let sxy := ((xs.zip ys).map fun p => p.1 * p.2).sum
       let dd := k * sxx - xs.sum * xs.sum
       let slope := k * sxy - xs.sum * ys.sum
       let edge := (ys.sum * sxx - xs.sum * sxy) + ((bs.length : Int) - 1) * slope
       let nominal : Int := if d.rd Obj.MrefFrequency = 0 then 100 * nsT else 10 * nsT
       (0 < slope → exec (.mrefStampConversion n j bs as) ⟨d, q⟩ = .next ⟨(d.setEvin n fun e => { e with waits := rest }).useStamp n
         (d.rd Obj.MrefEpoch + j * nominal + nearest ((w.t * dd - 1000 * edge) * nominal) (1000 * slope.toNat)) w.flags w.use, q⟩) ∧
       (slope ≤ 0 → exec (.mrefStampConversion n j bs as) ⟨d, q⟩ = .next ⟨d.setEvin n fun e => { e with waits := rest }, q⟩))) ∧
    (∀ w rest j (x y : Int), (d.evin n).waits = w :: rest → x < y →
      exec (.mrefStampConversion n j [x] [y]) ⟨d, q⟩ = .next ⟨(d.setEvin n fun e => { e with waits := rest }).useStamp n
        (d.rd Obj.MrefEpoch + j * (if d.rd Obj.MrefFrequency = 0 then 100 * nsT else 10 * nsT) +
          nearest ((w.t - 1000 * x) * (if d.rd Obj.MrefFrequency = 0 then 100 * nsT else 10 * nsT)) (1000 * (y - x).toNat)) w.flags w.use, q⟩) ∧
    (∀ m, (d.evin n).meas = some m →
      (let end_ := m.start + m.steps + d.rd (inst Obj.EvinTimeout n) * nsT
       let e := if bit m.flags 1 = true then d else d.until end_
       exec (.measurementTimeout n) ⟨d, q⟩ = .next ⟨(((e.closeMeas n { m with flags := setBit m.flags 0 true } end_).inc
         (inst Obj.EvinTimeoutCount n)).wr (inst Obj.EvinEventCause n) 1).raise 42, q⟩)) ∧
    ((d.evin n).meas = none → exec (.measurementTimeout n) ⟨d, q⟩ = .next ⟨d, q⟩)

/-- R255, R256, R259 to R261, R268, R276 to R279, R281 and R282. -/
def Obligations.EvinGatesPinsTheMrefAndReads : Prop :=
  ∀ (d : Dev) (q : List Instr) (n : Evin),
    (d.rd (inst Obj.EvinMode n) ≠ 1 →
      exec (.freqGateOne n) ⟨d, q⟩ = .next ⟨(d.wr (inst Obj.EvinFreqCmd n) 1).setEvin n fun e => { e with fit := 1 }, q⟩ ∧
      exec (.freqGateContinuous n) ⟨d, q⟩ = .next ⟨(d.wr (inst Obj.EvinFreqCmd n) 2).setEvin n fun e => { e with fit := 2 }, q⟩ ∧
      exec (.freqGateStop n) ⟨d, q⟩ = .next ⟨((d.wr (inst Obj.EvinFreqCmd n) 0).abandonGate n).fitEnds n, q⟩) ∧
    (d.rd (inst Obj.EvinMode n) = 1 → ∀ c ∈ [Instr.freqGateOne n, .freqGateContinuous n, .freqGateStop n],
      exec c ⟨d, q⟩ = .next ⟨d.wr (inst Obj.EvinFreqCmd n) 0x80, q⟩) ∧
    ((d.evin n).gate = none → exec (.freqGateClose n) ⟨d, q⟩ = .next ⟨d, q⟩) ∧
    (∀ g, (d.evin n).gate = some g →
      (let early := decide (2 ^ 24 ≤ g.count)
       let next := if early then d.now else g.opened + d.rd (inst Obj.EvinFreqGateLength n) * (1000000 * nsT)
       let e := d.until next
       let h := { g with holding := g.holding || e.rd Obj.SteeredSynthState != 1 }
       let f := ((if 3 ≤ g.count then e.publishGate n h else e).inc (inst Obj.EvinFreqGateCount n)).wr (inst Obj.EvinFreqFlags n)
         (h.flagBits + 2 * ofBool early : Nat)
       ((f.evin n).fit = 2 → exec (.freqGateClose n) ⟨d, q⟩ = .next ⟨((f.setEvin n fun x =>
         { x with gate := some { opened := next }, fit := 2 }).wr (inst Obj.EvinEventCause n) (if early then 7 else 6)).raise 43, q⟩) ∧
       ((f.evin n).fit ≠ 2 → exec (.freqGateClose n) ⟨d, q⟩ = .next ⟨(((f.setEvin n fun x =>
         { x with gate := none, fit := 0 }).wr (inst Obj.EvinFreqCmd n) 0).wr (inst Obj.EvinEventCause n) (if early then 7 else 6)).raise 43, q⟩))) ∧
    (∀ st : Fin 4, d.on .evin n = true → d.rdN (inst Obj.EvinPinStatus n) ≠ st →
      (st = 1 → d.rd (inst Obj.EvinTermination n) ≠ 1) → (st = 0 → d.rdN (inst Obj.EvinPinStatus n) < 4) →
      (st ≠ 0 → exec (.evinPinFault n st) ⟨d, q⟩ = .next ⟨((d.wr (inst Obj.EvinPinStatus n) st.val).wr (inst Obj.EvinEventCause n) 4).raise 59, q⟩) ∧
      (st = 0 → exec (.evinPinFault n st) ⟨d, q⟩ = .next ⟨(d.wr (inst Obj.EvinPinStatus n) 0).raise 59, q⟩)) ∧
    (∀ st : Fin 4, d.on .evin n = false ∨ d.rdN (inst Obj.EvinPinStatus n) = st ∨ (st = 1 ∧ d.rd (inst Obj.EvinTermination n) = 1) ∨
        (st = 0 ∧ 4 ≤ d.rdN (inst Obj.EvinPinStatus n)) →
      exec (.evinPinFault n st) ⟨d, q⟩ = .next ⟨d, q⟩) ∧
    (∀ edges high : Nat, d.on .evin n = true → d.rd (inst Obj.EvinInputType n) = 1 → d.rdN (inst Obj.EvinIdleLevel n) < 2 →
      2 ≤ edges →
      (let wrong := if d.rdN (inst Obj.EvinIdleLevel n) = 0 then high else 1000000000 - high
       (900000000 < wrong → d.rdB (inst Obj.EvinSwapCorrect n) = true → d.rdN (inst Obj.EvinPinStatus n) ≠ 4 →
         exec (.evinSwapCheck n edges high) ⟨d, q⟩ =
           .next ⟨(((d.wr (inst Obj.EvinPinStatus n) 4).setEvin n fun e => { e with invertNext := true }).wr (inst Obj.EvinEventCause n) 4).raise 59, q⟩) ∧
       (900000000 < wrong → d.rdB (inst Obj.EvinSwapCorrect n) = false → d.rdN (inst Obj.EvinPinStatus n) ≠ 5 →
         exec (.evinSwapCheck n edges high) ⟨d, q⟩ =
           .next ⟨(((d.wr (inst Obj.EvinPinStatus n) 5).setEvin n fun e => { e with invertNext := false }).wr (inst Obj.EvinEventCause n) 4).raise 59, q⟩) ∧
       (wrong ≤ 900000000 → d.rdN (inst Obj.EvinPinStatus n) = 4 ∨ d.rdN (inst Obj.EvinPinStatus n) = 5 →
         exec (.evinSwapCheck n edges high) ⟨d, q⟩ =
           .next ⟨((d.wr (inst Obj.EvinPinStatus n) 0).setEvin n fun e => { e with invertNext := false }).raise 59, q⟩) ∧
       (wrong ≤ 900000000 → d.rdN (inst Obj.EvinPinStatus n) ≠ 4 → d.rdN (inst Obj.EvinPinStatus n) ≠ 5 →
         exec (.evinSwapCheck n edges high) ⟨d, q⟩ = .next ⟨d, q⟩))) ∧
    (∀ edges high : Nat, edges < 2 → exec (.evinSwapCheck n edges high) ⟨d, q⟩ = .next ⟨d, q⟩) ∧
    (∀ ep : Int, d.on .mref 0 = true → d.rdB Obj.MrefPresent = false → exec (.mrefPresent ep) ⟨d, q⟩ =
      .next ⟨((((((d.wr Obj.MrefPresent 1).wr Obj.MrefEpoch ep).wr Obj.MrefTraced (ofBool d.tracedNow)).inc
        Obj.MrefPresenceChangeCount).raise 44).forEach (fun m e => e.when (e.rd (inst Obj.EvinBase m) == 1)
          fun e => e.setEvin m fun x => { x with discont := true }) (List.range 16)), q⟩) ∧
    (∀ ep : Int, d.on .mref 0 = false ∨ d.rdB Obj.MrefPresent = true → exec (.mrefPresent ep) ⟨d, q⟩ = .next ⟨d, q⟩) ∧
    (d.rdB Obj.MrefPresent = false → exec .mrefAbsent ⟨d, q⟩ = .next ⟨d, q⟩) ∧
    (d.rdB Obj.MrefPresent = true →
      (let e := (((d.wr Obj.MrefPresent 0).wr Obj.MrefTraced 0).inc Obj.MrefPresenceChangeCount).raise 44
       exec .mrefAbsent ⟨d, q⟩ = .next ⟨e.forEach (fun m e => e.when (e.rd (inst Obj.EvinBase m) == 1) fun e =>
         ((((e.add32 (inst Obj.EvinOverflowCount m) (e.evin m).waits.length).setEvin m fun x =>
           { x with waits := [], lost := x.lost || decide (0 < (e.evin m).waits.length) }).abandonMeas m 3).abandonGate m)) (List.range 16), q⟩)) ∧
    exec (.evinStampRead n) ⟨d, q⟩ = .next ⟨refreshFifo n ((d.wrV (inst Obj.EvinStampRead n)
      (.oct ((((d.evin n).fifo.take 4).map fun r => r.bytes n).flatten ++
        (List.replicate (4 - ((d.evin n).fifo.take 4).length) emptyRecord).flatten))).setEvin n
      fun e => { e with fifo := e.fifo.drop 4 }), q⟩ ∧
    (∀ r rest, (d.evin n).results = r :: rest → exec (.evinResultHeaderRead n) ⟨d, q⟩ =
      .next ⟨refreshFifo n ((d.window_ n r.header r.stops).setEvin n fun e => { e with results := rest }), q⟩) ∧
    ((d.evin n).results = [] → exec (.evinResultHeaderRead n) ⟨d, q⟩ = .next ⟨d.window_ n (List.replicate 16 0) [], q⟩)

/-- R293, R297, R300, R301, R305 to R308 and R310. -/
def Obligations.CalibrationRunsBeginAndEnd : Prop :=
  ∀ (d : Dev) (q : List Instr),
    (d.cal.armed = false → d.cal.targets = none → d.cal.port = none → d.on .calSequencer 0 = true → d.rdB Obj.ModeF4Calibration = false →
      exec .calBinRunCmd ⟨d, q⟩ = .next ⟨d.armBinRun, q⟩ ∧ d.armBinRun.cal.armed = true ∧ d.armBinRun.cal.targets = none ∧
      (d.portRunAllowed (d.rdN Obj.CalPortSelect) (d.rdN Obj.CalPortMethod) = true → exec .calPortRunCmd ⟨d, q⟩ =
        .next ⟨(d.wr Obj.CalRunCmd 2).portRunBegins (d.rdN Obj.CalPortSelect) (d.rdN Obj.CalPortMethod), q⟩) ∧
      (d.portRunAllowed (d.rdN Obj.CalPortSelect) (d.rdN Obj.CalPortMethod) = false → exec .calPortRunCmd ⟨d, q⟩ =
        .next ⟨d.wr Obj.CalRunCmd 0x80, q⟩)) ∧
    (d.cal.armed = true ∨ d.cal.targets ≠ none ∨ d.cal.port ≠ none → exec .calBinRunCmd ⟨d, q⟩ = .next ⟨d.wr Obj.CalRunCmd 0x80, q⟩ ∧
      exec .calPortRunCmd ⟨d, q⟩ = .next ⟨d.wr Obj.CalRunCmd 0x80, q⟩) ∧
    (d.cal.port = none → exec .calRunAbort ⟨d, q⟩ = .next ⟨{ d.wr Obj.CalRunCmd 0 with
      cal := { d.cal with armed := false, targets := none, port := none, portCommit := false, repeated := false } }, q⟩) ∧
    (∀ r, d.cal.port = some r → exec .calRunAbort ⟨d, q⟩ = .next ⟨{ ((d.unwatch r).wr Obj.CalPortPhase 0).wr Obj.CalRunCmd 0 with
      cal := { d.cal with armed := false, targets := none, port := none, portCommit := false, repeated := false } }, q⟩) ∧
    (d.itemStarts 7 = false → exec .calibrationStep ⟨d, q⟩ = .next ⟨d, q⟩) ∧
    (d.itemStarts 7 = true → d.cal.hostStep = 0 → d.on .calSequencer 0 = true →
      (let c : Dev := { d with cal := { d.cal with repeated := false } }
       (d.cal.armed = true → exec .calibrationStep ⟨d, q⟩ = .next ⟨({ d with cal := { d.cal with
         repeated := false, armed := false, targets := some c.startCollect } } : Dev).closeItem 7, q⟩) ∧
       (d.cal.armed = false → d.cal.targets = none → d.cal.port = none → exec .calibrationStep ⟨d, q⟩ = .next ⟨c.closeItem 7, q⟩) ∧
       (∀ ts t, d.cal.armed = false → d.cal.targets = some ts → ts.find? (fun t => t.hist.isSome || t.failed) = some t →
         (let e := (c.evaluate t).1
          exec .calibrationStep ⟨d, q⟩ = .next ⟨({ e with cal := { e.cal with
            targets := some (ts.filter (·.id != t.id))
            commits := e.cal.commits ++ (c.evaluate t).2.toList } } : Dev).closeItem 7, q⟩)) ∧
       (d.cal.armed = false → d.cal.targets = some [] →
         (let e := c.trim
          exec .calibrationStep ⟨d, q⟩ =
            .next ⟨(({ e.wr Obj.CalRunCmd 0 with cal := { e.cal with targets := none } } : Dev).runEnds).closeItem 7, q⟩)) ∧
       (∀ r, d.cal.armed = false → d.cal.targets = none → d.cal.port = some r → d.cal.portCommit = false →
         c.portBroken r = true → exec .calibrationStep ⟨d, q⟩ = .next ⟨(c.portReject r 5).closeItem 7, q⟩))) ∧
    (∀ r, d.cal.port = some r → d.rd Obj.CalPortPhase = 2 →
      exec .calPortNextCmd ⟨d, q⟩ = .next ⟨(d.wr Obj.CalPortNextCmd 0).measuringBegins r, q⟩) ∧
    (d.cal.port = none ∨ d.rd Obj.CalPortPhase ≠ 2 → exec .calPortNextCmd ⟨d, q⟩ = .next ⟨d.wr Obj.CalPortNextCmd 0x80, q⟩) ∧
    (∀ i : Fin 4, d.rd Obj.CalTempStep < |d.rd (inst Obj.DieTemperature i) - d.rd (inst Obj.CalTempAtLastRun i)| →
      d.rdB Obj.CalTriggerPending = false →
      exec .temperatureTrigger ⟨d, q⟩ = .next ⟨(d.wr Obj.CalTriggerPending 1).raise 47, q⟩) ∧
    (d.rdB Obj.CalTriggerPending = true ∨
        (∀ i : Fin 4, |d.rd (inst Obj.DieTemperature i) - d.rd (inst Obj.CalTempAtLastRun i)| ≤ d.rd Obj.CalTempStep) →
      exec .temperatureTrigger ⟨d, q⟩ = .next ⟨d, q⟩)

/-- R295, R296, R301 to R304 and R309. `portReject` is the rejection of R308. -/
def Obligations.CalibrationCollectsAndMeasures : Prop :=
  ∀ (d : Dev) (q : List Instr),
    (∀ (id : Fin 80) (h1 h2 : List Nat),
      (let take (t : CalTarget) : CalTarget := if t.id = id ∧ t.failed = false then { t with hist := some (h1, h2) } else t
       let e : Dev := { d with cal := { d.cal with targets := d.cal.targets.map fun ts => ts.map take } }
       ((∀ t, d.cal.host = some t → t.id = id → t.hist ≠ none) → exec (.histogramComplete id h1 h2) ⟨d, q⟩ = .next ⟨e, q⟩) ∧
       (∀ t, d.cal.host = some t → t.id = id → t.hist = none → exec (.histogramComplete id h1 h2) ⟨d, q⟩ =
         .next ⟨{ e.wr Obj.CalStepStatus 2 with cal := { e.cal with host := some (take t), hostDone := some d.turn.started } }, q⟩))) ∧
    (∀ id : Fin 80,
      (let late (t : CalTarget) : CalTarget := if t.id = id ∧ t.hist = none ∧ t.dither = false then
         (if d.calMode id = 0 then { id := id, dither := true, lineB := !d.servesB id } else { t with failed := true }) else t
       let e : Dev := { d with cal := { d.cal with targets := d.cal.targets.map fun ts => ts.map late } }
       ((∀ t, d.cal.host = some t → t.id = id → t.hist ≠ none ∨ t.dither = true) →
         exec (.calCollectLimitExpiry id) ⟨d, q⟩ = .next ⟨e, q⟩) ∧
       (∀ t, d.cal.host = some t → t.id = id → t.hist = none → t.dither = false → exec (.calCollectLimitExpiry id) ⟨d, q⟩ =
         .next ⟨{ (e.wr Obj.CalStepStatus 3).calReject (calCode id) 1 with
           cal := { e.cal with host := none, hostDone := some d.turn.started } }, q⟩))) ∧
    (d.cal.port = none ∨ d.rd Obj.CalPortPhase = 2 → exec .calLoopPhaseComplete ⟨d, q⟩ = .next ⟨d, q⟩ ∧
      exec .calMeasuringPhaseComplete ⟨d, q⟩ = .next ⟨d, q⟩) ∧
    (∀ r, d.cal.port = some r → d.rd Obj.CalPortPhase = 1 →
      16 ≤ (d.rdN (inst Obj.RefInPulseSeq r.ref) + 2 ^ 32 - r.seq0) % 2 ^ 32 →
      (d.portBroken r = true → exec .calLoopPhaseComplete ⟨d, q⟩ = .next ⟨d.portReject r 5, q⟩) ∧
      (d.portBroken r = false →
        (let ls := (d.refIn r.ref).pulses.map fun e =>
           wrapTo (e.2 - d.rd (inst Obj.PulseStart r.pulse) - d.rd (inst Obj.PulseMisalignment r.pulse)) secT
         let e := d.wr Obj.CalLoopDelay (mean ls)
         let f := e.wr Obj.CalPortPhase 2
         (d.rd Obj.CalPortSpreadLimit < deviation ls → exec .calLoopPhaseComplete ⟨d, q⟩ = .next ⟨e.portReject r 6, q⟩) ∧
         (deviation ls ≤ d.rd Obj.CalPortSpreadLimit → mean ls < 0 ∨ 1000 * nsT < mean ls →
           exec .calLoopPhaseComplete ⟨d, q⟩ = .next ⟨e.portReject r 7, q⟩) ∧
         (deviation ls ≤ d.rd Obj.CalPortSpreadLimit → 0 ≤ mean ls → mean ls ≤ 1000 * nsT →
           exec .calLoopPhaseComplete ⟨d, q⟩ = .next ⟨if d.calHost then f.hostStepDone else f, q⟩)))) ∧
    (∀ r, d.cal.port = some r → d.rd Obj.CalPortPhase = 3 →
      (d.portBroken r = true → exec .calMeasuringPhaseComplete ⟨d, q⟩ = .next ⟨d.portReject r 5, q⟩) ∧
      (d.portBroken r = false →
        (let p := r.port
         let w := (d.link p).cal.getD {}
         let xs := ((d.refIn r.ref).calPulses.getD []).map fun s => s - d.rd Obj.CalLoopDelay - d.rd Obj.CalPpsCableDelta
         let tin := d.rd Obj.CalFibreDelayIn
         let js : List Int := w.syncs.filterMap fun s =>
           (thetaAt xs s.1).map fun th => if r.method = 1 then s.2.1 + th - tin else 2 * (s.2.2 - th)
         let half := quot Config.roundsUp js.sum (2 * max js.length 1)
         let er := if r.method = 1 then mean js else -half
         let et := if r.method = 1 then mean w.rts - tin - d.rd Obj.CalFibreDelayOut - er else half
         let e := ((d.wr Obj.CalPortErrTx et).wr Obj.CalPortErrRx er).wr Obj.CalPortSpread (deviation js)
         let tx := d.rd (inst Obj.CalPortTxDelay p) + et
         let rx := d.rd (inst Obj.CalPortRxDelay p) + er
         let few := 10 * w.syncs.length * (d.effectiveSyncTurns p * d.rdN Obj.TurnPeriod * 2) < 9 * d.rdN Obj.CalPortSeconds * 1000000000
         let ok := (0 ≤ tx ∧ tx ≤ 20 * nsT) ∧ (0 ≤ rx ∧ rx ≤ 20 * nsT) ∧ |et| ≤ d.rd Obj.CalPortMaxChange ∧ |er| ≤ d.rd Obj.CalPortMaxChange
         let temp := if r.tempCount = 0 then quot Config.roundsUp d.tempSum 4 else quot Config.roundsUp r.tempSum r.tempCount
         let f : Dev := { e with cal := { d.cal with port := some { r with result := some (tx, rx, temp) }, portCommit := !d.calHost } }
         (d.rd Obj.CalPortSpreadLimit < deviation js ∨ few → exec .calMeasuringPhaseComplete ⟨d, q⟩ = .next ⟨e.portReject r 6, q⟩) ∧
         (deviation js ≤ d.rd Obj.CalPortSpreadLimit → ¬few → ¬ok → exec .calMeasuringPhaseComplete ⟨d, q⟩ = .next ⟨e.portReject r 7, q⟩) ∧
         (deviation js ≤ d.rd Obj.CalPortSpreadLimit → ¬few → ok → r.warmed = true →
           exec .calMeasuringPhaseComplete ⟨d, q⟩ = .next ⟨e.portReject r 9, q⟩) ∧
         (deviation js ≤ d.rd Obj.CalPortSpreadLimit → ¬few → ok → r.warmed = false →
           exec .calMeasuringPhaseComplete ⟨d, q⟩ = .next ⟨if d.calHost then f.hostStepDone else f, q⟩))))

/-- R295, R299, R309 and R310. -/
def Obligations.HostCalibrationStepsAreTakenUp : Prop :=
  ∀ (d : Dev) (q : List Instr),
    (d.calHost = false → ∀ c ∈ [Instr.calStepCollectSignal, .calStepCollectDither, .calStepEvaluate, .calStepCommitTable,
        .calStepDiscard, .calStepTrim, .calStepPortLoop, .calStepPortMeasure, .calStepCommitPort],
      exec c ⟨d, q⟩ = .next ⟨d.wr Obj.CalStepCmd 0x80, q⟩) ∧
    (d.calHost = true →
      (let e (v : Int) : Dev := (d.wr Obj.CalStepCmd v).wr Obj.CalStepStatus 1
       (∀ id, calOf (d.rdN Obj.CalStepTarget) = some id →
         exec .calStepCollectSignal ⟨d, q⟩ = .next ⟨{ e 1 with cal := { d.cal with host := some { id := id, dither := false, lineB := d.servesB id }, hostTable := none, hostDone := none } }, q⟩ ∧
         exec .calStepCollectDither ⟨d, q⟩ = .next ⟨{ e 2 with cal := { d.cal with host := some { id := id, dither := true, lineB := !d.servesB id }, hostTable := none, hostDone := none } }, q⟩) ∧
       (calOf (d.rdN Obj.CalStepTarget) = none →
         exec .calStepCollectSignal ⟨d, q⟩ = .next ⟨d.wr Obj.CalStepCmd 0x80, q⟩ ∧
         exec .calStepCollectDither ⟨d, q⟩ = .next ⟨d.wr Obj.CalStepCmd 0x80, q⟩) ∧
       (∀ t, d.cal.host = some t → t.hist ≠ none → exec .calStepEvaluate ⟨d, q⟩ =
         .next ⟨{ e 3 with cal := { d.cal with hostStep := 3, hostDone := none } }, q⟩) ∧
       ((∀ t, d.cal.host = some t → t.hist = none) → exec .calStepEvaluate ⟨d, q⟩ = .next ⟨d.wr Obj.CalStepCmd 0x80, q⟩) ∧
       (∀ t, d.cal.hostTable = some t → exec .calStepCommitTable ⟨d, q⟩ = .next ⟨{ e 4 with
         cal := { d.cal with commits := d.cal.commits ++ [t], hostTable := none, hostStep := 4, hostDone := none } }, q⟩) ∧
       (d.cal.hostTable = none → exec .calStepCommitTable ⟨d, q⟩ = .next ⟨d.wr Obj.CalStepCmd 0x80, q⟩) ∧
       exec .calStepDiscard ⟨d, q⟩ = .next ⟨{ (e 5).wr Obj.CalStepStatus 2 with
         cal := { d.cal with hostTable := none, hostDone := some d.turn.started } }, q⟩ ∧
       exec .calStepTrim ⟨d, q⟩ = .next ⟨{ e 6 with cal := { d.cal with hostStep := 6, hostDone := none } }, q⟩ ∧
       (let code := d.rdN Obj.CalStepTarget
        let ok := code / 256 = 4 ∧ code % 256 < 48 ∧ d.calActive = false ∧ d.portRunAllowed (code % 256) (d.rdN Obj.CalPortMethod) = true
        (ok → exec .calStepPortLoop ⟨d, q⟩ = .next ⟨(e 7).portRunBegins (code % 256) ((e 7).rdN Obj.CalPortMethod), q⟩) ∧
        (¬ok → exec .calStepPortLoop ⟨d, q⟩ = .next ⟨d.wr Obj.CalStepCmd 0x80, q⟩)) ∧
       (∀ r, d.cal.port = some r → d.rd Obj.CalPortPhase = 2 → exec .calStepPortMeasure ⟨d, q⟩ = .next ⟨(e 8).measuringBegins r, q⟩) ∧
       (d.cal.port = none ∨ d.rd Obj.CalPortPhase ≠ 2 → exec .calStepPortMeasure ⟨d, q⟩ = .next ⟨d.wr Obj.CalStepCmd 0x80, q⟩) ∧
       ((∀ r, d.cal.port = some r → r.result = none) → exec .calStepCommitPort ⟨d, q⟩ = .next ⟨d.wr Obj.CalStepCmd 0x80, q⟩) ∧
       (∀ r, d.cal.port = some r → r.result ≠ none → exec .calStepCommitPort ⟨d, q⟩ =
         .next ⟨{ e 9 with cal := { d.cal with portCommit := true, hostDone := none } }, q⟩)))

/-- R313, R315, R342, R343, R346, R351, R410, R412, R417 and R426. `pipeOrder` is the order of the round robin, `forwarding` the decision of R336 to
R341 with the counts it makes. -/
def Obligations.FramesEnterAndAreReplicated : Prop :=
  ∀ (d : Dev) (q : List Instr) (p : Port) (bs : List Byte) (bad : Bool) (st : RxStamp) (t : Int),
    (d.portReceives p = true → d.receiving p = none →
      (let e := d.counted 1 0x01 (d.timingLane p) 1
       let f := e.arriving p bs bad st
       (e.fifoFill p < 16384 → exec (.frameRxStart p bs bad st) ⟨d, q⟩ = .next ⟨((e.newFrame f).setFifo p
         ((e.newFrame f).fifo p ++ [d.fwd.nextFrame])).setReceiving p (d.fwd.nextFrame + 1), q⟩) ∧
       (16384 ≤ e.fifoFill p → exec (.frameRxStart p bs bad st) ⟨d, q⟩ = .next ⟨((e.newFrame { f with overflowed := true }).inc
         (inst Obj.PortIngressOverflowCount p)).setReceiving p (d.fwd.nextFrame + 1), q⟩))) ∧
    (d.portReceives p = false ∨ d.receiving p ≠ none → exec (.frameRxStart p bs bad st) ⟨d, q⟩ = .next ⟨d, q⟩) ∧
    (∀ (pipe : Fin 2) (ready : List PortHp),
      ((∀ x ∈ ready, d.mayEnter x = false) → exec (.pipelineEntry ⟨pipe, ready⟩) ⟨d, q⟩ = .next ⟨d, q⟩) ∧
      (∀ x id rest f, (d.pipeOrder pipe).find? (fun y => decide (∃ z ∈ ready, z.val = y) && d.mayEnter y) = some x →
        d.fifo x = id :: rest → d.frame id = some f →
        (let e := d.setFifo x rest
         let side := if 24 ≤ x ∧ x < 48 then 1 else 0
         (f.macTakes = true →
           exec (.pipelineEntry ⟨pipe, ready⟩) ⟨d, q⟩ = .next ⟨(e.onFrame id Frame.consumed).reapFrame id, q⟩) ∧
         (f.macTakes = false →
           (let r := (e.counted 0 0x01 side 1).forwarding x f.bytes f.ended
            let event := ∃ i, r.2.parsed.bind (·.ptp) = some i ∧ i.type < 4
            let waits := (∃ c ∈ r.2.plans, bit c.reasons 3 = true) ∧ event
            let g := { f with entered := true, decision := some r.2, awaits := if waits then f.awaits else none }
            let h := (r.1.putFrame id (some g)).setStage side (e.stage side ++ [id])
            exec (.pipelineEntry ⟨pipe, ready⟩) ⟨d, q⟩ = .next ⟨({ h with
              fwd := { h.fwd with lastEntered := Sparse.set (fun _ => 0) h.fwd.lastEntered side (x + 1) } } : Dev).learnReal g, q⟩))))) ∧
    (∀ pipe : Fin 2, (d.until t).stage pipe = [] → exec (.replication pipe t) ⟨d, q⟩ = .next ⟨d.until t, q⟩) ∧
    (∀ (pipe : Fin 2) id rest f, (d.until t).stage pipe = id :: rest →
      (let e := (d.until t).setStage pipe rest
       let x := f.decision.getD {}
       let n := x.plans.length + ofBool x.reel
       let stalled := if 4 < n then e.add32 (inst Obj.ReplicationStallCycles pipe) ((n + 3) / 4 - 1) else e
       let r := stalled.makeCopies id f x t x.plans
       let reeled := if x.reel = true then r.1.reelCopy id f else r.1
       e.frame id = some f → exec (.replication pipe t) ⟨d, q⟩ =
         .next ⟨((reeled.onFrame id fun g => { g with replicated := true }).injectedStatus f r.2).finishFrame id, q⟩)) ∧
    (∀ id f, d.receiving p = some id → d.frame id = some f →
      (d.maxFrame p < f.bytes.length → f.truncated = false →
        exec (.oversizeTruncation p) ⟨d, q⟩ = .next ⟨(d.onFrame id fun g => { g with truncated := true }).spoil id true, q⟩) ∧
      (f.bytes.length ≤ d.maxFrame p ∨ f.truncated = true → exec (.oversizeTruncation p) ⟨d, q⟩ = .next ⟨d, q⟩)) ∧
    (∀ id, d.receiving p = some id → exec (.frameRxEnd p) ⟨d, q⟩ = .next ⟨d.endFrame p id false, q⟩) ∧
    (d.receiving p = none → exec (.frameRxEnd p) ⟨d, q⟩ = .next ⟨d, q⟩ ∧ exec (.oversizeTruncation p) ⟨d, q⟩ = .next ⟨d, q⟩)

/-- R337, R345, R346, R371, R372, R381, R419, R420, R547, R552 and R553. -/
def Obligations.CopiesAreSentAndDelivered : Prop :=
  ∀ (d : Dev) (q : List Instr) (p : Port) (t m : Int) (k : Nat),
    (let e := d.until t
     let st := d.txInst p m k
     (e.portTakes p = true → (e.egress p).tx = none → exec (.transmitSelection p t m k) ⟨d, q⟩ =
       .next ⟨e.selectLoop p t st (((List.range 8).map fun c => (e.queue (queueKey p c)).length).sum + 1), q⟩) ∧
     (e.portTakes p = false ∨ (e.egress p).tx ≠ none → exec (.transmitSelection p t m k) ⟨d, q⟩ = .next ⟨e, q⟩) ∧
     (let head := ((List.range 8).filterMap fun c => (e.queue (queueKey p c)).head?.map fun x => (c, x)).find? fun y => y.2.cut
      (head = none → exec (.cutThroughStart p t m k) ⟨d, q⟩ = .next ⟨e, q⟩) ∧
      (e.portTakes p = false ∨ (e.egress p).tx ≠ none → exec (.cutThroughStart p t m k) ⟨d, q⟩ = .next ⟨e, q⟩) ∧
      (∀ c x id f, head = some (c, x) → x.payload = .frame id → e.frame id = some f → (e.egress p).tx = none → e.portTakes p = true →
        (f.ended = true ∨ 256 < f.bytes.length →
          exec (.cutThroughStart p t m k) ⟨d, q⟩ = .next ⟨(e.popQueue p c).startTx p x st, q⟩) ∧
        (f.ended = false → f.bytes.length ≤ 256 → exec (.cutThroughStart p t m k) ⟨d, q⟩ = .next ⟨e, q⟩))) ∧
     ((e.egress p).tx = none → exec (.frameTxEnd p t) ⟨d, q⟩ = .next ⟨e, q⟩) ∧
     (∀ x, (e.egress p).tx = some x →
       (let g := (e.setEgress p fun y => { y with tx := none }).inc (queueObj Obj.QueueTxCount p x.copy.plan.cls)
        (∀ w len, x.copy.payload = .engine w len →
          (let h := (g.countTx p x.bytes.length (x.bytes.take 6) true false false false).freeCopy x.copy
           (∀ k, w = .ptp k → exec (.frameTxEnd p t) ⟨d, q⟩ = .next ⟨h.ptpFollows p k x.stamp, q⟩) ∧
           ((∀ k, w ≠ .ptp k) → exec (.frameTxEnd p t) ⟨d, q⟩ = .next ⟨h, q⟩))) ∧
        (∀ id f, x.copy.payload = .frame id → g.frame id = some f →
          (let out := if x.copy.cut then g.leaving f x.copy.plan x.stamp x.stomped else (x.bytes, x.padded, x.truncated)
           let h := g.countTx p out.1.length (out.1.take 6) (fcsGood out.1) x.stomped out.2.2 (out.2.1 || f.padded)
           exec (.frameTxEnd p t) ⟨d, q⟩ = .next ⟨(h.txOutcome (h.copyRing x.copy) 0 (some x.stamp)).freeCopy x.copy, q⟩)))) ∧
     exec (.launchTimeReached p t) ⟨d, q⟩ = .next ⟨e, q⟩) ∧
    (∀ (r : Fin 4) (err : Nat),
      (let g := d.ring (4 + r)
       (g.enable = false ∨ g.active = false ∨ g.halted = true ∨ g.waiting = 0 → exec (.hpRxDelivery r err) ⟨d, q⟩ = .next ⟨d, q⟩) ∧
       (g.delivering = none → d.nextDelivery r = none → exec (.hpRxDelivery r err) ⟨d, q⟩ = .next ⟨d, q⟩) ∧
       (g.enable = true → g.active = true → g.halted = false → g.waiting ≠ 0 →
         (g.delivering ≠ none ∨ d.nextDelivery r ≠ none → err ≠ 0 →
           exec (.hpRxDelivery r err) ⟨d, q⟩ = .next ⟨d.setRing (4 + r) fun h => h.halt (min err 2), q⟩) ∧
         (∀ x n, g.delivering = some (x, n) → exec (.hpRxDelivery r 0) ⟨d, q⟩ =
           .next ⟨(d.setRing (4 + r) fun h => { h with written := [] }).fill (4 + r) x (d.copyBytes x) g.waiting n, q⟩) ∧
         (∀ x, g.delivering = none → d.nextDelivery r = some x →
           (let e := d.setQueue 384 ((d.queue 384).erase x)
            exec (.hpRxDelivery r 0) ⟨d, q⟩ =
              .next ⟨(e.setRing (4 + r) fun h => { h with written := [] }).fill (4 + r) x (e.copyBytes x) g.waiting 0, q⟩)))))

/-- R388 to R392. -/
def Obligations.PauseFollowsItsFrames : Prop :=
  ∀ (d : Dev) (q : List Instr) (p : Port),
    (∀ quanta : Nat, d.portReceives p = true → d.rd (inst Obj.PauseRxMode p) = 1 → exec (.pauseFrameRx p quanta) ⟨d, q⟩ =
      .next ⟨(d.setPaused p (setBit (d.egress p).paused 8 (quanta != 0))).inc (inst Obj.PauseRxFrameCount p), q⟩) ∧
    (∀ quanta : Nat, d.portReceives p = false ∨ d.rd (inst Obj.PauseRxMode p) ≠ 1 →
      exec (.pauseFrameRx p quanta) ⟨d, q⟩ = .next ⟨d, q⟩) ∧
    (∀ (v : Nat) (ts : List Nat), d.portReceives p = true → d.rd (inst Obj.PauseRxMode p) = 2 →
      exec (.pfcFrameRx p v ts) ⟨d, q⟩ = .next ⟨(d.setPaused p ((List.range 8).foldl (fun w k =>
        if bit v k && bit (d.rdN (inst Obj.PfcRxMask p)) k then setBit w k (ts.getD k 0 != 0) else w) (d.egress p).paused)).inc
        (inst Obj.PauseRxFrameCount p), q⟩) ∧
    (∀ (v : Nat) (ts : List Nat), d.portReceives p = false ∨ d.rd (inst Obj.PauseRxMode p) ≠ 2 →
      exec (.pfcFrameRx p v ts) ⟨d, q⟩ = .next ⟨d, q⟩) ∧
    (∀ k : Fin 8, exec (.pauseTimerExpiry p (some k)) ⟨d, q⟩ = .next ⟨d.setPaused p (setBit (d.egress p).paused k false), q⟩) ∧
    exec (.pauseTimerExpiry p none) ⟨d, q⟩ = .next ⟨d.setPaused p (setBit (d.egress p).paused 8 false), q⟩ ∧
    (∀ pr : Option (Fin 8),
      (let again := d.xoffHeld p (pr.map (·.val)) = true ∧ d.rd (inst Obj.PauseXonCells p) < d.pauseCount p (pr.map (·.val)) ∧
         ∀ x ∈ (d.egress p).due, x.prio ≠ pr.map (·.val)
       (again → exec (.xoffRepeat p pr) ⟨d, q⟩ =
         .next ⟨d.setEgress p fun e => { e with due := e.due ++ [⟨true, pr.map (·.val)⟩] }, q⟩) ∧
       (¬again → exec (.xoffRepeat p pr) ⟨d, q⟩ = .next ⟨d, q⟩))) ∧
    (∀ t : Int, (let e := d.until t
      let may := (e.egress p).tx = none ∧ e.portTakes p = true ∧ e.launchGuard p none t (txTime 64 (e.lineRate p)) = true
      ((e.egress p).due = [] ∨ ¬may → exec (.pauseFrameTx p t) ⟨d, q⟩ = .next ⟨e, q⟩) ∧
      (∀ off prio rest, (e.egress p).due = ⟨off, prio⟩ :: rest → may →
        (let held := e.rdN (inst Obj.PauseXoffState p)
         let state := match prio with
           | none => if off then 0xFF else 0
           | some k => setBit held k off
         exec (.pauseFrameTx p t) ⟨d, q⟩ =
           .next ⟨((((e.setEgress p fun y => { y with due := rest, headroom := if off then y.headroom else 0 }).wr
             (inst Obj.PauseXoffState p) (state : Nat)).inc (inst Obj.PauseTxFrameCount p)).count p (if prio = none then 28 else 29) 1).countTx
               p 64 [1, 0, 0, 0, 0, 0] true false false false, q⟩))))

/-- R332, R333 and R335. -/
def Obligations.AddressesAreLearnedAndAged : Prop :=
  ∀ (d : Dev) (q : List Instr),
    (9 ∈ d.turn.openItems → d.on .learning 0 = true → d.rdB Obj.ModeF3Learning = false → exec .addressLearning ⟨d, q⟩ =
      .next ⟨((d.setLearnQueue (d.fwd.learnQueue.drop 256)).learnAll (d.fwd.learnQueue.take 256)).closeItem 9, q⟩) ∧
    (9 ∈ d.turn.openItems → d.on .learning 0 = false ∨ d.rdB Obj.ModeF3Learning = true →
      exec .addressLearning ⟨d, q⟩ = .next ⟨d.closeItem 9, q⟩) ∧
    (9 ∉ d.turn.openItems → exec .addressLearning ⟨d, q⟩ = .next ⟨d, q⟩) ∧
    (d.rdB Obj.ModeF3Learning = true → exec .learnQueueRead ⟨d, q⟩ = .next ⟨(d.setLearnQueue (d.fwd.learnQueue.drop 4)).wrV
      Obj.LearnQueueRead (.oct (((d.fwd.learnQueue.take 4).map learnRecord).flatten ++
        List.replicate (64 - ((d.fwd.learnQueue.take 4).map learnRecord).flatten.length) 0)), q⟩) ∧
    (d.rdB Obj.ModeF3Learning = false → exec .learnQueueRead ⟨d, q⟩ =
      .next ⟨d.wrV Obj.LearnQueueRead (.oct (List.replicate 64 0)), q⟩) ∧
    (d.rd Obj.MacAgeTime = 0 → exec .macAgeingVisit ⟨d, q⟩ = .next ⟨d, q⟩) ∧
    (d.rd Obj.MacAgeTime ≠ 0 → exec .macAgeingVisit ⟨d, q⟩ =
      .next ⟨(d.fwd.mac.map (·.1)).foldl (fun (e : Dev) loc => e.ageEntry loc) d, q⟩) ∧
    (∀ loc, macDynamic (d.macAt loc) = false → d.ageEntry loc = d) ∧
    (∀ loc, macDynamic (d.macAt loc) = true → bits (d.macAt loc) 75 3 = 0 →
      d.ageEntry loc = (d.commitMac loc 0).inc Obj.MacAgedCount ∧ (d.ageEntry loc).macAt loc = 0)

/-- R328 and R348 to R350. `report` is what the objects show: the status always, the index and the data where the operation gives them. -/
def Obligations.TableOperationsRunOneAtATime : Prop :=
  ∀ (d : Dev) (q : List Instr),
    (∀ x, d.fwd.tableOp = some x → (∀ c ∈ [Instr.tableOpRead, .tableOpWrite, .tableOpInsert, .tableOpDelete, .tableOpSearch,
      .tableOpFlush], exec c ⟨d, q⟩ = .next ⟨d.wr Obj.TableOpCmd 0x80, q⟩)) ∧
    (d.fwd.tableOp = none → ∀ c ∈ [(Instr.tableOpRead, 1), (.tableOpWrite, 2), (.tableOpInsert, 3), (.tableOpDelete, 4),
      (.tableOpSearch, 5), (.tableOpFlush, 6)],
      exec c.1 ⟨d, q⟩ = .next ⟨{ d.wr Obj.TableOpCmd 1 with fwd := { d.fwd with
        tableOp := some ⟨c.2, d.rdN Obj.TableOpTable, d.rdN Obj.TableOpIndex,
          entryOf (d.rdN Obj.TableOpTable) (d.rdV Obj.TableOpData).bytes⟩ } }, q⟩) ∧
    (d.fwd.tableOp = none → exec .tableOpComplete ⟨d, q⟩ = .next ⟨d, q⟩) ∧
    (∀ o, d.fwd.tableOp = some o →
      (let z : Dev := { d with fwd := { d.fwd with tableOp := none } }
       let index (e : Dev) : Option Nat → Dev | some i => e.wr Obj.TableOpResultIndex i | none => e
       let data (e : Dev) : Option Nat → Dev | some x => e.wrV Obj.TableOpData (.oct (leBytes 64 x)) | none => e
       let report (e : Dev) (st : Nat) (i x : Option Nat) : Dev :=
         (data (index ((e.wr Obj.TableOpCmd 0).wr Obj.TableOpStatus st) i) x).inc Obj.TableOpCount
       let mac := bits o.entry 0 48
       let fid := bits o.entry 48 12
       (o.code = 1 → o.index < tableSize o.table →
         exec .tableOpComplete ⟨d, q⟩ = .next ⟨report z 0 none (some (z.tableAt o.table o.index)), q⟩) ∧
       (o.code = 1 → tableSize o.table ≤ o.index → exec .tableOpComplete ⟨d, q⟩ = .next ⟨report z 5 none none, q⟩) ∧
       (o.code = 2 → z.writeStatus o.table o.index o.entry = 0 →
         exec .tableOpComplete ⟨d, q⟩ = .next ⟨report (z.writeEntry o.table o.index o.entry) 0 none none, q⟩) ∧
       (o.code = 2 → z.writeStatus o.table o.index o.entry ∈ [4, 5, 6] →
         exec .tableOpComplete ⟨d, q⟩ = .next ⟨report z (z.writeStatus o.table o.index o.entry) none none, q⟩) ∧
       (z.writeStatus o.table o.index o.entry ∈ [0, 4, 5, 6]) ∧
       (3 ≤ o.code → o.table ≠ 1 → exec .tableOpComplete ⟨d, q⟩ = .next ⟨report z 5 none none, q⟩) ∧
       (o.table = 1 → o.code = 3 →
         (bit o.entry 60 = false ∨ badMac o.entry = true → exec .tableOpComplete ⟨d, q⟩ = .next ⟨report z 6 none none, q⟩) ∧
         (bit o.entry 60 = true → badMac o.entry = false →
           (∀ loc, z.macFind mac fid = some loc ∨ (z.macFind mac fid = none ∧ z.macFree mac fid = some loc) →
             exec .tableOpComplete ⟨d, q⟩ = .next ⟨report (z.commitMac loc o.entry) 0 (some loc) none, q⟩) ∧
           (z.macFind mac fid = none → z.macFree mac fid = none →
             exec .tableOpComplete ⟨d, q⟩ = .next ⟨(report z 3 none none).raise 16, q⟩))) ∧
       (o.table = 1 → ∀ loc, z.macFind mac fid = some loc →
         (o.code = 4 → exec .tableOpComplete ⟨d, q⟩ = .next ⟨report (z.commitMac loc 0) 0 (some loc) none, q⟩) ∧
         (o.code = 5 → exec .tableOpComplete ⟨d, q⟩ = .next ⟨report z 0 (some loc) (some (z.macAt loc)), q⟩)) ∧
       (o.table = 1 → z.macFind mac fid = none → o.code = 4 ∨ o.code = 5 →
         exec .tableOpComplete ⟨d, q⟩ = .next ⟨report z 2 none none, q⟩) ∧
       (o.table = 1 → o.code = 6 →
         (let r := z.macFlush (bits o.index 0 8) (bits o.index 8 16)
          exec .tableOpComplete ⟨d, q⟩ = .next ⟨report r.1 0 (some r.2) none, q⟩))))

/-- R328 and R348: an insertion is what a search finds, over the four ways and the overflow store. -/
def Obligations.InsertedAddressIsFound : Prop :=
  ∀ (d : Dev) (mac fid e loc : Nat), d.macFind mac fid = none → d.macFree mac fid = some loc →
    bit e 60 = true → e % 2 ^ 60 = macKey mac fid → Sparse.wf (fun _ => 0) d.fwd.mac = true →
    (d.setMac loc e).macFind mac fid = some loc ∧ (∀ k, k ≠ loc → (d.setMac loc e).macAt k = d.macAt k) ∧
    ((d.setMac loc e).setMac loc 0).macFind mac fid = none

/-- R374 and R383 to R387. `cmdDone` writes 0, or 0x80 for a refusal, into the command object. -/
def Obligations.TheMaquetteIsStagedAndSwapped : Prop :=
  ∀ (d : Dev) (q : List Instr),
    (∀ m : Bool, exec (if m then .gateOpReadMaquette else .gateOpReadArmature) ⟨d, q⟩ = .next ⟨(d.wrV Obj.GateOpData (.oct
      ((List.range 8).map fun j => leBytes 8 (d.gateEntry m (d.rdN Obj.GateOpPort) (8 * d.rdN Obj.GateOpGroup + j))).flatten)).cmdDone
        Obj.GateOpCmd false, q⟩) ∧
    (d.swapArmed = true → exec .gateOpWriteMaquette ⟨d, q⟩ = .next ⟨d.cmdDone Obj.GateOpCmd true, q⟩ ∧
      exec .maquetteStreamWrite ⟨d, q⟩ = .next ⟨d.cmdDone Obj.MaquetteStreamCmd true, q⟩ ∧
      exec .maquetteSwapArm ⟨d, q⟩ = .next ⟨d.wr Obj.MaquetteSwapCmd 0x80, q⟩ ∧
      exec .maquetteSwapCancel ⟨d, q⟩ = .next ⟨(({ d with turn := { d.turn with
        queue := d.turn.queue.filter fun c => !(c.kind == .swap) } } : Dev).wr Obj.MaquetteSwapCmd 0).wr Obj.MaquetteSwapResult 5, q⟩) ∧
    (d.swapArmed = true ∨ d.buf.copying = true → exec .maquetteCopy ⟨d, q⟩ = .next ⟨d.wr Obj.MaquetteCopyCmd 0x80, q⟩) ∧
    (d.swapArmed = false →
      exec .gateOpWriteMaquette ⟨d, q⟩ = .next ⟨((List.range 8).foldl (fun (e : Dev) j => e.setGate true (d.rdN Obj.GateOpPort)
        (8 * d.rdN Obj.GateOpGroup + j) (leNat (((d.rdV Obj.GateOpData).bytes.drop (8 * j)).take 8))) d).cmdDone Obj.GateOpCmd false, q⟩ ∧
      (let i := d.rdN Obj.MaquetteStreamIndex
       let e := entryOf 3 (d.rdV Obj.MaquetteStreamData).bytes
       (4096 ≤ i → exec .maquetteStreamWrite ⟨d, q⟩ = .next ⟨(d.wr Obj.MaquetteStreamStatus 5).cmdDone Obj.MaquetteStreamCmd false, q⟩) ∧
       (i < 4096 → badStream e = true →
         exec .maquetteStreamWrite ⟨d, q⟩ = .next ⟨(d.wr Obj.MaquetteStreamStatus 6).cmdDone Obj.MaquetteStreamCmd true, q⟩) ∧
       (i < 4096 → badStream e = false → exec .maquetteStreamWrite ⟨d, q⟩ =
         .next ⟨((d.setImage i e).wr Obj.MaquetteStreamStatus 0).cmdDone Obj.MaquetteStreamCmd false, q⟩)) ∧
      (d.buf.copying = false →
        (let e := (List.range 48).foldl (fun (e : Dev) p => e.wr (inst Obj.MaquetteListLength p) (e.rd (inst Obj.ArmatureListLength p))) d
         exec .maquetteCopy ⟨d, q⟩ = .next ⟨{ e.wr Obj.MaquetteCopyCmd 1 with
           buf := { e.buf with maqGates := e.buf.armGates, maqStream := e.fwd.stream.filter fun x => bit x.2 4, copying := true } }, q⟩)) ∧
      (let n := d.rdN Obj.MaquetteSwapAt
       let change := ∃ c ∈ d.turn.queue, c.isParam = true ∧ c.turn = n
       let bad := d.swapChecks (d.rdN Obj.TurnPeriod)
       (d.canArm n = true → change ∨ bad = 0 → exec .maquetteSwapArm ⟨d, q⟩ = .next ⟨{ d.wr Obj.MaquetteSwapCmd 1 with
         turn := { d.turn with queue := d.turn.queue ++ [⟨n, .swap⟩] } }, q⟩) ∧
       (d.canArm n = true → ¬change → bad ≠ 0 → exec .maquetteSwapArm ⟨d, q⟩ =
         .next ⟨(d.wr Obj.MaquetteSwapCmd 0x80).wr Obj.MaquetteSwapResult bad, q⟩)) ∧
      (d.canArm (d.rdN Obj.MaquetteSwapAt) = false → exec .maquetteSwapArm ⟨d, q⟩ = .next ⟨d.wr Obj.MaquetteSwapCmd 0x80, q⟩) ∧
      exec .maquetteSwapCancel ⟨d, q⟩ = .next ⟨d.wr Obj.MaquetteSwapCmd 0, q⟩) ∧
    (d.rdN Obj.MaquetteStreamIndex < 4096 → exec .maquetteStreamRead ⟨d, q⟩ = .next ⟨((d.wrV Obj.MaquetteStreamData
      (.oct (leBytes 64 (d.imageAt (d.rdN Obj.MaquetteStreamIndex))))).wr Obj.MaquetteStreamStatus 0).cmdDone Obj.MaquetteStreamCmd false, q⟩) ∧
    (4096 ≤ d.rdN Obj.MaquetteStreamIndex → exec .maquetteStreamRead ⟨d, q⟩ =
      .next ⟨(d.wr Obj.MaquetteStreamStatus 5).cmdDone Obj.MaquetteStreamCmd false, q⟩) ∧
    (d.buf.copying = true → exec .maquetteCopyComplete ⟨d, q⟩ =
      .next ⟨{ d.wr Obj.MaquetteCopyCmd 0 with buf := { d.buf with copying := false } }, q⟩) ∧
    (d.buf.copying = false → exec .maquetteCopyComplete ⟨d, q⟩ = .next ⟨d, q⟩) ∧
    (∀ (p : Port) (t : Int),
      (let e := d.until t
       let now := e.gatesAt p t
       let f := e.wr (inst Obj.QueueGateStates p) now
       ((e.egress p).tx = none → exec (.gateEntryStart p t) ⟨d, q⟩ = .next ⟨f, q⟩) ∧
       (∀ x, (e.egress p).tx = some x →
         (let shuts := bit (e.rdN (inst Obj.QueueGateStates p)) x.copy.plan.cls = true ∧ bit now x.copy.plan.cls = false
          (shuts → exec (.gateEntryStart p t) ⟨d, q⟩ = .next ⟨f.inc Obj.GateOverrunCount, q⟩) ∧
          (¬shuts → exec (.gateEntryStart p t) ⟨d, q⟩ = .next ⟨f, q⟩)))))

/-- R394 to R398 and R422 to R425. -/
def Obligations.TheReelAndTheStatistics : Prop :=
  ∀ (d : Dev) (q : List Instr),
    exec .reelStart ⟨d, q⟩ = .next ⟨{ d.wr Obj.ReelCmd 1 with buf := { d.buf with reelCmd := some 1 } }, q⟩ ∧
    exec .reelStop ⟨d, q⟩ = .next ⟨{ d.wr Obj.ReelCmd 2 with buf := { d.buf with reelCmd := some 2 } }, q⟩ ∧
    (d.rd Obj.ReelState ≠ 3 → d.rd Obj.ThermalState = 0 →
      exec .reelResume ⟨d, q⟩ = .next ⟨{ d.wr Obj.ReelCmd 3 with buf := { d.buf with reelCmd := some 3 } }, q⟩) ∧
    (d.rd Obj.ReelState = 3 ∨ d.rd Obj.ThermalState ≠ 0 → exec .reelResume ⟨d, q⟩ = .next ⟨d.wr Obj.ReelCmd 0x80, q⟩) ∧
    (d.rd Obj.ReelState ≠ 1 → exec .reelTriggerCmd ⟨d, q⟩ = .next ⟨d, q⟩) ∧
    (d.rd Obj.ReelState = 1 →
      (let e : Dev := { d.wr Obj.ReelTriggerTime d.now with buf := { d.buf with reelTrigger := true, reelSince := 0 } }
       let ring := ((e.wr Obj.ReelState 1).wr Obj.ReelEventCause 1).raise 19
       let region := d.reelSize * d.rdN Obj.ReelPreTrigger / 100 / 32 * 32
       let post := (((e.wr Obj.ReelWriteOffset (region : Nat)).wr Obj.ReelState 2).wr Obj.ReelEventCause 1).raise 19
       (d.rd Obj.ReelMode ≠ 1 → exec .reelTriggerCmd ⟨d, q⟩ = .next ⟨ring, q⟩) ∧
       (d.rd Obj.ReelMode = 1 → exec .reelTriggerCmd ⟨d, q⟩ = .next ⟨post, q⟩))) ∧
    (let due := 10 ∈ d.turn.openItems
     let hit := d.on .reelTrigger 0 = true ∧ d.rdB Obj.ModeF7ReelTrigger = false ∧
       ((d.buf.raisedBefore &&& d.rdN Obj.ReelTriggerEventMask) ≠ 0 ∨ d.rdN Obj.ReelTriggerStream ∈ d.buf.recordedBefore)
     (due → hit → ∀ t, exec .reelTriggerCmd ⟨d, q⟩ = .next ⟨t, q⟩ →
       exec .reelTriggerEvaluation ⟨d, q⟩ = .next ⟨t.closeItem 10, q⟩) ∧
     (due → ¬hit → exec .reelTriggerEvaluation ⟨d, q⟩ = .next ⟨d.closeItem 10, q⟩) ∧
     (¬due → exec .reelTriggerEvaluation ⟨d, q⟩ = .next ⟨d, q⟩)) ∧
    exec .reelRead ⟨d, q⟩ = .next ⟨(d.wrV Obj.ReelReadData (.oct (readBytes d.buf.reel (d.rdN Obj.ReelReadOffset) 64))).wr
      Obj.ReelReadOffset (if d.rdN Obj.ReelReadOffset + 64 < d.reelSize then d.rdN Obj.ReelReadOffset + 64 else 0 : Nat), q⟩ ∧
    (∀ p : PortHp, exec (.statPeek p) ⟨d, q⟩ = .next ⟨d.wrV (inst Obj.StatPeek p) (.oct (d.statRecord p)), q⟩) ∧
    (∀ p : PortHp, exec (.statSnapshot p) ⟨d, q⟩ = .next ⟨(((List.range 42).foldl (fun (e : Dev) k => e.setStat p k 0) d).wrV
      (inst Obj.StatSnapshot p) (.oct (d.statRecord p))).wr (inst Obj.StatLastClearTurn p)
      (((List.range 42).foldl (fun (e : Dev) k => e.setStat p k 0) d).rd Obj.TurnNumber), q⟩)

/-- R44, R433 to R435, R437, R438 and R441. `rxTo` writes LaneRxState and, where the lane leaves LOCKED, its losses. -/
def Obligations.ReceiveLanesFollowTheirStates : Prop :=
  ∀ (d : Dev) (q : List Instr) (l : Lane),
    (d.on .lane l = false → exec (.signalDetect l) ⟨d, q⟩ = .next ⟨d, q⟩) ∧
    (d.on .lane l = true →
      (let e := d.wr (inst Obj.LaneSignalDetect l) 1
       let wakes := e.rxState l = 6 ∧ e.isNq (e.portOfLane l) = true
       (wakes → exec (.signalDetect l) ⟨d, q⟩ = .next ⟨e.rxTo l 2, q⟩) ∧
       (¬wakes → exec (.signalDetect l) ⟨d, q⟩ = .next ⟨e, q⟩))) ∧
    (let e := d.wr (inst Obj.LaneSignalDetect l) 0
     (2 ≤ e.rxState l → e.rxState l ≠ 6 → exec (.lossOfSignal l) ⟨d, q⟩ = .next ⟨e.rxTo l 1, q⟩) ∧
     (e.rxState l < 2 ∨ e.rxState l = 6 → exec (.lossOfSignal l) ⟨d, q⟩ = .next ⟨e, q⟩)) ∧
    (d.rxState l = 1 → d.rdB (inst Obj.LaneSignalDetect l) = true → d.laneClocked l = true → d.stopped = false →
      exec (.signalHoldElapsed l) ⟨d, q⟩ = .next ⟨d.rxTo l 2, q⟩) ∧
    (d.rxState l ≠ 1 ∨ d.rdB (inst Obj.LaneSignalDetect l) = false ∨ d.laneClocked l = false ∨ d.stopped = true →
      exec (.signalHoldElapsed l) ⟨d, q⟩ = .next ⟨d, q⟩) ∧
    (d.rxState l = 2 → exec (.cdrLock l) ⟨d, q⟩ = .next ⟨d.rxTo l (if (d.lane l).fromSleep then 4 else 3), q⟩) ∧
    (d.rxState l ≠ 2 → exec (.cdrLock l) ⟨d, q⟩ = .next ⟨d, q⟩) ∧
    (d.rxState l = 5 → exec (.cdrLockLoss l) ⟨d, q⟩ = .next ⟨d.rxTo l 2, q⟩) ∧
    (d.rxState l ≠ 5 → exec (.cdrLockLoss l) ⟨d, q⟩ = .next ⟨d, q⟩) ∧
    (∀ bs : List Byte, (d.rxState l = 3 → d.adapts l = true → coeffsOk bs = true →
        exec (.adaptationConverged l bs) ⟨d, q⟩ = .next ⟨(d.setCoeffs l bs 0).rxTo l 4, q⟩) ∧
      (d.rxState l = 3 → d.adapts l = false ∨ coeffsOk bs = false →
        exec (.adaptationConverged l bs) ⟨d, q⟩ = .next ⟨d.rxTo l 4, q⟩) ∧
      (d.rxState l ≠ 3 → exec (.adaptationConverged l bs) ⟨d, q⟩ = .next ⟨d, q⟩)) ∧
    (∀ (slip box pos : Nat) (inv : Bool),
      (d.rxState l = 4 → inv = false ∨ d.rdB (inst Obj.LaneRxPolarityAuto l) = false →
        exec (.alignmentFound l slip box pos inv) ⟨d, q⟩ = .next ⟨d.laneLocks l slip box pos, q⟩) ∧
      (d.rxState l = 4 → inv = true → d.rdB (inst Obj.LaneRxPolarityAuto l) = true →
        exec (.alignmentFound l slip box pos inv) ⟨d, q⟩ = .next ⟨d.invertRx l, q⟩) ∧
      (d.rxState l ≠ 4 → exec (.alignmentFound l slip box pos inv) ⟨d, q⟩ = .next ⟨d, q⟩)) ∧
    (d.rxState l = 4 → d.rdB (inst Obj.LaneRxPolarityAuto l) = false →
      exec (.alignHuntTimeout l) ⟨d, q⟩ = .next ⟨d.rxTo l 2, q⟩) ∧
    (d.rxState l = 4 → d.rdB (inst Obj.LaneRxPolarityAuto l) = true →
      exec (.alignHuntTimeout l) ⟨d, q⟩ = .next ⟨(d.rxTo l 2).invertRx l, q⟩) ∧
    (d.rxState l ≠ 4 → exec (.alignHuntTimeout l) ⟨d, q⟩ = .next ⟨d, q⟩) ∧
    (∀ n : Nat, (d.rxState l = 5 →
        exec (.alignmentLoss l n) ⟨d, q⟩ = .next ⟨(d.add32 (inst Obj.LaneBlockErrorCount l) n).rxTo l 4, q⟩) ∧
      (d.rxState l ≠ 5 → exec (.alignmentLoss l n) ⟨d, q⟩ = .next ⟨d, q⟩) ∧
      (d.rxState l = 5 → d.rateCode l ≠ some 0 → exec (.highBerOnset l n) ⟨d, q⟩ = .next ⟨((((d.add32 (inst Obj.LaneBlockErrorCount l) n).inc
          (inst Obj.LaneHiBerCount l)).quadEvent (l / 4) 4 l).linkDown (d.portOfLane l)), q⟩) ∧
      (d.rxState l ≠ 5 ∨ d.rateCode l = some 0 → exec (.highBerOnset l n) ⟨d, q⟩ = .next ⟨d, q⟩)) ∧
    (∀ bs : List Byte, (coeffsMoved bs []).length = 16) ∧
    (∀ moves : List (Lane × List Int),
      (let waits (e : Dev) (m : Lane × List Int) : Dev :=
         if e.rxState m.1 = 5 ∧ e.adapts m.1 = true then
           e.setLane m.1 fun x => { x with adapted := some (coeffsMoved (e.coeffs m.1) m.2) }
         else e
       (8 ∈ d.turn.openItems →
         exec (.laneEqualisationAdaptation moves) ⟨d, q⟩ = .next ⟨(moves.foldl waits d).closeItem 8, q⟩) ∧
       (8 ∉ d.turn.openItems → exec (.laneEqualisationAdaptation moves) ⟨d, q⟩ = .next ⟨d, q⟩))) ∧
    (d.rxState l = 5 → d.adapts l = true → ∀ bs, (d.lane l).adapted = some bs → (d.lane l).hostSet = none → (d.lane l).preset = false →
      coeffsAtBoundary l d = (d.setLane l fun x => { x with hostSet := none, preset := false, adapted := none }).setCoeffs l bs 0)

/-- R406, R431, R432, R436, R439, R442 to R444, R447, R448 and R459. -/
def Obligations.LanesCarryLinksTestsAndSleep : Prop :=
  ∀ (d : Dev) (q : List Instr) (l : Lane) (p : Port) (u : Quad),
    (∀ i : Fin 2, (d.pllRate u i ≠ 0xFF → exec (.lanePllLock u i) ⟨d, q⟩ = .next ⟨(List.range 4).foldl (fun (e : Dev) k =>
        if (e.lane (4 * u + k)).pll = some i.val then e.txStart (4 * u + k) else e)
          (d.wr (inst Obj.QuadPllLocked u) (setBit (d.rdN (inst Obj.QuadPllLocked u)) i true : Nat)), q⟩) ∧
      (d.pllRate u i = 0xFF → exec (.lanePllLock u i) ⟨d, q⟩ = .next ⟨d, q⟩) ∧
      (d.pllLocked u i = false → exec (.lanePllLockLoss u i) ⟨d, q⟩ = .next ⟨d, q⟩) ∧
      (d.pllLocked u i = true → exec (.lanePllLockLoss u i) ⟨d, q⟩ = .next ⟨(((List.range 4).filter fun k =>
          (d.lane (4 * u + k)).pll == some i.val).foldl (fun (e : Dev) k => e.unclock (4 * u + k))
          (d.wr (inst Obj.QuadPllLocked u) (setBit (d.rdN (inst Obj.QuadPllLocked u)) i false : Nat))).quadEvent u 9
          (4 * u + ((List.range 4).filter fun k => (d.lane (4 * u + k)).pll == some i.val).headD 0), q⟩)) ∧
    (∀ (s : Fin 3) (half : Bool), (d.on .port p = true → d.lanesUp p = true → d.looped p = false → d.rdB (inst Obj.PortLinkUp p) = false →
        d.stopped = false → (d.isSgmii p = true → half = false → exec (.portLinkUp p s half) ⟨d, q⟩ = .next ⟨d.linkUp p (d.modeRate p s), q⟩) ∧
        (d.isSgmii p = true → half = true → exec (.portLinkUp p s half) ⟨d, q⟩ = .next ⟨d.inc (inst Obj.MacHalfDuplexRefusedCount p), q⟩) ∧
        (d.isSgmii p = false → d.rdB (inst Obj.LaneBeaconEnable (d.lowLane p)) = false ∨ p.val ∈ d.line.checked →
          exec (.portLinkUp p s half) ⟨d, q⟩ = .next ⟨d.linkUp p (d.modeRate p s), q⟩) ∧
        (d.isSgmii p = false → d.rdB (inst Obj.LaneBeaconEnable (d.lowLane p)) = true → p.val ∉ d.line.checked →
          exec (.portLinkUp p s half) ⟨d, q⟩ = .next ⟨d, q⟩)) ∧
      (d.on .port p = false ∨ d.lanesUp p = false ∨ d.looped p = true ∨ d.rdB (inst Obj.PortLinkUp p) = true ∨ d.stopped = true →
        exec (.portLinkUp p s half) ⟨d, q⟩ = .next ⟨d, q⟩)) ∧
    exec (.portLinkDown p) ⟨d, q⟩ = .next ⟨d.linkDown p, q⟩ ∧
    (let bs := (d.rdV (inst Obj.LaneHostCoeffs l)).bytes
     let e := d.wr (inst Obj.LaneHostCoeffCmd l) 1
     let decides := e.on .laneAdapt l = true ∧ e.rdB (inst Obj.ModeF6LaneAdapt l) = true
     (coeffsOk bs = true → decides → exec (.laneHostCoeffCmd l) ⟨d, q⟩ = .next ⟨e.setLane l fun x =>
        { x with hostSet := some bs, delivered := true, lastHost := some bs }, q⟩) ∧
     (coeffsOk bs = true → ¬decides → exec (.laneHostCoeffCmd l) ⟨d, q⟩ = .next ⟨e, q⟩) ∧
     (coeffsOk bs = false → exec (.laneHostCoeffCmd l) ⟨d, q⟩ = .next ⟨d.wr (inst Obj.LaneHostCoeffCmd l) 0x80, q⟩)) ∧
    (d.on .port p = true → d.lanesUp p = true → d.isSgmii p = false → d.rdB (inst Obj.LaneBeaconEnable (d.lowLane p)) = true →
      d.stopped = false →
      (d.rdB (inst Obj.PortLinkUp p) = true → exec (.loopbackBeaconTx p) ⟨d, q⟩ = .next ⟨d.sendEngine p .beacon, q⟩) ∧
      (d.rdB (inst Obj.PortLinkUp p) = false → exec (.loopbackBeaconTx p) ⟨d, q⟩ = .next ⟨d.countTx p (d.engineFrame p .beacon).length
        ((d.engineFrame p .beacon).take 6) true false false false, q⟩)) ∧
    (d.on .port p = false ∨ d.lanesUp p = false ∨ d.isSgmii p = true ∨ d.rdB (inst Obj.LaneBeaconEnable (d.lowLane p)) = false ∨
      d.stopped = true → exec (.loopbackBeaconTx p) ⟨d, q⟩ = .next ⟨d, q⟩) ∧
    (∀ a : Nat, (let base := beNat (d.rdV Obj.MacBaseAddress).bytes
      (d.on .port p = true → d.lanesUp p = true → base ≤ a → a ≤ base + 47 → exec (.loopbackBeaconRx p a) ⟨d, q⟩ =
        .next ⟨(((d.portLanes p).foldl (fun (e : Dev) k => e.wr (inst Obj.LaneLoopbackState k) (if a = base + p then 1 else 2)) d).linkDown p).quadEvent
          (p / 4) 5 ((((d.portLanes p).foldl (fun (e : Dev) k => e.wr (inst Obj.LaneLoopbackState k) (if a = base + p then 1 else 2)) d)).lowLane p), q⟩) ∧
      (a < base ∨ base + 47 < a ∨ d.on .port p = false ∨ d.lanesUp p = false →
        exec (.loopbackBeaconRx p a) ⟨d, q⟩ = .next ⟨d, q⟩))) ∧
    (d.on .port p = true → d.lanesUp p = true → p.val ∉ d.line.checked → exec (.loopCheckHoldExpiry p) ⟨d, q⟩ =
      .next ⟨{ d with line := { d.line with checked := d.line.checked ++ [p.val] } }, q⟩) ∧
    (d.on .port p = false ∨ d.lanesUp p = false ∨ p.val ∈ d.line.checked → exec (.loopCheckHoldExpiry p) ⟨d, q⟩ = .next ⟨d, q⟩) ∧
    exec (.loopbackClear p) ⟨d, q⟩ = .next ⟨(d.portLanes p).foldl (fun (e : Dev) k => e.wr (inst Obj.LaneLoopbackState k) 0) d, q⟩ ∧
    exec (.ptClearCmd l) ⟨d, q⟩ = .next ⟨((d.wr (inst Obj.PtClearCmd l) 1).wr (inst Obj.PtBitCount l) 0).wr (inst Obj.PtErrorCount l) 0, q⟩ ∧
    exec (.ptInjectCmd l) ⟨d, q⟩ = .next ⟨d.wr (inst Obj.PtInjectCmd l) 1, q⟩ ∧
    (∀ n e : Nat, (d.on .patternTest l = true → d.rd (inst Obj.PtRxPattern l) ≠ 0 → exec (.ptCheckerLock l n e) ⟨d, q⟩ =
        .next ⟨(d.wr (inst Obj.PtCheckerLocked l) 1).ptCount l n e, q⟩) ∧
      (d.on .patternTest l = false ∨ d.rd (inst Obj.PtRxPattern l) = 0 → exec (.ptCheckerLock l n e) ⟨d, q⟩ = .next ⟨d, q⟩) ∧
      (d.rdB (inst Obj.PtCheckerLocked l) = true → exec (.ptCheckerLockLoss l n e) ⟨d, q⟩ =
        .next ⟨((d.ptCount l n e).wr (inst Obj.PtCheckerLocked l) 0).inc (inst Obj.PtLockLossCount l), q⟩) ∧
      (d.rdB (inst Obj.PtCheckerLocked l) = false → exec (.ptCheckerLockLoss l n e) ⟨d, q⟩ = .next ⟨d, q⟩)) ∧
    (d.quadMode (l / 4) = 3 → exec (.laneTxSleep l) ⟨d, q⟩ = .next ⟨d.wr (inst Obj.LaneTxSleepCmd l) 0x80, q⟩ ∧
      exec (.laneTxWake l) ⟨d, q⟩ = .next ⟨d.wr (inst Obj.LaneTxSleepCmd l) 0x80, q⟩ ∧
      exec (.laneRxSleep l) ⟨d, q⟩ = .next ⟨d.wr (inst Obj.LaneRxSleepCmd l) 0x80, q⟩ ∧
      exec (.laneRxWake l) ⟨d, q⟩ = .next ⟨d.wr (inst Obj.LaneRxSleepCmd l) 0x80, q⟩) ∧
    (d.quadMode (l / 4) ≠ 3 →
      (let e := d.wr (inst Obj.LaneTxSleepCmd l) 1
       (e.rd (inst Obj.LaneTxState l) = 2 → exec (.laneTxSleep l) ⟨d, q⟩ =
         .next ⟨(e.wr (inst Obj.LaneTxState l) 3).linkDown (e.portOfLane l), q⟩) ∧
       (e.rd (inst Obj.LaneTxState l) ≠ 2 → exec (.laneTxSleep l) ⟨d, q⟩ = .next ⟨e, q⟩)) ∧
      (let e := d.wr (inst Obj.LaneTxSleepCmd l) 2
       (d.rd (inst Obj.LaneTxState l) = 3 → exec (.laneTxWake l) ⟨d, q⟩ = .next ⟨e.wr (inst Obj.LaneTxState l) 2, q⟩) ∧
       (d.rd (inst Obj.LaneTxState l) ≠ 3 → exec (.laneTxWake l) ⟨d, q⟩ = .next ⟨e, q⟩)) ∧
      (let e := d.wr (inst Obj.LaneRxSleepCmd l) 1
       (d.rxState l = 5 → exec (.laneRxSleep l) ⟨d, q⟩ = .next ⟨e.rxTo l 6, q⟩) ∧
       (d.rxState l ≠ 5 → exec (.laneRxSleep l) ⟨d, q⟩ = .next ⟨e, q⟩)) ∧
      (let e := d.wr (inst Obj.LaneRxSleepCmd l) 2
       (d.rxState l = 6 → exec (.laneRxWake l) ⟨d, q⟩ = .next ⟨e.rxTo l 2, q⟩) ∧
       (d.rxState l ≠ 6 → exec (.laneRxWake l) ⟨d, q⟩ = .next ⟨e, q⟩))) ∧
    (∀ c : Nat, exec (.fecUncorrectableCodeword l c) ⟨d, q⟩ = .next ⟨((d.add32 (inst Obj.LaneFecCorrectedCount l) c).inc
      (inst Obj.LaneFecUncorrectedCount l)).quadEvent (l / 4) 10 l, q⟩)

/-- R449 to R456. `nqSet good timing n` is the set of at most n lanes around the timing lane (R451). -/
def Obligations.NativeQuadsThinRetreatAndRestore : Prop :=
  ∀ (d : Dev) (q : List Instr) (u : Quad) (k : Fin 4),
    (∀ w : Nat, (d.isNq (4 * u) = false ∨ d.rdB (inst Obj.PortLinkUp (4 * u)) = false ∨ d.looped (4 * u) = true →
        exec (.nqThinWindow u w) ⟨d, q⟩ = .next ⟨d, q⟩) ∧
      (d.isNq (4 * u) = true → d.rdB (inst Obj.PortLinkUp (4 * u)) = true → d.looped (4 * u) = false →
        (let n := lanesIn (d.rdN (inst Obj.NqActiveTxSet u))
         let quiet := 2 ≤ n ∧ w * 100 ≤ d.rdN (inst Obj.NqThinLow u) * (n / 2) * 3125000
         let lane := 3125000
         let m := if quiet then (d.nq u).low + 1 else 0
         let e := d.setNq u fun x => { x with low := m }
         let now := d.rdN (inst Obj.NqActiveTxSet u)
         let t := e.nqTiming u now
         let warm := e.rd Obj.ThermalState = 1
         let enabled := e.rdB (inst Obj.NqThinEnable u) = true
         let full := ∃ c < 8, e.rdN (inst Obj.NqWidenCells u) ≤ e.rdN (queueObj Obj.QueueFill (4 * u) c)
         let busy := e.rdN (inst Obj.NqWidenHigh u) * n * lane ≤ w * 100 ∨ full
         let cools := warm ∧ 2 < n
         let thins := enabled ∧ e.rdN (inst Obj.NqThinHold u) ≤ m ∧ e.rdN (inst Obj.NqMinTxLanes u) ≤ n / 2 ∧ 2 ≤ n
         let most := if enabled then (if warm then min 2 (2 * n) else 2 * n) else if warm then 2 else 4
         let target := nqSet (d.nq u).peerGood t most
         let widens := (busy ∨ ¬enabled) ∧ n < lanesIn target
         ((d.nq u).txNext ≠ none ∨ (d.nq u).widening ≠ none → exec (.nqThinWindow u w) ⟨d, q⟩ = .next ⟨e, q⟩) ∧
         ((d.nq u).txNext = none → (d.nq u).widening = none →
           (cools → exec (.nqThinWindow u w) ⟨d, q⟩ = .next ⟨e.nqName u (nqSet now t 2) false, q⟩) ∧
           (¬cools → thins → exec (.nqThinWindow u w) ⟨d, q⟩ = .next ⟨e.nqName u (nqSet now t (n / 2)) false, q⟩) ∧
           (¬cools → ¬thins → widens → exec (.nqThinWindow u w) ⟨d, q⟩ = .next ⟨e.nqWiden u target, q⟩) ∧
           (¬cools → ¬thins → ¬widens → exec (.nqThinWindow u w) ⟨d, q⟩ = .next ⟨e, q⟩))))) ∧
    (∀ s at_ good ack seq : Nat,
      (d.isNq (4 * u) = false ∨ d.rdB (inst Obj.PortLinkUp (4 * u)) = false →
        exec (.nqLaneSetBlockRx u s at_ good ack seq) ⟨d, q⟩ = .next ⟨d, q⟩) ∧
      (d.isNq (4 * u) = true → d.rdB (inst Obj.PortLinkUp (4 * u)) = true →
        (let now := d.rdN (inst Obj.NqActiveTxSet u)
         let e := d.setNq u fun n => { n with peerGood := good % 16, rxNext := if s % 16 == d.rdN (inst Obj.NqActiveRxSet u) then none else some (s % 16) }
         (now &&& (good % 16) = 0 → exec (.nqLaneSetBlockRx u s at_ good ack seq) ⟨d, q⟩ = .next ⟨e, q⟩) ∧
         (now &&& (good % 16) ≠ 0 → now &&& (good % 16) ≠ now → exec (.nqLaneSetBlockRx u s at_ good ack seq) ⟨d, q⟩ =
           .next ⟨e.nqName u (nqSet (now &&& (good % 16)) (e.nqTiming u (now &&& (good % 16)))
             (if 2 ≤ lanesIn (now &&& (good % 16)) then 2 else 1)) true, q⟩) ∧
         (now &&& (good % 16) = now → now ≠ 0 → (e.nq u).widening = none →
           exec (.nqLaneSetBlockRx u s at_ good ack seq) ⟨d, q⟩ = .next ⟨e, q⟩) ∧
         (now &&& (good % 16) = now → now ≠ 0 → ∀ w, (e.nq u).widening = some w →
           (w &&& ((ack % 16) ||| now) = w → exec (.nqLaneSetBlockRx u s at_ good ack seq) ⟨d, q⟩ = .next ⟨e.nqName u w false, q⟩) ∧
           (w &&& ((ack % 16) ||| now) ≠ w → exec (.nqLaneSetBlockRx u s at_ good ack seq) ⟨d, q⟩ = .next ⟨e, q⟩))))) ∧
    ((d.nq u).rxNext = none → exec (.nqTxAtMarker u true) ⟨d, q⟩ = .next ⟨d, q⟩) ∧
    (∀ s, (d.nq u).rxNext = some s → exec (.nqTxAtMarker u true) ⟨d, q⟩ =
      .next ⟨(List.range 4).foldl (fun (e : Dev) k => if bit (d.rdN (inst Obj.NqActiveRxSet u)) k = true ∧ bit s k = false ∧
        e.rxState (4 * u + k) = 5 then e.rxTo (4 * u + k) 6 else e)
          ((d.wr (inst Obj.NqActiveRxSet u) (s : Nat)).setNq u fun n => { n with rxNext := none }), q⟩) ∧
    ((d.nq u).txNext = none → exec (.nqTxAtMarker u false) ⟨d, q⟩ = .next ⟨d, q⟩) ∧
    (∀ s, (d.nq u).txNext = some (s, true) → exec (.nqTxAtMarker u false) ⟨d, q⟩ =
      .next ⟨(d.wr (inst Obj.NqActiveTxSet u) (s : Nat)).setNq u fun n => { n with txNext := none, low := 0 }, q⟩) ∧
    (∀ s, (d.nq u).txNext = some (s, false) →
      (let e := (List.range 4).foldl (fun (e : Dev) k => if bit (d.rdN (inst Obj.NqActiveTxSet u)) k = true ∧ bit s k = false ∧
         e.rd (inst Obj.LaneTxState (4 * u + k)) = 2 then e.wr (inst Obj.LaneTxState (4 * u + k)) 3 else e)
           ((d.wr (inst Obj.NqActiveTxSet u) (s : Nat)).setNq u fun n => { n with txNext := none, low := 0 })
       exec (.nqTxAtMarker u false) ⟨d, q⟩ = .next ⟨(e.inc (inst Obj.NqThinCount u)).quadEvent u 8 (e.timingLane (4 * u)), q⟩)) ∧
    (d.isNq (4 * u) = false ∨ bit (d.nq u).good k = false → exec (.nqMarkerLockLoss u k) ⟨d, q⟩ = .next ⟨d, q⟩) ∧
    (d.isNq (4 * u) = true → bit (d.nq u).good k = true →
      (let e := d.setNq u fun n => { n with good := setBit n.good k false, lost := setBit n.lost k true }
       ((e.nq u).good ≠ 0 → exec (.nqMarkerLockLoss u k) ⟨d, q⟩ = .next ⟨e, q⟩) ∧
       ((e.nq u).good = 0 → exec (.nqMarkerLockLoss u k) ⟨d, q⟩ = .next ⟨e.linkDown (4 * u), q⟩))) ∧
    (∀ n : Nat, (d.isNq (4 * u) = false ∨ d.rdB (inst Obj.PortLinkUp (4 * u)) = false ∨
        bit (d.rdN (inst Obj.NqActiveRxSet u)) k = false ∨ bit (d.nq u).good k = true →
        exec (.nqLaneLoss u k n) ⟨d, q⟩ = .next ⟨d, q⟩) ∧
      (d.isNq (4 * u) = true → d.rdB (inst Obj.PortLinkUp (4 * u)) = true → bit (d.rdN (inst Obj.NqActiveRxSet u)) k = true →
        bit (d.nq u).good k = false →
        (let left := d.rdN (inst Obj.NqActiveRxSet u) &&& (d.nq u).good
         let e := (((d.add32 (inst Obj.NqRetreatDiscardCount u) n).count (4 * u) 10 n).inc (inst Obj.NqRetreatCount u)).quadEvent u 6 (4 * u + k)
         let t := lowBit left
         (left = 0 → exec (.nqLaneLoss u k n) ⟨d, q⟩ = .next ⟨e.linkDown (4 * u), q⟩) ∧
         (left ≠ 0 → exec (.nqLaneLoss u k n) ⟨d, q⟩ = .next ⟨((((e.wr (inst Obj.NqActiveRxSet u)
           (nqSet left t (if 2 ≤ lanesIn left then 2 else 1) : Nat)).setNq u fun x => { x with rxNext := none }).nqAnnounce u).moveTiming
             (4 * u) (4 * u + t)), q⟩)))) ∧
    (d.isNq (4 * u) = true → bit (d.nq u).lost k = true → d.rxState (4 * u + k) = 5 → exec (.nqRestoreHoldExpiry u k) ⟨d, q⟩ =
      .next ⟨((d.setNq u fun n => { n with good := setBit n.good k true, lost := setBit n.lost k false }).nqAnnounce u).quadEvent u 6
        (4 * u + k), q⟩) ∧
    (d.isNq (4 * u) = false ∨ bit (d.nq u).lost k = false ∨ d.rxState (4 * u + k) ≠ 5 →
      exec (.nqRestoreHoldExpiry u k) ⟨d, q⟩ = .next ⟨d, q⟩)

/-- R469, R481, R482 and R485 to R488. `recordCycle` keeps the cycle and its failed items in the health record (R483). -/
def Obligations.RedundantUnitsAreTestedAndReturned : Prop :=
  ∀ (d : Dev) (q : List Instr) (u : RedUnit),
    exec (.checkerError u) ⟨d, q⟩ = .next ⟨d.setUnit u fun x => { x with checker := true, uncorrected := (x.uncorrected + 1) % 2 ^ 32 }, q⟩ ∧
    (∀ f c n : Nat,
      (d.unitState u < 2 → exec (.selfTestCycleComplete u f c n) ⟨d, q⟩ = .next ⟨d, q⟩) ∧
      (2 ≤ d.unitState u →
        (let e := (d.recordCycle u f).setUnit u fun x => { x with corrected := (x.corrected + c) % 2 ^ 32, uncorrected := (x.uncorrected + n) % 2 ^ 32 }
         (e.unitState u = 3 → n ≠ 0 → exec (.selfTestCycleComplete u f c n) ⟨d, q⟩ = .next ⟨e.setUnit u fun x => { x with checker := true }, q⟩) ∧
         (e.unitState u = 3 → n = 0 → exec (.selfTestCycleComplete u f c n) ⟨d, q⟩ = .next ⟨e, q⟩) ∧
         (e.unitState u ≠ 3 → f &&& e.selfTestItems u ≠ 0 → exec (.selfTestCycleComplete u f c n) ⟨d, q⟩ =
           .next ⟨((e.outOfService u 4).record 51).setPair (u / 2) fun x => { x with revert := false, holdFrom := none }, q⟩) ∧
         (e.unitState u ≠ 3 → f &&& e.selfTestItems u = 0 → exec (.selfTestCycleComplete u f c n) ⟨d, q⟩ = .next ⟨e, q⟩)))) ∧
    (∀ f : Nat, (d.isolated u = true → ((d.recordCycle u f).unit u).passed = true → exec (.isolatedSelfTestComplete u f) ⟨d, q⟩ =
        .next ⟨(d.recordCycle u f).unitSync u, q⟩) ∧
      (d.isolated u = true → ((d.recordCycle u f).unit u).passed = false → exec (.isolatedSelfTestComplete u f) ⟨d, q⟩ =
        .next ⟨d.recordCycle u f, q⟩) ∧
      (d.isolated u = false → exec (.isolatedSelfTestComplete u f) ⟨d, q⟩ = .next ⟨d, q⟩)) ∧
    ((d.unit u).held = true → exec (.redReturnCmd u) ⟨d, q⟩ = .next ⟨(d.wr (inst Obj.RedReturnCmd u) 1).setUnit u fun x =>
      { x with held := false, returning := true }, q⟩) ∧
    ((d.unit u).held = false → exec (.redReturnCmd u) ⟨d, q⟩ = .next ⟨d.wr (inst Obj.RedReturnCmd u) 0x80, q⟩) ∧
    (∀ p : Fin 2,
      (d.available p = true → exec (.redSwitchCmd p) ⟨d, q⟩ = .next ⟨d.wr (inst Obj.RedSwitchCmd p) 1, q⟩) ∧
      (d.available p = false → exec (.redSwitchCmd p) ⟨d, q⟩ = .next ⟨d.wr (inst Obj.RedSwitchCmd p) 0x80, q⟩) ∧
      (d.rdN (inst Obj.RedPreferred p) = d.standbyUnit p - 2 * p → d.available p = true → (d.pair p).holdFrom ≠ none →
        exec (.revertHoldExpiry p) ⟨d, q⟩ = .next ⟨d.setPair p fun x => { x with revert := true }, q⟩) ∧
      (d.rdN (inst Obj.RedPreferred p) ≠ d.standbyUnit p - 2 * p ∨ d.available p = false ∨ (d.pair p).holdFrom = none →
        exec (.revertHoldExpiry p) ⟨d, q⟩ = .next ⟨d, q⟩) ∧
      (d.unitState (2 + p) = 1 → exec (.coreRegisterLoad p) ⟨d, q⟩ = .next ⟨d.setUnit (2 + p) fun x => { x with loaded := true }, q⟩) ∧
      (d.unitState (2 + p) ≠ 1 → exec (.coreRegisterLoad p) ⟨d, q⟩ = .next ⟨d, q⟩))

/-- R490, R491, R493 and R593. -/
def Obligations.FirmwareIsStagedVerifiedAndArmed : Prop :=
  ∀ (d : Dev) (q : List Instr),
    (∀ bs : List Byte, (8388608 ≤ d.rdN Obj.FwStageOffset → exec (.fwStageDataWrite bs) ⟨d, q⟩ = .next ⟨d, q⟩) ∧
      (d.rdN Obj.FwStageOffset < 8388608 →
        (let e := d.wr Obj.FwStageOffset (d.rdN Obj.FwStageOffset + 64 : Nat)
         let put (f : Dev) : Dev := { f with fw := { f.fw with scratch := writeBytes f.fw.scratch (d.rdN Obj.FwStageOffset) (bs.take 64) } }
         (d.rd Obj.FwUpdateState ≤ 2 ∨ d.rd Obj.FwUpdateState = 8 ∨ d.rd Obj.FwUpdateState = 9 →
           exec (.fwStageDataWrite bs) ⟨d, q⟩ = .next ⟨put (e.wr Obj.FwUpdateState 1), q⟩) ∧
         (2 < d.rd Obj.FwUpdateState → d.rd Obj.FwUpdateState ≠ 8 → d.rd Obj.FwUpdateState ≠ 9 →
           exec (.fwStageDataWrite bs) ⟨d, q⟩ = .next ⟨put e, q⟩)))) ∧
    (3 ≤ d.rd Obj.FwUpdateState → d.rd Obj.FwUpdateState ≤ 7 → exec .fwVerify ⟨d, q⟩ = .next ⟨d.wr Obj.FwUpdateCmd 0x80, q⟩) ∧
    (d.rd Obj.FwUpdateState < 3 ∨ 7 < d.rd Obj.FwUpdateState → exec .fwVerify ⟨d, q⟩ =
      .next ⟨{ d.wr Obj.FwUpdateCmd 1 with fw := { d.fw with verifying := true, staged := none } }, q⟩) ∧
    (d.fw.verifying = false → exec .fwVerifyComplete ⟨d, q⟩ = .next ⟨d, q⟩) ∧
    (d.fw.verifying = true →
      (let x := d.stagedImage
       let ends (st r : Int) (i : Option ImageSt) : Dev := { ((d.wr Obj.FwUpdateState st).wr Obj.FwUpdateResult r).wr Obj.FwStagedVersion
         x.image.version with fw := { d.fw with verifying := false, staged := i } }
       (x.lengthOk = false → exec .fwVerifyComplete ⟨d, q⟩ = .next ⟨ends 9 4 none, q⟩) ∧
       (x.lengthOk = true → x.genuine = false → exec .fwVerifyComplete ⟨d, q⟩ = .next ⟨ends 9 1 none, q⟩) ∧
       (x.lengthOk = true → x.genuine = true → x.image.version < d.rdN Obj.FwMinVersion →
         exec .fwVerifyComplete ⟨d, q⟩ = .next ⟨ends 9 2 none, q⟩) ∧
       (x.lengthOk = true → x.genuine = true → d.rdN Obj.FwMinVersion ≤ x.image.version → d.fw.running.handover < x.image.handoverMin →
         exec .fwVerifyComplete ⟨d, q⟩ = .next ⟨ends 9 3 none, q⟩) ∧
       (x.lengthOk = true → x.genuine = true → d.rdN Obj.FwMinVersion ≤ x.image.version → x.image.handoverMin ≤ d.fw.running.handover →
         exec .fwVerifyComplete ⟨d, q⟩ = .next ⟨ends 2 0 (some x.image), q⟩))) ∧
    (d.fw.staged ≠ none → d.rd Obj.FwUpdateState = 2 ∨ d.rd Obj.FwUpdateState = 9 → d.canArm (d.rdN Obj.FwUpdateAt) = true →
      d.unitState (d.standbyUnit 1) = 2 → d.rd (inst Obj.RedSwitchCmd 1) ≠ 1 → exec .fwArm ⟨d, q⟩ =
        .next ⟨(((d.outOfService (d.standbyUnit 1) 7).arm (d.rdN Obj.FwUpdateAt) .handover).wr Obj.FwUpdateCmd 2).wr Obj.FwUpdateState 3, q⟩) ∧
    (d.fw.staged = none ∨ (d.rd Obj.FwUpdateState ≠ 2 ∧ d.rd Obj.FwUpdateState ≠ 9) ∨ d.canArm (d.rdN Obj.FwUpdateAt) = false ∨
      d.unitState (d.standbyUnit 1) ≠ 2 ∨ d.rd (inst Obj.RedSwitchCmd 1) = 1 → exec .fwArm ⟨d, q⟩ = .next ⟨d.wr Obj.FwUpdateCmd 0x80, q⟩) ∧
    (1 ≤ d.rd Obj.FwUpdateState → d.rd Obj.FwUpdateState ≤ 5 →
      (let e := ((d.disarm fun c => c.kind == .handover).wr Obj.FwUpdateCmd 3).wr Obj.FwUpdateState 0
       exec .fwCancel ⟨d, q⟩ = .next ⟨{ e with fw := { e.fw with staged := none, verifying := false } }, q⟩)) ∧
    (d.rd Obj.FwUpdateState < 1 ∨ 5 < d.rd Obj.FwUpdateState → exec .fwCancel ⟨d, q⟩ = .next ⟨d.wr Obj.FwUpdateCmd 0x80, q⟩) ∧
    (d.fw.staged ≠ none → d.rd Obj.FwFlashState ≠ 1 →
      exec .fwWriteFlash ⟨d, q⟩ = .next ⟨(d.wr Obj.FwUpdateCmd 4).wr Obj.FwFlashState 1, q⟩) ∧
    (d.fw.staged = none ∨ d.rd Obj.FwFlashState = 1 → exec .fwWriteFlash ⟨d, q⟩ = .next ⟨d.wr Obj.FwUpdateCmd 0x80, q⟩) ∧
    (d.rd Obj.FwUpdateState = 3 → exec (.fwStandbyLoaded true) ⟨d, q⟩ = .next ⟨d.wr Obj.FwUpdateState 4, q⟩ ∧
      exec (.fwStandbyLoaded false) ⟨d, q⟩ =
        .next ⟨((d.disarm fun c => c.kind == .handover).wr Obj.FwUpdateState 9).wr Obj.FwUpdateResult 5, q⟩) ∧
    (d.rd Obj.FwUpdateState ≠ 3 → ∀ ok, exec (.fwStandbyLoaded ok) ⟨d, q⟩ = .next ⟨d, q⟩) ∧
    (d.rd Obj.FwFlashState = 1 → exec (.fwFlashWriteComplete false) ⟨d, q⟩ = .next ⟨d.wr Obj.FwFlashState 3, q⟩ ∧
      (∀ i, d.fw.staged = some i → exec (.fwFlashWriteComplete true) ⟨d, q⟩ = .next ⟨{ ((d.wr Obj.FwFlashState 2).wr
        Obj.FwFallbackVersion (d.rd Obj.FwPrimaryVersion)).wr Obj.FwPrimaryVersion i.version with
          fw := { d.fw with flash := i, slot := 1 - d.fw.slot, generation := (d.fw.generation + 1) % 2 ^ 32 } }, q⟩) ∧
      (d.fw.staged = none → exec (.fwFlashWriteComplete true) ⟨d, q⟩ = .next ⟨d.wr Obj.FwFlashState 3, q⟩)) ∧
    (d.rd Obj.FwFlashState ≠ 1 → ∀ ok, exec (.fwFlashWriteComplete ok) ⟨d, q⟩ = .next ⟨d, q⟩)

/-- R503, R506, R507, R510 to R512, R514 to R516 and R518 to R521. The segment layouts and the level taken while L0 is closed are the model’s choices (assumption 33). -/
def Obligations.DatagramsOpenServeAndCloseSessions : Prop :=
  ∀ (d : Dev) (q : List Instr) (g : Datagram) (r : MdpReq) (rest : List Waiting),
    (∀ (p : PortHp) (bs : List Byte),
      (let x := d.parse p bs
       let c := d.counted 2 0x09 0 1
       let taken := d.serverUp = true ∧ d.mdpTaken p (d.classVid p x).1 x = some true
       (x.ip = none ∨ ¬taken → exec (.mdpDatagramRx p bs) ⟨d, q⟩ = .next ⟨d, q⟩) ∧
       (∀ i, x.ip = some i → taken →
         (udpPayload bs i = none ∨ i.ports = none → exec (.mdpDatagramRx p bs) ⟨d, q⟩ = .next ⟨c.mdpDiscard, q⟩) ∧
         (∀ pay sp dp, udpPayload bs i = some pay → i.ports = some (sp, dp) →
           (parseMdp pay = none → exec (.mdpDatagramRx p bs) ⟨d, q⟩ = .next ⟨c.mdpDiscard, q⟩) ∧
           (∀ m, parseMdp pay = some m → exec (.mdpDatagramRx p bs) ⟨d, q⟩ =
             .next ⟨c.mdpAccept { port := p, mac := x.sa, peer := peerOf i sp, local_ := i.da, bytes := pay } m, q⟩))))) ∧
    (let x := d.session r.slot
     let known := d.mdpHolds g r 2 = true ∧ x.tagOk r = true
     let off := r.opcode ≠ 1 ∧ d.slotOff r = true
     let full := 64 ≤ d.datagramsWaiting
     let again := ((d.setSession r.slot fun y => { y with recover := false }).inc Obj.MdpRecoveredCount).sessionEvent 6
     (off → d.mdpAccept g r = d.mdpDiscard) ∧
     (¬off → known → x.recover = true →
       d.mdpAccept g r = again.mdpSend g (r.response x.key r.opcode r.slot stRecovered (again.lastSeq r.slot) [])) ∧
     (¬off → ¬(known ∧ x.recover = true) → r.carried = false →
       d.mdpAccept g r = d.mdpSend g (r.response (if known then x.key else none) r.opcode r.slot stUnsupported r.seq [])) ∧
     (¬off → ¬(known ∧ x.recover = true) → r.carried = true → full → d.mdpAccept g r = d.mdpDiscard) ∧
     (¬off → ¬(known ∧ x.recover = true) → r.carried = true → ¬full →
       d.mdpAccept g r = { d with dict := { d.dict with queue := d.dict.queue ++ [.datagram g] } })) ∧
    (d.dict.queue = .datagram g :: rest → parseMdp g.bytes = some r → d.serving = true →
      (let e : Dev := { d with dict := { d.dict with queue := rest } }
       let c := e.counted 2 0x08 0 1
       let n := r.slot
       let x := e.session n
       let level := e.rdN (inst Obj.MdpSessionLevel n)
       let w (st : Nat) (bs : List Byte) : List Byte := r.response x.key r.opcode n st r.seq bs
       let done (f : Dev) (st : Nat) (bs : List Byte) : Dev := (f.when (f.slotState n == 2) fun h => (h.wr (inst Obj.MdpSessionLastSeq n) r.seq).setSession n fun y =>
         { y with stored := ((r.seq, w st bs) :: y.stored).take 16 }).mdpSend g (w st bs)
       (r.opcode = 0x01 →
         (let want := leNat (r.payload.take 1)
          let lv := if want = 0 ∧ c.rdB Obj.MdpL0Open = false then 1 else want
          (g.peer.take 16 ∈ c.dict.lockouts → exec .mdpOpen ⟨d, q⟩ = .next ⟨c.mdpAnswer g r stLockedOut 0, q⟩) ∧
          (g.peer.take 16 ∉ c.dict.lockouts → r.payload.length ≠ 17 → exec .mdpOpen ⟨d, q⟩ = .next ⟨c.mdpAnswer g r stLength 0, q⟩) ∧
          (g.peer.take 16 ∉ c.dict.lockouts → r.payload.length = 17 →
            (3 < lv → exec .mdpOpen ⟨d, q⟩ = .next ⟨c.mdpAnswer g r stValue 0, q⟩) ∧
            (lv ≠ 0 → lv ≤ 3 → c.rdB (inst Obj.MdpKeySet (lv - 1)) = false → exec .mdpOpen ⟨d, q⟩ = .next ⟨c.mdpAnswer g r stAuth 0, q⟩) ∧
            (lv = 0 → c.freeSlotOf = none → exec .mdpOpen ⟨d, q⟩ = .next ⟨c.mdpAnswer g r stSessionsFull 0, q⟩) ∧
            (∀ m, lv = 0 → c.freeSlotOf = some m → exec .mdpOpen ⟨d, q⟩ =
              .next ⟨((c.slotTaken g r.v2 m 0 { port := g.port }).slotOpens m).mdpSend g (r.response none 0x01 m stOk 0 []), q⟩) ∧
            (∀ m, lv ≠ 0 → lv ≤ 3 → c.rdB (inst Obj.MdpKeySet (lv - 1)) = true → c.freeSlotOf = some m → exec .mdpOpen ⟨d, q⟩ =
              .next ⟨(c.drawn.slotTaken g r.v2 m lv { port := g.port, secure := true, nc := r.payload.drop 1, nd := leBytes 16 (toField 128 c.free) }).mdpSend g
                (r.response none 0x02 m stOk 0 (leBytes 16 (toField 128 c.free))), q⟩)))) ∧
       (r.opcode = 0x03 →
         (c.slotOff r = true → exec .mdpProve ⟨d, q⟩ = .next ⟨c.mdpDiscard, q⟩) ∧
         (c.slotOff r = false → c.mdpHolds g r 1 = false → exec .mdpProve ⟨d, q⟩ = .next ⟨c.mdpAnswer g r stNoSession r.seq, q⟩) ∧
         (c.slotOff r = false → c.mdpHolds g r 1 = true →
           (let y := c.session n
            let lv := c.rdN (inst Obj.MdpSessionLevel n)
            (r.payload = proofOf (c.levelKey lv) 0x50 n lv y → exec .mdpProve ⟨d, q⟩ = .next ⟨((c.setSession n fun z =>
                { z with ks := hmac (c.levelKey lv) ([0x4D, 0x44, 0x50, 0x2D, 0x53] ++ y.nc ++ y.nd) }).slotOpens n).mdpSend g
                  (r.response none r.opcode n stOk r.seq (proofOf (c.levelKey lv) 0x44 n lv y)), q⟩) ∧
            (r.payload ≠ proofOf (c.levelKey lv) 0x50 n lv y → exec .mdpProve ⟨d, q⟩ =
              .next ⟨(c.proofFailed n (g.peer.take 16)).mdpAnswer g r stAuth r.seq, q⟩)))) ∧
       (∀ o ∈ [(0x05, Instr.mdpKeepalive), (0x06, .mdpStatus), (0x10, .mdpRead), (0x11, .mdpWrite), (0x12, .mdpDescribe), (0x20, .mdpSegReadInit),
          (0x21, .mdpSegRead), (0x22, .mdpSegWriteInit), (0x23, .mdpSegWrite), (0x24, .mdpSegAbort), (0x04, .mdpClose)], r.opcode = o.1 →
         (e.slotOff r = true → exec o.2 ⟨d, q⟩ = .next ⟨e.mdpDiscard, q⟩) ∧
         (e.slotOff r = false → e.mdpHolds g r 2 = false → exec o.2 ⟨d, q⟩ = .next ⟨e.mdpAnswer g r stNoSession r.seq, q⟩) ∧
         (e.slotOff r = false → e.mdpHolds g r 2 = true → x.tagOk r = false → exec o.2 ⟨d, q⟩ = .next ⟨e.mdpAnswer g r stAuth r.seq, q⟩) ∧
         (e.slotOff r = false → e.mdpHolds g r 2 = true → x.tagOk r = true → o.1 ≠ 0x05 → o.1 ≠ 0x06 → r.seq ≠ r.next (e.lastSeq n) →
           (∀ k bs, x.stored.find? (fun y => y.1 == r.seq) = some (k, bs) → exec o.2 ⟨d, q⟩ = .next ⟨e.mdpSend g bs, q⟩) ∧
           (x.stored.find? (fun y => y.1 == r.seq) = none → exec o.2 ⟨d, q⟩ =
             .next ⟨e.mdpSend g (r.response x.key r.opcode n stSequence (e.lastSeq n) []), q⟩))) ∧
       (e.slotOff r = false → e.mdpHolds g r 2 = true → x.tagOk r = true →
         (r.opcode = 0x05 → exec .mdpKeepalive ⟨d, q⟩ = .next ⟨c.mdpSend g (w stOk []), q⟩) ∧
         (r.opcode = 0x06 → exec .mdpStatus ⟨d, q⟩ = .next ⟨c.mdpSend g (r.response x.key r.opcode n stOk (e.lastSeq n) []), q⟩) ∧
         (r.seq = r.next (e.lastSeq n) →
           (r.opcode = 0x10 → r.v2 = true → exec .mdpRead ⟨d, q⟩ = .next ⟨done (readOps level (bit r.flags 2) r.ops 1280 false c).1 stOk
             (readOps level (bit r.flags 2) r.ops 1280 false c).2, q⟩) ∧
           (∀ f bs, r.opcode = 0x10 → r.v2 = false → c.readObj level 240 r.key = (f, .ok bs) → exec .mdpRead ⟨d, q⟩ = .next ⟨done f stOk bs, q⟩) ∧
           (∀ f st, r.opcode = 0x10 → r.v2 = false → c.readObj level 240 r.key = (f, .error st) → exec .mdpRead ⟨d, q⟩ = .next ⟨done f st [], q⟩) ∧
           (r.opcode = 0x11 → r.v2 = true →
             (let y := commitOps (bit r.flags 2) (checkOps level (bit r.flags 2) c r.ops false) false c
              exec .mdpWrite ⟨d, q⟩ = .next ⟨done y.1 stOk y.2, q⟩)) ∧
           (∀ f st, r.opcode = 0x11 → r.v2 = false → r.payload.length ≤ 240 → c.writeObj level false 5 r.key r.payload = (f, st) →
             exec .mdpWrite ⟨d, q⟩ = .next ⟨done f st [], q⟩) ∧
           (r.opcode = 0x11 → r.v2 = false → 240 < r.payload.length → exec .mdpWrite ⟨d, q⟩ = .next ⟨done c stTooLarge [], q⟩) ∧
           (r.opcode = 0x12 → exec .mdpDescribe ⟨d, q⟩ = .next ⟨done c stOk (describeOps (bit r.flags 2) r.ops false), q⟩) ∧
           (∀ f t k, r.opcode = 0x20 → r.v2 = false ∨ r.payload.length = 8 → (c.setTransfer n none).segReadInit level r.segKey = (f, .ok (t, k)) →
             exec .mdpSegReadInit ⟨d, q⟩ = .next ⟨done (f.setTransfer n (some t)) stOk (leBytes 4 k), q⟩) ∧
           (∀ f st, r.opcode = 0x20 → r.v2 = false ∨ r.payload.length = 8 → (c.setTransfer n none).segReadInit level r.segKey = (f, .error st) →
             exec .mdpSegReadInit ⟨d, q⟩ = .next ⟨done f st [], q⟩) ∧
           (r.opcode = 0x20 → r.v2 = true → r.payload.length ≠ 8 →
             exec .mdpSegReadInit ⟨d, q⟩ = .next ⟨done (c.setTransfer n none) stLength [], q⟩) ∧
           (∀ bs, r.opcode = 0x21 → r.payload.length = 8 → c.segRead x.transfer (leNat (r.payload.take 4)) (leNat ((r.payload.drop 4).take 2))
             (if r.v2 then 1024 else 240) = .ok bs → exec .mdpSegRead ⟨d, q⟩ = .next ⟨done c stOk bs, q⟩) ∧
           (∀ st, r.opcode = 0x21 → r.payload.length = 8 → c.segRead x.transfer (leNat (r.payload.take 4)) (leNat ((r.payload.drop 4).take 2))
             (if r.v2 then 1024 else 240) = .error st → exec .mdpSegRead ⟨d, q⟩ = .next ⟨done c st [], q⟩) ∧
           (r.opcode = 0x21 → r.payload.length ≠ 8 → exec .mdpSegRead ⟨d, q⟩ = .next ⟨done c stLength [], q⟩) ∧
           (∀ t, r.opcode = 0x22 → r.payload.length = 12 → segWriteInit level false r.segKey (leNat (r.payload.drop 8)) = .ok t →
             exec .mdpSegWriteInit ⟨d, q⟩ = .next ⟨done ((c.setTransfer n none).setTransfer n (some t)) stOk (leBytes 4 (leNat (r.payload.drop 8))), q⟩) ∧
           (∀ st, r.opcode = 0x22 → r.payload.length = 12 → segWriteInit level false r.segKey (leNat (r.payload.drop 8)) = .error st →
             exec .mdpSegWriteInit ⟨d, q⟩ = .next ⟨done (c.setTransfer n none) st [], q⟩) ∧
           (r.opcode = 0x22 → r.payload.length ≠ 12 →
             exec .mdpSegWriteInit ⟨d, q⟩ = .next ⟨done (c.setTransfer n none) stLength [], q⟩) ∧
           (∀ f t st, r.opcode = 0x23 → 4 ≤ r.payload.length →
             c.segWrite level false 5 x.transfer (leNat (r.payload.take 4)) 1280 (r.payload.drop 4) = (f, t, st) →
             exec .mdpSegWrite ⟨d, q⟩ = .next ⟨done (if f.slotState n = 2 then f.setTransfer n t else f) st [], q⟩) ∧
           (r.opcode = 0x23 → r.payload.length < 4 → exec .mdpSegWrite ⟨d, q⟩ = .next ⟨done c stLength [], q⟩) ∧
           (r.opcode = 0x24 → x.transfer ≠ none → exec .mdpSegAbort ⟨d, q⟩ = .next ⟨done (c.setTransfer n none) stOk [], q⟩) ∧
           (r.opcode = 0x24 → x.transfer = none → exec .mdpSegAbort ⟨d, q⟩ = .next ⟨done c stSegment [], q⟩) ∧
           (r.opcode = 0x04 → exec .mdpClose ⟨d, q⟩ = .next ⟨done (c.closeSession 2 n) stOk [], q⟩))))) ∧
    (∀ o ∈ [(0x01, Instr.mdpOpen), (0x03, .mdpProve), (0x04, .mdpClose), (0x05, .mdpKeepalive), (0x06, .mdpStatus), (0x10, .mdpRead), (0x11, .mdpWrite),
        (0x12, .mdpDescribe), (0x20, .mdpSegReadInit), (0x21, .mdpSegRead), (0x22, .mdpSegWriteInit), (0x23, .mdpSegWrite), (0x24, .mdpSegAbort)],
      (∀ g rest r, d.dict.queue = .datagram g :: rest → parseMdp g.bytes = some r → r.opcode = o.1 → d.serving = false) →
      exec o.2 ⟨d, q⟩ = .next ⟨d, q⟩) ∧
    (∀ s : Fin 16, (d.slotState s = 1 → exec (.proveWaitTimeout s) ⟨d, q⟩ = .next ⟨d.freeSlot s, q⟩) ∧
      (d.slotState s ≠ 1 → exec (.proveWaitTimeout s) ⟨d, q⟩ = .next ⟨d, q⟩) ∧
      (d.slotState s = 2 → exec (.mdpSessionTimeout s) ⟨d, q⟩ = .next ⟨(d.freeSlot s).sessionEvent 3, q⟩) ∧
      (d.slotState s ≠ 2 → exec (.mdpSessionTimeout s) ⟨d, q⟩ = .next ⟨d, q⟩)) ∧
    (∀ a : List Byte, exec (.authLockoutExpiry a) ⟨d, q⟩ = .next ⟨{ d with dict := { d.dict with lockouts := d.dict.lockouts.filter (· != a) } }, q⟩) ∧
    (∀ (v : Fin 3) (key : List Byte), (key.length = 32 → exec (.mdpKeyWrite v key) ⟨d, q⟩ = .next ⟨keyWrite (v + 1) key d, q⟩) ∧
      (key.length ≠ 32 → exec (.mdpKeyWrite v key) ⟨d, q⟩ = .next ⟨d, q⟩)) ∧
    (∀ (p : PortHp) (bs : List Byte),
      (let x := d.parse p bs
       let here := d.serverUp = true ∧ d.mdpPortOk p (d.classVid p x).1 = true
       let mine := (d.rdV Obj.MdpIpv4Address).bytes
       let asks := x.ethertype = 0x0806 ∧ be bs (x.at_ + 8) 2 = 1 ∧ mine ≠ List.replicate 4 0 ∧ slice bs (x.at_ + 26) 4 = some mine
       let asker := (bs.drop (x.at_ + 10)).take 6
       (asks → here → exec (.arpRequestRx p bs) ⟨d, q⟩ = .next ⟨d.sendEngine p (.reply (asker ++ d.portMac p ++ d.replyTag p ++
         beBytes 2 0x0806 ++ [0, 1, 8, 0, 6, 4, 0, 2] ++ d.portMac p ++ mine ++ (bs.drop (x.at_ + 10)).take 10)), q⟩) ∧
       (¬(asks ∧ here) → exec (.arpRequestRx p bs) ⟨d, q⟩ = .next ⟨d, q⟩) ∧
       (x.ip = none → exec (.neighbourSolicitationRx p bs) ⟨d, q⟩ = .next ⟨d, q⟩) ∧
       (∀ i, x.ip = some i →
         (let target := (slice bs (i.l4 + 8) 16).getD []
          let asks := i.v6 = true ∧ i.proto = 58 ∧ be bs i.l4 1 = 135 ∧ target.length = 16 ∧
            (target = (d.rdV Obj.MdpIpv6Address).bytes ∨ target = d.linkLocalIp)
          let named := i.sa ≠ List.replicate 16 0
          let dst := if named then i.sa else [0xFF, 0x02] ++ List.replicate 13 0 ++ [1]
          let head (sum : Nat) : List Byte := [136, 0] ++ beBytes 2 sum ++ [if named then 0x60 else 0x20, 0, 0, 0] ++ target ++ [2, 1] ++ d.portMac p
          let sum := inetSum (target ++ dst ++ beBytes 4 32 ++ beBytes 4 58 ++ head 0)
          (asks → here → exec (.neighbourSolicitationRx p bs) ⟨d, q⟩ = .next ⟨d.sendEngine p (.reply (
            (if named then x.sa else [0x33, 0x33, 0, 0, 0, 1]) ++ d.portMac p ++ d.replyTag p ++ beBytes 2 0x86DD ++ beBytes 4 0x60000000 ++
            beBytes 2 32 ++ [58, 255] ++ target ++ dst ++ head sum)), q⟩) ∧
          (¬(asks ∧ here) → exec (.neighbourSolicitationRx p bs) ⟨d, q⟩ = .next ⟨d, q⟩)))))

/-- R532, R533, R535 to R539, R541, R542, R545 and R557. That a direct-map or window write commits at its command is the model’s choice (assumption 36). -/
def Obligations.MailboxesAndTheRegisterMapServeTheHost : Prop :=
  ∀ (d : Dev) (q : List Instr) (n : Fin 4),
    (∀ rest, d.dict.queue = .mailbox n :: rest → (d.box n).done = none → d.serving = true →
      (let b := d.box n
       let e := ({ d with dict := { d.dict with queue := rest } } : Dev).counted 2 0x08 0 1
       (∀ f bs, b.op = 1 → e.readObj 3 64 b.key = (f, .ok bs) → exec (.mbRead n) ⟨d, q⟩ =
         .next ⟨f.boxDone n stOk (b.filled bs) bs.length b.total, q⟩) ∧
       (∀ f st, b.op = 1 → e.readObj 3 64 b.key = (f, .error st) → exec (.mbRead n) ⟨d, q⟩ = .next ⟨f.boxStatus n st, q⟩) ∧
       (b.op = 2 → 64 < b.length → exec (.mbWrite n) ⟨d, q⟩ = .next ⟨e.boxStatus n stLength, q⟩) ∧
       (∀ f st, b.op = 2 → b.length ≤ 64 → e.writeObj 3 true (1 + n) b.key (b.data.take b.length) = (f, st) →
         exec (.mbWrite n) ⟨d, q⟩ = .next ⟨f.boxStatus n st, q⟩) ∧
       (∀ r, b.op = 3 → objInfo b.key = .ok r → exec (.mbDescribe n) ⟨d, q⟩ =
         .next ⟨e.boxDone n stOk (b.filled (descriptor b.key r)) b.length b.total, q⟩) ∧
       (∀ st, b.op = 3 → objInfo b.key = .error st → exec (.mbDescribe n) ⟨d, q⟩ = .next ⟨e.boxStatus n st, q⟩) ∧
       (∀ f t k, b.op = 4 → (e.boxTransfer n none).segReadInit 3 b.key = (f, .ok (t, k)) → exec (.mbSegReadInit n) ⟨d, q⟩ =
         .next ⟨(f.boxTransfer n (some t)).boxDone n stOk b.data b.length k, q⟩) ∧
       (∀ f st, b.op = 4 → (e.boxTransfer n none).segReadInit 3 b.key = (f, .error st) → exec (.mbSegReadInit n) ⟨d, q⟩ =
         .next ⟨f.boxStatus n st, q⟩) ∧
       (∀ bs, b.op = 5 → e.segRead b.transfer b.offset b.length 64 = .ok bs → exec (.mbSegRead n) ⟨d, q⟩ =
         .next ⟨e.boxDone n stOk (b.filled bs) b.length b.total, q⟩) ∧
       (∀ st, b.op = 5 → e.segRead b.transfer b.offset b.length 64 = .error st → exec (.mbSegRead n) ⟨d, q⟩ = .next ⟨e.boxStatus n st, q⟩) ∧
       (∀ t, b.op = 6 → segWriteInit 3 true b.key b.total = .ok t → exec (.mbSegWriteInit n) ⟨d, q⟩ =
         .next ⟨((e.boxTransfer n none).boxTransfer n (some t)).boxStatus n stOk, q⟩) ∧
       (∀ st, b.op = 6 → segWriteInit 3 true b.key b.total = .error st → exec (.mbSegWriteInit n) ⟨d, q⟩ =
         .next ⟨(e.boxTransfer n none).boxStatus n st, q⟩) ∧
       (b.op = 7 → 64 < b.length → exec (.mbSegWrite n) ⟨d, q⟩ = .next ⟨e.boxStatus n stSegment, q⟩) ∧
       (∀ f t st, b.op = 7 → b.length ≤ 64 → e.segWrite 3 true (1 + n) b.transfer b.offset 64 (b.data.take b.length) = (f, t, st) →
         exec (.mbSegWrite n) ⟨d, q⟩ = .next ⟨(f.boxTransfer n t).boxStatus n st, q⟩) ∧
       (b.op = 8 → exec (.mbSegAbort n) ⟨d, q⟩ =
         .next ⟨(e.boxTransfer n none).boxStatus n (if b.transfer = none then stSegment else stOk), q⟩))) ∧
    (∀ c ∈ [(1, Instr.mbRead n), (2, .mbWrite n), (3, .mbDescribe n), (4, .mbSegReadInit n), (5, .mbSegRead n), (6, .mbSegWriteInit n),
        (7, .mbSegWrite n), (8, .mbSegAbort n)],
      (∀ rest, d.dict.queue = .mailbox n :: rest → (d.box n).op = c.1 → (d.box n).done = none → d.serving = false) →
      exec c.2 ⟨d, q⟩ = .next ⟨d, q⟩) ∧
    (∀ u : Dev,
      (let known := 1 ≤ (d.box n).op ∧ (d.box n).op ≤ 8
       let head (rest : List Waiting) := d.dict.queue = .mailbox n :: rest ∧ (d.box n).done = none ∧ d.serving = true
       (known ∧ u = d) ∨ (¬known ∧ (∀ rest, ¬head rest) ∧ u = d) ∨ (¬known ∧ ∃ rest, head rest ∧
         u = (({ d with dict := { d.dict with queue := rest } } : Dev).counted 2 0x08 0 1).boxStatus n stUnsupported)) →
      ((u.box n).done = none → exec (.mbOperationComplete n) ⟨d, q⟩ = .next ⟨u, q⟩) ∧
      (∀ code data len total, (u.box n).done = some (code, data, len, total) →
        (let e := u.setBox n fun b => { b with code := code, data := data, length := len, total := total, done := none, busy := false, valid := true, seq := (b.seq + 1) % 4096 }
         ((u.box n).notify = true → exec (.mbOperationComplete n) ⟨d, q⟩ = .next ⟨e.raise 52, q⟩) ∧
         ((u.box n).notify = false → exec (.mbOperationComplete n) ⟨d, q⟩ = .next ⟨e, q⟩)))) ∧
    (let e : Dev := { d with bus := {} }
     let quiet (f : Dev) : Dev := if f.bus.error then { f with bus := { f.bus with words := [] } } else f
     ∀ (v : Nat) (lo hi : BitVec 32), ∀ c ∈ [(true, v, fun t => Instr.directMapWrite t v), (true, lo.toNat + 2 ^ 32 * hi.toNat, fun t => .benigWindowWrite t lo hi), (true, v, fun t => .registerWrite t v),
         (false, 0, fun t => .localRegisterRead t)],
       (∀ (w : Fin 4) (addr : Nat) (bad : Bool), (let a : Access := ⟨false, c.1, w, addr⟩
         let parts := if w.val = 3 then [(addr, bits c.2.1 0 32), (addr + 4, bits c.2.1 32 32)] else [(addr, bits c.2.1 0 32)]
         (d.boot.pcie = false → exec (c.2.2 (.pcie w addr bad)) ⟨d, q⟩ = .next ⟨e, q⟩) ∧
         (d.boot.pcie = true → bad = true ∨ misaligned w addr = true → exec (c.2.2 (.pcie w addr bad)) ⟨d, q⟩ = .next ⟨e.busFails a 3 addr, q⟩) ∧
         (d.boot.pcie = true → bad = false → misaligned w addr = false → exec (c.2.2 (.pcie w addr bad)) ⟨d, q⟩ =
           .next ⟨quiet (Dev.performParts a parts e), q⟩))) ∧
       (∀ (sdi : List Byte) (waits : Nat),
         (d.boot.released = false ∨ sdi.length < 4 → exec (c.2.2 (.spi sdi waits)) ⟨d, q⟩ = .next ⟨e, q⟩) ∧
         (∀ cmd a2 a1 a0 data, d.boot.released = true → sdi = cmd :: a2 :: a1 :: a0 :: data →
           (let x : SpiFrame := ⟨bit cmd.toNat 7, bits cmd.toNat 5 2, bits cmd.toNat 0 5 + 1, a2.toNat * 65536 + a1.toNat * 256 + a0.toNat, data⟩
            let a : Access := ⟨true, !x.read, x.width, x.addr⟩
            let late := if x.read = true ∧ 0x4000 ≤ x.addr then waits else 0
            let done (f : Dev) : Dev := { f with bus := { f.bus with sdo := f.spiOut e x late } }
            let run := Dev.performParts a (x.parts late) e
            (e.awaitsSynth = true → exec (c.2.2 (.spi sdi waits)) ⟨d, q⟩ = .next ⟨done { e with bus := { e.bus with error := true } }, q⟩) ∧
            (e.awaitsSynth = false → x.bad late = true → exec (c.2.2 (.spi sdi waits)) ⟨d, q⟩ = .next ⟨done (e.busFails a 7 x.addr), q⟩) ∧
            (e.awaitsSynth = false → x.bad late = false → misaligned x.width x.addr = true →
              exec (c.2.2 (.spi sdi waits)) ⟨d, q⟩ = .next ⟨done (e.busFails a 3 x.addr), q⟩) ∧
            (e.awaitsSynth = false → x.bad late = false → misaligned x.width x.addr = false →
              (x.cut late = false ∨ run.bus.error = true → exec (c.2.2 (.spi sdi waits)) ⟨d, q⟩ = .next ⟨done run, q⟩) ∧
              (x.cut late = true → run.bus.error = false → exec (c.2.2 (.spi sdi waits)) ⟨d, q⟩ =
                .next ⟨done (run.busFails a 7 (x.addr + 4 * x.whole late)), q⟩)))))) ∧
    (∀ (a : Access) (addr w c : Nat) (rest : List (Nat × Nat)),
      Dev.performParts a [] d = d ∧
      (d.partError a addr = some c → Dev.performParts a ((addr, w) :: rest) d = d.busFails a c addr) ∧
      (d.partError a addr = none → a.write = true → Dev.performParts a ((addr, w) :: rest) d = Dev.performParts a rest (regWrite a addr w d)) ∧
      (d.partError a addr = none → a.write = false → Dev.performParts a ((addr, w) :: rest) d = Dev.performParts a rest
        { d with bus := { d.bus with words := d.bus.words ++ [if a.width < 2 then bits (d.regRead (addr / 4 * 4)) (8 * (addr % 4)) (8 * 2 ^ a.width) else d.regRead (addr / 4 * 4)] } }) ∧
      (let f := ((d.inc Obj.BusErrorCount).wrs [(Obj.BusErrorLastInfo, (c + 256 * ofBool a.spi + 512 * ofBool a.write + 1024 * a.width : Nat)),
          (Obj.BusErrorLastAddress, (addr % 2 ^ 24 : Nat))]).raise 55
       d.busFails a c addr = { f with bus := { f.bus with error := true } } ∧ d.busError a c addr = f) ∧
      (d.region addr = none → d.partError a addr = some 1) ∧
      (∀ g, d.region addr = some g → a.write = true → a.width < 2 → d.partError a addr = some 2) ∧
      (∀ g, d.region addr = some g → a.write = false ∨ 2 ≤ a.width →
        (g = .direct → (d.dict.ready = false → d.partError a addr = some 9) ∧ (d.dict.ready = true → directObj addr = none → d.partError a addr = some 4) ∧
          (d.dict.ready = true → directObj addr ≠ none → d.partError a addr = none)) ∧
        (∀ m, g = .boxData m ∨ g = .boxCtrl m → (d.dict.ready = false → d.partError a addr = some 9) ∧
          (d.dict.ready = true → a.write = true → (d.box m).busy = true → d.partError a addr = some 6) ∧
          (d.dict.ready = true → a.write = false ∨ (d.box m).busy = false → d.partError a addr = none)) ∧
        (g = .identity ∨ g = .bus ∨ g = .rings ∨ g = .events ∨ g = .window ∨ (∃ b o, g = .perf b o) → d.partError a addr = none)) ∧
      (let s := d.counted 2 0x08 0 1
       (d.region addr = some .direct →
         (d.serverUp = false ∨ directObj addr = none → regWrite a addr w d = d) ∧
         (∀ k row, directObj addr = some (k, row) → d.serverUp = true →
           (wordValue row.ty w = none → regWrite a addr w d = s.busError a 5 addr) ∧
           (∀ bs x, wordValue row.ty w = some bs → s.checkWrite 3 true k bs = .ok x → regWrite a addr w d = commitWrite k x s) ∧
           (∀ bs, wordValue row.ty w = some bs → s.checkWrite 3 true k bs = .error stBlockEnabled → regWrite a addr w d = s.logIgnored (k / 256) (k % 256) 0) ∧
           (∀ bs x, wordValue row.ty w = some bs → s.checkWrite 3 true k bs = .error x → x ≠ stBlockEnabled → regWrite a addr w d = s.busError a 5 addr))) ∧
       (d.region addr = some .window →
         (d.serverUp = false ∨ d.windowObj addr = none → regWrite a addr w d = d) ∧
         (∀ k row, d.windowObj addr = some (k, row) → d.serverUp = true →
           ((wordValue row.ty w).bind (s.checkWindow k) = none → regWrite a addr w d = s.busError a 8 addr) ∧
           (∀ x, (wordValue row.ty w).bind (s.checkWindow k) = some x → groupMembers k = [] → regWrite a addr w d = commitWrite k x s) ∧
           (∀ x, (wordValue row.ty w).bind (s.checkWindow k) = some x → groupMembers k ≠ [] → regWrite a addr w d = s.groupWrite true k x))))) ∧
    (∀ (a : Access) (w : Nat),
      regWrite a 0x008 w d = (d.wrB Obj.BenigWindowEnable (bit w 0)).wrB Obj.DirectMapEnable (bit w 1) ∧
      regWrite a 0x00C w d = d.setReg scratchReg w ∧
      (∀ k : Fin 64, regWrite a (0x2200 + 4 * k.val) w d = (d.wrB (inst Obj.EventEnable k) (bit w 0)).wr (inst Obj.EventRoute k) (bits w 1 1 : Nat) ∧
        regWrite a (0x2100 + 4 * k.val) w d = eventAck k w d) ∧
      regWrite a (0x1100 + 32 * n.val) w d = (let e := d.setBox n fun b => { b with op := w % 16, notify := bit w 8, valid := false, busy := true, done := none }
        { e with dict := { e.dict with queue := e.dict.queue ++ [.mailbox n] } }) ∧
      (∀ r : Fin 8, regWrite a (0x20C + 32 * r.val) w d = ringTail r (w % 4096) d ∧ regWrite a (0x21C + 32 * r.val) w d = attentionAck r w d ∧
        ((d.ring r).enable = true ∨ (d.ring r).active = true → regWrite a (0x200 + 32 * r.val) w d = d.logIgnored (0x200 + 32 * r.val) 0 6))) ∧
    d.regRead 0x000 = 0x46444848 ∧ d.regRead 0x00C = d.reg scratchReg ∧
    (∀ addr, (d.region addr = some .direct → d.regRead addr = d.objWord (directObj addr)) ∧
      (d.region addr = some .window → d.regRead addr = d.objWord (d.windowObj addr)) ∧ d.objWord none = 0) ∧
    (∀ (k : Fin 64) (v : Nat),
      (d.rdN (inst Obj.EventStatus k) % 4096 = v % 4096 → exec (.evAckWrite k v) ⟨d, q⟩ =
        .next ⟨d.wr (inst Obj.EventStatus k) (d.rdN (inst Obj.EventStatus k) % 4096 : Nat), q⟩) ∧
      (d.rdN (inst Obj.EventStatus k) % 4096 ≠ v % 4096 → exec (.evAckWrite k v) ⟨d, q⟩ = .next ⟨d, q⟩))

/-- R548, R550 to R552, R554, R556, R567 to R569, R572, R575 and R576. -/
def Obligations.RingsAndCountersFollowTheirCommands : Prop :=
  ∀ (d : Dev) (q : List Instr),
    (∀ (r : Fin 8) (v : Nat),
      exec (.ringTailWrite r v) ⟨d, q⟩ = .next ⟨d.setRing r fun g =>
        { g with tail := v % g.size, overrun := v % g.size == g.done && g.tail != g.done }, q⟩ ∧
      (r.val < 4 ∨ (d.ring r).bufUnits ≠ 0 → exec (.ringEnable r) ⟨d, q⟩ = .next ⟨d.setRing r fun g =>
        { g with enable := true, active := true, halted := false, haltCause := 0 }, q⟩) ∧
      (4 ≤ r.val → (d.ring r).bufUnits = 0 → exec (.ringEnable r) ⟨d, q⟩ = .next ⟨d.setRing r fun g =>
        { g with enable := true, active := true, halted := true, haltCause := 3 }, q⟩) ∧
      (4 ≤ r.val → exec (.ringDisable r) ⟨d, q⟩ = .next ⟨d.setRing r fun g => { g with enable := false }, q⟩) ∧
      (r.val < 4 → (let e := d.setRing r fun g => { g with enable := false }
        let ids := e.ringFrames r
        exec (.ringDisable r) ⟨d, q⟩ = .next ⟨(((e.discardCopies (fun x => ids.any fun i => x.ofFrame i) 6).dropFromPipes ids).forEach
          (fun i f => (f.onFrame i fun x => { x with ring := none, replicated := true }).reapFrame i) ids).setRing r fun g =>
            g.writeBack (g.fetched.map fun t => { t with status := some (t.status.getD 6) }), q⟩)) ∧
      ((d.ring r).enable = true → exec (.ringDisableComplete r) ⟨d, q⟩ = .next ⟨d, q⟩) ∧
      ((d.ring r).enable = false → (d.ring r).delivering = none → exec (.ringDisableComplete r) ⟨d, q⟩ =
        .next ⟨d.setRing r fun g => { g with active := false, delivering := none }, q⟩) ∧
      (∀ c k, (d.ring r).enable = false → (d.ring r).delivering = some (c, k) → exec (.ringDisableComplete r) ⟨d, q⟩ =
        .next ⟨(d.setRing r fun g => { g with active := false, delivering := none }).delivered c, q⟩) ∧
      (v % 4096 = (d.ring r).seq → exec (.ringAttentionAck r v) ⟨d, q⟩ = .next ⟨d.setRing r fun g => { g with attention := false }, q⟩) ∧
      (v % 4096 ≠ (d.ring r).seq → exec (.ringAttentionAck r v) ⟨d, q⟩ = .next ⟨d.setRing r fun g => g, q⟩) ∧
      ((d.ring r).coalescing = true → exec (.attentionCoalesceExpiry r) ⟨d, q⟩ = .next ⟨d.setRing r fun g => g.attend, q⟩) ∧
      ((d.ring r).coalescing = false → exec (.attentionCoalesceExpiry r) ⟨d, q⟩ = .next ⟨d.setRing r fun g => g, q⟩)) ∧
    (∀ (r : Fin 4) (x : TxDesc) (bs : List Byte) (err : Nat) (t : Int), (let e := d.until t
      let g := e.ring r
      (g.enable = false ∨ g.active = false ∨ g.halted = true ∨ g.waiting = 0 → exec (.txDescriptorFetch r x bs err t) ⟨d, q⟩ = .next ⟨e, q⟩) ∧
      (g.enable = true → g.active = true → g.halted = false → g.waiting ≠ 0 →
        (err ≠ 0 → exec (.txDescriptorFetch r x bs err t) ⟨d, q⟩ = .next ⟨e.setRing r fun g => g.halt (min err 2), q⟩) ∧
        (err = 0 →
          (let f := e.setRing r fun g => { g with head := g.next g.head 1, fetched := g.fetched ++ [{ index := (e.ring r).head, notify := x.notify, late := x.direct && (x.stamp || x.launch), wantStamp := x.stamp }] }
           let len := bs.length - (if x.hostFcs then 4 else 0)
           let bad := 47 < x.port ∨ (x.direct = false ∧ (x.oneStep = true ∨ x.stamp = true ∨ x.launch = true))
           (bad → exec (.txDescriptorFetch r x bs err t) ⟨d, q⟩ = .next ⟨f.txStatus r g.head 7 none, q⟩) ∧
           (¬bad → 9212 < len → exec (.txDescriptorFetch r x bs err t) ⟨d, q⟩ = .next ⟨f.txStatus r g.head 2 none, q⟩) ∧
           (¬bad → len ≤ 9212 → f.on .port 48 = false → exec (.txDescriptorFetch r x bs err t) ⟨d, q⟩ =
             .next ⟨f.txStatus r g.head 6 none, q⟩) ∧
           (¬bad → len ≤ 9212 → f.on .port 48 = true → exec (.txDescriptorFetch r x bs err t) ⟨d, q⟩ =
             .next ⟨f.inject r g.head x bs t, q⟩)))))) ∧
    (let e := d.perf.due.foldl (fun f x => f.perfWrite x.1 x.2.1) { d with perf := { d.perf with due := [] } }
     (6 ∈ d.turn.openItems → d.perf.due = [] → exec .counterDump ⟨d, q⟩ = .next ⟨e.closeItem 6, q⟩) ∧
     (6 ∈ d.turn.openItems → d.perf.due ≠ [] → exec .counterDump ⟨d, q⟩ = .next ⟨(e.record 57).closeItem 6, q⟩)) ∧
    (6 ∉ d.turn.openItems → exec .counterDump ⟨d, q⟩ = .next ⟨d, q⟩) ∧
    (∀ b : Fin 3,
      exec (.perfBankSnap b) ⟨d, q⟩ = .next ⟨(({ d with perf := { d.perf with snaps := setNum d.perf.snaps b (numAt d.perf.snaps b + 1) } } : Dev).setReg
        (bankReg b 0x08) (bits (d.perfCycles b) 0 32)).setReg (bankReg b 0x0C) (bits (d.perfCycles b) 32 32) |>.forEach (fun k e =>
          (e.setReg (bankReg b (0x10 + 8 * k)) (bits (numAt e.perf.counts (8 * b + k)) 0 32)).setReg (bankReg b (0x14 + 8 * k))
            (bits (numAt e.perf.counts (8 * b + k)) 32 16)) (List.range 8), q⟩ ∧
      (∀ (k : Fin 8) (v : Nat), 8 * b.val + k.val ∉ d.perf.staged → exec (.perfCounterConfigWrite b k v) ⟨d, q⟩ =
        .next ⟨{ d.wr (inst Obj.PerfCounterConfig (8 * b + k)) (v % 2 ^ 18 : Nat) with perf := { d.perf with staged := d.perf.staged ++ [8 * b.val + k.val] } }, q⟩) ∧
      (∀ (k : Fin 8) (v : Nat), 8 * b.val + k.val ∈ d.perf.staged → exec (.perfCounterConfigWrite b k v) ⟨d, q⟩ =
        .next ⟨d.wr (inst Obj.PerfCounterConfig (8 * b + k)) (v % 2 ^ 18 : Nat), q⟩) ∧
      (d.rdB (inst Obj.ModeF5CounterDump b) = true →
        (let e := (d.perfCapture b 16).1.wrV (inst Obj.PerfBankSnapshot b) (.oct (d.perfCapture b 16).2)
         (b.val ∉ e.perf.read → exec (.perfBankSnapshotRead b) ⟨d, q⟩ = .next ⟨{ e with perf := { e.perf with read := e.perf.read ++ [b.val] } }, q⟩) ∧
         (b.val ∈ e.perf.read → exec (.perfBankSnapshotRead b) ⟨d, q⟩ = .next ⟨e, q⟩))) ∧
      (d.rdB (inst Obj.ModeF5CounterDump b) = false → exec (.perfBankSnapshotRead b) ⟨d, q⟩ = .next ⟨d, q⟩) ∧
      (let e := d.perfCounted b
       exec (.perfBankPeek b) ⟨d, q⟩ = .next ⟨e.wrV (inst Obj.PerfBankPeek b) (.oct (e.perfRecord b (e.perfFlagsOf b ||| 16) (e.perfCounts b))), q⟩) ∧
      (∀ (k : Fin 8) (pc : Nat) (u : Bool) (slot : Nat), (let c := numAt d.perf.cfg (8 * b + k)
        let took := match numAt d.perf.raised (8 * b + k) with
          | 0 => ({ d with perf := { d.perf with since := setNum d.perf.since (8 * b + k) 0 } } : Dev)
          | m + 1 => { d with perf := { d.perf with raised := setNum d.perf.raised (8 * b + k) m } }
        (bit c 16 = false ∨ bit c 17 = false → exec (.samplingInterrupt b k pc u slot) ⟨d, q⟩ = .next ⟨d, q⟩) ∧
        (bit c 16 = true → bit c 17 = true → 4096 ≤ d.perf.samples.length →
          exec (.samplingInterrupt b k pc u slot) ⟨d, q⟩ = .next ⟨took.inc Obj.PerfSampleLossCount, q⟩) ∧
        (bit c 16 = true → bit c 17 = true → d.perf.samples.length < 4096 →
          (let x := leBytes 4 pc ++ leBytes 1 (ofBool u) ++ leBytes 1 slot ++ leBytes 1 b ++ leBytes 1 k ++ leBytes 8 (d.rdN Obj.TurnNumber)
           let e : Dev := { took with perf := { took.perf with samples := d.perf.samples ++ [x] } }
           let f := e.wr Obj.PerfSampleFill (e.perf.samples.length : Nat)
           (f.rd Obj.PerfSampleWatermark ≤ f.perf.samples.length → exec (.samplingInterrupt b k pc u slot) ⟨d, q⟩ = .next ⟨f.raise 58, q⟩) ∧
           ((f.perf.samples.length : Int) < f.rd Obj.PerfSampleWatermark →
             exec (.samplingInterrupt b k pc u slot) ⟨d, q⟩ = .next ⟨f, q⟩)))))) ∧
    (let e := d.wrV Obj.PerfSampleRead (.oct ((d.perf.samples.take 4).flatten ++ List.replicate (64 - (d.perf.samples.take 4).flatten.length) 0))
     exec .perfSampleRead ⟨d, q⟩ = .next ⟨({ e with perf := { e.perf with samples := d.perf.samples.drop 4 } } : Dev).wr Obj.PerfSampleFill
       ((d.perf.samples.drop 4).length : Nat), q⟩)

/-- R579 to R583 and R586. What a program stores and how long it takes between its calls come with the command (assumption 39). -/
def Obligations.SpoolRunsCallTheDevice : Prop :=
  ∀ (d : Dev) (q : List Instr) (stores : List (Nat × Byte)) (cycles : Nat),
    (12 ∉ d.turn.openItems ∨ 3 ∈ d.unfinished ∨ d.spool.run ≠ none → exec (.spoolPrograms .start stores) ⟨d, q⟩ = .next ⟨d, q⟩) ∧
    (12 ∈ d.turn.openItems → 3 ∉ d.unfinished → d.spool.run = none →
      (d.on .spool 0 = false → exec (.spoolPrograms .start stores) ⟨d, q⟩ = .next ⟨d.spoolFinish, q⟩) ∧
      (d.on .spool 0 = true → exec (.spoolPrograms .start stores) ⟨d, q⟩ =
        .next ⟨({ d with spool := { d.spool with left := d.spoolBudget, ready := d.dueSlots } } : Dev).spoolNext, q⟩)) ∧
    d.dueSlots = ((List.range (d.spoolField 6 1)).filter fun s => d.rdB (inst Obj.SpoolSlotEnable s) && d.rd (inst Obj.SpoolSlotState s) == 1 &&
      d.rdN Obj.TurnNumber % max (d.rdN (inst Obj.SpoolSlotPeriod s)) 1 == 0) ∧
    (d.spool.run = none → ∀ x y z : Nat,
      (∀ c ∈ [Instr.spoolBudgetStop stores, .sysDone stores cycles, .sysTime x stores cycles, .sysRead x y z stores cycles, .sysWrite x y z stores cycles,
        .sysPerf x y stores cycles, .sysBudget stores cycles, .sysLog x y stores cycles, .spoolPrograms (.fault x y cycles) stores],
        exec c ⟨d, q⟩ = .next ⟨d, q⟩)) ∧
    (∀ r, d.spool.run = some r →
      (∀ cause pc : Nat, (let e := ((((d.spoolStores stores).inc (inst Obj.SpoolSlotFaultCount r.slot)).wr (inst Obj.SpoolSlotFaultCause r.slot) (cause : Nat)).wr
          (inst Obj.SpoolSlotFaultPc r.slot) (pc % 2 ^ 32 : Nat)).spoolEnds r (max cycles r.used) 2
        (numAt e.spool.faulted r.slot < e.rdN Obj.SpoolFaultLimit → exec (.spoolPrograms (.fault cause pc cycles) stores) ⟨d, q⟩ =
          .next ⟨e.spoolNext, q⟩) ∧
        (e.rdN Obj.SpoolFaultLimit ≤ numAt e.spool.faulted r.slot → exec (.spoolPrograms (.fault cause pc cycles) stores) ⟨d, q⟩ =
          .next ⟨(e.wr (inst Obj.SpoolSlotState r.slot) 2).spoolNext, q⟩))) ∧
      (let e := d.spoolStores stores
       exec (.spoolBudgetStop stores) ⟨d, q⟩ = .next ⟨(((e.overrun 12 1 (d.rdN Obj.TurnNumber)).inc (inst Obj.SpoolSlotOverrunCount r.slot)).spoolEnds r r.limit 1).spoolNext, q⟩) ∧
      (let f := d.spoolStores stores
       let used := max cycles (r.used + 200)
       let e := ({ f with spool := { f.spool with run := some { r with used := used } } } : Dev).counted 2 0x0A r.slot 1
       exec (.sysDone stores cycles) ⟨d, q⟩ = .next ⟨(e.spoolEnds { r with used := used } used 0).spoolNext, q⟩ ∧
       exec (.sysBudget stores cycles) ⟨d, q⟩ = .next ⟨e.spoolResult (r.limit - used : Nat), q⟩ ∧
       (∀ a : Nat, (bufferOk a 16 = true → exec (.sysTime a stores cycles) ⟨d, q⟩ =
           .next ⟨(e.spoolWrite a (timeBytes e.now ++ leBytes 1 (e.rdN Obj.TimeValid) ++ leBytes 1 (e.rdN Obj.TurnInPhase) ++ leBytes 2 0)).spoolResult 0, q⟩) ∧
         (bufferOk a 16 = false → exec (.sysTime a stores cycles) ⟨d, q⟩ = .next ⟨e.spoolResult (-2), q⟩)) ∧
       (∀ o a n : Nat,
         (64 < n ∨ bufferOk a (4 + n) = false → exec (.sysRead o a n stores cycles) ⟨d, q⟩ = .next ⟨e.spoolResult (-2), q⟩ ∧
           exec (.sysWrite o a n stores cycles) ⟨d, q⟩ = .next ⟨e.spoolResult (-2), q⟩) ∧
         (n ≤ 64 → bufferOk a (4 + n) = true → 4 ≤ (e.spool.requests.filter fun y => y.slot == r.slot).length →
           exec (.sysRead o a n stores cycles) ⟨d, q⟩ = .next ⟨e.spoolResult (-3), q⟩ ∧
           exec (.sysWrite o a n stores cycles) ⟨d, q⟩ = .next ⟨e.spoolResult (-3), q⟩) ∧
         (n ≤ 64 → bufferOk a (4 + n) = true → (e.spool.requests.filter fun y => y.slot == r.slot).length < 4 →
           (let g := e.spoolWrite a (leBytes 4 (2 ^ 32 - 1))
            let ask (v : Option (List Byte)) (m : Nat) : Dev := ({ g with spool := { g.spool with requests := g.spool.requests ++ [{ slot := r.slot, key := objKey (o / 256) o, buffer := a, max := m, value := v }] } } : Dev).spoolResult 0
            exec (.sysRead o a n stores cycles) ⟨d, q⟩ = .next ⟨ask none n, q⟩ ∧
            exec (.sysWrite o a n stores cycles) ⟨d, q⟩ = .next ⟨ask (some (readBytes e.spool.memory (a + 4) n)) 0, q⟩))) ∧
       (∀ n a : Nat, 3 ≤ n / 256 ∨ 8 ≤ n % 256 → exec (.sysPerf n a stores cycles) ⟨d, q⟩ = .next ⟨e.spoolResult (-2), q⟩) ∧
       (∀ (b : Fin 3) (k : Fin 8) (a : Nat),
         (e.rdB (inst Obj.PerfUserEnable b) = false → exec (.sysPerf (256 * b + k) a stores cycles) ⟨d, q⟩ = .next ⟨e.spoolResult (-1), q⟩) ∧
         (e.rdB (inst Obj.PerfUserEnable b) = true → bufferOk a 8 = false → exec (.sysPerf (256 * b + k) a stores cycles) ⟨d, q⟩ =
           .next ⟨e.spoolResult (-2), q⟩) ∧
         (e.rdB (inst Obj.PerfUserEnable b) = true → bufferOk a 8 = true → exec (.sysPerf (256 * b + k) a stores cycles) ⟨d, q⟩ =
           .next ⟨(e.spoolWrite a (leBytes 8 (numAt e.perf.counts (8 * b + k)))).spoolResult 0, q⟩)) ∧
       (∀ a n : Nat,
         (56 < n ∨ bufferOk a n = false → exec (.sysLog a n stores cycles) ⟨d, q⟩ = .next ⟨e.spoolResult (-2), q⟩) ∧
         (n ≤ 56 → bufferOk a n = true → 1024 ≤ e.spool.log.length → exec (.sysLog a n stores cycles) ⟨d, q⟩ =
           .next ⟨(e.inc Obj.SpoolLogLossCount).spoolResult 0, q⟩) ∧
         (n ≤ 56 → bufferOk a n = true → e.spool.log.length < 1024 → exec (.sysLog a n stores cycles) ⟨d, q⟩ =
           .next ⟨({ e with spool := { e.spool with log := e.spool.log ++ [leBytes 4 (e.rdN Obj.TurnNumber) ++ leBytes 1 r.slot ++ leBytes 1 n ++ leBytes 2 0 ++ readBytes e.spool.memory a n ++ List.replicate (56 - n) 0] } } : Dev).spoolResult 0, q⟩)))) ∧
    exec .spoolLogRead ⟨d, q⟩ = .next ⟨{ d.wrV Obj.SpoolLogRead (.oct (d.spool.log.headD (List.replicate 64 0))) with spool := { d.spool with log := d.spool.log.drop 1 } }, q⟩

/-- R588. `ringDisable` is the effect of RING_DISABLE (R554), which the statement of the rings gives. -/
def Obligations.PerstDisablesTheRingsAlone : Prop :=
  ∀ (d : Dev) (q : List Instr), (let e := ((((((((d |> ringDisable 0) |> ringDisable 1) |> ringDisable 2) |> ringDisable 3) |> ringDisable 4) |> ringDisable 5)
      |> ringDisable 6) |> ringDisable 7)
    exec .perstAssert ⟨d, q⟩ = .next ⟨{ e with boot := { e.boot with pcie := false } }, q⟩ ∧
    (∀ r : Fin 8, exec (.ringDisable r) ⟨d, q⟩ = .next ⟨ringDisable r d, q⟩ ∧ (e.ring r).enable = false) ∧
    e.turn = d.turn ∧ e.time = d.time ∧ e.timing = d.timing ∧ e.ref = d.ref ∧ e.out = d.out ∧ e.evins = d.evins ∧ e.cal = d.cal ∧
    e.line = d.line ∧ e.red = d.red ∧ e.fw = d.fw ∧ e.spool = d.spool ∧ e.block = d.block ∧ e.dict = d.dict ∧ e.boot = d.boot)

/-- R587, R589, R594, R598, R600 to R604, R606 to R608 and R610. That no other state outlives a reset is the model’s choice (assumption 40). -/
def Obligations.ResetsFaultsAndTheEnvironment : Prop :=
  ∀ (d : Dev) (q : List Instr),
    (∀ c ∈ [((0 : Int), Instr.powerOnReset), (1, .resetNAssert), (2, .supplyReset), (3, .deviceResetCmd)], ∃ e,
      exec c.2 ⟨d, q⟩ = .next ⟨e, q⟩ ∧ e.rd Obj.ResetCause = c.1 ∧ e.freeCount = d.freeCount ∧ e.fw.slot = d.fw.slot ∧
      e.fw.generation = d.fw.generation ∧ e.dict.keys = d.dict.keys ∧ e.turn = {} ∧ e.time = {} ∧ e.buf = {} ∧ e.fwd = {} ∧ e.line = {} ∧ e.boot = {} ∧
      (∀ k, k ≠ Obj.ResetCause → (∀ i < 3, k ≠ inst Obj.MdpKeySet i) → e.rdV k = ({} : Dev).rdV k)) ∧
    (∀ s : Fin 16, (d.boot.released = false → exec (.resetRelease s) ⟨d, q⟩ =
        .next ⟨{ d.wr Obj.BootStraps (s.val : Nat) with boot := { d.boot with released := true } }, q⟩) ∧
      (d.boot.released = true → exec (.resetRelease s) ⟨d, q⟩ = .next ⟨d, q⟩)) ∧
    (d.boot.released = true → d.rd Obj.FixedSynthState = 1 → bit (d.rdN Obj.BootStraps) 2 = false →
      exec .pcieLinkTraining ⟨d, q⟩ = .next ⟨{ d with boot := { d.boot with pcie := true } }, q⟩) ∧
    (d.boot.released = false ∨ d.rd Obj.FixedSynthState ≠ 1 ∨ bit (d.rdN Obj.BootStraps) 2 = true →
      exec .pcieLinkTraining ⟨d, q⟩ = .next ⟨d, q⟩) ∧
    (∀ a b x y : List Byte, (d.boot.released = false ∨ d.boot.loaded = true ∨ d.boot.refused = true ∨ bits (d.rdN Obj.BootStraps) 0 2 = 2 ∨ d.stopped = true →
        exec (.bootImageReadComplete a b x y) ⟨d, q⟩ = .next ⟨d, q⟩) ∧
      (d.boot.released = true → d.boot.loaded = false → d.boot.refused = false → bits (d.rdN Obj.BootStraps) 0 2 ≠ 2 → d.stopped = false →
        (let c := bootChoice (bootRecord a) (bootRecord b)
         let image (slot : Nat) : ImageRead := readImage (fun o n => ((if slot = 0 then x else y).drop o).take n) 8388608
         let e : Dev := { (d.wr Obj.FwPrimaryVersion (image c.2).image.version).wr Obj.FwFallbackVersion (image (1 - c.2)).image.version with fw := { d.fw with slot := c.2, generation := c.1 } }
         let ok (slot : Nat) : Prop := (image slot).genuine = true ∧ d.rdN Obj.FwMinVersion ≤ (image slot).image.version
         let primary := bits (d.rdN Obj.BootStraps) 0 2 ≠ 1 ∧ ok c.2
         let used (slot : Nat) (source : Int) : Dev := { (e.wr Obj.BootImageSlot slot).wr Obj.BootImageSource source with
           fw := { e.fw with running := (image slot).image, flash := (image slot).image }
           boot := { d.boot with loaded := true } }
         (primary → exec (.bootImageReadComplete a b x y) ⟨d, q⟩ = .next ⟨used c.2 0, q⟩) ∧
         (¬primary → ok (1 - c.2) → exec (.bootImageReadComplete a b x y) ⟨d, q⟩ = .next ⟨used (1 - c.2) 1, q⟩) ∧
         (¬primary → ¬ok (1 - c.2) → exec (.bootImageReadComplete a b x y) ⟨d, q⟩ = .next ⟨{ e with boot := { d.boot with refused := true } }, q⟩)))) ∧
    (d.boot.loaded = false ∨ d.dict.ready = true ∨ d.stopped = true → exec .serverReady ⟨d, q⟩ = .next ⟨d, q⟩) ∧
    (d.boot.loaded = true → d.dict.ready = false → d.stopped = false →
      (let e : Dev := { d with dict := { d.dict with ready := true } }
       exec .serverReady ⟨d, q⟩ = .next ⟨(((e.wr Obj.BootDuration (quot Config.roundsUp e.time.uptime 1000000)).wr (inst Obj.EventStatus 63)
         (e.rdN (inst Obj.EventStatus 63) % 4096 : Nat)).wr (inst Obj.FwRunningVersion 0) e.fw.running.version).forEach
           (fun n f => blockCmd ⟨.mdpSession, n⟩ 1 f) (List.range 16), q⟩)) ∧
    (d.dict.ready = true → exec .standbyReturnAtBoot ⟨d, q⟩ =
      .next ⟨(let e := (d.unitEnable 1).unitEnable 3
              e.wr (inst Obj.FwRunningVersion 1) d.fw.running.version), q⟩) ∧
    (d.dict.ready = false → exec .standbyReturnAtBoot ⟨d, q⟩ = .next ⟨d, q⟩) ∧
    (∀ (c : Fin 10) (core : Bool), (1 ≤ c.val → d.boot.released = true → exec (.deviceLevelFault c core) ⟨d, q⟩ = .next ⟨deviceFault c core d, q⟩) ∧
      (c = 0 ∨ d.boot.released = false → exec (.deviceLevelFault c core) ⟨d, q⟩ = .next ⟨d, q⟩)) ∧
    (∀ bad : Bool, (d.rd Obj.DeviceFaultPhase = 1 → (∀ c ∈ d.boot.held, d.conditionHolds c = true) →
        exec (.deviceRestart bad) ⟨d, q⟩ = .next ⟨restartBegins bad d, q⟩) ∧
      (d.rd Obj.DeviceFaultPhase ≠ 1 ∨ (∃ c ∈ d.boot.held, d.conditionHolds c = false) → exec (.deviceRestart bad) ⟨d, q⟩ = .next ⟨d, q⟩)) ∧
    (d.rd Obj.DeviceFaultPhase = 3 → exec .deviceRestartCmd ⟨d, q⟩ = .next ⟨(d.wr Obj.DeviceRestartCmd 1).wr Obj.DeviceFaultPhase 1, q⟩) ∧
    (d.rd Obj.DeviceFaultPhase ≠ 3 → exec .deviceRestartCmd ⟨d, q⟩ = .next ⟨d.wr Obj.DeviceRestartCmd 0x80, q⟩) ∧
    exec .configLostAck ⟨d, q⟩ = .next ⟨(d.wr Obj.ConfigLostAck 0).wr Obj.ConfigLost 0, q⟩ ∧
    (∀ (temps : List Int) (lasting : Bool),
      (let ts := (List.range 4).map fun i => clampI (-32768) 32767 (temps.getD i 0)
       let hottest := ts.foldl max (ts.headD 0)
       let e := d.wrs (ts.zipIdx.map fun x => (inst Obj.DieTemperature x.2, x.1))
       let f := ({ e.wr Obj.DieTemperaturePeak (if e.boot.tempSeen then max (e.rd Obj.DieTemperaturePeak) hottest else hottest) with
         boot := { e.boot with tempSeen := true } } : Dev).calTemps
       let warn := f.rd Obj.ThermalWarnLimit
       let moved (g : Dev) (st cause : Int) : Dev := (g.wrs [(Obj.ThermalState, st), (Obj.ThermalEventCause, cause)]).raise 60
       let g := if f.rd Obj.ThermalState = 0 ∧ warn ≤ hottest then (moved f 1 1).reelStop 3 else f
       let hot := 1250 ≤ hottest ∧ lasting = true
       (g.rd Obj.ThermalState = 1 →
         (hot → exec (.thermalSample temps lasting) ⟨d, q⟩ =
           .next ⟨deviceFault 8 false (((moved g 2 3).reelStop 3).inc Obj.ThermalShutdownCount), q⟩) ∧
         (¬hot → hottest ≤ warn - 50 → exec (.thermalSample temps lasting) ⟨d, q⟩ = .next ⟨moved g 0 2, q⟩) ∧
         (¬hot → warn - 50 < hottest → exec (.thermalSample temps lasting) ⟨d, q⟩ = .next ⟨g, q⟩)) ∧
       (g.rd Obj.ThermalState = 2 → hottest < 950 → exec (.thermalSample temps lasting) ⟨d, q⟩ = .next ⟨moved g 1 4, q⟩) ∧
       (g.rd Obj.ThermalState ≠ 1 → g.rd Obj.ThermalState ≠ 2 ∨ 950 ≤ hottest → exec (.thermalSample temps lasting) ⟨d, q⟩ = .next ⟨g, q⟩))) ∧
    (∀ (mv : List Nat) (l : Nat), (let e := d.forEach (fun r f => railSample (mv.getD r 0 % 65536) (bit l r) r f) (List.range 8)
      let f : Dev := { e with boot := { e.boot with supplySeen := true } }
      let fails := ∃ r < 8, d.rd (inst Obj.SupplyState r) ≠ 2 ∧ f.rd (inst Obj.SupplyState r) = 2
      (¬fails → exec (.supplySample mv l) ⟨d, q⟩ = .next ⟨f, q⟩) ∧
      (fails → exec (.supplySample mv l) ⟨d, q⟩ = .next ⟨deviceFault 7 false f, q⟩))) ∧
    (∀ (g : Fin 4) (n : Fin 16) (s : Fin 7),
      (pinKey g n = none → exec (.pinFaultDetect g n s) ⟨d, q⟩ = .next ⟨d, q⟩) ∧
      (∀ k, pinKey g n = some k →
        (let input := d.rdN (inst Obj.ClkOutMonitorInput n)
         let st : Nat := if g = 0 ∧ s = 4 ∧ d.rdB (inst Obj.RefInSwapCorrect n) = false then 5 else s
         let idle := pinStatusOk g s = false ∨ (g = 2 ∧ s = 6 ∧ ¬(input < 16 ∧ d.on .evin input = true)) ∨
           (s = 1 ∧ g ≠ 2 ∧ (if g = 0 then d.on .refIn n else d.on .mref 0) = false) ∨ d.rd k = (st : Int)
         let e := (d.wrs [(k, (st : Int)), (Obj.PinEventCause, ((st + 256 * (g + 1) : Nat) : Int))]).raise 59
         (idle → exec (.pinFaultDetect g n s) ⟨d, q⟩ = .next ⟨d, q⟩) ∧
         (¬idle → g = 0 → st = 4 → exec (.pinFaultDetect g n s) ⟨d, q⟩ = .next ⟨e.setRefIn n fun x => { x with invertNext := !x.inverted }, q⟩) ∧
         (¬idle → g = 1 ∨ (g = 0 ∧ st ≠ 4) → exec (.pinFaultDetect g n s) ⟨d, q⟩ = .next ⟨e, q⟩) ∧
         (∀ o, ¬idle → limitedOut g n = some o → exec (.pinFaultDetect g n s) ⟨d, q⟩ =
           .next ⟨{ e with boot := { e.boot with limited := (e.boot.limited.filter (· != o)) ++ if st = 2 ∨ st = 3 then [o] else [] } }, q⟩)))) ∧
    (∀ (o : Fin 24), (o.val ∉ d.boot.limited → exec (.shortRetry o true) ⟨d, q⟩ = .next ⟨d, q⟩) ∧ exec (.shortRetry o false) ⟨d, q⟩ = .next ⟨d, q⟩ ∧
      (o.val < 8 → o.val ∈ d.boot.limited → exec (.shortRetry o true) ⟨d, q⟩ = .next ⟨pinFaultDetect 2 o 0 d, q⟩) ∧
      (8 ≤ o.val → o.val ∈ d.boot.limited → exec (.shortRetry o true) ⟨d, q⟩ = .next ⟨pinFaultDetect 3 (o - 8) 0 d, q⟩)) ∧
    (∀ (k : Fin 2) (a : DramPlace), exec (.dramEccError k true a) ⟨d, q⟩ = .next ⟨((d.inc (inst Obj.DramEccUncorrectedCount k)).raise 62).eccSpoils a, q⟩ ∧
      exec (.dramEccError k false a) ⟨d, q⟩ = .next ⟨d.eccCorrected k, q⟩) ∧
    (∀ a b : Nat, exec (.dramScrub a b) ⟨d, q⟩ = .next ⟨(d.add32 (inst Obj.DramEccCorrectedCount 0) a).add32 (inst Obj.DramEccCorrectedCount 1) b, q⟩) ∧
    exec (.deepStoreTrainingComplete true) ⟨d, q⟩ = .next ⟨d, q⟩ ∧
    (let e := (((((d.countFault ⟨.deepStore, 0⟩ 9).blockLeaves ⟨.deepStore, 0⟩ 4).wr Obj.DeepStoreLost 1).wr Obj.ReelOldestOffset 0).wr Obj.ReelWriteOffset 0).wr Obj.ReelRecordCount 0
     exec (.deepStoreTrainingComplete false) ⟨d, q⟩ = .next ⟨{ e with buf := { e.buf with reel := [], reelHeld := 0 }, boot := { e.boot with scratchBad := true } }, q⟩)
end

