-- ==== Sys2Proof/Laws/Sparse.lean ====
section
/-! SUPPORT. The laws of sparse stores: reading after writing, and the canonical form. -/

namespace Sys2Proof.Machine

set_option Elab.async false

variable {β : Type} (unlisted : Nat → β)

theorem sparse_get_put (l : List (Nat × β)) (k : Nat) (v : β) (k' : Nat) :
    Sparse.get unlisted (Sparse.put l k v) k' = if k = k' then v else Sparse.get unlisted l k' := by
  induction l with
  | nil => simp [Sparse.put, Sparse.get]
  | cons e l ih =>
    obtain ⟨a, b⟩ := e
    simp only [Sparse.put]
    split
    · simp [Sparse.get]
    · split
      · next h => subst h; simp only [Sparse.get]; split <;> rfl
      · simp only [Sparse.get, ih]
        split
        · next h => subst h; split <;> simp_all
        · rfl

theorem sparse_get_drop (l : List (Nat × β)) (k k' : Nat) :
    Sparse.get unlisted (Sparse.drop l k) k' = if k = k' then unlisted k else Sparse.get unlisted l k' := by
  induction l with
  | nil => simp only [Sparse.drop, Sparse.get]; split <;> simp_all
  | cons e l ih =>
    obtain ⟨a, b⟩ := e
    simp only [Sparse.drop]
    split
    · next h => subst h; rw [ih]; simp only [Sparse.get]; split <;> rfl
    · simp only [Sparse.get, ih]
      split
      · next h => subst h; split <;> simp_all
      · rfl

/-- Reading after writing. -/
theorem sparse_get_set [DecidableEq β] (l : List (Nat × β)) (k : Nat) (v : β) (k' : Nat) :
    Sparse.get unlisted (Sparse.set unlisted l k v) k' = if k = k' then v else Sparse.get unlisted l k' := by
  unfold Sparse.set
  split
  · next h => rw [sparse_get_drop, h]
  · rw [sparse_get_put]

@[simp] theorem sparse_get_set_same [DecidableEq β] (l : List (Nat × β)) (k : Nat) (v : β) :
    Sparse.get unlisted (Sparse.set unlisted l k v) k = v := by simp [sparse_get_set]

theorem sparse_get_set_other [DecidableEq β] (l : List (Nat × β)) (k : Nat) (v : β) (k' : Nat) (h : k ≠ k') :
    Sparse.get unlisted (Sparse.set unlisted l k v) k' = Sparse.get unlisted l k' := by simp [sparse_get_set, h]

/-! ## The canonical form -/

/-- Every key of a list lies above `k`. -/
def Sparse.above (k : Nat) (l : List (Nat × β)) : Prop := ∀ e ∈ l, k < e.1

theorem sparse_rising_cons (k : Nat) (v : β) (l : List (Nat × β)) :
    Sparse.rising ((k, v) :: l) = true ↔ Sparse.above k l ∧ Sparse.rising l = true := by
  induction l generalizing k v with
  | nil => simp [Sparse.rising, Sparse.above]
  | cons e l ih =>
    obtain ⟨a, b⟩ := e
    simp only [Sparse.rising, Bool.and_eq_true, decide_eq_true_eq]
    constructor
    · rintro ⟨h1, h2⟩
      refine ⟨?_, h2⟩
      intro x hx
      rcases List.mem_cons.1 hx with rfl | hx
      · exact h1
      · exact lt_trans h1 ((ih a b).1 h2 |>.1 x hx)
    · rintro ⟨h1, h2⟩
      exact ⟨h1 (a, b) (by simp), h2⟩

theorem sparse_mem_put (l : List (Nat × β)) (k : Nat) (v : β) (e : Nat × β) (h : e ∈ Sparse.put l k v) :
    e = (k, v) ∨ e ∈ l := by
  induction l with
  | nil => simp [Sparse.put] at h; exact Or.inl h
  | cons x l ih =>
    obtain ⟨a, b⟩ := x
    simp only [Sparse.put] at h
    split at h
    · rcases List.mem_cons.1 h with h | h
      · exact Or.inl h
      · exact Or.inr h
    · split at h
      · rcases List.mem_cons.1 h with h | h
        · exact Or.inl h
        · exact Or.inr (by simp [h])
      · rcases List.mem_cons.1 h with h | h
        · exact Or.inr (by simp [h])
        · rcases ih h with h | h
          · exact Or.inl h
          · exact Or.inr (by simp [h])

theorem sparse_mem_drop (l : List (Nat × β)) (k : Nat) (e : Nat × β) (h : e ∈ Sparse.drop l k) : e ∈ l := by
  induction l with
  | nil => simp [Sparse.drop] at h
  | cons x l ih =>
    obtain ⟨a, b⟩ := x
    simp only [Sparse.drop] at h
    split at h
    · exact List.mem_cons_of_mem _ (ih h)
    · rcases List.mem_cons.1 h with h | h
      · simp [h]
      · exact List.mem_cons_of_mem _ (ih h)

theorem sparse_rising_put (l : List (Nat × β)) (k : Nat) (v : β) (h : Sparse.rising l = true) :
    Sparse.rising (Sparse.put l k v) = true := by
  induction l with
  | nil => rfl
  | cons x l ih =>
    obtain ⟨a, b⟩ := x
    have h' := (sparse_rising_cons a b l).1 h
    simp only [Sparse.put]
    split
    · next hk =>
      refine (sparse_rising_cons _ _ _).2 ⟨?_, h⟩
      intro e he
      rcases List.mem_cons.1 he with rfl | he
      · exact hk
      · exact lt_trans hk (h'.1 e he)
    · split
      · next hk => subst hk; exact (sparse_rising_cons _ _ _).2 h'
      · next h1 h2 =>
        refine (sparse_rising_cons _ _ _).2 ⟨?_, ih h'.2⟩
        intro e he
        rcases sparse_mem_put _ _ _ _ he with rfl | he
        · exact lt_of_le_of_ne (not_lt.1 h1) (Ne.symm h2)
        · exact h'.1 e he

theorem sparse_rising_drop (l : List (Nat × β)) (k : Nat) (h : Sparse.rising l = true) :
    Sparse.rising (Sparse.drop l k) = true := by
  induction l with
  | nil => rfl
  | cons x l ih =>
    obtain ⟨a, b⟩ := x
    have h' := (sparse_rising_cons a b l).1 h
    simp only [Sparse.drop]
    split
    · exact ih h'.2
    · exact (sparse_rising_cons _ _ _).2 ⟨fun e he => h'.1 e (sparse_mem_drop _ _ _ he), ih h'.2⟩

theorem sparse_wf_iff [DecidableEq β] (l : List (Nat × β)) :
    Sparse.wf unlisted l = true ↔ Sparse.rising l = true ∧ ∀ e ∈ l, e.2 ≠ unlisted e.1 := by
  simp [Sparse.wf]

/-- A write keeps the canonical form. -/
theorem sparse_wf_set [DecidableEq β] (l : List (Nat × β)) (k : Nat) (v : β) (h : Sparse.wf unlisted l = true) :
    Sparse.wf unlisted (Sparse.set unlisted l k v) = true := by
  rw [sparse_wf_iff] at h ⊢
  unfold Sparse.set
  split
  · exact ⟨sparse_rising_drop _ _ h.1, fun e he => h.2 e (sparse_mem_drop _ _ _ he)⟩
  · next hv =>
    refine ⟨sparse_rising_put _ _ _ h.1, fun e he => ?_⟩
    rcases sparse_mem_put _ _ _ _ he with rfl | he
    · exact hv
    · exact h.2 e he

/-- Entries of a canonical store that a test drops leave it canonical. -/
theorem sparse_wf_filter [DecidableEq β] (l : List (Nat × β)) (p : Nat × β → Bool) (h : Sparse.wf unlisted l = true) :
    Sparse.wf unlisted (l.filter p) = true := by
  rw [sparse_wf_iff] at h ⊢
  refine ⟨?_, fun e he => h.2 e (List.mem_of_mem_filter he)⟩
  have h1 := h.1
  clear h
  induction l with
  | nil => rfl
  | cons x l ih =>
    obtain ⟨a, b⟩ := x
    have h' := (sparse_rising_cons a b l).1 h1
    simp only [List.filter]
    split
    · exact (sparse_rising_cons _ _ _).2 ⟨fun e he => h'.1 e (List.mem_of_mem_filter he), ih h'.2⟩
    · exact ih h'.2

end Sys2Proof.Machine
end

