-- ==== Sys2Proof/Laws/State.lean ====
section
/-! SUPPORT. What the operations of Ops do to each part of the state: reading after writing, and what stays. -/

namespace Sys2Proof.Machine

set_option Elab.async false

/-! ## Objects -/

theorem rdV_wrV (d : Dev) (k : Nat) (v : Val) (k' : Nat) :
    (d.wrV k v).rdV k' = if k = k' then v else d.rdV k' := sparse_get_set _ _ _ _ _

@[simp] theorem rdV_wrV_same (d : Dev) (k : Nat) (v : Val) : (d.wrV k v).rdV k = v := by simp [rdV_wrV]

@[simp] theorem rdV_wrV_other (d : Dev) (k : Nat) (v : Val) (k' : Nat) (h : k ≠ k') :
    (d.wrV k v).rdV k' = d.rdV k' := by simp [rdV_wrV, h]

@[simp] theorem rdV_wr_other (d : Dev) (k : Nat) (v : Int) (k' : Nat) (h : k ≠ k') :
    (d.wr k v).rdV k' = d.rdV k' := rdV_wrV_other _ _ _ _ h

@[simp] theorem rdV_wr_same (d : Dev) (k : Nat) (v : Int) : (d.wr k v).rdV k = .num v := rdV_wrV_same _ _ _

@[simp] theorem rd_wr_same (d : Dev) (k : Nat) (v : Int) : (d.wr k v).rd k = v := by
  simp [Dev.rd, Val.toInt]

@[simp] theorem rd_wr_other (d : Dev) (k : Nat) (v : Int) (k' : Nat) (h : k ≠ k') : (d.wr k v).rd k' = d.rd k' := by
  simp [Dev.rd, h]

@[simp] theorem rd_wrV_other (d : Dev) (k : Nat) (v : Val) (k' : Nat) (h : k ≠ k') : (d.wrV k v).rd k' = d.rd k' := by
  simp [Dev.rd, h]

@[simp] theorem rdN_wr_same (d : Dev) (k : Nat) (v : Int) : (d.wr k v).rdN k = v.toNat := by simp [Dev.rdN]

@[simp] theorem rdN_wr_other (d : Dev) (k : Nat) (v : Int) (k' : Nat) (h : k ≠ k') : (d.wr k v).rdN k' = d.rdN k' := by
  simp [Dev.rdN, h]

@[simp] theorem rdB_wr_other (d : Dev) (k : Nat) (v : Int) (k' : Nat) (h : k ≠ k') : (d.wr k v).rdB k' = d.rdB k' := by
  simp [Dev.rdB, h]

@[simp] theorem rdB_wr_same (d : Dev) (k : Nat) (v : Int) : (d.wr k v).rdB k = (v != 0) := by simp [Dev.rdB]

/-- Reads see the objects alone. -/
theorem rdV_of_objs (d d' : Dev) (h : d'.objs = d.objs) (k : Nat) : d'.rdV k = d.rdV k := by
  simp [Dev.rdV, h]

/-- Doing something for each of a list is a left fold over it. -/
theorem Dev.forEach_eq_foldl (d : Dev) (f : Nat → Dev → Dev) (l : List Nat) :
    d.forEach f l = l.foldl (fun e n => f n e) d := by
  induction l generalizing d with
  | nil => rfl
  | cons n rest ih => exact ih (f n d)

end Sys2Proof.Machine
end

