-- ==== Sys2Proof/Laws/Kept.lean ====
section
/-! SUPPORT. Every operation of the block keeps its stores in canonical form, and its uptime but at a reset. -/

namespace Sys2Proof.Machine

set_option Elab.async false

/-- What an operation keeps: what was so before it, and, of an operation that starts no Turn, where the Turns are. -/
structure Upto where
  mark : Mark
  still : Option (Option Nat × Nat × Nat) := none

/-- The Turns: the last one started, the next one, and how many have started. -/
def TurnSt.place (t : TurnSt) : Option Nat × Nat × Nat := (t.last, t.next, t.started)

/-- The stores of a block are in canonical form, its Turn numbers in order, nothing went back, and the Turns are where they
were or where a reset leaves them. -/
def Dev.kept (u : Upto) (d : Dev) : Prop :=
  d.sound ∧ d.ordered ∧ d.since u.mark ∧ ∀ t, u.still = some t → d.turn.place = t ∨ d.turn.place = (none, 0, 0)

variable {u : Upto}

/-- An operation that starts no Turn reaches no further Turn. -/
theorem kept_reached {f : Dev → Dev} (hf : ∀ (u : Upto) (d : Dev), d.kept u → (f d).kept u) (d : Dev) (h1 : d.sound)
    (h2 : d.ordered) : (f d).turn.reached ≤ d.turn.reached := by
  have h := (hf ⟨d.mark, some d.turn.place⟩ d ⟨h1, h2, .inl ⟨le_rfl, le_rfl, .inl rfl⟩, fun _ e =>
    .inl (Option.some.inj e)⟩).2.2.2 _ rfl
  unfold TurnSt.reached
  rcases h with h | h
  · rw [show (f d).turn.last = d.turn.last from congrArg Prod.fst h]
  · rw [show (f d).turn.last = none from congrArg Prod.fst h]
    exact Nat.zero_le _

theorem kept_of (d d' : Dev) (h : d.kept u) (ho : d'.objs = d.objs) (hr : d'.regs = d.regs)
    (hk : d'.dict.keys = d.dict.keys) (hu : d.time.uptime ≤ d'.time.uptime) (hb : d'.boot.released = d.boot.released)
    (ht : d'.turn.last = d.turn.last ∧ d'.turn.next = d.turn.next ∧ d'.turn.started = d.turn.started) : d'.kept u := by
  obtain ⟨h1, h2, h3, h4⟩ := h
  obtain ⟨t1, t2, t3⟩ := ht
  have hp : d'.turn.place = d.turn.place := by unfold TurnSt.place; rw [t1, t2, t3]
  have hl : d'.turn.reached = d.turn.reached := by unfold TurnSt.reached; rw [t1]
  refine ⟨?_, ?_, ?_, fun t e => by rw [hp]; exact h4 t e⟩
  · unfold Dev.sound at h1 ⊢
    rwa [ho, hr, hk]
  · unfold Dev.ordered at h2 ⊢
    rwa [hl, t2]
  · unfold Dev.since at h3 ⊢
    rw [hb, hl, t3]
    exact h3.imp_left fun h => ⟨le_trans h.1 hu, h.2⟩

theorem kept_mk {X : Dev} {a2 a3 a4 a5 a6 a7 a8 a9 a10 a11 a12 a13 a14 a15 a16 a17 a18 a19 a20 a21 a22}
    (h : X.kept u) (hk : a20.keys = X.dict.keys) (hu : X.time.uptime ≤ a5.uptime) (hb : a21.released = X.boot.released)
    (ht : a4.last = X.turn.last ∧ a4.next = X.turn.next ∧ a4.started = X.turn.started := by exact ⟨rfl, rfl, rfl⟩) :
    Dev.kept u (Dev.mk X.objs X.regs a2 a3 a4 a5 a6 a7 a8 a9 a10 a11 a12 a13 a14 a15 a16 a17 a18 a19 a20 a21 a22) :=
  kept_of X _ h rfl rfl hk hu hb ht

/-- A Turn with a number not behind the block starts. -/
theorem kept_starts {X d' : Dev} {n : Nat} (h : X.kept u) (ho : d'.objs = X.objs) (hr : d'.regs = X.regs)
    (hk : d'.dict.keys = X.dict.keys) (hu : d'.time.uptime = X.time.uptime) (hb : d'.boot.released = X.boot.released)
    (hn : X.turn.reached ≤ n) (hl : d'.turn.last = some n) (hx : d'.turn.next = n + 1) (hs : u.still = none) :
    d'.kept u := by
  obtain ⟨h1, h2, h3, h4⟩ := h
  have hd : d'.turn.reached = n + 1 := by unfold TurnSt.reached; rw [hl]
  refine ⟨?_, ?_, ?_, fun t e => by rw [hs] at e; cases e⟩
  · unfold Dev.sound at h1 ⊢
    rwa [ho, hr, hk]
  · unfold Dev.ordered
    omega
  · unfold Dev.since at h3 ⊢
    rw [hb, hd, hu]
    exact h3.imp_left fun h => ⟨h.1, by omega, .inr (by omega)⟩

/-- The next Turn is to have a number not behind the block. -/
theorem kept_gap {X d' : Dev} (h : X.kept u) (ho : d'.objs = X.objs) (hr : d'.regs = X.regs)
    (hk : d'.dict.keys = X.dict.keys) (hu : d'.time.uptime = X.time.uptime) (hb : d'.boot.released = X.boot.released)
    (hl : d'.turn.last = X.turn.last) (hs : d'.turn.started = X.turn.started) (hn : X.turn.reached ≤ d'.turn.next)
    (hu' : u.still = none) : d'.kept u := by
  obtain ⟨h1, h2, h3, h4⟩ := h
  have hd : d'.turn.reached = X.turn.reached := by unfold TurnSt.reached; rw [hl]
  refine ⟨?_, ?_, ?_, fun t e => by rw [hu'] at e; cases e⟩
  · unfold Dev.sound at h1 ⊢
    rwa [ho, hr, hk]
  · unfold Dev.ordered
    omega
  · unfold Dev.since at h3 ⊢
    rwa [hb, hd, hu, hs]

theorem ite_kept {c : Prop} [Decidable c] {a b : Dev} (ha : c → a.kept u) (hb : ¬ c → b.kept u) :
    (if c then a else b).kept u := by
  split
  · exact ha ‹_›
  · exact hb ‹_›

theorem ite_fst_kept {α : Type} {c : Prop} [Decidable c] {a b : Dev × α} (ha : c → a.1.kept u) (hb : ¬ c → b.1.kept u) :
    (if c then a else b).1.kept u := by
  split
  · exact ha ‹_›
  · exact hb ‹_›

theorem ite_snd_kept {α : Type} {c : Prop} [Decidable c] {a b : α × Dev} (ha : c → a.2.kept u) (hb : ¬ c → b.2.kept u) :
    (if c then a else b).2.kept u := by
  split
  · exact ha ‹_›
  · exact hb ‹_›

theorem getD_kept {o : Option Dev} {d : Dev} (ho : ∀ e, o = some e → e.kept u) (h : d.kept u) : (o.getD d).kept u := by
  cases o with
  | none => exact h
  | some e => exact ho e rfl

theorem some_kept {d : Dev} (h : d.kept u) : ∀ e, some d = some e → e.kept u := by
  intro e he
  cases Option.some.inj he
  exact h

theorem none_kept : ∀ e : Dev, none = some e → e.kept u := by intro e he; cases he

theorem ite_opt_kept {c : Prop} [Decidable c] {a b : Option Dev} (ha : c → ∀ e, a = some e → e.kept u)
    (hb : ¬ c → ∀ e, b = some e → e.kept u) : ∀ e, (if c then a else b) = some e → e.kept u := by
  split
  · exact ha ‹_›
  · exact hb ‹_›

theorem or_kept {a b : Option Dev} (ha : ∀ e, a = some e → e.kept u) (hb : ∀ e, b = some e → e.kept u) :
    ∀ e, a.or b = some e → e.kept u := by
  cases a with
  | none => exact hb
  | some d => exact ha

theorem fst_kept {α : Type} {p : Dev × α} {a : Dev} {b : α} (e : p = (a, b)) (h : p.1.kept u) : a.kept u := by
  subst e; exact h

theorem snd_kept {α : Type} {p : α × Dev} {a : α} {b : Dev} (e : p = (a, b)) (h : p.2.kept u) : b.kept u := by
  subst e; exact h

theorem Dev.wrV_kept (d : Dev) (k : Nat) (v : Val) (h : d.kept u) : (d.wrV k v).kept u :=
  ⟨⟨sparse_wf_set _ _ _ _ h.1.1, h.1.2⟩, h.2⟩

theorem Dev.setReg_kept (d : Dev) (a v : Nat) (h : d.kept u) : (d.setReg a v).kept u :=
  ⟨⟨h.1.1, sparse_wf_set _ _ _ _ h.1.2.1, h.1.2.2⟩, h.2⟩

theorem foldl_kept {α : Type} (f : Dev → α → Dev) (d : Dev) (l : List α) (h : d.kept u)
    (hf : ∀ d x, d.kept u → (f d x).kept u) : (l.foldl f d).kept u := by
  induction l generalizing d with
  | nil => exact h
  | cons x l ih => exact ih _ (hf _ _ h)

theorem Dev.when_kept (d : Dev) (c : Bool) (f : Dev → Dev) (h : d.kept u) (hf : ∀ d, d.kept u → (f d).kept u) :
    (d.when c f).kept u := by
  unfold Dev.when
  split
  · exact hf _ h
  · exact h

theorem Dev.forEach_kept (d : Dev) (f : Nat → Dev → Dev) (l : List Nat) (h : d.kept u)
    (hf : ∀ n d, d.kept u → (f n d).kept u) : (d.forEach f l).kept u := by
  induction l generalizing d with
  | nil => exact h
  | cons x l ih => exact ih _ (hf _ _ h)

theorem Dev.wrs_kept (d : Dev) (l : List (Nat × Int)) (h : d.kept u) : (d.wrs l).kept u := by
  induction l generalizing d with
  | nil => exact h
  | cons x l ih => exact ih _ (Dev.wrV_kept _ _ _ h)

end Sys2Proof.Machine
end

