-- ==== Sys2Proof/Laws/Kept1.lean ====
section
/-! SUPPORT. Each operation keeps the stores of the block in canonical form and its uptime, part 1 of 4, callees first. -/

namespace Sys2Proof.Machine

set_option Elab.async false

theorem Dev.wr_kept {u : Upto} (x0 : Dev) (x1 : Nat) (x2 : Int) (h1 : x0.kept u) : (Dev.wr x0 x1 x2).kept u := by
  unfold Dev.wr
  apply Dev.wrV_kept
  assumption

theorem Dev.setPll_kept {u : Upto} (x0 : Dev) (x1 : Nat) (x2 : Nat) (x3 : Nat) (x4 : Bool) (h1 : x0.kept u)
    : (Dev.setPll x0 x1 x2 x3 x4).kept u := by
  unfold Dev.setPll
  apply Dev.wr_kept
  apply Dev.wr_kept
  assumption

theorem Dev.setLane_kept {u : Upto} (x0 : Dev) (x1 : Nat) (x2 : LaneSt → LaneSt) (h1 : x0.kept u)
    : (Dev.setLane x0 x1 x2).kept u := by
  unfold Dev.setLane
  refine kept_mk ?_ rfl le_rfl rfl
  assumption

theorem Dev.takePll_kept {u : Upto} (x0 : Dev) (x1 : Nat) (h1 : x0.kept u) : (Dev.takePll x0 x1).kept u := by
  unfold Dev.takePll
  split
  · assumption
  · split
    · assumption
    · apply Dev.setLane_kept
      apply Dev.when_kept
      · assumption
      · intro _ _
        apply Dev.setPll_kept
        assumption

theorem Dev.releasePll_kept {u : Upto} (x0 : Dev) (x1 : Nat) (h1 : x0.kept u) : (Dev.releasePll x0 x1).kept u := by
  unfold Dev.releasePll
  split
  · assumption
  · apply Dev.when_kept
    · apply Dev.setLane_kept
      assumption
    · intro _ _
      apply Dev.setPll_kept
      assumption

theorem Dev.add32_kept {u : Upto} (x0 : Dev) (x1 : Nat) (x2 : Nat) (h1 : x0.kept u)
    : (Dev.add32 x0 x1 x2).kept u := by
  unfold Dev.add32
  apply Dev.wr_kept
  assumption

theorem Dev.inc_kept {u : Upto} (x0 : Dev) (x1 : Nat) (h1 : x0.kept u) : (Dev.inc x0 x1).kept u := by
  unfold Dev.inc
  apply Dev.add32_kept
  assumption

theorem Dev.raise_kept {u : Upto} (x0 : Dev) (x1 : Nat) (h1 : x0.kept u) : (Dev.raise x0 x1).kept u := by
  unfold Dev.raise
  refine kept_mk ?_ rfl le_rfl rfl
  apply Dev.wr_kept
  apply Dev.inc_kept
  apply Dev.wr_kept
  assumption

theorem Dev.quadEvent_kept {u : Upto} (x0 : Dev) (x1 : Nat) (x2 : Nat) (x3 : Nat) (h1 : x0.kept u)
    : (Dev.quadEvent x0 x1 x2 x3).kept u := by
  unfold Dev.quadEvent
  apply Dev.raise_kept
  apply Dev.wr_kept
  assumption

theorem Dev.setNq_kept {u : Upto} (x0 : Dev) (x1 : Nat) (x2 : NqSt → NqSt) (h1 : x0.kept u)
    : (Dev.setNq x0 x1 x2).kept u := by
  unfold Dev.setNq
  refine kept_mk ?_ rfl le_rfl rfl
  assumption

theorem Dev.updateA_kept {u : Upto} (x0 : Dev) (x1 : Nat) (h1 : x0.kept u) : (Dev.updateA x0 x1).kept u := by
  unfold Dev.updateA
  refine ite_kept ?_ ?_
  · intro _
    assumption
  · intro _
    apply Dev.wr_kept
    apply Dev.wr_kept
    assumption

theorem Dev.plyTo_kept {u : Upto} (x0 : Dev) (x1 : Nat) (x2 : Int) (h1 : x0.kept u)
    : (Dev.plyTo x0 x1 x2).kept u := by
  unfold Dev.plyTo
  apply Dev.updateA_kept
  apply Dev.updateA_kept
  apply Dev.wr_kept
  assumption

theorem Dev.setPly_kept {u : Upto} (x0 : Dev) (x1 : Nat) (x2 : PlySt → PlySt) (h1 : x0.kept u)
    : (Dev.setPly x0 x1 x2).kept u := by
  unfold Dev.setPly
  refine kept_mk ?_ rfl le_rfl rfl
  assumption

theorem Dev.takeRole_kept {u : Upto} (x0 : Dev) (x1 : Nat) (x2 : Int) (h1 : x0.kept u)
    : (Dev.takeRole x0 x1 x2).kept u := by
  unfold Dev.takeRole
  apply Dev.wr_kept
  assumption

theorem Dev.bTakesRole_kept {u : Upto} (x0 : Dev) (x1 : Nat) (h1 : x0.kept u) : (Dev.bTakesRole x0 x1).kept u := by
  unfold Dev.bTakesRole
  apply Dev.when_kept
  · assumption
  · intro _ _
    apply Dev.wr_kept
    assumption

theorem Dev.bmca_kept {u : Upto} (x0 : Dev) (h1 : x0.kept u) : (Dev.bmca x0).kept u := by
  unfold Dev.bmca
  apply Dev.forEach_kept
  · apply Dev.forEach_kept
    · assumption
    · intro _ _ _
      apply Dev.when_kept
      · assumption
      · intro _ _
        apply Dev.takeRole_kept
        assumption
  · intro _ _ _
    apply Dev.when_kept
    · assumption
    · intro _ _
      apply Dev.bTakesRole_kept
      assumption

theorem Dev.setLink_kept {u : Upto} (x0 : Dev) (x1 : Nat) (x2 : LinkSt → LinkSt) (h1 : x0.kept u)
    : (Dev.setLink x0 x1 x2).kept u := by
  unfold Dev.setLink
  refine kept_mk ?_ rfl le_rfl rfl
  assumption

theorem Dev.roleDown_kept {u : Upto} (x0 : Dev) (x1 : Nat) (h1 : x0.kept u) : (Dev.roleDown x0 x1).kept u := by
  unfold Dev.roleDown
  refine ite_kept ?_ ?_
  · intro _
    assumption
  · intro _
    apply Dev.bmca_kept
    apply Dev.setLink_kept
    apply Dev.wr_kept
    assumption

theorem Dev.plyIncomplete_kept {u : Upto} (x0 : Dev) (x1 : Nat) (h1 : x0.kept u)
    : (Dev.plyIncomplete x0 x1).kept u := by
  unfold Dev.plyIncomplete
  apply Dev.bmca_kept
  apply Dev.when_kept
  · apply Dev.when_kept
    · apply Dev.plyTo_kept
      apply Dev.setPly_kept
      assumption
    · intro _ _
      apply Dev.roleDown_kept
      assumption
  · intro _ _
    apply Dev.roleDown_kept
    assumption

theorem Dev.plyWindow_kept {u : Upto} (x0 : Dev) (x1 : Nat) (x2 : Int) (h1 : x0.kept u)
    : (Dev.plyWindow x0 x1 x2).kept u := by
  unfold Dev.plyWindow
  apply Dev.plyTo_kept
  apply Dev.setPly_kept
  assumption

theorem Dev.plyAlarm_kept {u : Upto} (x0 : Dev) (x1 : Nat) (x2 : Nat) (h1 : x0.kept u)
    : (Dev.plyAlarm x0 x1 x2).kept u := by
  unfold Dev.plyAlarm
  apply Dev.raise_kept
  apply Dev.inc_kept
  apply Dev.wr_kept
  assumption

theorem Dev.plyTransitions_kept {u : Upto} (x0 : Dev) (x1 : Nat) (h1 : x0.kept u)
    : (Dev.plyTransitions x0 x1).kept u := by
  unfold Dev.plyTransitions
  refine ite_kept ?_ ?_
  · intro _
    assumption
  · intro _
    split
    split
    split
    · refine ite_kept ?_ ?_
      · intro _
        apply Dev.plyTo_kept
        apply Dev.setPly_kept
        assumption
      · intro _
        refine ite_kept ?_ ?_
        · intro _
          apply Dev.plyTo_kept
          assumption
        · intro _
          assumption
    · refine ite_kept ?_ ?_
      · intro _
        apply Dev.plyTo_kept
        assumption
      · intro _
        refine ite_kept ?_ ?_
        · intro _
          apply Dev.plyIncomplete_kept
          assumption
        · intro _
          assumption
    · refine ite_kept ?_ ?_
      · intro _
        apply Dev.plyTo_kept
        assumption
      · intro _
        refine ite_kept ?_ ?_
        · intro _
          apply Dev.plyWindow_kept
          assumption
        · intro _
          refine ite_kept ?_ ?_
          · intro _
            apply Dev.plyAlarm_kept
            apply Dev.wr_kept
            apply Dev.plyWindow_kept
            assumption
          · intro _
            assumption
    · refine ite_kept ?_ ?_
      · intro _
        apply Dev.plyWindow_kept
        assumption
      · intro _
        refine ite_kept ?_ ?_
        · intro _
          apply Dev.plyTo_kept
          assumption
        · intro _
          assumption
    · refine ite_kept ?_ ?_
      · intro _
        apply Dev.plyWindow_kept
        assumption
      · intro _
        assumption
    · assumption

theorem Dev.plyFollows_kept {u : Upto} (x0 : Dev) (x1 : Nat) (h1 : x0.kept u) : (Dev.plyFollows x0 x1).kept u := by
  unfold Dev.plyFollows
  split
  · apply Dev.plyTransitions_kept
    assumption
  · assumption

theorem Dev.abandonExchanges_kept {u : Upto} (x0 : Dev) (x1 : Nat) (h1 : x0.kept u)
    : (Dev.abandonExchanges x0 x1).kept u := by
  unfold Dev.abandonExchanges
  apply Dev.setLink_kept
  apply Dev.add32_kept
  assumption

theorem Dev.holdMedian_kept {u : Upto} (x0 : Dev) (x1 : Nat) (h1 : x0.kept u) : (Dev.holdMedian x0 x1).kept u := by
  unfold Dev.holdMedian
  apply Dev.setLink_kept
  assumption

theorem Dev.setWhorl_kept {u : Upto} (x0 : Dev) (x1 : Nat) (x2 : WhorlSt → WhorlSt) (h1 : x0.kept u)
    : (Dev.setWhorl x0 x1 x2).kept u := by
  unfold Dev.setWhorl
  refine kept_mk ?_ rfl le_rfl rfl
  assumption

theorem Dev.toIdle_kept {u : Upto} (x0 : Dev) (x1 : Nat) (h1 : x0.kept u) : (Dev.toIdle x0 x1).kept u := by
  unfold Dev.toIdle
  apply Dev.when_kept
  · apply Dev.wrs_kept
    apply Dev.setWhorl_kept
    apply Dev.setLink_kept
    apply Dev.abandonExchanges_kept
    apply Dev.holdMedian_kept
    assumption
  · intro _ _
    apply Dev.wr_kept
    assumption

theorem Dev.timingLost_kept {u : Upto} (x0 : Dev) (x1 : Nat) (h1 : x0.kept u) : (Dev.timingLost x0 x1).kept u := by
  unfold Dev.timingLost
  apply Dev.when_kept
  · assumption
  · intro _ _
    apply Dev.plyFollows_kept
    apply Dev.toIdle_kept
    assumption

theorem Dev.setReceiving_kept {u : Upto} (x0 : Dev) (x1 : Nat) (x2 : Nat) (h1 : x0.kept u)
    : (Dev.setReceiving x0 x1 x2).kept u := by
  unfold Dev.setReceiving
  refine kept_mk ?_ rfl le_rfl rfl
  assumption

theorem Dev.setStat_kept {u : Upto} (x0 : Dev) (x1 : Nat) (x2 : Nat) (x3 : Nat) (h1 : x0.kept u)
    : (Dev.setStat x0 x1 x2 x3).kept u := by
  unfold Dev.setStat
  refine kept_mk ?_ rfl le_rfl rfl
  assumption

theorem Dev.count_kept {u : Upto} (x0 : Dev) (x1 : Nat) (x2 : Nat) (x3 : Nat) (h1 : x0.kept u)
    : (Dev.count x0 x1 x2 x3).kept u := by
  unfold Dev.count
  refine ite_kept ?_ ?_
  · intro _
    assumption
  · intro _
    refine ite_kept ?_ ?_
    · intro _
      apply Dev.setStat_kept
      assumption
    · intro _
      apply Dev.setStat_kept
      apply Dev.setStat_kept
      assumption

theorem Dev.countRx_kept {u : Upto} (x0 : Dev) (x1 : Nat) (x2 : List Byte) (x3 : Bool) (x4 : Bool) (x5 : Bool)
    (h1 : x0.kept u) : (Dev.countRx x0 x1 x2 x3 x4 x5).kept u := by
  have h : ((x0.count x1 1 x2.length).when x5 fun d => d.count x1 15 1).kept u := by
    apply Dev.when_kept
    · apply Dev.count_kept
      assumption
    · intro _ _
      apply Dev.count_kept
      assumption
  unfold Dev.countRx
  dsimp only
  revert h
  generalize (x0.count x1 1 x2.length).when x5 (fun d => d.count x1 15 1) = d
  intro h
  refine ite_kept ?_ ?_
  · intro _
    apply Dev.count_kept
    assumption
  · intro _
    refine ite_kept ?_ ?_
    · intro _
      apply Dev.count_kept
      assumption
    · intro _
      refine ite_kept ?_ ?_
      · intro _
        apply Dev.when_kept
        · apply Dev.count_kept
          apply Dev.count_kept
          apply Dev.count_kept
          apply Dev.count_kept
          assumption
        · intro _ _
          apply Dev.count_kept
          assumption
      · intro _
        apply Dev.count_kept
        apply Dev.count_kept
        assumption

theorem Dev.putFrame_kept {u : Upto} (x0 : Dev) (x1 : Nat) (x2 : Option Frame) (h1 : x0.kept u)
    : (Dev.putFrame x0 x1 x2).kept u := by
  unfold Dev.putFrame
  refine kept_mk ?_ rfl le_rfl rfl
  assumption

theorem Dev.reapFrame_kept {u : Upto} (x0 : Dev) (x1 : Nat) (h1 : x0.kept u) : (Dev.reapFrame x0 x1).kept u := by
  unfold Dev.reapFrame
  split
  · apply Dev.when_kept
    · assumption
    · intro _ _
      apply Dev.putFrame_kept
      assumption
  · assumption

theorem Dev.onFrame_kept {u : Upto} (x0 : Dev) (x1 : Nat) (x2 : Frame → Frame) (h1 : x0.kept u)
    : (Dev.onFrame x0 x1 x2).kept u := by
  unfold Dev.onFrame
  split
  · apply Dev.putFrame_kept
    assumption
  · assumption

theorem Dev.setFifo_kept {u : Upto} (x0 : Dev) (x1 : Nat) (x2 : List Nat) (h1 : x0.kept u)
    : (Dev.setFifo x0 x1 x2).kept u := by
  unfold Dev.setFifo
  refine kept_mk ?_ rfl le_rfl rfl
  assumption

theorem Dev.record_kept {u : Upto} (x0 : Dev) (x1 : Nat) (h1 : x0.kept u) : (Dev.record x0 x1).kept u := by
  unfold Dev.record
  refine kept_mk ?_ rfl le_rfl rfl
  assumption

theorem Dev.setLearnQueue_kept {u : Upto} (x0 : Dev) (x1 : List LearnEvent) (h1 : x0.kept u)
    : (Dev.setLearnQueue x0 x1).kept u := by
  unfold Dev.setLearnQueue
  refine kept_mk ?_ rfl le_rfl rfl
  apply Dev.wr_kept
  assumption

theorem Dev.queueLearn_kept {u : Upto} (x0 : Dev) (x1 : LearnEvent) (h1 : x0.kept u)
    : (Dev.queueLearn x0 x1).kept u := by
  unfold Dev.queueLearn
  refine ite_kept ?_ ?_
  · intro _
    assumption
  · intro _
    refine ite_kept ?_ ?_
    · intro _
      apply Dev.record_kept
      apply Dev.inc_kept
      assumption
    · intro _
      apply Dev.setLearnQueue_kept
      assumption

theorem Dev.learnReal_kept {u : Upto} (x0 : Dev) (x1 : Frame) (h1 : x0.kept u) : (Dev.learnReal x0 x1).kept u := by
  unfold Dev.learnReal
  split
  · assumption
  · refine ite_kept ?_ ?_
    · intro _
      apply Dev.when_kept
      · split
        · apply Dev.queueLearn_kept
          assumption
        · assumption
      · intro _ _
        apply Dev.inc_kept
        assumption
    · intro _
      assumption

theorem Dev.setEgress_kept {u : Upto} (x0 : Dev) (x1 : Nat) (x2 : EgressSt → EgressSt) (h1 : x0.kept u)
    : (Dev.setEgress x0 x1 x2).kept u := by
  unfold Dev.setEgress
  refine kept_mk ?_ rfl le_rfl rfl
  assumption

theorem Dev.pauseCheck_kept {u : Upto} (x0 : Dev) (x1 : Nat) (x2 : Option Nat) (h1 : x0.kept u)
    : (Dev.pauseCheck x0 x1 x2).kept u := by
  unfold Dev.pauseCheck
  refine ite_kept ?_ ?_
  · intro _
    apply Dev.setEgress_kept
    assumption
  · intro _
    refine ite_kept ?_ ?_
    · intro _
      apply Dev.setEgress_kept
      assumption
    · intro _
      assumption

theorem Dev.addIngress_kept {u : Upto} (x0 : Dev) (x1 : Option Nat) (x2 : Nat) (x3 : Int) (h1 : x0.kept u)
    : (Dev.addIngress x0 x1 x2 x3).kept u := by
  unfold Dev.addIngress
  split
  · assumption
  · refine ite_kept ?_ ?_
    · intro _
      assumption
    · intro _
      refine ite_kept ?_ ?_
      · intro _
        apply Dev.pauseCheck_kept
        refine kept_mk ?_ rfl le_rfl rfl
        apply Dev.wr_kept
        assumption
      · intro _
        refine ite_kept ?_ ?_
        · intro _
          apply Dev.pauseCheck_kept
          refine kept_mk ?_ rfl le_rfl rfl
          apply Dev.wr_kept
          assumption
        · intro _
          refine kept_mk ?_ rfl le_rfl rfl
          apply Dev.wr_kept
          assumption

theorem Dev.addPeak_kept {u : Upto} (x0 : Dev) (x1 : Nat) (x2 : Nat) (x3 : Int) (h1 : x0.kept u)
    : (Dev.addPeak x0 x1 x2 x3).kept u := by
  unfold Dev.addPeak
  apply Dev.when_kept
  · apply Dev.wr_kept
    assumption
  · intro _ _
    apply Dev.wr_kept
    assumption

theorem perfSampled_kept {u : Upto} (x0 : Nat) (x1 : Nat) (x2 : Dev) (h3 : x2.kept u)
    : (perfSampled x0 x1 x2).kept u := by
  unfold perfSampled
  refine kept_mk ?_ rfl le_rfl rfl
  assumption

theorem perfCounter_kept {u : Upto} (x0 : Nat) (x1 : Nat) (x2 : Nat) (x3 : Nat) (x4 : Nat) (x5 : Dev)
    (h6 : x5.kept u) : (perfCounter x0 x1 x2 x3 x4 x5).kept u := by
  unfold perfCounter
  refine ite_kept ?_ ?_
  · intro _
    refine kept_mk ?_ rfl le_rfl rfl
    apply Dev.when_kept
    · assumption
    · intro _ _
      apply perfSampled_kept
      assumption
  · intro _
    assumption

theorem Dev.counted_kept {u : Upto} (x0 : Dev) (x1 : Nat) (x2 : Nat) (x3 : Nat) (x4 : Nat) (h1 : x0.kept u)
    : (Dev.counted x0 x1 x2 x3 x4).kept u := by
  unfold Dev.counted
  refine ite_kept ?_ ?_
  · intro _
    apply Dev.forEach_kept
    · assumption
    · intro _ _ _
      apply perfCounter_kept
      assumption
  · intro _
    assumption

theorem Dev.addCells_kept {u : Upto} (x0 : Dev) (x1 : Nat) (x2 : Nat) (x3 : Pool) (x4 : Int) (h1 : x0.kept u)
    : (Dev.addCells x0 x1 x2 x3 x4).kept u := by
  unfold Dev.addCells
  split
  · split
    · apply Dev.addPeak_kept
      apply Dev.counted_kept
      apply Dev.wr_kept
      assumption
    · refine kept_mk ?_ rfl le_rfl rfl
      apply Dev.addPeak_kept
      apply Dev.counted_kept
      apply Dev.wr_kept
      assumption
    · split
      · refine kept_mk ?_ rfl le_rfl rfl
        apply Dev.addPeak_kept
        apply Dev.counted_kept
        apply Dev.wr_kept
        assumption
      · refine kept_mk ?_ rfl le_rfl rfl
        apply Dev.addPeak_kept
        apply Dev.counted_kept
        apply Dev.wr_kept
        assumption
      · refine kept_mk ?_ rfl le_rfl rfl
        apply Dev.addPeak_kept
        apply Dev.counted_kept
        apply Dev.wr_kept
        assumption
      · apply Dev.addPeak_kept
        apply Dev.counted_kept
        apply Dev.wr_kept
        assumption
  · split
    · apply Dev.addPeak_kept
      apply Dev.counted_kept
      apply Dev.addPeak_kept
      assumption
    · refine kept_mk ?_ rfl le_rfl rfl
      apply Dev.addPeak_kept
      apply Dev.counted_kept
      apply Dev.addPeak_kept
      assumption
    · split
      · refine kept_mk ?_ rfl le_rfl rfl
        apply Dev.addPeak_kept
        apply Dev.counted_kept
        apply Dev.addPeak_kept
        assumption
      · refine kept_mk ?_ rfl le_rfl rfl
        apply Dev.addPeak_kept
        apply Dev.counted_kept
        apply Dev.addPeak_kept
        assumption
      · refine kept_mk ?_ rfl le_rfl rfl
        apply Dev.addPeak_kept
        apply Dev.counted_kept
        apply Dev.addPeak_kept
        assumption
      · apply Dev.addPeak_kept
        apply Dev.counted_kept
        apply Dev.addPeak_kept
        assumption

theorem Dev.addLanding_kept {u : Upto} (x0 : Dev) (x1 : Int) (h1 : x0.kept u) : (Dev.addLanding x0 x1).kept u := by
  unfold Dev.addLanding
  apply Dev.addPeak_kept
  apply Dev.wr_kept
  assumption

theorem Dev.crossing_kept {u : Upto} (x0 : Dev) (x1 : Bool) (x2 : Int) (x3 : Int) (x4 : Int) (x5 : Nat) (x6 : Int)
    (h1 : x0.kept u) : (Dev.crossing x0 x1 x2 x3 x4 x5 x6).1.kept u := by
  unfold Dev.crossing
  refine ite_fst_kept ?_ ?_
  · intro _
    dsimp only
    apply Dev.raise_kept
    apply Dev.wr_kept
    assumption
  · intro _
    refine ite_fst_kept ?_ ?_
    · intro _
      dsimp only
      apply Dev.raise_kept
      apply Dev.wr_kept
      assumption
    · intro _
      dsimp only
      assumption

theorem Dev.checkStores_kept {u : Upto} (x0 : Dev) (h1 : x0.kept u) : (Dev.checkStores x0).kept u := by
  unfold Dev.checkStores
  refine kept_mk ?_ rfl le_rfl rfl
  refine Dev.crossing_kept _ _ _ _ _ _ _ ?_
  refine Dev.crossing_kept _ _ _ _ _ _ _ ?_
  assumption

theorem Dev.settle_kept {u : Upto} (x0 : Dev) (x1 : Nat) (x2 : Nat) (h1 : x0.kept u)
    : (Dev.settle x0 x1 x2).kept u := by
  unfold Dev.settle
  apply Dev.checkStores_kept
  apply Dev.forEach_kept
  · refine kept_mk ?_ rfl le_rfl rfl
    refine foldl_kept _ _ _ ?_ ?_
    · assumption
    · intro _ _ _
      apply Dev.when_kept
      · apply Dev.when_kept
        · assumption
        · intro _ _
          apply Dev.addIngress_kept
          apply Dev.addCells_kept
          assumption
      · intro _ _
        apply Dev.addLanding_kept
        assumption
  · intro _ _ _
    split
    · apply Dev.when_kept
      · assumption
      · intro _ _
        apply Dev.setEgress_kept
        assumption
    · assumption

theorem Dev.stompStarted_kept {u : Upto} (x0 : Dev) (x1 : Nat) (h1 : x0.kept u)
    : (Dev.stompStarted x0 x1).kept u := by
  unfold Dev.stompStarted
  apply Dev.forEach_kept
  · assumption
  · intro _ _ _
    split
    · apply Dev.when_kept
      · assumption
      · intro _ _
        apply Dev.setEgress_kept
        assumption
    · assumption

theorem Dev.freeCopy_kept {u : Upto} (x0 : Dev) (x1 : Copy) (h1 : x0.kept u) : (Dev.freeCopy x0 x1).kept u := by
  unfold Dev.freeCopy
  split
  · apply Dev.reapFrame_kept
    apply Dev.onFrame_kept
    apply Dev.checkStores_kept
    apply Dev.addIngress_kept
    apply Dev.when_kept
    · apply Dev.addCells_kept
      assumption
    · intro _ _
      apply Dev.addLanding_kept
      assumption
  · apply Dev.checkStores_kept
    apply Dev.addIngress_kept
    apply Dev.when_kept
    · apply Dev.addCells_kept
      assumption
    · intro _ _
      apply Dev.addLanding_kept
      assumption

theorem Dev.setRing_kept {u : Upto} (x0 : Dev) (x1 : Nat) (x2 : RingSt → RingSt) (h1 : x0.kept u)
    : (Dev.setRing x0 x1 x2).kept u := by
  unfold Dev.setRing
  refine kept_mk ?_ rfl le_rfl rfl
  assumption

theorem Dev.txStatus_kept {u : Upto} (x0 : Dev) (x1 : Nat) (x2 : Nat) (x3 : Nat) (x4 : Option Int) (h1 : x0.kept u)
    : (Dev.txStatus x0 x1 x2 x3 x4).kept u := by
  unfold Dev.txStatus
  apply Dev.setRing_kept
  assumption

theorem Dev.txOutcome_kept {u : Upto} (x0 : Dev) (x1 : Option (Nat × Nat)) (x2 : Nat) (x3 : Option Int)
    (h1 : x0.kept u) : (Dev.txOutcome x0 x1 x2 x3).kept u := by
  unfold Dev.txOutcome
  split
  · apply Dev.txStatus_kept
    assumption
  · assumption

theorem Dev.discardAll_kept {u : Upto} (d : Dev) (status : Nat) (l : List Copy) (h : d.kept u)
    : (d.discardAll status l).kept u := by
  induction l generalizing d with
  | nil => exact h
  | cons x l ih => exact ih _ (Dev.freeCopy_kept _ _ (Dev.txOutcome_kept _ _ _ _ h))

theorem Dev.discardCopies_kept {u : Upto} (x0 : Dev) (x1 : Copy → Bool) (x2 : Nat) (h1 : x0.kept u)
    : (Dev.discardCopies x0 x1 x2).kept u := by
  unfold Dev.discardCopies
  apply Dev.discardAll_kept
  refine kept_mk ?_ rfl le_rfl rfl
  assumption

theorem Dev.spoil_kept {u : Upto} (x0 : Dev) (x1 : Nat) (x2 : Bool) (h1 : x0.kept u)
    : (Dev.spoil x0 x1 x2).kept u := by
  unfold Dev.spoil
  apply Dev.stompStarted_kept
  apply Dev.discardCopies_kept
  assumption

theorem Dev.reelEnter_kept {u : Upto} (x0 : Dev) (x1 : Int) (x2 : Int) (x3 : Bool) (h1 : x0.kept u)
    : (Dev.reelEnter x0 x1 x2 x3).kept u := by
  unfold Dev.reelEnter
  apply Dev.when_kept
  · apply Dev.wrs_kept
    assumption
  · intro _ _
    apply Dev.raise_kept
    assumption

theorem Dev.reelRoom_kept {u : Upto} (x0 : Dev) (x1 : Nat) (x2 : Nat) (x3 : Nat) (h1 : x0.kept u)
    : (Dev.reelRoom x0 x1 x2 x3).kept u := by
  (revert h1; fun_induction Dev.reelRoom x0 x1 x2 x3 <;> intros)
  · assumption
  · assumption
  · apply_assumption
    refine kept_mk ?_ rfl le_rfl rfl
    apply Dev.wr_kept
    assumption

theorem Dev.reelPut_kept {u : Upto} (x0 : Dev) (x1 : Nat) (x2 : List Byte) (x3 : Nat) (h1 : x0.kept u)
    : (Dev.reelPut x0 x1 x2 x3).kept u := by
  unfold Dev.reelPut
  apply Dev.wr_kept
  refine kept_mk ?_ rfl le_rfl rfl
  assumption

theorem Dev.reelRecord_kept {u : Upto} (x0 : Dev) (x1 : Frame) (x2 : Nat) (x3 : List Byte) (h1 : x0.kept u)
    : (Dev.reelRecord x0 x1 x2 x3).kept u := by
  unfold Dev.reelRecord
  refine ite_kept ?_ ?_
  · intro _
    assumption
  · intro _
    refine ite_kept ?_ ?_
    · intro _
      apply Dev.reelEnter_kept
      assumption
    · intro _
      apply Dev.when_kept
      · refine kept_mk ?_ rfl le_rfl rfl
        apply Dev.inc_kept
        apply Dev.when_kept
        · apply Dev.reelPut_kept
          refine ite_kept ?_ ?_
          · intro _
            apply Dev.when_kept
            · assumption
            · intro _ _
              apply Dev.reelRoom_kept
              assumption
          · intro _
            refine kept_mk ?_ rfl le_rfl rfl
            apply Dev.reelPut_kept
            apply Dev.when_kept
            · assumption
            · intro _ _
              apply Dev.reelRoom_kept
              assumption
        · intro _ _
          apply Dev.wr_kept
          assumption
      · intro _ _
        apply Dev.reelEnter_kept
        assumption

theorem Dev.reelFinish_kept {u : Upto} (x0 : Dev) (x1 : Nat) (h1 : x0.kept u) : (Dev.reelFinish x0 x1).kept u := by
  unfold Dev.reelFinish
  split
  · assumption
  · refine ite_kept ?_ ?_
    · intro _
      assumption
    · intro _
      apply Dev.onFrame_kept
      apply Dev.addLanding_kept
      apply Dev.reelRecord_kept
      assumption

theorem Dev.finishFrame_kept {u : Upto} (x0 : Dev) (x1 : Nat) (h1 : x0.kept u) : (Dev.finishFrame x0 x1).kept u := by
  unfold Dev.finishFrame
  split
  · assumption
  · refine ite_kept ?_ ?_
    · intro _
      assumption
    · intro _
      apply Dev.reapFrame_kept
      apply Dev.reelFinish_kept
      apply Dev.when_kept
      · apply Dev.settle_kept
        assumption
      · intro _ _
        apply Dev.spoil_kept
        assumption

theorem Dev.endFrame_kept {u : Upto} (x0 : Dev) (x1 : Nat) (x2 : Nat) (x3 : Bool) (h1 : x0.kept u)
    : (Dev.endFrame x0 x1 x2 x3).kept u := by
  unfold Dev.endFrame
  (extract_lets; split)
  · apply Dev.setReceiving_kept
    assumption
  · refine ite_kept ?_ ?_
    · intro _
      apply Dev.reapFrame_kept
      apply Dev.onFrame_kept
      apply Dev.setFifo_kept
      apply Dev.putFrame_kept
      apply Dev.countRx_kept
      apply Dev.setReceiving_kept
      assumption
    · intro _
      apply Dev.when_kept
      · apply Dev.when_kept
        · apply Dev.learnReal_kept
          apply Dev.putFrame_kept
          apply Dev.countRx_kept
          apply Dev.setReceiving_kept
          assumption
        · intro _ _
          apply Dev.finishFrame_kept
          assumption
      · intro _ _
        apply Dev.stompStarted_kept
        assumption

theorem Dev.setMac_kept {u : Upto} (x0 : Dev) (x1 : Nat) (x2 : Nat) (h1 : x0.kept u)
    : (Dev.setMac x0 x1 x2).kept u := by
  unfold Dev.setMac
  refine kept_mk ?_ rfl le_rfl rfl
  apply Dev.when_kept
  · apply Dev.wr_kept
    assumption
  · intro _ _
    apply Dev.wr_kept
    assumption

theorem Dev.commitMac_kept {u : Upto} (x0 : Dev) (x1 : Nat) (x2 : Nat) (h1 : x0.kept u)
    : (Dev.commitMac x0 x1 x2).kept u := by
  unfold Dev.commitMac
  apply Dev.setMac_kept
  apply Dev.counted_kept
  assumption

theorem Dev.macFlush_kept {u : Upto} (x0 : Dev) (x1 : Nat) (x2 : Nat) (h1 : x0.kept u)
    : (Dev.macFlush x0 x1 x2).1.kept u := by
  unfold Dev.macFlush
  dsimp only
  apply Dev.forEach_kept
  · assumption
  · intro _ _ _
    apply Dev.commitMac_kept
    assumption

theorem Dev.flushLearned_kept {u : Upto} (x0 : Dev) (x1 : Nat) (h1 : x0.kept u)
    : (Dev.flushLearned x0 x1).kept u := by
  unfold Dev.flushLearned
  apply Dev.when_kept
  · assumption
  · intro _ _
    refine Dev.macFlush_kept _ _ _ ?_
    assumption

theorem Dev.setQueue_kept {u : Upto} (x0 : Dev) (x1 : Nat) (x2 : List Copy) (h1 : x0.kept u)
    : (Dev.setQueue x0 x1 x2).kept u := by
  unfold Dev.setQueue
  refine kept_mk ?_ rfl le_rfl rfl
  assumption

theorem Dev.portFlush_kept {u : Upto} (x0 : Dev) (x1 : Nat) (h1 : x0.kept u) : (Dev.portFlush x0 x1).kept u := by
  unfold Dev.portFlush
  refine ite_kept ?_ ?_
  · intro _
    apply Dev.discardAll_kept
    apply Dev.count_kept
    apply Dev.add32_kept
    apply Dev.inc_kept
    apply Dev.forEach_kept
    · assumption
    · intro _ _ _
      apply Dev.setQueue_kept
      assumption
  · intro _
    apply Dev.wrs_kept
    apply Dev.setEgress_kept
    apply Dev.discardAll_kept
    apply Dev.count_kept
    apply Dev.add32_kept
    apply Dev.inc_kept
    apply Dev.forEach_kept
    · assumption
    · intro _ _ _
      apply Dev.setQueue_kept
      assumption

theorem Dev.countFlushed_kept {u : Upto} (x0 : Dev) (x1 : Nat) (h1 : x0.kept u)
    : (Dev.countFlushed x0 x1).kept u := by
  unfold Dev.countFlushed
  apply Dev.count_kept
  apply Dev.inc_kept
  assumption

theorem Dev.dropTx_kept {u : Upto} (x0 : Dev) (x1 : Nat) (h1 : x0.kept u) : (Dev.dropTx x0 x1).kept u := by
  unfold Dev.dropTx
  split
  · assumption
  · apply Dev.discardAll_kept
    apply Dev.countFlushed_kept
    apply Dev.setEgress_kept
    assumption

theorem Dev.linkDown_kept {u : Upto} (x0 : Dev) (x1 : Nat) (h1 : x0.kept u) : (Dev.linkDown x0 x1).kept u := by
  unfold Dev.linkDown
  refine ite_kept ?_ ?_
  · intro _
    apply Dev.timingLost_kept
    refine kept_mk ?_ rfl le_rfl rfl
    assumption
  · intro _
    apply Dev.when_kept
    · apply Dev.when_kept
      · apply Dev.when_kept
        · apply Dev.flushLearned_kept
          apply Dev.portFlush_kept
          apply Dev.dropTx_kept
          split
          · apply Dev.endFrame_kept
            apply Dev.when_kept
            · apply Dev.wrs_kept
              apply Dev.timingLost_kept
              refine kept_mk ?_ rfl le_rfl rfl
              assumption
            · intro _ _
              apply Dev.quadEvent_kept
              assumption
          · apply Dev.when_kept
            · apply Dev.wrs_kept
              apply Dev.timingLost_kept
              refine kept_mk ?_ rfl le_rfl rfl
              assumption
            · intro _ _
              apply Dev.quadEvent_kept
              assumption
        · intro _ _
          apply Dev.setNq_kept
          apply Dev.wrs_kept
          assumption
      · intro _ _
        apply Dev.setLink_kept
        assumption
    · intro _ _
      apply Dev.roleDown_kept
      assumption

theorem Dev.laneUnlocked_kept {u : Upto} (x0 : Dev) (x1 : Nat) (x2 : Bool) (x3 : Bool) (h1 : x0.kept u)
    : (Dev.laneUnlocked x0 x1 x2 x3).kept u := by
  unfold Dev.laneUnlocked
  refine ite_kept ?_ ?_
  · intro _
    refine ite_kept ?_ ?_
    · intro _
      apply Dev.when_kept
      · apply Dev.wr_kept
        apply Dev.inc_kept
        assumption
      · intro _ _
        apply Dev.quadEvent_kept
        assumption
    · intro _
      refine ite_kept ?_ ?_
      · intro _
        apply Dev.linkDown_kept
        apply Dev.setNq_kept
        apply Dev.when_kept
        · apply Dev.wr_kept
          apply Dev.inc_kept
          assumption
        · intro _ _
          apply Dev.quadEvent_kept
          assumption
      · intro _
        apply Dev.setNq_kept
        apply Dev.when_kept
        · apply Dev.wr_kept
          apply Dev.inc_kept
          assumption
        · intro _ _
          apply Dev.quadEvent_kept
          assumption
  · intro _
    apply Dev.linkDown_kept
    split
    · apply Dev.setLink_kept
      apply Dev.when_kept
      · apply Dev.wr_kept
        apply Dev.inc_kept
        assumption
      · intro _ _
        apply Dev.quadEvent_kept
        assumption
    · apply Dev.when_kept
      · apply Dev.wr_kept
        apply Dev.inc_kept
        assumption
      · intro _ _
        apply Dev.quadEvent_kept
        assumption

theorem Dev.rxTo_kept {u : Upto} (x0 : Dev) (x1 : Nat) (x2 : Int) (x3 : optParam Bool Bool.false) (h1 : x0.kept u)
    : (Dev.rxTo x0 x1 x2 x3).kept u := by
  unfold Dev.rxTo
  apply Dev.when_kept
  · apply Dev.when_kept
    · apply Dev.wr_kept
      assumption
    · intro _ _
      apply Dev.setLane_kept
      assumption
  · intro _ _
    apply Dev.laneUnlocked_kept
    assumption

theorem Dev.unclock_kept {u : Upto} (x0 : Dev) (x1 : Nat) (h1 : x0.kept u) : (Dev.unclock x0 x1).kept u := by
  unfold Dev.unclock
  apply Dev.when_kept
  · apply Dev.when_kept
    · assumption
    · intro _ _
      apply Dev.wr_kept
      assumption
  · intro _ _
    apply Dev.rxTo_kept
    assumption

theorem Dev.retune_kept {u : Upto} (x0 : Dev) (x1 : Nat) (h1 : x0.kept u) : (Dev.retune x0 x1).kept u := by
  unfold Dev.retune
  split
  · refine ite_kept ?_ ?_
    · intro _
      assumption
    · intro _
      refine ite_kept ?_ ?_
      · intro _
        apply Dev.rxTo_kept
        apply Dev.takePll_kept
        apply Dev.releasePll_kept
        assumption
      · intro _
        apply Dev.unclock_kept
        apply Dev.takePll_kept
        apply Dev.releasePll_kept
        assumption
  · assumption

theorem loopCheckExpiry_kept {u : Upto} (x0 : Nat) (x1 : Dev) (h2 : x1.kept u) : (loopCheckExpiry x0 x1).kept u := by
  unfold loopCheckExpiry
  refine ite_kept ?_ ?_
  · intro _
    refine kept_mk ?_ rfl le_rfl rfl
    assumption
  · intro _
    assumption

theorem Dev.publishGate_kept {u : Upto} (x0 : Dev) (x1 : Nat) (x2 : GateSt) (h1 : x0.kept u)
    : (Dev.publishGate x0 x1 x2).kept u := by
  unfold Dev.publishGate
  apply Dev.wrs_kept
  assumption

theorem Dev.perfApply_kept {u : Upto} (x0 : Dev) (h1 : x0.kept u) : (Dev.perfApply x0).kept u := by
  unfold Dev.perfApply
  refine kept_mk ?_ rfl le_rfl rfl
  apply Dev.forEach_kept
  · assumption
  · intro _ _ _
    refine kept_mk ?_ rfl le_rfl rfl
    assumption

theorem Dev.runEnds_kept {u : Upto} (x0 : Dev) (h1 : x0.kept u) : (Dev.runEnds x0).kept u := by
  unfold Dev.runEnds
  apply Dev.raise_kept
  apply Dev.wr_kept
  apply Dev.inc_kept
  assumption

theorem Dev.setRefIn_kept {u : Upto} (x0 : Dev) (x1 : Nat) (x2 : RefInSt → RefInSt) (h1 : x0.kept u)
    : (Dev.setRefIn x0 x1 x2).kept u := by
  unfold Dev.setRefIn
  refine kept_mk ?_ rfl le_rfl rfl
  assumption

theorem Dev.unwatch_kept {u : Upto} (x0 : Dev) (x1 : PortRun) (h1 : x0.kept u) : (Dev.unwatch x0 x1).kept u := by
  unfold Dev.unwatch
  refine kept_mk ?_ rfl le_rfl rfl
  apply Dev.setRefIn_kept
  apply Dev.setLink_kept
  assumption

theorem Dev.dropRun_kept {u : Upto} (x0 : Dev) (h1 : x0.kept u) : (Dev.dropRun x0).kept u := by
  unfold Dev.dropRun
  refine kept_mk ?_ rfl le_rfl rfl
  apply Dev.wr_kept
  split
  · apply Dev.wr_kept
    apply Dev.unwatch_kept
    assumption
  · assumption

theorem Dev.calReject_kept {u : Upto} (x0 : Dev) (x1 : Nat) (x2 : Nat) (h1 : x0.kept u)
    : (Dev.calReject x0 x1 x2).kept u := by
  unfold Dev.calReject
  apply Dev.raise_kept
  apply Dev.wrs_kept
  apply Dev.inc_kept
  assumption

theorem Dev.portReject_kept {u : Upto} (x0 : Dev) (x1 : PortRun) (x2 : Nat) (h1 : x0.kept u)
    : (Dev.portReject x0 x1 x2).kept u := by
  unfold Dev.portReject
  apply Dev.when_kept
  · apply Dev.runEnds_kept
    apply Dev.dropRun_kept
    apply Dev.calReject_kept
    assumption
  · intro _ _
    refine kept_mk ?_ rfl le_rfl rfl
    apply Dev.wr_kept
    assumption

theorem Dev.hostStepDone_kept {u : Upto} (x0 : Dev) (h1 : x0.kept u) : (Dev.hostStepDone x0).kept u := by
  unfold Dev.hostStepDone
  refine kept_mk ?_ rfl le_rfl rfl
  apply Dev.wr_kept
  assumption

theorem measuringComplete_kept {u : Upto} (x0 : Dev) (h1 : x0.kept u) : (measuringComplete x0).kept u := by
  unfold measuringComplete
  split
  · assumption
  · refine ite_kept ?_ ?_
    · intro _
      assumption
    · intro _
      refine ite_kept ?_ ?_
      · intro _
        apply Dev.portReject_kept
        assumption
      · intro _
        refine ite_kept ?_ ?_
        · intro _
          apply Dev.portReject_kept
          apply Dev.wrs_kept
          assumption
        · intro _
          refine ite_kept ?_ ?_
          · intro _
            apply Dev.portReject_kept
            apply Dev.wrs_kept
            assumption
          · intro _
            refine ite_kept ?_ ?_
            · intro _
              apply Dev.portReject_kept
              apply Dev.wrs_kept
              assumption
            · intro _
              apply Dev.when_kept
              · refine kept_mk ?_ rfl le_rfl rfl
                apply Dev.wrs_kept
                assumption
              · intro _ _
                refine kept_mk ?_ rfl le_rfl rfl
                apply Dev.wr_kept
                assumption

theorem Dev.setCand_kept {u : Upto} (x0 : Dev) (x1 : Nat) (x2 : CandSt → CandSt) (h1 : x0.kept u)
    : (Dev.setCand x0 x1 x2).kept u := by
  unfold Dev.setCand
  refine kept_mk ?_ rfl le_rfl rfl
  assumption

theorem Dev.refInEvent_kept {u : Upto} (x0 : Dev) (x1 : Nat) (x2 : Int) (h1 : x0.kept u)
    : (Dev.refInEvent x0 x1 x2).kept u := by
  unfold Dev.refInEvent
  apply Dev.raise_kept
  apply Dev.wr_kept
  assumption

theorem Dev.setQual_kept {u : Upto} (x0 : Dev) (x1 : Nat) (x2 : Int) (h1 : x0.kept u)
    : (Dev.setQual x0 x1 x2).kept u := by
  unfold Dev.setQual
  refine ite_kept ?_ ?_
  · intro _
    assumption
  · intro _
    refine ite_kept ?_ ?_
    · intro _
      apply Dev.refInEvent_kept
      apply Dev.inc_kept
      apply Dev.wr_kept
      assumption
    · intro _
      apply Dev.when_kept
      · apply Dev.inc_kept
        apply Dev.wr_kept
        assumption
      · intro _ _
        apply Dev.raise_kept
        assumption

theorem Dev.absent_kept {u : Upto} (x0 : Dev) (x1 : Nat) (h1 : x0.kept u) : (Dev.absent x0 x1).kept u := by
  unfold Dev.absent
  apply Dev.setCand_kept
  apply Dev.setQual_kept
  assumption

theorem Dev.mapTargets_kept {u : Upto} (x0 : Dev) (x1 : List CalTarget → List CalTarget) (h1 : x0.kept u)
    : (Dev.mapTargets x0 x1).kept u := by
  unfold Dev.mapTargets
  refine kept_mk ?_ rfl le_rfl rfl
  assumption

theorem calTargetStops_kept {u : Upto} (x0 : Nat) (x1 : Dev) (h2 : x1.kept u) : (calTargetStops x0 x1).kept u := by
  unfold calTargetStops
  (extract_lets; split)
  · refine ite_kept ?_ ?_
    · intro _
      refine kept_mk ?_ rfl le_rfl rfl
      apply Dev.wr_kept
      apply Dev.mapTargets_kept
      assumption
    · intro _
      apply Dev.mapTargets_kept
      assumption
  · apply Dev.mapTargets_kept
    assumption

theorem Dev.whorlLeaves_kept {u : Upto} (x0 : Dev) (x1 : BlockId) (h1 : x0.kept u)
    : (Dev.whorlLeaves x0 x1).kept u := by
  unfold Dev.whorlLeaves
  apply Dev.when_kept
  · assumption
  · intro _ _
    apply calTargetStops_kept
    assumption

theorem Dev.refreshQl_kept {u : Upto} (x0 : Dev) (h1 : x0.kept u) : (Dev.refreshQl x0).kept u := by
  unfold Dev.refreshQl
  apply Dev.forEach_kept
  · assumption
  · intro _ _ _
    apply Dev.wr_kept
    assumption

theorem Dev.disqualify_kept {u : Upto} (x0 : Dev) (x1 : Nat) (x2 : Nat) (h1 : x0.kept u)
    : (Dev.disqualify x0 x1 x2).kept u := by
  unfold Dev.disqualify
  apply Dev.setCand_kept
  refine ite_kept ?_ ?_
  · intro _
    assumption
  · intro _
    apply Dev.wr_kept
    apply Dev.setQual_kept
    assumption

theorem Dev.bridged_kept {u : Upto} (x0 : Dev) (x1 : Nat) (h1 : x0.kept u) : (Dev.bridged x0 x1).kept u := by
  unfold Dev.bridged
  refine ite_kept ?_ ?_
  · intro _
    assumption
  · intro _
    apply Dev.setCand_kept
    apply Dev.disqualify_kept
    assumption

theorem Dev.startQualifying_kept {u : Upto} (x0 : Dev) (x1 : Nat) (h1 : x0.kept u)
    : (Dev.startQualifying x0 x1).kept u := by
  unfold Dev.startQualifying
  apply Dev.setCand_kept
  apply Dev.setQual_kept
  assumption

theorem Dev.clearCause_kept {u : Upto} (x0 : Dev) (x1 : Nat) (x2 : Nat) (h1 : x0.kept u)
    : (Dev.clearCause x0 x1 x2).kept u := by
  unfold Dev.clearCause
  apply Dev.when_kept
  · apply Dev.setCand_kept
    assumption
  · intro _ _
    apply Dev.startQualifying_kept
    assumption

theorem refreshCand_kept {u : Upto} (x0 : Nat) (x1 : Dev) (h2 : x1.kept u) : (refreshCand x0 x1).kept u := by
  unfold refreshCand
  refine ite_kept ?_ ?_
  · intro _
    apply Dev.bridged_kept
    apply Dev.when_kept
    · apply Dev.wr_kept
      assumption
    · intro _ _
      apply Dev.refreshQl_kept
      assumption
  · intro _
    refine ite_kept ?_ ?_
    · intro _
      apply Dev.when_kept
      · apply Dev.when_kept
        · apply Dev.wr_kept
          assumption
        · intro _ _
          apply Dev.refreshQl_kept
          assumption
      · intro _ _
        apply Dev.disqualify_kept
        assumption
    · intro _
      refine ite_kept ?_ ?_
      · intro _
        apply Dev.absent_kept
        apply Dev.when_kept
        · apply Dev.wr_kept
          assumption
        · intro _ _
          apply Dev.refreshQl_kept
          assumption
      · intro _
        refine ite_kept ?_ ?_
        · intro _
          apply Dev.startQualifying_kept
          apply Dev.when_kept
          · apply Dev.wr_kept
            assumption
          · intro _ _
            apply Dev.refreshQl_kept
            assumption
        · intro _
          refine ite_kept ?_ ?_
          · intro _
            apply Dev.when_kept
            · apply Dev.wr_kept
              assumption
            · intro _ _
              apply Dev.refreshQl_kept
              assumption
          · intro _
            apply Dev.when_kept
            · apply Dev.when_kept
              · apply Dev.when_kept
                · apply Dev.wr_kept
                  assumption
                · intro _ _
                  apply Dev.refreshQl_kept
                  assumption
              · intro _ _
                apply Dev.clearCause_kept
                assumption
            · intro _ _
              apply Dev.clearCause_kept
              assumption

theorem Dev.clearLabel_kept {u : Upto} (x0 : Dev) (x1 : Nat) (h1 : x0.kept u) : (Dev.clearLabel x0 x1).kept u := by
  unfold Dev.clearLabel
  refine ite_kept ?_ ?_
  · intro _
    apply Dev.refInEvent_kept
    apply Dev.wr_kept
    apply Dev.setRefIn_kept
    assumption
  · intro _
    assumption

theorem Dev.engineStops_kept {u : Upto} (x0 : Dev) (x1 : Nat) (h1 : x0.kept u) : (Dev.engineStops x0 x1).kept u := by
  unfold Dev.engineStops
  apply Dev.bmca_kept
  apply Dev.setLink_kept
  apply Dev.wr_kept
  refine ite_kept ?_ ?_
  · intro _
    apply Dev.abandonExchanges_kept
    assumption
  · intro _
    apply Dev.toIdle_kept
    assumption

theorem Dev.wrB_kept {u : Upto} (x0 : Dev) (x1 : Nat) (x2 : Bool) (h1 : x0.kept u) : (Dev.wrB x0 x1 x2).kept u := by
  unfold Dev.wrB
  apply Dev.wr_kept
  assumption

theorem Dev.setClk_kept {u : Upto} (x0 : Dev) (x1 : Nat) (x2 : ClkSt → ClkSt) (h1 : x0.kept u)
    : (Dev.setClk x0 x1 x2).kept u := by
  unfold Dev.setClk
  refine kept_mk ?_ rfl le_rfl rfl
  assumption

theorem Dev.clkSquelch_kept {u : Upto} (x0 : Dev) (x1 : Nat) (h1 : x0.kept u) : (Dev.clkSquelch x0 x1).kept u := by
  unfold Dev.clkSquelch
  apply Dev.when_kept
  · assumption
  · intro _ _
    apply Dev.setClk_kept
    assumption

theorem Dev.clkRuns_kept {u : Upto} (x0 : Dev) (x1 : Nat) (h1 : x0.kept u) : (Dev.clkRuns x0 x1).kept u := by
  unfold Dev.clkRuns
  apply Dev.setClk_kept
  assumption

theorem refreshOut_kept {u : Upto} (x0 : Nat) (x1 : Dev) (h2 : x1.kept u) : (refreshOut x0 x1).kept u := by
  unfold refreshOut
  refine ite_kept ?_ ?_
  · intro _
    refine ite_kept ?_ ?_
    · intro _
      apply Dev.clkSquelch_kept
      apply Dev.wrB_kept
      apply Dev.wr_kept
      assumption
    · intro _
      apply Dev.when_kept
      · apply Dev.wrB_kept
        apply Dev.wr_kept
        assumption
      · intro _ _
        apply Dev.clkRuns_kept
        assumption
  · intro _
    apply Dev.wr_kept
    assumption

theorem Dev.refreshOuts_kept {u : Upto} (x0 : Dev) (h1 : x0.kept u) : (Dev.refreshOuts x0).kept u := by
  unfold Dev.refreshOuts
  apply Dev.forEach_kept
  · assumption
  · intro _ _ _
    apply refreshOut_kept
    assumption

theorem Dev.setLine_kept {u : Upto} (x0 : Dev) (x1 : Nat) (x2 : Int) (h1 : x0.kept u)
    : (Dev.setLine x0 x1 x2).kept u := by
  unfold Dev.setLine
  refine ite_kept ?_ ?_
  · intro _
    assumption
  · intro _
    apply Dev.raise_kept
    apply Dev.wr_kept
    assumption

theorem refreshLine_kept {u : Upto} (x0 : Nat) (x1 : Dev) (h2 : x1.kept u) : (refreshLine x0 x1).kept u := by
  unfold refreshLine
  refine ite_kept ?_ ?_
  · intro _
    apply Dev.when_kept
    · assumption
    · intro _ _
      apply Dev.setLine_kept
      assumption
  · intro _
    apply Dev.setLine_kept
    assumption

theorem Dev.refreshLines_kept {u : Upto} (x0 : Dev) (h1 : x0.kept u) : (Dev.refreshLines x0).kept u := by
  unfold Dev.refreshLines
  apply Dev.refreshOuts_kept
  apply Dev.forEach_kept
  · assumption
  · intro _ _ _
    apply refreshLine_kept
    assumption

theorem Dev.setPulse_kept {u : Upto} (x0 : Dev) (x1 : Nat) (x2 : PulseSt → PulseSt) (h1 : x0.kept u)
    : (Dev.setPulse x0 x1 x2).kept u := by
  unfold Dev.setPulse
  refine kept_mk ?_ rfl le_rfl rfl
  assumption

theorem outStops_kept {u : Upto} (x0 : Nat) (x1 : Dev) (h2 : x1.kept u) : (outStops x0 x1).kept u := by
  unfold outStops
  apply Dev.when_kept
  · assumption
  · intro _ _
    apply Dev.setPulse_kept
    assumption

theorem Dev.setEvin_kept {u : Upto} (x0 : Dev) (x1 : Nat) (x2 : EvinSt → EvinSt) (h1 : x0.kept u)
    : (Dev.setEvin x0 x1 x2).kept u := by
  unfold Dev.setEvin
  refine kept_mk ?_ rfl le_rfl rfl
  assumption

theorem Dev.fitEnds_kept {u : Upto} (x0 : Dev) (x1 : Nat) (h1 : x0.kept u) : (Dev.fitEnds x0 x1).kept u := by
  unfold Dev.fitEnds
  apply Dev.when_kept
  · assumption
  · intro _ _
    apply Dev.setEvin_kept
    apply Dev.wr_kept
    assumption

theorem Dev.evinEvent_kept {u : Upto} (x0 : Dev) (x1 : Nat) (x2 : Nat) (x3 : Int) (h1 : x0.kept u)
    : (Dev.evinEvent x0 x1 x2 x3).kept u := by
  unfold Dev.evinEvent
  apply Dev.raise_kept
  apply Dev.wr_kept
  assumption

theorem Dev.abandonGate_kept {u : Upto} (x0 : Dev) (x1 : Nat) (h1 : x0.kept u) : (Dev.abandonGate x0 x1).kept u := by
  unfold Dev.abandonGate
  split
  · assumption
  · apply Dev.evinEvent_kept
    apply Dev.wr_kept
    apply Dev.when_kept
    · apply Dev.setEvin_kept
      assumption
    · intro _ _
      apply Dev.fitEnds_kept
      assumption

theorem Dev.abandonMeas_kept {u : Upto} (x0 : Dev) (x1 : Nat) (x2 : Int) (h1 : x0.kept u)
    : (Dev.abandonMeas x0 x1 x2).kept u := by
  unfold Dev.abandonMeas
  refine ite_kept ?_ ?_
  · intro _
    apply Dev.evinEvent_kept
    apply Dev.setEvin_kept
    assumption
  · intro _
    assumption

theorem evinStops_kept {u : Upto} (x0 : Nat) (x1 : Int) (x2 : Dev) (h3 : x2.kept u)
    : (evinStops x0 x1 x2).kept u := by
  unfold evinStops
  apply Dev.forEach_kept
  · apply Dev.setEvin_kept
    apply Dev.fitEnds_kept
    apply Dev.abandonGate_kept
    apply Dev.abandonMeas_kept
    assumption
  · intro _ _ _
    apply Dev.when_kept
    · assumption
    · intro _ _
      apply Dev.abandonMeas_kept
      assumption

theorem mrefAbsent_kept {u : Upto} (x0 : Dev) (h1 : x0.kept u) : (mrefAbsent x0).kept u := by
  unfold mrefAbsent
  refine ite_kept ?_ ?_
  · intro _
    assumption
  · intro _
    apply Dev.forEach_kept
    · apply Dev.raise_kept
      apply Dev.inc_kept
      apply Dev.wrs_kept
      assumption
    · intro _ _ _
      apply Dev.when_kept
      · assumption
      · intro _ _
        apply Dev.abandonGate_kept
        apply Dev.abandonMeas_kept
        apply Dev.setEvin_kept
        apply Dev.add32_kept
        assumption

theorem Dev.portStops_kept {u : Upto} (x0 : Dev) (x1 : Nat) (h1 : x0.kept u) : (Dev.portStops x0 x1).kept u := by
  unfold Dev.portStops
  refine ite_kept ?_ ?_
  · intro _
    apply Dev.linkDown_kept
    assumption
  · intro _
    apply Dev.flushLearned_kept
    apply Dev.portFlush_kept
    apply Dev.dropTx_kept
    assumption

theorem Dev.flushDeep_kept {u : Upto} (x0 : Dev) (h1 : x0.kept u) : (Dev.flushDeep x0).kept u := by
  unfold Dev.flushDeep
  apply Dev.discardCopies_kept
  refine foldl_kept _ _ _ ?_ ?_
  · assumption
  · intro _ _ _
    apply Dev.countFlushed_kept
    assumption

theorem Dev.reelQuiet_kept {u : Upto} (x0 : Dev) (h1 : x0.kept u) : (Dev.reelQuiet x0).kept u := by
  unfold Dev.reelQuiet
  apply Dev.when_kept
  · apply Dev.wr_kept
    assumption
  · intro _ _
    apply Dev.raise_kept
    assumption

theorem Dev.showGates_kept {u : Upto} (x0 : Nat) (x1 : Int) (x2 : Dev) (h3 : x2.kept u)
    : (Dev.showGates x0 x1 x2).kept u := by
  unfold Dev.showGates
  (extract_lets; split)
  · apply Dev.when_kept
    · apply Dev.wr_kept
      assumption
    · intro _ _
      apply Dev.inc_kept
      assumption
  · apply Dev.wr_kept
    assumption

theorem Dev.showAllGates_kept {u : Upto} (x0 : Dev) (x1 : Int) (h1 : x0.kept u)
    : (Dev.showAllGates x0 x1).kept u := by
  unfold Dev.showAllGates
  apply Dev.forEach_kept
  · assumption
  · intro _ _ _
    apply Dev.showGates_kept
    assumption

theorem Dev.laneStops_kept {u : Upto} (x0 : Dev) (x1 : Nat) (x2 : Bool) (h1 : x0.kept u)
    : (Dev.laneStops x0 x1 x2).kept u := by
  unfold Dev.laneStops
  refine ite_kept ?_ ?_
  · intro _
    apply Dev.wr_kept
    apply Dev.wr_kept
    apply Dev.rxTo_kept
    assumption
  · intro _
    apply Dev.releasePll_kept
    apply Dev.wr_kept
    apply Dev.wr_kept
    apply Dev.rxTo_kept
    assumption

theorem Dev.sessionEvent_kept {u : Upto} (x0 : Dev) (x1 : Int) (h1 : x0.kept u)
    : (Dev.sessionEvent x0 x1).kept u := by
  unfold Dev.sessionEvent
  apply Dev.raise_kept
  apply Dev.wr_kept
  assumption

theorem Dev.setSession_kept {u : Upto} (x0 : Dev) (x1 : Nat) (x2 : SessionSt → SessionSt) (h1 : x0.kept u)
    : (Dev.setSession x0 x1 x2).kept u := by
  unfold Dev.setSession
  refine kept_mk ?_ rfl le_rfl rfl
  assumption

theorem Dev.freeSlot_kept {u : Upto} (x0 : Dev) (x1 : Nat) (h1 : x0.kept u) : (Dev.freeSlot x0 x1).kept u := by
  unfold Dev.freeSlot
  apply Dev.setSession_kept
  apply Dev.wrV_kept
  apply Dev.wrs_kept
  assumption

theorem Dev.closeSession_kept {u : Upto} (x0 : Dev) (x1 : Int) (x2 : Nat) (h1 : x0.kept u)
    : (Dev.closeSession x0 x1 x2).kept u := by
  unfold Dev.closeSession
  refine ite_kept ?_ ?_
  · intro _
    apply Dev.sessionEvent_kept
    apply Dev.freeSlot_kept
    assumption
  · intro _
    apply Dev.when_kept
    · assumption
    · intro _ _
      apply Dev.freeSlot_kept
      assumption

theorem Dev.spoolStops_kept {u : Upto} (x0 : Dev) (h1 : x0.kept u) : (Dev.spoolStops x0).kept u := by
  unfold Dev.spoolStops
  refine kept_mk ?_ rfl le_rfl rfl
  assumption

theorem Dev.blockStops_kept {u : Upto} (x0 : Dev) (x1 : BlockId) (x2 : Bool) (h1 : x0.kept u)
    : (Dev.blockStops x0 x1 x2).kept u := by
  unfold Dev.blockStops
  split
  · apply Dev.when_kept
    · apply refreshCand_kept
      apply Dev.setRefIn_kept
      apply Dev.clearLabel_kept
      assumption
    · intro _ _
      apply refreshCand_kept
      assumption
  · apply Dev.engineStops_kept
    assumption
  · apply Dev.setWhorl_kept
    apply Dev.wr_kept
    assumption
  · apply Dev.plyIncomplete_kept
    assumption
  · apply Dev.refreshLines_kept
    assumption
  · apply refreshOut_kept
    assumption
  · apply refreshOut_kept
    apply outStops_kept
    assumption
  · apply evinStops_kept
    apply calTargetStops_kept
    apply calTargetStops_kept
    assumption
  · apply mrefAbsent_kept
    assumption
  · apply Dev.dropRun_kept
    assumption
  · apply Dev.portStops_kept
    assumption
  · apply Dev.portFlush_kept
    assumption
  · apply Dev.flushDeep_kept
    assumption
  · apply Dev.reelQuiet_kept
    assumption
  · apply Dev.showAllGates_kept
    assumption
  · apply Dev.wr_kept
    assumption
  · apply Dev.laneStops_kept
    assumption
  · apply Dev.retune_kept
    apply Dev.wr_kept
    assumption
  · apply Dev.closeSession_kept
    assumption
  · apply Dev.spoolStops_kept
    assumption
  · assumption
  · assumption
  · assumption
  · assumption
  · assumption
  · assumption
  · assumption
  · assumption
  · assumption
  · assumption
  · assumption
  · assumption
  · assumption

theorem Dev.setBlk_kept {u : Upto} (x0 : Dev) (x1 : BlockId) (x2 : Int) (h1 : x0.kept u)
    : (Dev.setBlk x0 x1 x2).kept u := by
  unfold Dev.setBlk
  apply Dev.wr_kept
  assumption

theorem Dev.cascade_kept {u : Upto} (n : Nat) (bs : List BlockId) (d : Dev) (h : d.kept u)
    : (Dev.cascade n bs d).kept u := by
  induction n generalizing bs d with
  | zero => exact h
  | succ n ih =>
    unfold Dev.cascade
    refine ite_kept (fun _ => h) fun _ => ih _ _ (foldl_kept _ _ _ h fun d c hd => ?_)
    exact Dev.whorlLeaves_kept _ _ (Dev.blockStops_kept _ _ _ (Dev.setBlk_kept _ _ _ hd))

theorem Dev.unitTo_kept {u : Upto} (x0 : Dev) (x1 : Nat) (x2 : Int) (h1 : x0.kept u)
    : (Dev.unitTo x0 x1 x2).kept u := by
  unfold Dev.unitTo
  refine ite_kept ?_ ?_
  · intro _
    apply Dev.wrs_kept
    apply Dev.wr_kept
    assumption
  · intro _
    apply Dev.wr_kept
    apply Dev.wr_kept
    assumption

theorem Dev.setUnit_kept {u : Upto} (x0 : Dev) (x1 : Nat) (x2 : UnitSt → UnitSt) (h1 : x0.kept u)
    : (Dev.setUnit x0 x1 x2).kept u := by
  unfold Dev.setUnit
  refine kept_mk ?_ rfl le_rfl rfl
  assumption

theorem Dev.outOfService_kept {u : Upto} (x0 : Dev) (x1 : Nat) (x2 : Nat) (h1 : x0.kept u)
    : (Dev.outOfService x0 x1 x2).kept u := by
  unfold Dev.outOfService
  apply Dev.unitTo_kept
  apply Dev.wr_kept
  apply Dev.inc_kept
  apply Dev.setUnit_kept
  apply Dev.setUnit_kept
  assumption

theorem Dev.setPair_kept {u : Upto} (x0 : Dev) (x1 : Nat) (x2 : PairSt → PairSt) (h1 : x0.kept u)
    : (Dev.setPair x0 x1 x2).kept u := by
  unfold Dev.setPair
  refine kept_mk ?_ rfl le_rfl rfl
  assumption

theorem Dev.takeOver_kept {u : Upto} (x0 : Dev) (x1 : Nat) (x2 : Int) (x3 : Option Nat) (x4 : Nat) (h1 : x0.kept u)
    : (Dev.takeOver x0 x1 x2 x3 x4).kept u := by
  unfold Dev.takeOver
  refine ite_kept ?_ ?_
  · intro _
    assumption
  · intro _
    apply Dev.setPair_kept
    apply Dev.raise_kept
    apply Dev.wrs_kept
    apply Dev.inc_kept
    split
    · apply Dev.outOfService_kept
      apply Dev.unitTo_kept
      assumption
    · apply Dev.unitTo_kept
      apply Dev.unitTo_kept
      assumption

theorem Dev.plinthRateEnds_kept {u : Upto} (x0 : Dev) (h1 : x0.kept u) : (Dev.plinthRateEnds x0).kept u := by
  unfold Dev.plinthRateEnds
  refine ite_kept ?_ ?_
  · intro _
    refine kept_mk ?_ rfl le_rfl rfl
    assumption
  · intro _
    assumption

theorem Dev.planeStatus_kept {u : Upto} (x0 : Dev) (h1 : x0.kept u) : (Dev.planeStatus x0).kept u := by
  unfold Dev.planeStatus
  apply Dev.forEach_kept
  · assumption
  · intro _ _ _
    apply Dev.wr_kept
    assumption

theorem plinthReturn_kept {u : Upto} (x0 : Dev) (h1 : x0.kept u) : (plinthReturn x0).kept u := by
  unfold plinthReturn
  refine ite_kept ?_ ?_
  · intro _
    assumption
  · intro _
    apply Dev.planeStatus_kept
    refine kept_mk ?_ rfl le_rfl rfl
    apply Dev.wr_kept
    assumption

theorem fixedSynthLock_kept {u : Upto} (x0 : Dev) (h1 : x0.kept u) : (fixedSynthLock x0).kept u := by
  unfold fixedSynthLock
  apply Dev.when_kept
  · assumption
  · intro _ _
    apply Dev.refreshLines_kept
    apply Dev.plinthRateEnds_kept
    apply Dev.wr_kept
    apply plinthReturn_kept
    assumption

theorem Dev.busError_kept {u : Upto} (x0 : Dev) (x1 : Access) (x2 : Nat) (x3 : Nat) (h1 : x0.kept u)
    : (Dev.busError x0 x1 x2 x3).kept u := by
  unfold Dev.busError
  apply Dev.raise_kept
  apply Dev.wrs_kept
  apply Dev.inc_kept
  assumption

theorem Dev.busFails_kept {u : Upto} (x0 : Dev) (x1 : Access) (x2 : Nat) (x3 : Nat) (h1 : x0.kept u)
    : (Dev.busFails x0 x1 x2 x3).kept u := by
  unfold Dev.busFails
  refine kept_mk ?_ rfl le_rfl rfl
  apply Dev.busError_kept
  assumption

theorem Dev.identityWrite_kept {u : Upto} (x0 : Dev) (x1 : Nat) (x2 : Nat) (h1 : x0.kept u)
    : (Dev.identityWrite x0 x1 x2).kept u := by
  unfold Dev.identityWrite
  refine ite_kept ?_ ?_
  · intro _
    apply Dev.wrB_kept
    apply Dev.wrB_kept
    assumption
  · intro _
    refine ite_kept ?_ ?_
    · intro _
      apply Dev.setReg_kept
      assumption
    · intro _
      assumption

theorem Dev.logIgnored_kept {u : Upto} (x0 : Dev) (x1 : Nat) (x2 : Nat) (x3 : Nat) (h1 : x0.kept u)
    : (Dev.logIgnored x0 x1 x2 x3).kept u := by
  unfold Dev.logIgnored
  apply Dev.raise_kept
  apply Dev.wr_kept
  apply Dev.inc_kept
  assumption

theorem Dev.ringIgnored_kept {u : Upto} (x0 : Dev) (x1 : Nat) (h1 : x0.kept u) : (Dev.ringIgnored x0 x1).kept u := by
  unfold Dev.ringIgnored
  apply Dev.logIgnored_kept
  assumption

theorem ringEnable_kept {u : Upto} (x0 : Nat) (x1 : Dev) (h2 : x1.kept u) : (ringEnable x0 x1).kept u := by
  unfold ringEnable
  apply Dev.setRing_kept
  assumption

theorem Dev.setStage_kept {u : Upto} (x0 : Dev) (x1 : Nat) (x2 : List Nat) (h1 : x0.kept u)
    : (Dev.setStage x0 x1 x2).kept u := by
  unfold Dev.setStage
  refine kept_mk ?_ rfl le_rfl rfl
  assumption

theorem Dev.dropFromPipes_kept {u : Upto} (x0 : Dev) (x1 : List Nat) (h1 : x0.kept u)
    : (Dev.dropFromPipes x0 x1).kept u := by
  unfold Dev.dropFromPipes
  apply Dev.setStage_kept
  apply Dev.setFifo_kept
  assumption

theorem ringDisable_kept {u : Upto} (x0 : Nat) (x1 : Dev) (h2 : x1.kept u) : (ringDisable x0 x1).kept u := by
  unfold ringDisable
  refine ite_kept ?_ ?_
  · intro _
    apply Dev.setRing_kept
    assumption
  · intro _
    apply Dev.setRing_kept
    apply Dev.forEach_kept
    · apply Dev.dropFromPipes_kept
      apply Dev.discardCopies_kept
      apply Dev.setRing_kept
      assumption
    · intro _ _ _
      apply Dev.reapFrame_kept
      apply Dev.onFrame_kept
      assumption

theorem Dev.ringCtrl_kept {u : Upto} (x0 : Dev) (x1 : Nat) (x2 : Nat) (x3 : Nat) (h1 : x0.kept u)
    : (Dev.ringCtrl x0 x1 x2 x3).kept u := by
  unfold Dev.ringCtrl
  refine ite_kept ?_ ?_
  · intro _
    apply ringEnable_kept
    apply Dev.when_kept
    · apply Dev.setRing_kept
      assumption
    · intro _ _
      apply Dev.ringIgnored_kept
      assumption
  · intro _
    refine ite_kept ?_ ?_
    · intro _
      apply ringDisable_kept
      apply Dev.when_kept
      · apply Dev.setRing_kept
        assumption
      · intro _ _
        apply Dev.ringIgnored_kept
        assumption
    · intro _
      apply Dev.when_kept
      · apply Dev.setRing_kept
        assumption
      · intro _ _
        apply Dev.ringIgnored_kept
        assumption

theorem ringTail_kept {u : Upto} (x0 : Nat) (x1 : Nat) (x2 : Dev) (h3 : x2.kept u) : (ringTail x0 x1 x2).kept u := by
  unfold ringTail
  apply Dev.setRing_kept
  assumption

theorem attentionAck_kept {u : Upto} (x0 : Nat) (x1 : Nat) (x2 : Dev) (h3 : x2.kept u)
    : (attentionAck x0 x1 x2).kept u := by
  unfold attentionAck
  apply Dev.setRing_kept
  assumption

theorem Dev.ringWrite_kept {u : Upto} (x0 : Dev) (x1 : Nat) (x2 : Nat) (h1 : x0.kept u)
    : (Dev.ringWrite x0 x1 x2).kept u := by
  unfold Dev.ringWrite
  split
  · refine ite_kept ?_ ?_
    · intro _
      apply Dev.ringIgnored_kept
      assumption
    · intro _
      apply Dev.setRing_kept
      assumption
  · refine ite_kept ?_ ?_
    · intro _
      apply Dev.ringIgnored_kept
      assumption
    · intro _
      apply Dev.setRing_kept
      assumption
  · apply Dev.ringCtrl_kept
    assumption
  · apply ringTail_kept
    assumption
  · apply attentionAck_kept
    assumption
  · assumption

theorem Dev.setBox_kept {u : Upto} (x0 : Dev) (x1 : Nat) (x2 : MailboxSt → MailboxSt) (h1 : x0.kept u)
    : (Dev.setBox x0 x1 x2).kept u := by
  unfold Dev.setBox
  refine kept_mk ?_ rfl le_rfl rfl
  assumption

theorem Dev.boxDataWrite_kept {u : Upto} (x0 : Dev) (x1 : Nat) (x2 : Nat) (x3 : Nat) (h1 : x0.kept u)
    : (Dev.boxDataWrite x0 x1 x2 x3).kept u := by
  unfold Dev.boxDataWrite
  apply Dev.setBox_kept
  assumption

theorem mailboxStart_kept {u : Upto} (x0 : Nat) (x1 : Nat) (x2 : Dev) (h3 : x2.kept u)
    : (mailboxStart x0 x1 x2).kept u := by
  unfold mailboxStart
  refine kept_mk ?_ rfl le_rfl rfl
  apply Dev.setBox_kept
  assumption

theorem Dev.boxCtrlWrite_kept {u : Upto} (x0 : Dev) (x1 : Nat) (x2 : Nat) (x3 : Nat) (h1 : x0.kept u)
    : (Dev.boxCtrlWrite x0 x1 x2 x3).kept u := by
  unfold Dev.boxCtrlWrite
  split
  · apply mailboxStart_kept
    assumption
  · apply Dev.setBox_kept
    assumption
  · apply Dev.setBox_kept
    assumption
  · apply Dev.setBox_kept
    assumption
  · apply Dev.setBox_kept
    assumption
  · assumption

theorem eventAck_kept {u : Upto} (x0 : Nat) (x1 : Nat) (x2 : Dev) (h3 : x2.kept u) : (eventAck x0 x1 x2).kept u := by
  unfold eventAck
  apply Dev.when_kept
  · assumption
  · intro _ _
    apply Dev.wr_kept
    assumption

theorem Dev.eventWrite_kept {u : Upto} (x0 : Dev) (x1 : Nat) (x2 : Nat) (h1 : x0.kept u)
    : (Dev.eventWrite x0 x1 x2).kept u := by
  unfold Dev.eventWrite
  refine ite_kept ?_ ?_
  · intro _
    apply eventAck_kept
    assumption
  · intro _
    refine ite_kept ?_ ?_
    · intro _
      apply Dev.wr_kept
      apply Dev.wrB_kept
      assumption
    · intro _
      assumption

theorem refreshPending_kept {u : Upto} (x0 : Nat) (x1 : Dev) (h2 : x1.kept u) : (refreshPending x0 x1).kept u := by
  unfold refreshPending
  apply Dev.when_kept
  · apply Dev.wr_kept
    assumption
  · intro _ _
    apply Dev.raise_kept
    assumption

theorem addMis_kept {u : Upto} (x0 : Int) (x1 : Nat) (x2 : Dev) (h3 : x2.kept u) : (addMis x0 x1 x2).kept u := by
  unfold addMis
  apply refreshPending_kept
  apply Dev.wr_kept
  assumption

theorem outDelayComp_kept {u : Upto} (x0 : Nat) (x1 : Int) (x2 : Int) (x3 : Dev) (h4 : x3.kept u)
    : (outDelayComp x0 x1 x2 x3).kept u := by
  unfold outDelayComp
  refine ite_kept ?_ ?_
  · intro _
    apply Dev.clkRuns_kept
    apply addMis_kept
    apply Dev.setClk_kept
    assumption
  · intro _
    apply addMis_kept
    assumption

theorem trimPort_kept {u : Upto} (x0 : Nat) (x1 : Dev) (h2 : x1.kept u) : (trimPort x0 x1).kept u := by
  unfold trimPort
  apply Dev.wrs_kept
  assumption

theorem Dev.trim_kept {u : Upto} (x0 : Dev) (h1 : x0.kept u) : (Dev.trim x0).kept u := by
  unfold Dev.trim
  apply Dev.forEach_kept
  · assumption
  · intro _ _ _
    apply trimPort_kept
    assumption

theorem refreshFifo_kept {u : Upto} (x0 : Nat) (x1 : Dev) (h2 : x1.kept u) : (refreshFifo x0 x1).kept u := by
  unfold refreshFifo
  apply Dev.when_kept
  · apply Dev.wrs_kept
    assumption
  · intro _ _
    apply Dev.raise_kept
    assumption

theorem Dev.updateClass_kept {u : Upto} (x0 : Dev) (h1 : x0.kept u) : (Dev.updateClass x0).kept u := by
  unfold Dev.updateClass
  refine kept_mk ?_ rfl le_rfl rfl
  apply Dev.wr_kept
  assumption

theorem noticeWrite_kept {u : Upto} (x0 : Nat) (x1 : Int) (x2 : Int) (x3 : Dev) (h4 : x3.kept u)
    : (noticeWrite x0 x1 x2 x3).kept u := by
  unfold noticeWrite
  refine ite_kept ?_ ?_
  · intro _
    apply outDelayComp_kept
    assumption
  · intro _
    refine ite_kept ?_ ?_
    · intro _
      apply outDelayComp_kept
      assumption
    · intro _
      refine ite_kept ?_ ?_
      · intro _
        apply Dev.wr_kept
        assumption
      · intro _
        refine ite_kept ?_ ?_
        · intro _
          apply Dev.when_kept
          · assumption
          · intro _ _
            apply Dev.trim_kept
            assumption
        · intro _
          refine ite_kept ?_ ?_
          · intro _
            apply Dev.forEach_kept
            · assumption
            · intro _ _ _
              apply refreshPending_kept
              assumption
          · intro _
            refine ite_kept ?_ ?_
            · intro _
              apply refreshFifo_kept
              assumption
            · intro _
              refine ite_kept ?_ ?_
              · intro _
                apply refreshCand_kept
                apply refreshCand_kept
                assumption
              · intro _
                refine ite_kept ?_ ?_
                · intro _
                  apply refreshCand_kept
                  assumption
                · intro _
                  refine ite_kept ?_ ?_
                  · intro _
                    apply refreshCand_kept
                    assumption
                  · intro _
                    refine ite_kept ?_ ?_
                    · intro _
                      apply Dev.updateA_kept
                      assumption
                    · intro _
                      refine ite_kept ?_ ?_
                      · intro _
                        apply Dev.bmca_kept
                        apply Dev.updateClass_kept
                        assumption
                      · intro _
                        refine ite_kept ?_ ?_
                        · intro _
                          apply Dev.checkStores_kept
                          assumption
                        · intro _
                          refine ite_kept ?_ ?_
                          · intro _
                            refine kept_mk ?_ rfl le_rfl rfl
                            assumption
                          · intro _
                            assumption

theorem bankSnap_kept {u : Upto} (x0 : Nat) (x1 : Dev) (h2 : x1.kept u) : (bankSnap x0 x1).kept u := by
  unfold bankSnap
  apply Dev.forEach_kept
  · apply Dev.setReg_kept
    apply Dev.setReg_kept
    refine kept_mk ?_ rfl le_rfl rfl
    assumption
  · intro _ _ _
    apply Dev.setReg_kept
    apply Dev.setReg_kept
    assumption

theorem counterConfig_kept {u : Upto} (x0 : Nat) (x1 : Nat) (x2 : Nat) (x3 : Dev) (h4 : x3.kept u)
    : (counterConfig x0 x1 x2 x3).kept u := by
  unfold counterConfig
  refine kept_mk ?_ rfl le_rfl rfl
  apply Dev.wr_kept
  assumption

theorem Dev.perfRegWrite_kept {u : Upto} (x0 : Dev) (x1 : Nat) (x2 : Nat) (x3 : Nat) (h1 : x0.kept u)
    : (Dev.perfRegWrite x0 x1 x2 x3).kept u := by
  unfold Dev.perfRegWrite
  refine ite_kept ?_ ?_
  · intro _
    apply Dev.when_kept
    · apply Dev.wrB_kept
      apply noticeWrite_kept
      apply Dev.wrB_kept
      assumption
    · intro _ _
      apply bankSnap_kept
      assumption
  · intro _
    refine ite_kept ?_ ?_
    · intro _
      apply counterConfig_kept
      assumption
    · intro _
      refine ite_kept ?_ ?_
      · intro _
        apply Dev.wr_kept
        assumption
      · intro _
        assumption

theorem blockCmd_kept {u : Upto} (x0 : BlockId) (x1 : Nat) (x2 : Dev) (h3 : x2.kept u)
    : (blockCmd x0 x1 x2).kept u := by
  unfold blockCmd
  refine ite_kept ?_ ?_
  · intro _
    assumption
  · intro _
    refine ite_kept ?_ ?_
    · intro _
      refine kept_mk ?_ rfl le_rfl rfl
      apply Dev.wr_kept
      assumption
    · intro _
      apply Dev.wr_kept
      assumption

theorem Dev.arm_kept {u : Upto} (x0 : Dev) (x1 : Nat) (x2 : ChangeKind) (h1 : x0.kept u)
    : (Dev.arm x0 x1 x2).kept u := by
  unfold Dev.arm
  refine kept_mk ?_ rfl le_rfl rfl
  assumption

theorem armParam_kept {u : Upto} (x0 : ChangeKind) (x1 : Bool) (x2 : Dev) (h3 : x2.kept u)
    : (armParam x0 x1 x2).kept u := by
  unfold armParam
  refine ite_kept ?_ ?_
  · intro _
    apply Dev.wr_kept
    apply Dev.arm_kept
    assumption
  · intro _
    apply Dev.wr_kept
    assumption

theorem armPeriod_kept {u : Upto} (x0 : Dev) (h1 : x0.kept u) : (armPeriod x0).kept u := by
  unfold armPeriod
  apply armParam_kept
  assumption

theorem armReanchor_kept {u : Upto} (x0 : Dev) (h1 : x0.kept u) : (armReanchor x0).kept u := by
  unfold armReanchor
  apply armParam_kept
  assumption

theorem Dev.disarm_kept {u : Upto} (x0 : Dev) (x1 : Change → Bool) (h1 : x0.kept u) : (Dev.disarm x0 x1).kept u := by
  unfold Dev.disarm
  refine kept_mk ?_ rfl le_rfl rfl
  assumption

theorem cancelParam_kept {u : Upto} (x0 : Dev) (h1 : x0.kept u) : (cancelParam x0).kept u := by
  unfold cancelParam
  apply Dev.wr_kept
  apply Dev.disarm_kept
  assumption

theorem overrunClear_kept {u : Upto} (x0 : Nat) (x1 : Dev) (h2 : x1.kept u) : (overrunClear x0 x1).kept u := by
  unfold overrunClear
  apply Dev.wrs_kept
  assumption

theorem armStep_kept {u : Upto} (x0 : ChangeKind) (x1 : Int) (x2 : Bool) (x3 : Dev) (h4 : x3.kept u)
    : (armStep x0 x1 x2 x3).kept u := by
  unfold armStep
  refine ite_kept ?_ ?_
  · intro _
    apply Dev.wr_kept
    apply Dev.arm_kept
    apply Dev.disarm_kept
    assumption
  · intro _
    apply Dev.wr_kept
    assumption

theorem armStepRel_kept {u : Upto} (x0 : Dev) (h1 : x0.kept u) : (armStepRel x0).kept u := by
  unfold armStepRel
  apply armStep_kept
  assumption

theorem armStepAbs_kept {u : Upto} (x0 : Dev) (h1 : x0.kept u) : (armStepAbs x0).kept u := by
  unfold armStepAbs
  apply armStep_kept
  assumption

theorem cancelStep_kept {u : Upto} (x0 : Dev) (h1 : x0.kept u) : (cancelStep x0).kept u := by
  unfold cancelStep
  apply Dev.when_kept
  · apply Dev.wr_kept
    apply Dev.disarm_kept
    assumption
  · intro _ _
    refine kept_mk ?_ rfl le_rfl rfl
    assumption

theorem snapshotCmd_kept {u : Upto} (x0 : Dev) (h1 : x0.kept u) : (snapshotCmd x0).kept u := by
  unfold snapshotCmd
  refine ite_kept ?_ ?_
  · intro _
    assumption
  · intro _
    refine kept_mk ?_ rfl le_rfl rfl
    apply Dev.wr_kept
    assumption

theorem hostLinkRecordCmd_kept {u : Upto} (x0 : Nat) (x1 : Dev) (h2 : x1.kept u)
    : (hostLinkRecordCmd x0 x1).kept u := by
  unfold hostLinkRecordCmd
  apply Dev.when_kept
  · apply Dev.wr_kept
    assumption
  · intro _ _
    apply Dev.setLink_kept
    assumption

theorem pathDecision_kept {u : Upto} (x0 : Nat) (x1 : Nat) (x2 : Dev) (h3 : x2.kept u)
    : (pathDecision x0 x1 x2).kept u := by
  unfold pathDecision
  refine ite_kept ?_ ?_
  · intro _
    apply Dev.setLink_kept
    apply Dev.wr_kept
    assumption
  · intro _
    apply Dev.wr_kept
    assumption

theorem hostRefSelect_kept {u : Upto} (x0 : Dev) (h1 : x0.kept u) : (hostRefSelect x0).kept u := by
  unfold hostRefSelect
  refine ite_kept ?_ ?_
  · intro _
    apply Dev.wr_kept
    assumption
  · intro _
    refine ite_kept ?_ ?_
    · intro _
      refine kept_mk ?_ rfl le_rfl rfl
      apply Dev.wr_kept
      assumption
    · intro _
      refine ite_kept ?_ ?_
      · intro _
        refine kept_mk ?_ rfl le_rfl rfl
        apply Dev.wr_kept
        assumption
      · intro _
        apply Dev.wr_kept
        assumption

theorem labelApply_kept {u : Upto} (x0 : Nat) (x1 : Dev) (h2 : x1.kept u) : (labelApply x0 x1).kept u := by
  unfold labelApply
  (extract_lets; split)
  · apply Dev.refInEvent_kept
    apply Dev.wrs_kept
    apply Dev.setRefIn_kept
    assumption
  · apply Dev.wr_kept
    assumption

theorem labelClear_kept {u : Upto} (x0 : Nat) (x1 : Dev) (h2 : x1.kept u) : (labelClear x0 x1).kept u := by
  unfold labelClear
  apply Dev.wr_kept
  apply Dev.clearLabel_kept
  assumption

theorem hostRefCmd_kept {u : Upto} (x0 : Dev) (h1 : x0.kept u) : (hostRefCmd x0).kept u := by
  unfold hostRefCmd
  (dsimp only; split)
  · apply refreshCand_kept
    apply Dev.wr_kept
    refine kept_mk ?_ rfl le_rfl rfl
    assumption
  · apply Dev.wr_kept
    assumption

theorem realignArm_kept {u : Upto} (x0 : Dev) (h1 : x0.kept u) : (realignArm x0).kept u := by
  unfold realignArm
  refine ite_kept ?_ ?_
  · intro _
    apply Dev.wr_kept
    apply Dev.arm_kept
    assumption
  · intro _
    apply Dev.wr_kept
    assumption

theorem realignCancel_kept {u : Upto} (x0 : Dev) (h1 : x0.kept u) : (realignCancel x0).kept u := by
  unfold realignCancel
  apply Dev.wr_kept
  apply Dev.disarm_kept
  assumption

theorem gateStop_kept {u : Upto} (x0 : Nat) (x1 : Dev) (h2 : x1.kept u) : (gateStop x0 x1).kept u := by
  unfold gateStop
  refine ite_kept ?_ ?_
  · intro _
    apply Dev.wr_kept
    assumption
  · intro _
    apply Dev.fitEnds_kept
    apply Dev.abandonGate_kept
    apply Dev.wr_kept
    assumption

theorem gateRequest_kept {u : Upto} (x0 : Nat) (x1 : Nat) (x2 : Dev) (h3 : x2.kept u)
    : (gateRequest x0 x1 x2).kept u := by
  unfold gateRequest
  refine ite_kept ?_ ?_
  · intro _
    apply Dev.wr_kept
    assumption
  · intro _
    apply Dev.setEvin_kept
    apply Dev.wr_kept
    assumption

theorem timingCmd_kept {u : Upto} (x0 : Nat) (x1 : Nat) (x2 : Nat) (d : Dev) (h : d.kept u)
    : ∀ e, timingCmd x0 x1 x2 d = some e → e.kept u := by
  unfold timingCmd
  repeat' first
    | exact none_kept
    | with_reducible assumption
    | (refine ite_opt_kept ?_ ?_ <;> intro)
    | refine some_kept ?_
    | (with_reducible refine ite_kept ?_ ?_ <;> intro)
    | with_reducible apply armPeriod_kept
    | with_reducible apply armReanchor_kept
    | with_reducible apply cancelParam_kept
    | with_reducible apply overrunClear_kept
    | with_reducible apply armStepRel_kept
    | with_reducible apply armStepAbs_kept
    | with_reducible apply cancelStep_kept
    | with_reducible apply snapshotCmd_kept
    | with_reducible apply hostLinkRecordCmd_kept
    | with_reducible apply pathDecision_kept
    | with_reducible apply hostRefSelect_kept
    | with_reducible apply labelApply_kept
    | with_reducible apply labelClear_kept
    | with_reducible apply hostRefCmd_kept
    | with_reducible apply realignArm_kept
    | with_reducible apply realignCancel_kept
    | with_reducible apply gateStop_kept
    | with_reducible apply gateRequest_kept

theorem Dev.calBegins_kept {u : Upto} (x0 : Dev) (h1 : x0.kept u) : (Dev.calBegins x0).kept u := by
  unfold Dev.calBegins
  refine kept_mk ?_ rfl le_rfl rfl
  apply Dev.forEach_kept
  · assumption
  · intro _ _ _
    apply Dev.wr_kept
    assumption

theorem Dev.armBinRun_kept {u : Upto} (x0 : Dev) (h1 : x0.kept u) : (Dev.armBinRun x0).kept u := by
  unfold Dev.armBinRun
  refine kept_mk ?_ rfl le_rfl rfl
  apply Dev.calBegins_kept
  apply Dev.wrs_kept
  assumption

theorem binRunCmd_kept {u : Upto} (x0 : Dev) (h1 : x0.kept u) : (binRunCmd x0).kept u := by
  unfold binRunCmd
  refine ite_kept ?_ ?_
  · intro _
    apply Dev.wr_kept
    assumption
  · intro _
    apply Dev.armBinRun_kept
    assumption

theorem Dev.portRunBegins_kept {u : Upto} (x0 : Dev) (x1 : Nat) (x2 : Nat) (h1 : x0.kept u)
    : (Dev.portRunBegins x0 x1 x2).kept u := by
  unfold Dev.portRunBegins
  refine kept_mk ?_ rfl le_rfl rfl
  apply Dev.calBegins_kept
  apply Dev.wr_kept
  assumption

theorem portRunCmd_kept {u : Upto} (x0 : Dev) (h1 : x0.kept u) : (portRunCmd x0).kept u := by
  unfold portRunCmd
  refine ite_kept ?_ ?_
  · intro _
    apply Dev.wr_kept
    assumption
  · intro _
    apply Dev.portRunBegins_kept
    apply Dev.wr_kept
    assumption

theorem runAbort_kept {u : Upto} (x0 : Dev) (h1 : x0.kept u) : (runAbort x0).kept u := by
  unfold runAbort
  apply Dev.dropRun_kept
  assumption

theorem Dev.measuringBegins_kept {u : Upto} (x0 : Dev) (x1 : PortRun) (h1 : x0.kept u)
    : (Dev.measuringBegins x0 x1).kept u := by
  unfold Dev.measuringBegins
  refine kept_mk ?_ rfl le_rfl rfl
  apply Dev.wr_kept
  apply Dev.setRefIn_kept
  apply Dev.setLink_kept
  assumption

theorem portNext_kept {u : Upto} (x0 : Dev) (h1 : x0.kept u) : (portNext x0).kept u := by
  unfold portNext
  split
  · refine ite_kept ?_ ?_
    · intro _
      apply Dev.measuringBegins_kept
      apply Dev.wr_kept
      assumption
    · intro _
      apply Dev.wr_kept
      assumption
  · apply Dev.wr_kept
    assumption

theorem Dev.hostStepCmd_kept {u : Upto} (x0 : Dev) (x1 : Nat) (x2 : Bool) (x3 : Dev → Dev) (h1 : x0.kept u)
    (h4 : ∀ y1, Dev.kept u y1 → (x3 y1).kept u) : (Dev.hostStepCmd x0 x1 x2 x3).kept u := by
  unfold Dev.hostStepCmd
  refine ite_kept ?_ ?_
  · intro _
    apply h4
    apply Dev.wrs_kept
    assumption
  · intro _
    apply Dev.wr_kept
    assumption

theorem hostCollect_kept {u : Upto} (x0 : Bool) (x1 : Dev) (h2 : x1.kept u) : (hostCollect x0 x1).kept u := by
  unfold hostCollect
  apply Dev.hostStepCmd_kept
  · assumption
  · intro _ _
    refine kept_mk ?_ rfl le_rfl rfl
    assumption

theorem hostEvaluate_kept {u : Upto} (x0 : Dev) (h1 : x0.kept u) : (hostEvaluate x0).kept u := by
  unfold hostEvaluate
  apply Dev.hostStepCmd_kept
  · assumption
  · intro _ _
    refine kept_mk ?_ rfl le_rfl rfl
    assumption

theorem hostCommit_kept {u : Upto} (x0 : Dev) (h1 : x0.kept u) : (hostCommit x0).kept u := by
  unfold hostCommit
  apply Dev.hostStepCmd_kept
  · assumption
  · intro _ _
    refine kept_mk ?_ rfl le_rfl rfl
    assumption

theorem hostDiscard_kept {u : Upto} (x0 : Dev) (h1 : x0.kept u) : (hostDiscard x0).kept u := by
  unfold hostDiscard
  apply Dev.hostStepCmd_kept
  · assumption
  · intro _ _
    apply Dev.hostStepDone_kept
    refine kept_mk ?_ rfl le_rfl rfl
    assumption

theorem hostTrim_kept {u : Upto} (x0 : Dev) (h1 : x0.kept u) : (hostTrim x0).kept u := by
  unfold hostTrim
  apply Dev.hostStepCmd_kept
  · assumption
  · intro _ _
    refine kept_mk ?_ rfl le_rfl rfl
    assumption

theorem hostPortLoop_kept {u : Upto} (x0 : Dev) (h1 : x0.kept u) : (hostPortLoop x0).kept u := by
  unfold hostPortLoop
  apply Dev.hostStepCmd_kept
  · assumption
  · intro _ _
    apply Dev.portRunBegins_kept
    assumption

theorem hostPortMeasure_kept {u : Upto} (x0 : Dev) (h1 : x0.kept u) : (hostPortMeasure x0).kept u := by
  unfold hostPortMeasure
  apply Dev.hostStepCmd_kept
  · assumption
  · intro _ _
    split
    · apply Dev.measuringBegins_kept
      assumption
    · assumption

theorem hostCommitPort_kept {u : Upto} (x0 : Dev) (h1 : x0.kept u) : (hostCommitPort x0).kept u := by
  unfold hostCommitPort
  apply Dev.hostStepCmd_kept
  · assumption
  · intro _ _
    refine kept_mk ?_ rfl le_rfl rfl
    assumption

theorem calCmd_kept {u : Upto} (x0 : Nat) (x1 : Nat) (d : Dev) (h : d.kept u)
    : ∀ e, calCmd x0 x1 d = some e → e.kept u := by
  unfold calCmd
  repeat' first
    | exact none_kept
    | with_reducible assumption
    | (refine ite_opt_kept ?_ ?_ <;> intro)
    | refine some_kept ?_
    | (with_reducible refine ite_kept ?_ ?_ <;> intro)
    | with_reducible apply binRunCmd_kept
    | with_reducible apply portRunCmd_kept
    | with_reducible apply runAbort_kept
    | with_reducible apply portNext_kept
    | with_reducible apply hostCollect_kept
    | with_reducible apply hostEvaluate_kept
    | with_reducible apply hostCommit_kept
    | with_reducible apply hostDiscard_kept
    | with_reducible apply hostTrim_kept
    | with_reducible apply hostPortLoop_kept
    | with_reducible apply hostPortMeasure_kept
    | with_reducible apply hostCommitPort_kept
    | split

theorem tableOpStart_kept {u : Upto} (x0 : Nat) (x1 : Dev) (h2 : x1.kept u) : (tableOpStart x0 x1).kept u := by
  unfold tableOpStart
  refine ite_kept ?_ ?_
  · intro _
    apply Dev.wr_kept
    assumption
  · intro _
    refine kept_mk ?_ rfl le_rfl rfl
    apply Dev.wr_kept
    assumption

theorem Dev.cmdDone_kept {u : Upto} (x0 : Dev) (x1 : Nat) (x2 : Bool) (h1 : x0.kept u)
    : (Dev.cmdDone x0 x1 x2).kept u := by
  unfold Dev.cmdDone
  apply Dev.wr_kept
  assumption

theorem gateRead_kept {u : Upto} (x0 : Bool) (x1 : Dev) (h2 : x1.kept u) : (gateRead x0 x1).kept u := by
  unfold gateRead
  apply Dev.cmdDone_kept
  apply Dev.wrV_kept
  assumption

theorem Dev.setGate_kept {u : Upto} (x0 : Dev) (x1 : Bool) (x2 : Nat) (x3 : Nat) (x4 : Nat) (h1 : x0.kept u)
    : (Dev.setGate x0 x1 x2 x3 x4).kept u := by
  unfold Dev.setGate
  refine ite_kept ?_ ?_
  · intro _
    refine kept_mk ?_ rfl le_rfl rfl
    assumption
  · intro _
    refine kept_mk ?_ rfl le_rfl rfl
    assumption

theorem gateWrite_kept {u : Upto} (x0 : Dev) (h1 : x0.kept u) : (gateWrite x0).kept u := by
  unfold gateWrite
  refine ite_kept ?_ ?_
  · intro _
    apply Dev.cmdDone_kept
    assumption
  · intro _
    apply Dev.cmdDone_kept
    apply Dev.forEach_kept
    · assumption
    · intro _ _ _
      apply Dev.setGate_kept
      assumption

theorem imageRead_kept {u : Upto} (x0 : Dev) (h1 : x0.kept u) : (imageRead x0).kept u := by
  unfold imageRead
  refine ite_kept ?_ ?_
  · intro _
    apply Dev.cmdDone_kept
    apply Dev.wr_kept
    assumption
  · intro _
    apply Dev.cmdDone_kept
    apply Dev.wr_kept
    apply Dev.wrV_kept
    assumption

theorem Dev.setImage_kept {u : Upto} (x0 : Dev) (x1 : Nat) (x2 : Nat) (h1 : x0.kept u)
    : (Dev.setImage x0 x1 x2).kept u := by
  unfold Dev.setImage
  refine kept_mk ?_ rfl le_rfl rfl
  assumption

theorem imageWrite_kept {u : Upto} (x0 : Dev) (h1 : x0.kept u) : (imageWrite x0).kept u := by
  unfold imageWrite
  refine ite_kept ?_ ?_
  · intro _
    apply Dev.cmdDone_kept
    assumption
  · intro _
    refine ite_kept ?_ ?_
    · intro _
      apply Dev.cmdDone_kept
      apply Dev.wr_kept
      assumption
    · intro _
      refine ite_kept ?_ ?_
      · intro _
        apply Dev.cmdDone_kept
        apply Dev.wr_kept
        assumption
      · intro _
        apply Dev.cmdDone_kept
        apply Dev.wr_kept
        apply Dev.setImage_kept
        assumption

theorem maquetteCopy_kept {u : Upto} (x0 : Dev) (h1 : x0.kept u) : (maquetteCopy x0).kept u := by
  unfold maquetteCopy
  refine ite_kept ?_ ?_
  · intro _
    apply Dev.wr_kept
    assumption
  · intro _
    refine kept_mk ?_ rfl le_rfl rfl
    apply Dev.wr_kept
    apply Dev.forEach_kept
    · assumption
    · intro _ _ _
      apply Dev.wr_kept
      assumption

theorem swapArm_kept {u : Upto} (x0 : Dev) (h1 : x0.kept u) : (swapArm x0).kept u := by
  unfold swapArm
  refine ite_kept ?_ ?_
  · intro _
    apply Dev.wr_kept
    assumption
  · intro _
    refine ite_kept ?_ ?_
    · intro _
      apply Dev.wr_kept
      apply Dev.wr_kept
      assumption
    · intro _
      apply Dev.wr_kept
      apply Dev.arm_kept
      assumption

theorem swapCancel_kept {u : Upto} (x0 : Dev) (h1 : x0.kept u) : (swapCancel x0).kept u := by
  unfold swapCancel
  refine ite_kept ?_ ?_
  · intro _
    apply Dev.wr_kept
    apply Dev.wr_kept
    apply Dev.disarm_kept
    assumption
  · intro _
    apply Dev.wr_kept
    assumption

theorem reelCommand_kept {u : Upto} (x0 : Nat) (x1 : Dev) (h2 : x1.kept u) : (reelCommand x0 x1).kept u := by
  unfold reelCommand
  refine ite_kept ?_ ?_
  · intro _
    apply Dev.wr_kept
    assumption
  · intro _
    refine kept_mk ?_ rfl le_rfl rfl
    apply Dev.wr_kept
    assumption

theorem reelTrigger_kept {u : Upto} (x0 : Dev) (h1 : x0.kept u) : (reelTrigger x0).kept u := by
  unfold reelTrigger
  refine ite_kept ?_ ?_
  · intro _
    assumption
  · intro _
    refine ite_kept ?_ ?_
    · intro _
      apply Dev.reelEnter_kept
      apply Dev.wr_kept
      refine kept_mk ?_ rfl le_rfl rfl
      apply Dev.wr_kept
      assumption
    · intro _
      apply Dev.reelEnter_kept
      refine kept_mk ?_ rfl le_rfl rfl
      apply Dev.wr_kept
      assumption

theorem switchingCmd_kept {u : Upto} (x0 : Nat) (x1 : Nat) (d : Dev) (h : d.kept u)
    : ∀ e, switchingCmd x0 x1 d = some e → e.kept u := by
  unfold switchingCmd
  repeat' first
    | exact none_kept
    | with_reducible assumption
    | (refine ite_opt_kept ?_ ?_ <;> intro)
    | refine some_kept ?_
    | (with_reducible refine ite_kept ?_ ?_ <;> intro)
    | with_reducible apply tableOpStart_kept
    | with_reducible apply gateRead_kept
    | with_reducible apply gateWrite_kept
    | with_reducible apply imageRead_kept
    | with_reducible apply imageWrite_kept
    | with_reducible apply maquetteCopy_kept
    | with_reducible apply swapArm_kept
    | with_reducible apply swapCancel_kept
    | with_reducible apply reelCommand_kept
    | with_reducible apply reelTrigger_kept
    | split

theorem laneTxSleep_kept {u : Upto} (x0 : Nat) (x1 : Dev) (h2 : x1.kept u) : (laneTxSleep x0 x1).kept u := by
  unfold laneTxSleep
  refine ite_kept ?_ ?_
  · intro _
    apply Dev.wr_kept
    assumption
  · intro _
    apply Dev.when_kept
    · apply Dev.wr_kept
      assumption
    · intro _ _
      apply Dev.linkDown_kept
      apply Dev.wr_kept
      assumption

theorem laneTxWake_kept {u : Upto} (x0 : Nat) (x1 : Dev) (h2 : x1.kept u) : (laneTxWake x0 x1).kept u := by
  unfold laneTxWake
  refine ite_kept ?_ ?_
  · intro _
    apply Dev.wr_kept
    assumption
  · intro _
    apply Dev.when_kept
    · apply Dev.wr_kept
      assumption
    · intro _ _
      apply Dev.wr_kept
      assumption

theorem laneRxSleep_kept {u : Upto} (x0 : Nat) (x1 : Dev) (h2 : x1.kept u) : (laneRxSleep x0 x1).kept u := by
  unfold laneRxSleep
  refine ite_kept ?_ ?_
  · intro _
    apply Dev.wr_kept
    assumption
  · intro _
    apply Dev.when_kept
    · apply Dev.wr_kept
      assumption
    · intro _ _
      apply Dev.rxTo_kept
      assumption

theorem laneRxWake_kept {u : Upto} (x0 : Nat) (x1 : Dev) (h2 : x1.kept u) : (laneRxWake x0 x1).kept u := by
  unfold laneRxWake
  refine ite_kept ?_ ?_
  · intro _
    apply Dev.wr_kept
    assumption
  · intro _
    apply Dev.when_kept
    · apply Dev.wr_kept
      assumption
    · intro _ _
      apply Dev.rxTo_kept
      assumption

theorem hostCoeffs_kept {u : Upto} (x0 : Nat) (x1 : Dev) (h2 : x1.kept u) : (hostCoeffs x0 x1).kept u := by
  unfold hostCoeffs
  refine ite_kept ?_ ?_
  · intro _
    apply Dev.wr_kept
    assumption
  · intro _
    apply Dev.when_kept
    · apply Dev.wr_kept
      assumption
    · intro _ _
      apply Dev.setLane_kept
      assumption

theorem ptClear_kept {u : Upto} (x0 : Nat) (x1 : Dev) (h2 : x1.kept u) : (ptClear x0 x1).kept u := by
  unfold ptClear
  apply Dev.wrs_kept
  assumption

theorem ptInject_kept {u : Upto} (x0 : Nat) (x1 : Dev) (h2 : x1.kept u) : (ptInject x0 x1).kept u := by
  unfold ptInject
  apply Dev.wr_kept
  assumption

theorem redReturn_kept {u : Upto} (x0 : Nat) (x1 : Dev) (h2 : x1.kept u) : (redReturn x0 x1).kept u := by
  unfold redReturn
  refine ite_kept ?_ ?_
  · intro _
    apply Dev.setUnit_kept
    apply Dev.wr_kept
    assumption
  · intro _
    apply Dev.wr_kept
    assumption

theorem redSwitch_kept {u : Upto} (x0 : Nat) (x1 : Dev) (h2 : x1.kept u) : (redSwitch x0 x1).kept u := by
  unfold redSwitch
  apply Dev.wr_kept
  assumption

theorem fwVerify_kept {u : Upto} (x0 : Dev) (h1 : x0.kept u) : (fwVerify x0).kept u := by
  unfold fwVerify
  refine ite_kept ?_ ?_
  · intro _
    apply Dev.wr_kept
    assumption
  · intro _
    refine kept_mk ?_ rfl le_rfl rfl
    apply Dev.wr_kept
    assumption

theorem fwArm_kept {u : Upto} (x0 : Dev) (h1 : x0.kept u) : (fwArm x0).kept u := by
  unfold fwArm
  refine ite_kept ?_ ?_
  · intro _
    apply Dev.wrs_kept
    apply Dev.arm_kept
    apply Dev.outOfService_kept
    assumption
  · intro _
    apply Dev.wr_kept
    assumption

theorem fwCancel_kept {u : Upto} (x0 : Dev) (h1 : x0.kept u) : (fwCancel x0).kept u := by
  unfold fwCancel
  refine ite_kept ?_ ?_
  · intro _
    refine kept_mk ?_ rfl le_rfl rfl
    apply Dev.wrs_kept
    apply Dev.disarm_kept
    assumption
  · intro _
    apply Dev.wr_kept
    assumption

theorem fwWriteFlash_kept {u : Upto} (x0 : Dev) (h1 : x0.kept u) : (fwWriteFlash x0).kept u := by
  unfold fwWriteFlash
  refine ite_kept ?_ ?_
  · intro _
    apply Dev.wrs_kept
    assumption
  · intro _
    apply Dev.wr_kept
    assumption

theorem configLostAck_kept {u : Upto} (x0 : Dev) (h1 : x0.kept u) : (configLostAck x0).kept u := by
  unfold configLostAck
  apply Dev.wrs_kept
  assumption

theorem deviceReset_kept {u : Upto} (cause : Int) (d : Dev) (h : d.kept u) :
    (deviceReset cause d).kept u := by
  unfold deviceReset
  refine Dev.forEach_kept _ _ _ (Dev.wr_kept _ _ _ ⟨⟨(by decide +kernel : Sparse.wf objDefault [(0x210801, .num 2), (0x510601, .num 2)] = true), rfl, h.1.2.2⟩, Nat.zero_le _, .inr rfl, fun _ _ => .inr rfl⟩) fun i d hd => Dev.wrB_kept _ _ _ hd

theorem deviceRestartCmd_kept {u : Upto} (x0 : Dev) (h1 : x0.kept u) : (deviceRestartCmd x0).kept u := by
  unfold deviceRestartCmd
  refine ite_kept ?_ ?_
  · intro _
    apply Dev.wrs_kept
    assumption
  · intro _
    apply Dev.wr_kept
    assumption

theorem otherCmd_kept {u : Upto} (x0 : Nat) (x1 : Nat) (x2 : Nat) (d : Dev) (h : d.kept u)
    : ∀ e, otherCmd x0 x1 x2 d = some e → e.kept u := by
  unfold otherCmd
  repeat' first
    | exact none_kept
    | with_reducible assumption
    | (refine ite_opt_kept ?_ ?_ <;> intro)
    | refine some_kept ?_
    | (with_reducible refine ite_kept ?_ ?_ <;> intro)
    | with_reducible apply laneTxSleep_kept
    | with_reducible apply laneTxWake_kept
    | with_reducible apply laneRxSleep_kept
    | with_reducible apply laneRxWake_kept
    | with_reducible apply hostCoeffs_kept
    | with_reducible apply ptClear_kept
    | with_reducible apply ptInject_kept
    | with_reducible apply redReturn_kept
    | with_reducible apply redSwitch_kept
    | with_reducible apply fwVerify_kept
    | with_reducible apply fwArm_kept
    | with_reducible apply fwCancel_kept
    | with_reducible apply fwWriteFlash_kept
    | with_reducible apply eventAck_kept
    | with_reducible apply Dev.wr_kept
    | with_reducible apply configLostAck_kept
    | with_reducible apply deviceReset_kept
    | with_reducible apply deviceRestartCmd_kept

theorem runCmd_kept {u : Upto} (k : Nat) (v : Val) (d : Dev) (h : d.kept u) : (runCmd k v d).kept u := by
  unfold runCmd
  extract_lets e
  have he : e.kept u := Dev.when_kept _ _ _ h fun d hd => Dev.wr_kept _ _ _ hd
  split
  · exact blockCmd_kept _ _ _ he
  · refine getD_kept ?_ he
    exact or_kept (or_kept (or_kept (timingCmd_kept _ _ _ _ he) (calCmd_kept _ _ _ he)) (switchingCmd_kept _ _ _ he))
      (otherCmd_kept _ _ _ _ he)

theorem keyWrite_kept {u : Upto} (level : Nat) (key : List Byte) (d : Dev) (h : d.kept u)
    : (keyWrite level key d).kept u := by
  unfold keyWrite
  refine Dev.when_kept _ _ _ (Dev.sessionEvent_kept _ _ (Dev.wr_kept _ _ _ ⟨⟨h.1.1, h.1.2.1, sparse_wf_set _ _ _ _ h.1.2.2⟩, h.2⟩)) ?_
  intro d hd
  refine Dev.forEach_kept _ _ _ hd fun n d hd => Dev.when_kept _ _ _ hd fun d hd => ?_
  exact Dev.closeSession_kept _ _ _ hd

theorem stageData_kept {u : Upto} (x0 : List Byte) (x1 : Dev) (h2 : x1.kept u) : (stageData x0 x1).kept u := by
  unfold stageData
  refine ite_kept ?_ ?_
  · intro _
    assumption
  · intro _
    refine kept_mk ?_ rfl le_rfl rfl
    apply Dev.when_kept
    · apply Dev.wr_kept
      assumption
    · intro _ _
      apply Dev.wr_kept
      assumption

theorem hostNcoPhaseWrite_kept {u : Upto} (x0 : Int) (x1 : Dev) (h2 : x1.kept u)
    : (hostNcoPhaseWrite x0 x1).kept u := by
  unfold hostNcoPhaseWrite
  apply Dev.when_kept
  · apply Dev.wr_kept
    assumption
  · intro _ _
    refine kept_mk ?_ rfl le_rfl rfl
    assumption

theorem hostServoStateWrite_kept {u : Upto} (x0 : Nat) (x1 : Dev) (h2 : x1.kept u)
    : (hostServoStateWrite x0 x1).kept u := by
  unfold hostServoStateWrite
  refine kept_mk ?_ rfl le_rfl rfl
  apply Dev.wr_kept
  assumption

theorem spoolSlotEnable_kept {u : Upto} (x0 : Nat) (x1 : Bool) (x2 : Dev) (h3 : x2.kept u)
    : (spoolSlotEnable x0 x1 x2).kept u := by
  unfold spoolSlotEnable
  refine kept_mk ?_ rfl le_rfl rfl
  apply Dev.wr_kept
  apply Dev.wrB_kept
  assumption

theorem Dev.stored_kept {u : Upto} (x0 : Dev) (h1 : x0.kept u) : (Dev.stored x0).kept u := by
  unfold Dev.stored
  refine foldl_kept _ _ _ ?_ ?_
  · assumption
  · intro _ _ _
    apply Dev.wrV_kept
    assumption

theorem Dev.mixedActive_kept {u : Upto} (x0 : Dev) (h1 : x0.kept u) : (Dev.mixedActive x0).kept u := by
  unfold Dev.mixedActive
  apply Dev.wr_kept
  apply Dev.wrB_kept
  assumption

theorem Dev.groupTakes_kept {u : Upto} (x0 : Dev) (x1 : Nat) (x2 : Val) (h1 : x0.kept u)
    : (Dev.groupTakes x0 x1 x2).kept u := by
  unfold Dev.groupTakes
  apply Dev.when_kept
  · refine kept_mk ?_ rfl le_rfl rfl
    apply Dev.wrV_kept
    refine foldl_kept _ _ _ ?_ ?_
    · assumption
    · intro _ _ _
      apply Dev.wrV_kept
      assumption
  · intro _ _
    apply Dev.raise_kept
    apply Dev.mixedActive_kept
    assumption

theorem Dev.groupStores_kept {u : Upto} (x0 : Dev) (x1 : Nat) (x2 : Val) (h1 : x0.kept u)
    : (Dev.groupStores x0 x1 x2).kept u := by
  unfold Dev.groupStores
  refine kept_mk ?_ rfl le_rfl rfl
  assumption

theorem Dev.groupWrite_kept {u : Upto} (x0 : Dev) (x1 : Bool) (x2 : Nat) (x3 : Val) (h1 : x0.kept u)
    : (Dev.groupWrite x0 x1 x2 x3).kept u := by
  unfold Dev.groupWrite
  refine ite_kept ?_ ?_
  · intro _
    apply Dev.groupTakes_kept
    assumption
  · intro _
    apply Dev.when_kept
    · apply Dev.groupStores_kept
      assumption
    · intro _ _
      apply Dev.raise_kept
      apply Dev.mixedActive_kept
      apply Dev.wr_kept
      apply Dev.inc_kept
      assumption

theorem commitWrite_kept {u : Upto} (x0 : Nat) (x1 : Val) (x2 : Dev) (h3 : x2.kept u)
    : (commitWrite x0 x1 x2).kept u := by
  unfold commitWrite
  refine ite_kept ?_ ?_
  · intro _
    apply runCmd_kept
    assumption
  · intro _
    refine ite_kept ?_ ?_
    · intro _
      apply keyWrite_kept
      assumption
    · intro _
      refine ite_kept ?_ ?_
      · intro _
        apply stageData_kept
        assumption
      · intro _
        refine ite_kept ?_ ?_
        · intro _
          apply hostNcoPhaseWrite_kept
          assumption
        · intro _
          refine ite_kept ?_ ?_
          · intro _
            apply hostServoStateWrite_kept
            assumption
          · intro _
            refine ite_kept ?_ ?_
            · intro _
              apply spoolSlotEnable_kept
              assumption
            · intro _
              refine ite_kept ?_ ?_
              · intro _
                apply counterConfig_kept
                assumption
              · intro _
                refine ite_kept ?_ ?_
                · intro _
                  assumption
                · intro _
                  refine ite_kept ?_ ?_
                  · intro _
                    assumption
                  · intro _
                    refine ite_kept ?_ ?_
                    · intro _
                      refine kept_mk ?_ rfl le_rfl rfl
                      assumption
                    · intro _
                      refine ite_kept ?_ ?_
                      · intro _
                        apply Dev.groupWrite_kept
                        assumption
                      · intro _
                        apply noticeWrite_kept
                        apply Dev.wrV_kept
                        assumption

end Sys2Proof.Machine
end

