-- ==== Sys2Proof/Laws/Kept2.lean ====
section
/-! SUPPORT. Each operation keeps the stores of the block in canonical form and its uptime, part 2 of 4, callees first. -/

namespace Sys2Proof.Machine

set_option Elab.async false

theorem Dev.directCommit_kept {u : Upto} (x0 : Dev) (x1 : Access) (x2 : Nat) (x3 : Nat) (x4 : List Byte)
    (h1 : x0.kept u) : (Dev.directCommit x0 x1 x2 x3 x4).kept u := by
  unfold Dev.directCommit
  split
  · apply commitWrite_kept
    assumption
  · refine ite_kept ?_ ?_
    · intro _
      apply Dev.logIgnored_kept
      assumption
    · intro _
      apply Dev.busError_kept
      assumption

theorem Dev.directTo_kept {u : Upto} (x0 : Dev) (x1 : Access) (x2 : Nat) (x3 : Nat) (x4 : Option (Nat × ObjRow))
    (h1 : x0.kept u) : (Dev.directTo x0 x1 x2 x3 x4).kept u := by
  unfold Dev.directTo
  split
  · assumption
  · apply Dev.when_kept
    · assumption
    · intro _ _
      split
      · apply Dev.busError_kept
        apply Dev.counted_kept
        assumption
      · apply Dev.directCommit_kept
        apply Dev.counted_kept
        assumption

theorem Dev.directWrite_kept {u : Upto} (x0 : Dev) (x1 : Access) (x2 : Nat) (x3 : Nat) (h1 : x0.kept u)
    : (Dev.directWrite x0 x1 x2 x3).kept u := by
  unfold Dev.directWrite
  apply Dev.directTo_kept
  assumption

theorem Dev.windowCommit_kept {u : Upto} (x0 : Dev) (x1 : Access) (x2 : Nat) (x3 : Nat) (x4 : Nat) (x5 : ObjRow)
    (h1 : x0.kept u) : (Dev.windowCommit x0 x1 x2 x3 x4 x5).kept u := by
  unfold Dev.windowCommit
  split
  · apply Dev.busError_kept
    assumption
  · refine ite_kept ?_ ?_
    · intro _
      apply commitWrite_kept
      assumption
    · intro _
      apply Dev.groupWrite_kept
      assumption

theorem Dev.windowTo_kept {u : Upto} (x0 : Dev) (x1 : Access) (x2 : Nat) (x3 : Nat) (x4 : Option (Nat × ObjRow))
    (h1 : x0.kept u) : (Dev.windowTo x0 x1 x2 x3 x4).kept u := by
  unfold Dev.windowTo
  split
  · assumption
  · apply Dev.when_kept
    · assumption
    · intro _ _
      apply Dev.windowCommit_kept
      apply Dev.counted_kept
      assumption

theorem Dev.windowWrite_kept {u : Upto} (x0 : Dev) (x1 : Access) (x2 : Nat) (x3 : Nat) (h1 : x0.kept u)
    : (Dev.windowWrite x0 x1 x2 x3).kept u := by
  unfold Dev.windowWrite
  apply Dev.windowTo_kept
  assumption

theorem regWrite_kept {u : Upto} (x0 : Access) (x1 : Nat) (x2 : Nat) (x3 : Dev) (h4 : x3.kept u)
    : (regWrite x0 x1 x2 x3).kept u := by
  unfold regWrite
  split
  · apply Dev.identityWrite_kept
    assumption
  · apply Dev.ringWrite_kept
    assumption
  · apply Dev.boxDataWrite_kept
    assumption
  · apply Dev.boxCtrlWrite_kept
    assumption
  · apply Dev.eventWrite_kept
    assumption
  · apply Dev.perfRegWrite_kept
    assumption
  · apply Dev.directWrite_kept
    assumption
  · apply Dev.windowWrite_kept
    assumption
  · assumption
  · assumption

theorem Dev.busRead_kept {u : Upto} (x0 : Dev) (x1 : Access) (x2 : Nat) (h1 : x0.kept u)
    : (Dev.busRead x0 x1 x2).kept u := by
  unfold Dev.busRead
  refine kept_mk ?_ rfl le_rfl rfl
  assumption

theorem Dev.performParts_kept {u : Upto} (x0 : Access) (x1 : List (Nat × Nat)) (x2 : Dev) (h3 : x2.kept u)
    : (Dev.performParts x0 x1 x2).kept u := by
  (revert h3; fun_induction Dev.performParts x0 x1 x2 <;> intros)
  · assumption
  · apply Dev.busFails_kept
    assumption
  · apply_assumption
    refine ite_kept ?_ ?_
    · intro _
      apply regWrite_kept
      assumption
    · intro _
      apply Dev.busRead_kept
      assumption

theorem Dev.spiWords_kept {u : Upto} (x0 : Dev) (x1 : SpiFrame) (x2 : Nat) (h1 : x0.kept u)
    : (Dev.spiWords x0 x1 x2).kept u := by
  unfold Dev.spiWords
  refine ite_kept ?_ ?_
  · intro _
    refine kept_mk ?_ rfl le_rfl rfl
    assumption
  · intro _
    refine ite_kept ?_ ?_
    · intro _
      apply Dev.busFails_kept
      assumption
    · intro _
      refine ite_kept ?_ ?_
      · intro _
        apply Dev.busFails_kept
        assumption
      · intro _
        refine ite_kept ?_ ?_
        · intro _
          apply Dev.busFails_kept
          apply Dev.performParts_kept
          assumption
        · intro _
          apply Dev.performParts_kept
          assumption

theorem Dev.spiAccess_kept {u : Upto} (x0 : Dev) (x1 : List Byte) (x2 : Nat) (h1 : x0.kept u)
    : (Dev.spiAccess x0 x1 x2).kept u := by
  unfold Dev.spiAccess
  split
  · assumption
  · refine kept_mk ?_ rfl le_rfl rfl
    apply Dev.spiWords_kept
    assumption

theorem Dev.setVlan_kept {u : Upto} (x0 : Dev) (x1 : Nat) (x2 : Nat) (h1 : x0.kept u)
    : (Dev.setVlan x0 x1 x2).kept u := by
  unfold Dev.setVlan
  refine kept_mk ?_ rfl le_rfl rfl
  assumption

theorem Dev.setStream_kept {u : Upto} (x0 : Dev) (x1 : Nat) (x2 : Nat) (h1 : x0.kept u)
    : (Dev.setStream x0 x1 x2).kept u := by
  unfold Dev.setStream
  refine kept_mk ?_ rfl le_rfl rfl
  apply Dev.wr_kept
  apply Dev.wr_kept
  assumption

theorem Dev.setSkein_kept {u : Upto} (x0 : Dev) (x1 : Nat) (x2 : Nat) (h1 : x0.kept u)
    : (Dev.setSkein x0 x1 x2).kept u := by
  unfold Dev.setSkein
  refine kept_mk ?_ rfl le_rfl rfl
  assumption

theorem Dev.writeEntry_kept {u : Upto} (x0 : Dev) (x1 : Nat) (x2 : Nat) (x3 : Nat) (h1 : x0.kept u)
    : (Dev.writeEntry x0 x1 x2 x3).kept u := by
  unfold Dev.writeEntry
  split
  · apply Dev.setMac_kept
    apply Dev.counted_kept
    assumption
  · apply Dev.setVlan_kept
    apply Dev.counted_kept
    assumption
  · apply Dev.setStream_kept
    apply Dev.counted_kept
    assumption
  · apply Dev.setSkein_kept
    apply Dev.counted_kept
    assumption
  · apply Dev.counted_kept
    assumption

theorem Dev.setDeficit_kept {u : Upto} (x0 : Dev) (x1 : Nat) (x2 : Nat) (x3 : Nat) (h1 : x0.kept u)
    : (Dev.setDeficit x0 x1 x2 x3).kept u := by
  unfold Dev.setDeficit
  refine kept_mk ?_ rfl le_rfl rfl
  assumption

theorem Dev.configLost_kept {u : Upto} (d : Dev) (h : d.kept u) : d.configLost.kept u := by
  unfold Dev.configLost
  refine Dev.forEach_kept _ _ _ (Dev.wr_kept _ _ _ ⟨⟨sparse_wf_filter _ _ _ h.1.1, rfl, h.1.2.2⟩, h.2⟩) fun n d hd => blockCmd_kept _ _ _ hd

theorem learnQueueRead_kept {u : Upto} (x0 : Dev) (h1 : x0.kept u) : (learnQueueRead x0).kept u := by
  unfold learnQueueRead
  refine ite_kept ?_ ?_
  · intro _
    apply Dev.wrV_kept
    apply Dev.setLearnQueue_kept
    assumption
  · intro _
    apply Dev.wrV_kept
    assumption

theorem reelRead_kept {u : Upto} (x0 : Dev) (h1 : x0.kept u) : (reelRead x0).kept u := by
  unfold reelRead
  apply Dev.wr_kept
  apply Dev.wrV_kept
  assumption

theorem sampleRead_kept {u : Upto} (x0 : Dev) (h1 : x0.kept u) : (sampleRead x0).kept u := by
  unfold sampleRead
  apply Dev.wr_kept
  refine kept_mk ?_ rfl le_rfl rfl
  apply Dev.wrV_kept
  assumption

theorem spoolLogRead_kept {u : Upto} (x0 : Dev) (h1 : x0.kept u) : (spoolLogRead x0).kept u := by
  unfold spoolLogRead
  refine kept_mk ?_ rfl le_rfl rfl
  apply Dev.wrV_kept
  assumption

theorem statSnapshot_kept {u : Upto} (x0 : Nat) (x1 : Dev) (h2 : x1.kept u) : (statSnapshot x0 x1).kept u := by
  unfold statSnapshot
  apply Dev.wr_kept
  apply Dev.wrV_kept
  apply Dev.forEach_kept
  · assumption
  · intro _ _ _
    apply Dev.setStat_kept
    assumption

theorem statPeek_kept {u : Upto} (x0 : Nat) (x1 : Dev) (h2 : x1.kept u) : (statPeek x0 x1).kept u := by
  unfold statPeek
  apply Dev.wrV_kept
  assumption

theorem stampRead_kept {u : Upto} (x0 : Nat) (x1 : Dev) (h2 : x1.kept u) : (stampRead x0 x1).kept u := by
  unfold stampRead
  apply refreshFifo_kept
  apply Dev.setEvin_kept
  apply Dev.wrV_kept
  assumption

theorem Dev.snapshotWindow_kept {u : Upto} (x0 : Dev) (x1 : Nat) (x2 : List Byte) (x3 : List Int) (h1 : x0.kept u)
    : (Dev.window_ x0 x1 x2 x3).kept u := by
  unfold Dev.window_
  apply Dev.wrV_kept
  apply Dev.wrV_kept
  apply Dev.wrV_kept
  apply Dev.wrV_kept
  apply Dev.wrV_kept
  assumption

theorem Dev.windowKept {u : Upto} (x0 : Dev) (x1 : Nat) (x2 : List Byte) (x3 : List Int) (h1 : x0.kept u)
    : (Dev.window_ x0 x1 x2 x3).kept u := by
  unfold Dev.window_
  apply Dev.wrV_kept
  apply Dev.wrV_kept
  apply Dev.wrV_kept
  apply Dev.wrV_kept
  apply Dev.wrV_kept
  assumption

theorem resultRead_kept {u : Upto} (x0 : Nat) (x1 : Dev) (h2 : x1.kept u) : (resultRead x0 x1).kept u := by
  unfold resultRead
  split
  · apply Dev.windowKept
    assumption
  · apply refreshFifo_kept
    apply Dev.setEvin_kept
    apply Dev.windowKept
    assumption

theorem Dev.perfCounted_kept {u : Upto} (x0 : Dev) (x1 : Nat) (h1 : x0.kept u) : (Dev.perfCounted x0 x1).kept u := by
  unfold Dev.perfCounted
  refine kept_mk ?_ rfl le_rfl rfl
  assumption

theorem Dev.perfClear_kept {u : Upto} (x0 : Dev) (x1 : Nat) (h1 : x0.kept u) : (Dev.perfClear x0 x1).kept u := by
  unfold Dev.perfClear
  refine kept_mk ?_ rfl le_rfl rfl
  assumption

theorem Dev.perfCapture_kept {u : Upto} (x0 : Dev) (x1 : Nat) (x2 : Nat) (h1 : x0.kept u)
    : (Dev.perfCapture x0 x1 x2).1.kept u := by
  unfold Dev.perfCapture
  dsimp only
  apply Dev.perfClear_kept
  apply Dev.perfCounted_kept
  assumption

theorem bankSnapshotRead_kept {u : Upto} (x0 : Nat) (x1 : Dev) (h2 : x1.kept u)
    : (bankSnapshotRead x0 x1).kept u := by
  unfold bankSnapshotRead
  refine ite_kept ?_ ?_
  · intro _
    refine kept_mk ?_ rfl le_rfl rfl
    apply Dev.wrV_kept
    refine Dev.perfCapture_kept _ _ _ ?_
    assumption
  · intro _
    assumption

theorem bankPeek_kept {u : Upto} (x0 : Nat) (x1 : Dev) (h2 : x1.kept u) : (bankPeek x0 x1).kept u := by
  unfold bankPeek
  apply Dev.wrV_kept
  apply Dev.perfCounted_kept
  assumption

theorem captureRead_kept {u : Upto} (x0 : Nat) (x1 : Dev) (h2 : x1.kept u) : (captureRead x0 x1).kept u := by
  unfold captureRead
  refine ite_kept ?_ ?_
  · intro _
    apply learnQueueRead_kept
    assumption
  · intro _
    refine ite_kept ?_ ?_
    · intro _
      apply reelRead_kept
      assumption
    · intro _
      refine ite_kept ?_ ?_
      · intro _
        apply sampleRead_kept
        assumption
      · intro _
        refine ite_kept ?_ ?_
        · intro _
          apply spoolLogRead_kept
          assumption
        · intro _
          refine ite_kept ?_ ?_
          · intro _
            assumption
          · intro _
            refine ite_kept ?_ ?_
            · intro _
              apply statSnapshot_kept
              assumption
            · intro _
              refine ite_kept ?_ ?_
              · intro _
                apply statPeek_kept
                assumption
              · intro _
                refine ite_kept ?_ ?_
                · intro _
                  apply stampRead_kept
                  assumption
                · intro _
                  refine ite_kept ?_ ?_
                  · intro _
                    apply resultRead_kept
                    assumption
                  · intro _
                    refine ite_kept ?_ ?_
                    · intro _
                      apply bankSnapshotRead_kept
                      assumption
                    · intro _
                      refine ite_kept ?_ ?_
                      · intro _
                        apply bankPeek_kept
                        assumption
                      · intro _
                        assumption

theorem Dev.readObj_kept {u : Upto} (x0 : Dev) (x1 : Nat) (x2 : Nat) (x3 : Nat) (h1 : x0.kept u)
    : (Dev.readObj x0 x1 x2 x3).1.kept u := by
  unfold Dev.readObj
  split
  · dsimp only
    assumption
  · refine ite_fst_kept ?_ ?_
    · intro _
      dsimp only
      assumption
    · intro _
      refine ite_fst_kept ?_ ?_
      · intro _
        dsimp only
        assumption
      · intro _
        dsimp only
        apply captureRead_kept
        assumption

theorem readOps_kept {u : Upto} (level : Nat) (stop : Bool) (l : List MdpOp) (room : Nat) (failed : Bool) (d : Dev)
    (h : d.kept u) :
    (readOps level stop l room failed d).1.kept u := by
  induction l generalizing room failed d with
  | nil => exact h
  | cons o l ih =>
    unfold readOps
    have hr := Dev.readObj_kept d level (room - 8 * (l.length + 1)) o.key h
    split
    rename_i d' status value heq
    have hd : d'.kept u := by
      split at heq
      · cases heq; exact h
      · split at heq
        · rename_i he; cases heq; rw [he] at hr; exact hr
        · rename_i he; cases heq; rw [he] at hr; exact hr
    exact ih _ _ _ hd

theorem labelBoundary_kept {u : Upto} (x0 : Nat) (x1 : Dev) (h2 : x1.kept u) : (labelBoundary x0 x1).kept u := by
  unfold labelBoundary
  refine ite_kept ?_ ?_
  · intro _
    apply Dev.when_kept
    · apply Dev.setCand_kept
      apply Dev.wr_kept
      apply Dev.setRefIn_kept
      assumption
    · intro _ _
      apply Dev.startQualifying_kept
      assumption
  · intro _
    apply Dev.wr_kept
    assumption

theorem Dev.addSat64_kept {u : Upto} (x0 : Dev) (x1 : Nat) (x2 : Nat) (h1 : x0.kept u)
    : (Dev.addSat64 x0 x1 x2).kept u := by
  unfold Dev.addSat64
  apply Dev.wr_kept
  assumption

theorem Dev.ptCount_kept {u : Upto} (x0 : Dev) (x1 : Nat) (x2 : Nat) (x3 : Nat) (h1 : x0.kept u)
    : (Dev.ptCount x0 x1 x2 x3).kept u := by
  unfold Dev.ptCount
  apply Dev.addSat64_kept
  apply Dev.addSat64_kept
  assumption

theorem Dev.closeItem_kept {u : Upto} (x0 : Dev) (x1 : Nat) (h1 : x0.kept u) : (Dev.closeItem x0 x1).kept u := by
  unfold Dev.closeItem
  refine kept_mk ?_ rfl le_rfl rfl
  assumption

theorem Dev.noteLoss_kept {u : Upto} (x0 : Dev) (h1 : x0.kept u) : (Dev.noteLoss x0).kept u := by
  unfold Dev.noteLoss
  refine ite_kept ?_ ?_
  · intro _
    assumption
  · intro _
    refine kept_mk ?_ rfl le_rfl rfl
    assumption

theorem spindleEnters_kept {u : Upto} (x0 : Int) (x1 : Nat) (x2 : Dev) (h3 : x2.kept u)
    : (spindleEnters x0 x1 x2).kept u := by
  unfold spindleEnters
  refine ite_kept ?_ ?_
  · intro _
    assumption
  · intro _
    apply Dev.raise_kept
    apply Dev.wr_kept
    apply Dev.wr_kept
    assumption

theorem Dev.refreshPhase_kept {u : Upto} (x0 : Dev) (h1 : x0.kept u) : (Dev.refreshPhase x0).kept u := by
  unfold Dev.refreshPhase
  apply Dev.refreshOuts_kept
  apply Dev.wrB_kept
  assumption

theorem Dev.setSpindleState_kept {u : Upto} (x0 : Dev) (x1 : Int) (h1 : x0.kept u)
    : (Dev.setSpindleState x0 x1).kept u := by
  unfold Dev.setSpindleState
  apply Dev.refreshQl_kept
  apply Dev.updateClass_kept
  apply Dev.refreshPhase_kept
  apply Dev.when_kept
  · apply spindleEnters_kept
    assumption
  · intro _ _
    apply spindleEnters_kept
    assumption

theorem Dev.enterHoldover_kept {u : Upto} (x0 : Dev) (h1 : x0.kept u) : (Dev.enterHoldover x0).kept u := by
  unfold Dev.enterHoldover
  refine ite_kept ?_ ?_
  · intro _
    assumption
  · intro _
    refine kept_mk ?_ rfl le_rfl rfl
    apply Dev.wrs_kept
    apply Dev.setSpindleState_kept
    assumption

theorem Dev.missWord_kept {u : Upto} (x0 : Dev) (h1 : x0.kept u) : (Dev.missWord x0).kept u := by
  unfold Dev.missWord
  refine ite_kept ?_ ?_
  · intro _
    apply Dev.enterHoldover_kept
    apply Dev.when_kept
    · refine kept_mk ?_ rfl le_rfl rfl
      refine kept_mk ?_ rfl le_rfl rfl
      assumption
    · intro _ _
      refine kept_mk ?_ rfl le_rfl rfl
      assumption
  · intro _
    refine kept_mk ?_ rfl le_rfl rfl
    assumption

theorem Dev.perfHostCopy_kept {u : Upto} (x0 : Dev) (x1 : Nat) (x2 : List Byte) (h1 : x0.kept u)
    : (Dev.perfHostCopy x0 x1 x2).kept u := by
  unfold Dev.perfHostCopy
  refine ite_kept ?_ ?_
  · intro _
    assumption
  · intro _
    refine ite_kept ?_ ?_
    · intro _
      apply Dev.inc_kept
      assumption
    · intro _
      apply Dev.setRing_kept
      assumption

theorem Dev.perfWrite_kept {u : Upto} (x0 : Dev) (x1 : Nat) (x2 : List Byte) (h1 : x0.kept u)
    : (Dev.perfWrite x0 x1 x2).kept u := by
  unfold Dev.perfWrite
  apply Dev.perfHostCopy_kept
  apply Dev.wrV_kept
  apply Dev.wr_kept
  apply Dev.wr_kept
  refine kept_mk ?_ rfl le_rfl rfl
  assumption

theorem Dev.dumpAbandoned_kept {u : Upto} (x0 : Dev) (h1 : x0.kept u) : (Dev.dumpAbandoned x0).kept u := by
  unfold Dev.dumpAbandoned
  refine foldl_kept _ _ _ ?_ ?_
  · refine kept_mk ?_ rfl le_rfl rfl
    assumption
  · intro _ _ _
    apply Dev.perfWrite_kept
    refine kept_mk ?_ rfl le_rfl rfl
    assumption

theorem Dev.abandonRun_kept {u : Upto} (x0 : Dev) (h1 : x0.kept u) : (Dev.abandonRun x0).kept u := by
  unfold Dev.abandonRun
  refine ite_kept ?_ ?_
  · intro _
    refine kept_mk ?_ rfl le_rfl rfl
    apply Dev.dropRun_kept
    apply Dev.calReject_kept
    assumption
  · intro _
    assumption

theorem Dev.calOverrun_kept {u : Upto} (x0 : Dev) (h1 : x0.kept u) : (Dev.calOverrun x0).kept u := by
  unfold Dev.calOverrun
  refine ite_kept ?_ ?_
  · intro _
    apply Dev.abandonRun_kept
    assumption
  · intro _
    refine kept_mk ?_ rfl le_rfl rfl
    assumption

theorem Dev.heartbeatPath_kept {u : Upto} (x0 : Dev) (x1 : Nat) (x2 : Bool) (x3 : Bool) (x4 : Option Bool)
    (h1 : x0.kept u) : (Dev.heartbeatPath x0 x1 x2 x3 x4).kept u := by
  unfold Dev.heartbeatPath
  refine ite_kept ?_ ?_
  · intro _
    apply Dev.record_kept
    apply Dev.wr_kept
    apply Dev.add32_kept
    apply Dev.setPair_kept
    assumption
  · intro _
    refine ite_kept ?_ ?_
    · intro _
      apply Dev.record_kept
      apply Dev.wr_kept
      apply Dev.add32_kept
      apply Dev.setPair_kept
      assumption
    · intro _
      apply Dev.add32_kept
      apply Dev.setPair_kept
      assumption

theorem Dev.slotsMissed_kept {u : Upto} (x0 : Dev) (x1 : PairObs) (x2 : PairObs) (h1 : x0.kept u)
    : (Dev.slotsMissed x0 x1 x2).kept u := by
  unfold Dev.slotsMissed
  apply Dev.forEach_kept
  · assumption
  · intro _ _ _
    apply Dev.heartbeatPath_kept
    apply Dev.heartbeatPath_kept
    assumption

theorem Dev.spoolEnds_kept {u : Upto} (x0 : Dev) (x1 : SpoolRun) (x2 : Nat) (x3 : Nat) (h1 : x0.kept u)
    : (Dev.spoolEnds x0 x1 x2 x3).kept u := by
  unfold Dev.spoolEnds
  refine kept_mk ?_ rfl le_rfl rfl
  apply Dev.counted_kept
  apply Dev.wr_kept
  assumption

theorem Dev.spoolWrite_kept {u : Upto} (x0 : Dev) (x1 : Nat) (x2 : List Byte) (h1 : x0.kept u)
    : (Dev.spoolWrite x0 x1 x2).kept u := by
  unfold Dev.spoolWrite
  refine kept_mk ?_ rfl le_rfl rfl
  assumption

theorem Dev.writeObj_kept {u : Upto} (x0 : Dev) (x1 : Nat) (x2 : Bool) (x3 : Nat) (x4 : Nat) (x5 : List Byte)
    (h1 : x0.kept u) : (Dev.writeObj x0 x1 x2 x3 x4 x5).1.kept u := by
  unfold Dev.writeObj
  split
  · dsimp only
    apply Dev.when_kept
    · assumption
    · intro _ _
      apply Dev.logIgnored_kept
      assumption
  · dsimp only
    apply commitWrite_kept
    assumption

theorem spoolServe_kept {u : Upto} (x0 : Dev) (x1 : SpoolReq) (h1 : x0.kept u) : (spoolServe x0 x1).kept u := by
  unfold spoolServe
  split
  · (extract_lets; split)
    · apply Dev.spoolWrite_kept
      refine fst_kept (by assumption) ?_
      refine Dev.readObj_kept _ _ _ _ ?_
      apply Dev.counted_kept
      assumption
    · apply Dev.spoolWrite_kept
      refine fst_kept (by assumption) ?_
      refine Dev.readObj_kept _ _ _ _ ?_
      apply Dev.counted_kept
      assumption
  · apply Dev.spoolWrite_kept
    split
    · dsimp only
      apply Dev.when_kept
      · apply Dev.counted_kept
        assumption
      · intro _ _
        apply Dev.logIgnored_kept
        assumption
    · dsimp only
      apply commitWrite_kept
      apply Dev.counted_kept
      assumption

theorem Dev.spoolFinish_kept {u : Upto} (x0 : Dev) (h1 : x0.kept u) : (Dev.spoolFinish x0).kept u := by
  unfold Dev.spoolFinish
  apply Dev.closeItem_kept
  refine ite_kept ?_ ?_
  · intro _
    refine foldl_kept _ _ _ ?_ ?_
    · refine kept_mk ?_ rfl le_rfl rfl
      refine kept_mk ?_ rfl le_rfl rfl
      assumption
    · intro _ _ _
      apply spoolServe_kept
      assumption
  · intro _
    refine kept_mk ?_ rfl le_rfl rfl
    assumption

theorem Dev.spoolSkip_kept {u : Upto} (x0 : Dev) (h1 : x0.kept u) : (Dev.spoolSkip x0).kept u := by
  unfold Dev.spoolSkip
  apply Dev.forEach_kept
  · assumption
  · intro _ _ _
    apply Dev.inc_kept
    assumption

theorem Dev.spoolOverrun_kept {u : Upto} (x0 : Dev) (h1 : x0.kept u) : (Dev.spoolOverrun x0).kept u := by
  unfold Dev.spoolOverrun
  apply Dev.spoolFinish_kept
  apply Dev.spoolSkip_kept
  split
  · apply Dev.spoolEnds_kept
    apply Dev.inc_kept
    assumption
  · assumption

theorem Dev.abandoned_kept {u : Upto} (x0 : Dev) (x1 : Nat) (x2 : PairObs) (x3 : PairObs) (h1 : x0.kept u)
    : (Dev.abandoned x0 x1 x2 x3).kept u := by
  unfold Dev.abandoned
  split
  · apply Dev.missWord_kept
    assumption
  · apply Dev.dumpAbandoned_kept
    assumption
  · apply Dev.calOverrun_kept
    assumption
  · apply Dev.slotsMissed_kept
    assumption
  · apply Dev.spoolOverrun_kept
    assumption
  · assumption

theorem Dev.owesEvent_kept {u : Upto} (x0 : Dev) (h1 : x0.kept u) : (Dev.owesEvent x0).kept u := by
  unfold Dev.owesEvent
  refine ite_kept ?_ ?_
  · intro _
    assumption
  · intro _
    refine kept_mk ?_ rfl le_rfl rfl
    assumption

theorem Dev.overrun_kept {u : Upto} (x0 : Dev) (x1 : Nat) (x2 : Int) (x3 : Nat) (h1 : x0.kept u)
    : (Dev.overrun x0 x1 x2 x3).kept u := by
  unfold Dev.overrun
  apply Dev.owesEvent_kept
  apply Dev.wr_kept
  apply Dev.wr_kept
  apply Dev.inc_kept
  assumption

theorem Dev.abandons_kept {u : Upto} (x0 : Dev) (x1 : Nat) (x2 : Int) (x3 : PairObs) (x4 : PairObs) (h1 : x0.kept u)
    : (Dev.abandons x0 x1 x2 x3 x4).kept u := by
  unfold Dev.abandons
  apply Dev.closeItem_kept
  apply Dev.abandoned_kept
  apply Dev.overrun_kept
  assumption

theorem Dev.setPaused_kept {u : Upto} (x0 : Dev) (x1 : Nat) (x2 : Nat) (h1 : x0.kept u)
    : (Dev.setPaused x0 x1 x2).kept u := by
  unfold Dev.setPaused
  apply Dev.wr_kept
  apply Dev.setEgress_kept
  assumption

theorem pauseTimerExpiry_kept {u : Upto} (x0 : Nat) (x1 : Option Nat) (x2 : Dev) (h3 : x2.kept u)
    : (pauseTimerExpiry x0 x1 x2).kept u := by
  unfold pauseTimerExpiry
  apply Dev.setPaused_kept
  assumption

theorem Dev.unitSync_kept {u : Upto} (x0 : Dev) (x1 : Nat) (h1 : x0.kept u) : (Dev.unitSync x0 x1).kept u := by
  unfold Dev.unitSync
  apply Dev.unitTo_kept
  apply Dev.setUnit_kept
  assumption

theorem Dev.unitEnable_kept {u : Upto} (x0 : Dev) (x1 : Nat) (h1 : x0.kept u) : (Dev.unitEnable x0 x1).kept u := by
  unfold Dev.unitEnable
  apply Dev.when_kept
  · assumption
  · intro _ _
    apply Dev.unitSync_kept
    assumption

theorem Dev.toRanging_kept {u : Upto} (x0 : Dev) (x1 : Nat) (h1 : x0.kept u) : (Dev.toRanging x0 x1).kept u := by
  unfold Dev.toRanging
  apply Dev.wr_kept
  apply Dev.setLink_kept
  apply Dev.holdMedian_kept
  assumption

theorem Dev.proofFailed_kept {u : Upto} (x0 : Dev) (x1 : Nat) (x2 : List Byte) (h1 : x0.kept u)
    : (Dev.proofFailed x0 x1 x2).kept u := by
  unfold Dev.proofFailed
  refine ite_kept ?_ ?_
  · intro _
    apply Dev.sessionEvent_kept
    refine kept_mk ?_ rfl le_rfl rfl
    apply Dev.inc_kept
    apply Dev.sessionEvent_kept
    apply Dev.freeSlot_kept
    assumption
  · intro _
    refine kept_mk ?_ rfl le_rfl rfl
    apply Dev.inc_kept
    apply Dev.sessionEvent_kept
    apply Dev.freeSlot_kept
    assumption

theorem Dev.mdpDiscard_kept {u : Upto} (x0 : Dev) (h1 : x0.kept u) : (Dev.mdpDiscard x0).kept u := by
  unfold Dev.mdpDiscard
  apply Dev.inc_kept
  assumption

theorem Dev.refuse_kept {u : Upto} (x0 : Dev) (x1 : Nat) (x2 : Nat) (x3 : Nat) (h1 : x0.kept u)
    : (Dev.refuse x0 x1 x2 x3).kept u := by
  unfold Dev.refuse
  apply Dev.record_kept
  apply Dev.inc_kept
  apply Dev.when_kept
  · apply Dev.counted_kept
    assumption
  · intro _ _
    apply Dev.inc_kept
    assumption

theorem Dev.enqueue_kept {u : Upto} (x0 : Dev) (x1 : Copy) (x2 : Nat) (h1 : x0.kept u)
    : (Dev.enqueue x0 x1 x2).kept u := by
  unfold Dev.enqueue
  apply Dev.checkStores_kept
  apply Dev.setQueue_kept
  apply Dev.when_kept
  · apply Dev.addIngress_kept
    split
    · apply Dev.when_kept
      · apply Dev.when_kept
        · apply Dev.addCells_kept
          apply Dev.counted_kept
          assumption
        · intro _ _
          apply Dev.addLanding_kept
          assumption
      · intro _ _
        apply Dev.setEgress_kept
        assumption
    · apply Dev.when_kept
      · apply Dev.addCells_kept
        apply Dev.counted_kept
        assumption
      · intro _ _
        apply Dev.addLanding_kept
        assumption
  · intro _ _
    apply Dev.inc_kept
    assumption

theorem Dev.engineSend_kept {u : Upto} (x0 : Dev) (x1 : Nat) (x2 : EngineMsg) (x3 : Nat) (h1 : x0.kept u)
    : (Dev.engineSend x0 x1 x2 x3).kept u := by
  unfold Dev.engineSend
  refine ite_kept ?_ ?_
  · intro _
    apply Dev.countFlushed_kept
    assumption
  · intro _
    split
    · (extract_lets; split)
      · apply Dev.refuse_kept
        assumption
      · apply Dev.enqueue_kept
        assumption
    · (extract_lets; split)
      · apply Dev.refuse_kept
        assumption
      · apply Dev.enqueue_kept
        assumption

theorem Dev.sendEngine_kept {u : Upto} (x0 : Dev) (x1 : Nat) (x2 : EngineMsg) (h1 : x0.kept u)
    : (Dev.sendEngine x0 x1 x2).kept u := by
  unfold Dev.sendEngine
  apply Dev.engineSend_kept
  assumption

theorem Dev.mdpSend_kept {u : Upto} (x0 : Dev) (x1 : Datagram) (x2 : List Byte) (h1 : x0.kept u)
    : (Dev.mdpSend x0 x1 x2).kept u := by
  unfold Dev.mdpSend
  apply Dev.engineSend_kept
  assumption

theorem Dev.mdpAnswer_kept {u : Upto} (x0 : Dev) (x1 : Datagram) (x2 : MdpReq) (x3 : Nat) (x4 : Nat) (h1 : x0.kept u)
    : (Dev.mdpAnswer x0 x1 x2 x3 x4).kept u := by
  unfold Dev.mdpAnswer
  apply Dev.mdpSend_kept
  assumption

theorem Dev.mdpInSession_kept {u : Upto} (x0 : Dev) (x1 : Datagram) (x2 : MdpReq) (x3 : SessionSt → Dev → Dev)
    (h1 : x0.kept u) (h4 : ∀ y1 y2, Dev.kept u y2 → (x3 y1 y2).kept u) : (Dev.mdpInSession x0 x1 x2 x3).kept u := by
  unfold Dev.mdpInSession
  refine ite_kept ?_ ?_
  · intro _
    apply Dev.mdpDiscard_kept
    assumption
  · intro _
    refine ite_kept ?_ ?_
    · intro _
      apply Dev.mdpAnswer_kept
      assumption
    · intro _
      refine ite_kept ?_ ?_
      · intro _
        apply h4
        assumption
      · intro _
        apply Dev.mdpAnswer_kept
        assumption

theorem Dev.mdpSequenced_kept {u : Upto} (x0 : Dev) (x1 : Datagram) (x2 : MdpReq)
    (x3 : Nat → SessionSt → Dev → Dev × Nat × List Byte) (h1 : x0.kept u)
    (h4 : ∀ y1 y2 y3, Dev.kept u y3 → (x3 y1 y2 y3).1.kept u) : (Dev.mdpSequenced x0 x1 x2 x3).kept u := by
  unfold Dev.mdpSequenced
  apply Dev.mdpInSession_kept
  · assumption
  · intro _ _ _
    refine ite_kept ?_ ?_
    · intro _
      apply Dev.mdpSend_kept
      apply Dev.when_kept
      · apply h4
        apply Dev.counted_kept
        assumption
      · intro _ _
        apply Dev.setSession_kept
        apply Dev.wr_kept
        assumption
    · intro _
      split
      · apply Dev.mdpSend_kept
        assumption
      · apply Dev.mdpSend_kept
        assumption

theorem mdpClose_kept {u : Upto} (x0 : Datagram) (x1 : MdpReq) (x2 : Dev) (h3 : x2.kept u)
    : (mdpClose x0 x1 x2).kept u := by
  unfold mdpClose
  apply Dev.mdpSequenced_kept
  · assumption
  · intro _ _ _ _
    dsimp only
    apply Dev.closeSession_kept
    assumption

theorem Dev.setZero_kept {u : Upto} (x0 : Dev) (x1 : Nat) (h1 : x0.kept u) : (Dev.setZero x0 x1).kept u := by
  unfold Dev.setZero
  refine ite_kept ?_ ?_
  · intro _
    assumption
  · intro _
    apply Dev.setCand_kept
    assumption

theorem Dev.inStep_kept {u : Upto} (x0 : Dev) (x1 : Nat) (h1 : x0.kept u) : (Dev.inStep x0 x1).kept u := by
  unfold Dev.inStep
  refine ite_kept ?_ ?_
  · intro _
    refine kept_mk ?_ rfl le_rfl rfl
    apply Dev.wr_kept
    apply Dev.setPair_kept
    apply Dev.unitTo_kept
    assumption
  · intro _
    apply Dev.setPair_kept
    apply Dev.unitTo_kept
    assumption

theorem waitKept_kept {u : Upto} (x0 : Nat) (x1 : Dev) (h2 : x1.kept u) : (waitKept x0 x1).kept u := by
  unfold waitKept
  apply Dev.setCand_kept
  assumption

theorem Dev.recordCycle_kept {u : Upto} (x0 : Dev) (x1 : Nat) (x2 : Nat) (h1 : x0.kept u)
    : (Dev.recordCycle x0 x1 x2).kept u := by
  unfold Dev.recordCycle
  apply Dev.setUnit_kept
  assumption

theorem isolatedTest_kept {u : Upto} (x0 : Nat) (x1 : Nat) (x2 : Dev) (h3 : x2.kept u)
    : (isolatedTest x0 x1 x2).kept u := by
  unfold isolatedTest
  refine ite_kept ?_ ?_
  · intro _
    apply Dev.when_kept
    · apply Dev.recordCycle_kept
      assumption
    · intro _ _
      apply Dev.unitSync_kept
      assumption
  · intro _
    assumption

theorem clearMis_kept {u : Upto} (x0 : Nat) (x1 : Dev) (h2 : x1.kept u) : (clearMis x0 x1).kept u := by
  unfold clearMis
  apply Dev.wr_kept
  apply Dev.wr_kept
  assumption

theorem Dev.singlePassed_kept {u : Upto} (x0 : Dev) (x1 : Nat) (h1 : x0.kept u)
    : (Dev.singlePassed x0 x1).kept u := by
  unfold Dev.singlePassed
  refine ite_kept ?_ ?_
  · intro _
    apply Dev.setPulse_kept
    apply Dev.inc_kept
    assumption
  · intro _
    assumption

theorem Dev.pulseStarts_kept {u : Upto} (x0 : Dev) (x1 : Nat) (h1 : x0.kept u) : (Dev.pulseStarts x0 x1).kept u := by
  unfold Dev.pulseStarts
  apply Dev.singlePassed_kept
  apply Dev.setPulse_kept
  assumption

theorem outStarts_kept {u : Upto} (x0 : Nat) (x1 : Dev) (h2 : x1.kept u) : (outStarts x0 x1).kept u := by
  unfold outStarts
  refine ite_kept ?_ ?_
  · intro _
    apply clearMis_kept
    assumption
  · intro _
    apply Dev.singlePassed_kept
    apply Dev.setPulse_kept
    apply clearMis_kept
    assumption

theorem Dev.raiseSpindles_kept {u : Upto} (x0 : Dev) (x1 : Int) (h1 : x0.kept u)
    : (Dev.raiseSpindles x0 x1).kept u := by
  unfold Dev.raiseSpindles
  apply Dev.raise_kept
  apply Dev.raise_kept
  apply Dev.wr_kept
  apply Dev.wr_kept
  assumption

theorem Dev.factoryTables_kept {u : Upto} (x0 : Dev) (h1 : x0.kept u) : (Dev.factoryTables x0).kept u := by
  unfold Dev.factoryTables
  refine kept_mk ?_ rfl le_rfl rfl
  apply Dev.forEach_kept
  · assumption
  · intro _ _ _
    apply Dev.wr_kept
    assumption

theorem tableInsert_kept {u : Upto} (x0 : Dev) (x1 : TableOp) (h1 : x0.kept u) : (tableInsert x0 x1).1.kept u := by
  unfold tableInsert
  refine ite_fst_kept ?_ ?_
  · intro _
    dsimp only
    assumption
  · intro _
    refine ite_fst_kept ?_ ?_
    · intro _
      dsimp only
      assumption
    · intro _
      split
      · dsimp only
        apply Dev.commitMac_kept
        assumption
      · dsimp only
        assumption

theorem Dev.pulse_kept {u : Upto} (x0 : Dev) (x1 : Nat) (x2 : Int) (h1 : x0.kept u)
    : (Dev.pulse x0 x1 x2).kept u := by
  unfold Dev.pulse
  apply Dev.setRefIn_kept
  apply Dev.wr_kept
  apply Dev.inc_kept
  assumption

theorem Dev.nqAnnounce_kept {u : Upto} (x0 : Dev) (x1 : Nat) (h1 : x0.kept u) : (Dev.nqAnnounce x0 x1).kept u := by
  unfold Dev.nqAnnounce
  apply Dev.setNq_kept
  assumption

theorem Dev.slotOpens_kept {u : Upto} (x0 : Dev) (x1 : Nat) (h1 : x0.kept u) : (Dev.slotOpens x0 x1).kept u := by
  unfold Dev.slotOpens
  apply Dev.sessionEvent_kept
  apply Dev.wrs_kept
  assumption

theorem Dev.slotTaken_kept {u : Upto} (x0 : Dev) (x1 : Datagram) (x2 : Bool) (x3 : Nat) (x4 : Nat) (x5 : SessionSt)
    (h1 : x0.kept u) : (Dev.slotTaken x0 x1 x2 x3 x4 x5).kept u := by
  unfold Dev.slotTaken
  apply Dev.setSession_kept
  apply Dev.wrV_kept
  apply Dev.wrs_kept
  assumption

theorem Dev.drawn_kept {u : Upto} (x0 : Dev) (h1 : x0.kept u) : (Dev.drawn x0).kept u := by
  unfold Dev.drawn
  refine kept_mk ?_ rfl le_rfl rfl
  assumption

theorem mdpOpen_kept {u : Upto} (x0 : Datagram) (x1 : MdpReq) (x2 : Dev) (h3 : x2.kept u)
    : (mdpOpen x0 x1 x2).kept u := by
  unfold mdpOpen
  refine ite_kept ?_ ?_
  · intro _
    apply Dev.mdpAnswer_kept
    apply Dev.counted_kept
    assumption
  · intro _
    refine ite_kept ?_ ?_
    · intro _
      apply Dev.mdpAnswer_kept
      apply Dev.counted_kept
      assumption
    · intro _
      refine ite_kept ?_ ?_
      · intro _
        apply Dev.mdpAnswer_kept
        apply Dev.counted_kept
        assumption
      · intro _
        refine ite_kept ?_ ?_
        · intro _
          apply Dev.mdpAnswer_kept
          apply Dev.counted_kept
          assumption
        · intro _
          split
          · apply Dev.mdpAnswer_kept
            apply Dev.counted_kept
            assumption
          · refine ite_kept ?_ ?_
            · intro _
              apply Dev.mdpSend_kept
              apply Dev.slotOpens_kept
              apply Dev.slotTaken_kept
              apply Dev.counted_kept
              assumption
            · intro _
              apply Dev.mdpSend_kept
              apply Dev.slotTaken_kept
              apply Dev.drawn_kept
              apply Dev.counted_kept
              assumption

theorem Dev.setCoeffs_kept {u : Upto} (x0 : Dev) (x1 : Nat) (x2 : List Byte) (x3 : Int) (h1 : x0.kept u)
    : (Dev.setCoeffs x0 x1 x2 x3).kept u := by
  unfold Dev.setCoeffs
  apply Dev.wr_kept
  apply Dev.wrV_kept
  assumption

theorem esmcTx_kept {u : Upto} (x0 : Bool) (x1 : Nat) (x2 : Dev) (h3 : x2.kept u) : (esmcTx x0 x1 x2).kept u := by
  unfold esmcTx
  refine ite_kept ?_ ?_
  · intro _
    apply Dev.engineSend_kept
    apply Dev.wr_kept
    assumption
  · intro _
    assumption

theorem Dev.blockLeaves_kept {u : Upto} (x0 : Dev) (x1 : BlockId) (x2 : Int) (h1 : x0.kept u)
    : (Dev.blockLeaves x0 x1 x2).kept u := by
  unfold Dev.blockLeaves
  apply Dev.cascade_kept
  apply Dev.when_kept
  · refine kept_mk ?_ rfl le_rfl rfl
    apply Dev.setBlk_kept
    assumption
  · intro _ _
    apply Dev.whorlLeaves_kept
    apply Dev.blockStops_kept
    assumption

theorem Dev.countFault_kept {u : Upto} (x0 : Dev) (x1 : BlockId) (x2 : Nat) (h1 : x0.kept u)
    : (Dev.countFault x0 x1 x2).kept u := by
  unfold Dev.countFault
  refine kept_mk ?_ rfl le_rfl rfl
  assumption

theorem readinessExpiry_kept {u : Upto} (x0 : BlockId) (x1 : Dev) (h2 : x1.kept u)
    : (readinessExpiry x0 x1).kept u := by
  unfold readinessExpiry
  refine ite_kept ?_ ?_
  · intro _
    assumption
  · intro _
    split
    · apply Dev.outOfService_kept
      assumption
    · apply Dev.when_kept
      · assumption
      · intro _ _
        apply Dev.blockLeaves_kept
        apply Dev.countFault_kept
        assumption

theorem Dev.ages_kept {u : Upto} (d : Dev) (t : Nat) (h : d.kept u) : (d.ages t).kept u := by
  unfold Dev.ages
  exact kept_mk h rfl (Nat.le_add_right _ _) rfl

theorem Dev.setSpindle_kept {u : Upto} (x0 : Dev) (x1 : Nat) (x2 : SpindleSt → SpindleSt) (h1 : x0.kept u)
    : (Dev.setSpindle x0 x1 x2).kept u := by
  unfold Dev.setSpindle
  refine kept_mk ?_ rfl le_rfl rfl
  assumption

theorem Dev.advance_kept {u : Upto} (x0 : Dev) (x1 : Nat) (h1 : x0.kept u) : (Dev.advance x0 x1).kept u := by
  unfold Dev.advance
  refine ite_kept ?_ ?_
  · intro _
    apply Dev.when_kept
    · apply Dev.when_kept
      · apply Dev.when_kept
        · refine kept_mk ?_ rfl le_rfl rfl
          assumption
        · intro _ _
          apply Dev.counted_kept
          assumption
      · intro _ _
        apply Dev.setSpindle_kept
        assumption
    · intro _ _
      apply Dev.setSpindle_kept
      assumption
  · intro _
    assumption

theorem Dev.pass_kept {u : Upto} (d : Dev) (n : Nat) (h : d.kept u) : (d.pass n).kept u := by
  unfold Dev.pass
  exact kept_mk (Dev.advance_kept d n h) rfl (Nat.le_add_right _ _) rfl

theorem Dev.until_kept {u : Upto} (x0 : Dev) (x1 : Int) (h1 : x0.kept u) : (Dev.until x0 x1).kept u := by
  unfold Dev.until
  refine ite_kept ?_ ?_
  · intro _
    apply Dev.pass_kept
    assumption
  · intro _
    assumption

theorem pulseRise_kept {u : Upto} (x0 : Nat) (x1 : Int) (x2 : Dev) (h3 : x2.kept u)
    : (pulseRise x0 x1 x2).1.kept u := by
  unfold pulseRise
  refine ite_fst_kept ?_ ?_
  · intro _
    dsimp only
    assumption
  · intro _
    refine ite_fst_kept ?_ ?_
    · intro _
      dsimp only
      apply Dev.inc_kept
      apply Dev.setPulse_kept
      apply Dev.until_kept
      assumption
    · intro _
      dsimp only
      apply Dev.setPulse_kept
      apply Dev.inc_kept
      apply Dev.setPulse_kept
      apply Dev.until_kept
      assumption

theorem gateClose_kept {u : Upto} (x0 : Nat) (x1 : Dev) (h2 : x1.kept u) : (gateClose x0 x1).kept u := by
  unfold gateClose
  split
  · assumption
  · apply Dev.evinEvent_kept
    apply Dev.when_kept
    · apply Dev.setEvin_kept
      apply Dev.wr_kept
      apply Dev.inc_kept
      apply Dev.when_kept
      · apply Dev.until_kept
        assumption
      · intro _ _
        apply Dev.publishGate_kept
        assumption
    · intro _ _
      apply Dev.wr_kept
      assumption

theorem Dev.gateLapse_kept {u : Upto} (x0 : Dev) (x1 : Nat) (x2 : Int) (h1 : x0.kept u)
    : (Dev.gateLapse x0 x1 x2).kept u := by
  unfold Dev.gateLapse
  split
  · apply Dev.when_kept
    · assumption
    · intro _ _
      apply gateClose_kept
      assumption
  · assumption

theorem Dev.deliverStamp_kept {u : Upto} (x0 : Dev) (x1 : Nat) (x2 : Int) (x3 : Nat) (x4 : Nat) (x5 : Nat)
    (h1 : x0.kept u) : (Dev.deliverStamp x0 x1 x2 x3 x4 x5).kept u := by
  unfold Dev.deliverStamp
  refine ite_kept ?_ ?_
  · intro _
    apply Dev.setEvin_kept
    apply Dev.inc_kept
    apply Dev.when_kept
    · assumption
    · intro _ _
      apply Dev.gateLapse_kept
      assumption
  · intro _
    apply refreshFifo_kept
    apply Dev.when_kept
    · apply Dev.setEvin_kept
      apply Dev.when_kept
      · assumption
      · intro _ _
        apply Dev.gateLapse_kept
        assumption
    · intro _ _
      apply Dev.inc_kept
      assumption

theorem Dev.closeMeas_kept {u : Upto} (x0 : Dev) (x1 : Nat) (x2 : MeasSt) (x3 : Int) (h1 : x0.kept u)
    : (Dev.closeMeas x0 x1 x2 x3).kept u := by
  unfold Dev.closeMeas
  apply Dev.raise_kept
  apply refreshFifo_kept
  apply Dev.setEvin_kept
  assumption

theorem measTimeout_kept {u : Upto} (x0 : Nat) (x1 : Dev) (h2 : x1.kept u) : (measTimeout x0 x1).kept u := by
  unfold measTimeout
  split
  · assumption
  · apply Dev.evinEvent_kept
    apply Dev.inc_kept
    apply Dev.closeMeas_kept
    apply Dev.when_kept
    · assumption
    · intro _ _
      apply Dev.until_kept
      assumption

theorem Dev.lapse_kept {u : Upto} (x0 : Dev) (x1 : Nat) (x2 : Int) (h1 : x0.kept u)
    : (Dev.lapse x0 x1 x2).kept u := by
  unfold Dev.lapse
  split
  · apply Dev.when_kept
    · assumption
    · intro _ _
      apply measTimeout_kept
      assumption
  · assumption

theorem Dev.evinStart_kept {u : Upto} (x0 : Dev) (x1 : Nat) (x2 : Int) (x3 : Nat) (x4 : Bool) (h1 : x0.kept u)
    : (Dev.evinStart x0 x1 x2 x3 x4).kept u := by
  unfold Dev.evinStart
  refine ite_kept ?_ ?_
  · intro _
    apply Dev.inc_kept
    apply Dev.lapse_kept
    assumption
  · intro _
    refine ite_kept ?_ ?_
    · intro _
      apply Dev.inc_kept
      apply Dev.lapse_kept
      assumption
    · intro _
      refine ite_kept ?_ ?_
      · intro _
        apply Dev.lapse_kept
        assumption
      · intro _
        apply Dev.setEvin_kept
        apply Dev.lapse_kept
        assumption

theorem Dev.evinStop_kept {u : Upto} (x0 : Dev) (x1 : Nat) (x2 : Int) (x3 : Nat) (h1 : x0.kept u)
    : (Dev.evinStop x0 x1 x2 x3).kept u := by
  unfold Dev.evinStop
  (extract_lets; split)
  · apply Dev.lapse_kept
    assumption
  · refine ite_kept ?_ ?_
    · intro _
      apply Dev.lapse_kept
      assumption
    · intro _
      refine ite_kept ?_ ?_
      · intro _
        apply Dev.closeMeas_kept
        apply Dev.lapse_kept
        assumption
      · intro _
        apply Dev.setEvin_kept
        apply Dev.lapse_kept
        assumption

theorem Dev.useStamp_kept {u : Upto} (x0 : Dev) (x1 : Nat) (x2 : Int) (x3 : Nat) (x4 : StampUse) (h1 : x0.kept u)
    : (Dev.useStamp x0 x1 x2 x3 x4).kept u := by
  unfold Dev.useStamp
  split
  · apply Dev.deliverStamp_kept
    assumption
  · apply Dev.evinStart_kept
    assumption
  · apply Dev.evinStop_kept
    assumption

theorem Dev.takeStamp_kept {u : Upto} (x0 : Dev) (x1 : Nat) (x2 : Nat) (x3 : Int) (x4 : Nat) (x5 : StampUse)
    (h1 : x0.kept u) : (Dev.takeStamp x0 x1 x2 x3 x4 x5).kept u := by
  unfold Dev.takeStamp
  refine ite_kept ?_ ?_
  · intro _
    apply Dev.setEvin_kept
    assumption
  · intro _
    apply Dev.useStamp_kept
    assumption

theorem Dev.startsFrom_kept {u : Upto} (x0 : Dev) (x1 : Nat) (x2 : Option Bool) (x3 : Int) (x4 : Bool) (x5 : Bool)
    (h1 : x0.kept u) : (Dev.startsFrom x0 x1 x2 x3 x4 x5).kept u := by
  unfold Dev.startsFrom
  apply Dev.forEach_kept
  · assumption
  · intro _ _ _
    split
    · (extract_lets; split)
      · apply Dev.takeStamp_kept
        assumption
      · assumption
    · (extract_lets; split)
      · apply Dev.takeStamp_kept
        assumption
      · assumption

theorem pulseRising_kept {u : Upto} (x0 : Nat) (x1 : Int) (x2 : Dev) (h3 : x2.kept u)
    : (pulseRising x0 x1 x2).kept u := by
  unfold pulseRising
  split
  · apply Dev.startsFrom_kept
    refine fst_kept (by assumption) ?_
    refine pulseRise_kept _ _ _ ?_
    assumption
  · refine fst_kept (by assumption) ?_
    refine pulseRise_kept _ _ _ ?_
    assumption

theorem refInversion_kept {u : Upto} (x0 : Nat) (x1 : Dev) (h2 : x1.kept u) : (refInversion x0 x1).kept u := by
  unfold refInversion
  refine ite_kept ?_ ?_
  · intro _
    assumption
  · intro _
    apply Dev.when_kept
    · apply Dev.setRefIn_kept
      assumption
    · intro _ _
      apply Dev.startQualifying_kept
      assumption

theorem Dev.reloadCores_kept {u : Upto} (x0 : Dev) (h1 : x0.kept u) : (Dev.reloadCores x0).kept u := by
  unfold Dev.reloadCores
  refine kept_mk ?_ rfl le_rfl rfl
  apply Dev.wrs_kept
  apply Dev.when_kept
  · assumption
  · intro _ _
    refine kept_mk ?_ rfl le_rfl rfl
    assumption

theorem pfcFrameRx_kept {u : Upto} (x0 : Nat) (x1 : Nat) (x2 : List Nat) (x3 : Dev) (h4 : x3.kept u)
    : (pfcFrameRx x0 x1 x2 x3).kept u := by
  unfold pfcFrameRx
  refine ite_kept ?_ ?_
  · intro _
    apply Dev.inc_kept
    apply Dev.setPaused_kept
    assumption
  · intro _
    assumption

theorem itemOverrun_kept {u : Upto} (x0 : Nat) (x1 : Bool) (x2 : PairObs) (x3 : PairObs) (x4 : Dev) (h5 : x4.kept u)
    : (itemOverrun x0 x1 x2 x3 x4).kept u := by
  unfold itemOverrun
  refine ite_kept ?_ ?_
  · intro _
    apply Dev.abandons_kept
    assumption
  · intro _
    assumption

theorem announceReceiptTimeout_kept {u : Upto} (x0 : Nat) (x1 : Dev) (h2 : x1.kept u)
    : (announceReceiptTimeout x0 x1).kept u := by
  unfold announceReceiptTimeout
  refine ite_kept ?_ ?_
  · intro _
    assumption
  · intro _
    apply Dev.bmca_kept
    apply Dev.updateClass_kept
    apply Dev.when_kept
    · apply Dev.setLink_kept
      assumption
    · intro _ _
      apply Dev.wr_kept
      assumption

theorem Dev.plyPairs_kept {u : Upto} (x0 : Dev) (x1 : Nat) (x2 : Int) (x3 : List (RawSync × RawSync))
    (h1 : x0.kept u) : (Dev.plyPairs x0 x1 x2 x3).kept u := by
  unfold Dev.plyPairs
  apply Dev.setPly_kept
  apply Dev.add32_kept
  assumption

theorem Dev.plyRelocked_kept {u : Upto} (x0 : Dev) (x1 : Nat) (h1 : x0.kept u) : (Dev.plyRelocked x0 x1).kept u := by
  unfold Dev.plyRelocked
  split
  · (dsimp only; split)
    · apply Dev.plyTo_kept
      apply Dev.setPly_kept
      assumption
    · refine ite_kept ?_ ?_
      · intro _
        apply Dev.plyTo_kept
        apply Dev.setPly_kept
        assumption
      · intro _
        apply Dev.setLink_kept
        apply Dev.toRanging_kept
        apply Dev.when_kept
        · apply Dev.plyTo_kept
          apply Dev.setPly_kept
          assumption
        · intro _ _
          apply Dev.wr_kept
          assumption
  · apply Dev.plyTo_kept
    apply Dev.setPly_kept
    assumption

theorem Dev.plyCondition_kept {u : Upto} (x0 : Dev) (x1 : Nat) (x2 : Nat) (x3 : Bool) (h1 : x0.kept u)
    : (Dev.plyCondition x0 x1 x2 x3).kept u := by
  unfold Dev.plyCondition
  apply Dev.when_kept
  · apply Dev.setPly_kept
    assumption
  · intro _ _
    apply Dev.plyAlarm_kept
    assumption

theorem Dev.plyWrite_kept {u : Upto} (x0 : Dev) (x1 : Nat) (x2 : Int) (h1 : x0.kept u)
    : (Dev.plyWrite x0 x1 x2).kept u := by
  unfold Dev.plyWrite
  apply Dev.setPly_kept
  apply Dev.when_kept
  · apply Dev.plyCondition_kept
    apply Dev.plyCondition_kept
    split
    · apply Dev.setPly_kept
      apply Dev.wr_kept
      apply Dev.wrs_kept
      assumption
    · apply Dev.wrs_kept
      assumption
  · intro _ _
    apply Dev.plyAlarm_kept
    assumption

theorem Dev.plyInForce_kept {u : Upto} (x0 : Dev) (x1 : Nat) (h1 : x0.kept u) : (Dev.plyInForce x0 x1).kept u := by
  unfold Dev.plyInForce
  apply Dev.wrs_kept
  assumption

theorem Dev.plySolve_kept {u : Upto} (x0 : Dev) (x1 : Nat) (h1 : x0.kept u) : (Dev.plySolve x0 x1).kept u := by
  unfold Dev.plySolve
  refine ite_kept ?_ ?_
  · intro _
    assumption
  · intro _
    refine ite_kept ?_ ?_
    · intro _
      apply Dev.plyIncomplete_kept
      apply Dev.when_kept
      · assumption
      · intro _ _
        apply Dev.plyAlarm_kept
        assumption
    · intro _
      split
      · assumption
      · refine ite_kept ?_ ?_
        · intro _
          apply Dev.plyPairs_kept
          assumption
        · intro _
          refine ite_kept ?_ ?_
          · intro _
            apply Dev.plyInForce_kept
            apply Dev.plyTo_kept
            apply Dev.plyWrite_kept
            apply Dev.when_kept
            · apply Dev.plyPairs_kept
              assumption
            · intro _ _
              apply Dev.plyRelocked_kept
              assumption
          · intro _
            apply Dev.when_kept
            · apply Dev.plyWrite_kept
              apply Dev.when_kept
              · apply Dev.plyPairs_kept
                assumption
              · intro _ _
                apply Dev.plyRelocked_kept
                assumption
            · intro _ _
              apply Dev.plyInForce_kept
              assumption

theorem Dev.learn_kept {u : Upto} (x0 : Dev) (x1 : LearnEvent) (h1 : x0.kept u) : (Dev.learn x0 x1).kept u := by
  unfold Dev.learn
  split
  · refine ite_kept ?_ ?_
    · intro _
      apply Dev.inc_kept
      apply Dev.commitMac_kept
      assumption
    · intro _
      assumption
  · split
    · apply Dev.inc_kept
      apply Dev.commitMac_kept
      assumption
    · apply Dev.record_kept
      apply Dev.inc_kept
      assumption

theorem Dev.learnAll_kept {u : Upto} (d : Dev) (l : List LearnEvent) (h : d.kept u) : (d.learnAll l).kept u := by
  induction l generalizing d with
  | nil => exact h
  | cons x l ih => exact ih _ (Dev.learn_kept _ _ h)

theorem delayReqRx_kept {u : Upto} (x0 : Nat) (x1 : Nat) (x2 : Int) (x3 : Nat) (x4 : RxStamp) (x5 : Dev)
    (h6 : x5.kept u) : (delayReqRx x0 x1 x2 x3 x4 x5).kept u := by
  unfold delayReqRx
  refine ite_kept ?_ ?_
  · intro _
    apply Dev.setLink_kept
    assumption
  · intro _
    assumption

theorem inversionBoundary_kept {u : Upto} (x0 : Nat) (x1 : Dev) (h2 : x1.kept u)
    : (inversionBoundary x0 x1).kept u := by
  unfold inversionBoundary
  refine ite_kept ?_ ?_
  · intro _
    assumption
  · intro _
    apply Dev.setEvin_kept
    assumption

theorem gateOpens_kept {u : Upto} (x0 : Nat) (x1 : Dev) (h2 : x1.kept u) : (gateOpens x0 x1).kept u := by
  unfold gateOpens
  refine ite_kept ?_ ?_
  · intro _
    apply Dev.setEvin_kept
    apply Dev.setEvin_kept
    assumption
  · intro _
    apply Dev.setEvin_kept
    assumption

theorem Dev.reelStop_kept {u : Upto} (x0 : Dev) (x1 : Int) (h1 : x0.kept u) : (Dev.reelStop x0 x1).kept u := by
  unfold Dev.reelStop
  apply Dev.when_kept
  · assumption
  · intro _ _
    apply Dev.reelEnter_kept
    assumption

theorem Dev.reelBoundary_kept {u : Upto} (x0 : Dev) (h1 : x0.kept u) : (Dev.reelBoundary x0).kept u := by
  unfold Dev.reelBoundary
  split
  · assumption
  · refine ite_kept ?_ ?_
    · intro _
      apply Dev.reelStop_kept
      refine kept_mk ?_ rfl le_rfl rfl
      assumption
    · intro _
      refine ite_kept ?_ ?_
      · intro _
        refine kept_mk ?_ rfl le_rfl rfl
        assumption
      · intro _
        refine ite_kept ?_ ?_
        · intro _
          refine kept_mk ?_ rfl le_rfl rfl
          apply Dev.wrs_kept
          refine kept_mk ?_ rfl le_rfl rfl
          assumption
        · intro _
          refine ite_kept ?_ ?_
          · intro _
            apply Dev.wr_kept
            refine kept_mk ?_ rfl le_rfl rfl
            assumption
          · intro _
            refine kept_mk ?_ rfl le_rfl rfl
            assumption

theorem commitTable_kept {u : Upto} (x0 : TableDue) (x1 : Dev) (h2 : x1.kept u) : (commitTable x0 x1).kept u := by
  unfold commitTable
  refine kept_mk ?_ rfl le_rfl rfl
  apply Dev.wr_kept
  assumption

theorem Dev.commitPort_kept {u : Upto} (x0 : Dev) (h1 : x0.kept u) : (Dev.commitPort x0).kept u := by
  unfold Dev.commitPort
  split
  · split
    · assumption
    · apply Dev.when_kept
      · apply Dev.runEnds_kept
        apply Dev.wr_kept
        apply Dev.dropRun_kept
        apply Dev.setCand_kept
        apply Dev.trim_kept
        apply Dev.wrs_kept
        assumption
      · intro _ _
        refine kept_mk ?_ rfl le_rfl rfl
        apply Dev.wr_kept
        assumption
  · assumption

theorem Dev.calBoundary_kept {u : Upto} (x0 : Dev) (h1 : x0.kept u) : (Dev.calBoundary x0).kept u := by
  unfold Dev.calBoundary
  apply Dev.when_kept
  · apply Dev.when_kept
    · apply Dev.commitPort_kept
      apply Dev.forEach_kept
      · refine kept_mk ?_ rfl le_rfl rfl
        assumption
      · intro _ _ _
        split
        · apply commitTable_kept
          assumption
        · assumption
    · intro _ _
      apply Dev.hostStepDone_kept
      refine kept_mk ?_ rfl le_rfl rfl
      assumption
  · intro _ _
    apply Dev.armBinRun_kept
    assumption

theorem coeffsAtBoundary_kept {u : Upto} (x0 : Nat) (x1 : Dev) (h2 : x1.kept u)
    : (coeffsAtBoundary x0 x1).kept u := by
  unfold coeffsAtBoundary
  (extract_lets; split)
  · apply Dev.setCoeffs_kept
    apply Dev.setLane_kept
    assumption
  · refine ite_kept ?_ ?_
    · intro _
      apply Dev.setCoeffs_kept
      apply Dev.setLane_kept
      assumption
    · intro _
      apply Dev.when_kept
      · apply Dev.setLane_kept
        assumption
      · intro _ _
        apply Dev.setCoeffs_kept
        assumption
  · apply Dev.when_kept
    · apply Dev.setLane_kept
      assumption
    · intro _ _
      apply Dev.setCoeffs_kept
      assumption

theorem Dev.perfBoundary_kept {u : Upto} (x0 : Dev) (x1 : Nat) (h1 : x0.kept u)
    : (Dev.perfBoundary x0 x1).kept u := by
  unfold Dev.perfBoundary
  apply Dev.forEach_kept
  · assumption
  · intro _ _ _
    refine ite_kept ?_ ?_
    · intro _
      refine kept_mk ?_ rfl le_rfl rfl
      refine Dev.perfCapture_kept _ _ _ ?_
      assumption
    · intro _
      assumption

theorem Dev.spindleSync_kept {u : Upto} (x0 : Dev) (h1 : x0.kept u) : (Dev.spindleSync x0).kept u := by
  unfold Dev.spindleSync
  refine ite_kept ?_ ?_
  · intro _
    assumption
  · intro _
    refine ite_kept ?_ ?_
    · intro _
      apply Dev.outOfService_kept
      assumption
    · intro _
      refine ite_kept ?_ ?_
      · intro _
        assumption
      · intro _
        apply Dev.setUnit_kept
        apply spindleEnters_kept
        apply Dev.wrs_kept
        apply Dev.setSpindle_kept
        assumption

theorem Dev.fwBeforeHandover_kept {u : Upto} (x0 : Dev) (x1 : Nat) (h1 : x0.kept u)
    : (Dev.fwBeforeHandover x0 x1).kept u := by
  unfold Dev.fwBeforeHandover
  refine ite_kept ?_ ?_
  · intro _
    refine ite_kept ?_ ?_
    · intro _
      apply Dev.wr_kept
      assumption
    · intro _
      refine ite_kept ?_ ?_
      · intro _
        apply Dev.wrs_kept
        apply Dev.disarm_kept
        assumption
      · intro _
        assumption
  · intro _
    assumption

theorem Dev.pulseJoins_kept {u : Upto} (x0 : Dev) (x1 : Nat) (x2 : Int) (h1 : x0.kept u)
    : (Dev.pulseJoins x0 x1 x2).kept u := by
  unfold Dev.pulseJoins
  apply Dev.setPulse_kept
  apply Dev.add32_kept
  assumption

theorem turnPulse_kept {u : Upto} (x0 : Nat) (x1 : Dev) (h2 : x1.kept u) : (turnPulse x0 x1).kept u := by
  unfold turnPulse
  refine ite_kept ?_ ?_
  · intro _
    apply Dev.pulseJoins_kept
    assumption
  · intro _
    assumption

theorem countCut_kept {u : Upto} (x0 : Dev) (h1 : x0.kept u) : (countCut x0).kept u := by
  unfold countCut
  apply Dev.when_kept
  · assumption
  · intro _ _
    apply Dev.inc_kept
    assumption

theorem sampleDifference_kept {u : Upto} (x0 : Nat) (x1 : Dev) (h2 : x1.kept u)
    : (sampleDifference x0 x1).kept u := by
  unfold sampleDifference
  apply Dev.when_kept
  · assumption
  · intro _ _
    apply Dev.wr_kept
    assumption

theorem Dev.restAtBoundary_kept {u : Upto} (x0 : Dev) (x1 : Nat) (h1 : x0.kept u)
    : (Dev.restAtBoundary x0 x1).kept u := by
  unfold Dev.restAtBoundary
  apply Dev.planeStatus_kept
  apply Dev.forEach_kept
  · apply Dev.refreshOuts_kept
    apply Dev.refreshPhase_kept
    apply Dev.forEach_kept
    · apply Dev.showAllGates_kept
      apply countCut_kept
      apply Dev.startsFrom_kept
      apply Dev.forEach_kept
      · apply Dev.perfBoundary_kept
        apply Dev.perfApply_kept
        apply Dev.spindleSync_kept
        apply Dev.fwBeforeHandover_kept
        apply Dev.forEach_kept
        · apply Dev.reelBoundary_kept
          apply Dev.calBoundary_kept
          apply Dev.forEach_kept
          · assumption
          · intro _ _ _
            apply inversionBoundary_kept
            apply gateOpens_kept
            assumption
        · intro _ _ _
          apply coeffsAtBoundary_kept
          assumption
      · intro _ _ _
        apply turnPulse_kept
        assumption
    · intro _ _ _
      apply sampleDifference_kept
      assumption
  · intro _ _ _
    apply refreshPending_kept
    assumption

theorem Dev.ptpLeaves_kept {u : Upto} (x0 : Dev) (x1 : Nat) (x2 : PtpMsg) (x3 : Int) (h1 : x0.kept u)
    : (Dev.ptpLeaves x0 x1 x2 x3).1.kept u := by
  unfold Dev.ptpLeaves
  split
  · dsimp only
    assumption
  · dsimp only
    apply Dev.setLink_kept
    assumption
  · dsimp only
    apply Dev.setLink_kept
    assumption
  · dsimp only
    assumption
  · dsimp only
    assumption

theorem Dev.countTc_kept {u : Upto} (x0 : Dev) (x1 : Frame) (x2 : CopyPlan) (x3 : Int) (h1 : x0.kept u)
    : (Dev.countTc x0 x1 x2 x3).kept u := by
  unfold Dev.countTc
  split
  · refine ite_kept ?_ ?_
    · intro _
      assumption
    · intro _
      apply Dev.when_kept
      · apply Dev.counted_kept
        apply Dev.inc_kept
        assumption
      · intro _ _
        apply Dev.inc_kept
        assumption
  · assumption

theorem Dev.startTx_kept {u : Upto} (x0 : Dev) (x1 : Nat) (x2 : Copy) (x3 : Int) (h1 : x0.kept u)
    : (Dev.startTx x0 x1 x2 x3).kept u := by
  unfold Dev.startTx
  split
  · split
    · apply Dev.setEgress_kept
      split
      · dsimp only
        refine Dev.ptpLeaves_kept _ _ _ _ ?_
        apply Dev.counted_kept
        apply Dev.counted_kept
        apply Dev.counted_kept
        assumption
      · dsimp only
        apply Dev.counted_kept
        apply Dev.counted_kept
        apply Dev.counted_kept
        assumption
    · (extract_lets; split)
      · apply Dev.counted_kept
        apply Dev.counted_kept
        apply Dev.counted_kept
        assumption
      · apply Dev.setEgress_kept
        apply Dev.countTc_kept
        apply Dev.counted_kept
        apply Dev.counted_kept
        apply Dev.counted_kept
        assumption
  · split
    · apply Dev.setEgress_kept
      split
      · dsimp only
        refine Dev.ptpLeaves_kept _ _ _ _ ?_
        apply Dev.counted_kept
        apply Dev.counted_kept
        apply Dev.counted_kept
        assumption
      · dsimp only
        apply Dev.counted_kept
        apply Dev.counted_kept
        apply Dev.counted_kept
        assumption
    · (extract_lets; split)
      · apply Dev.counted_kept
        apply Dev.counted_kept
        apply Dev.counted_kept
        assumption
      · apply Dev.setEgress_kept
        apply Dev.countTc_kept
        apply Dev.counted_kept
        apply Dev.counted_kept
        apply Dev.counted_kept
        assumption

theorem Dev.popQueue_kept {u : Upto} (x0 : Dev) (x1 : Nat) (x2 : Nat) (h1 : x0.kept u)
    : (Dev.popQueue x0 x1 x2).kept u := by
  unfold Dev.popQueue
  apply Dev.setQueue_kept
  assumption

theorem cutThroughStart_kept {u : Upto} (x0 : Nat) (x1 : Int) (x2 : Int) (x3 : Dev) (h4 : x3.kept u)
    : (cutThroughStart x0 x1 x2 x3).kept u := by
  unfold cutThroughStart
  (extract_lets; split)
  · apply Dev.until_kept
    assumption
  · refine ite_kept ?_ ?_
    · intro _
      apply Dev.until_kept
      assumption
    · intro _
      apply Dev.startTx_kept
      apply Dev.popQueue_kept
      apply Dev.until_kept
      assumption

theorem Dev.evaluate_kept {u : Upto} (x0 : Dev) (x1 : CalTarget) (h1 : x0.kept u)
    : (Dev.evaluate x0 x1).1.kept u := by
  unfold Dev.evaluate
  split
  · dsimp only
    apply Dev.calReject_kept
    assumption
  · split
    · dsimp only
      assumption
    · dsimp only
      apply Dev.calReject_kept
      assumption

theorem Dev.drrPass_kept {u : Upto} (x0 : Dev) (x1 : Nat) (x2 : List (Nat × Nat)) (h1 : x0.kept u)
    : (Dev.drrPass x0 x1 x2).1.kept u := by
  (revert h1; fun_induction Dev.drrPass x0 x1 x2 <;> intros)
  · dsimp only
    assumption
  · dsimp only
    apply Dev.setDeficit_kept
    assumption
  · apply_assumption
    apply Dev.setDeficit_kept
    assumption

theorem stepMeetsCand_kept {u : Upto} (x0 : Int) (x1 : Nat) (x2 : Dev) (h3 : x2.kept u)
    : (stepMeetsCand x0 x1 x2).kept u := by
  unfold stepMeetsCand
  refine ite_kept ?_ ?_
  · intro _
    assumption
  · intro _
    refine ite_kept ?_ ?_
    · intro _
      apply Dev.setLink_kept
      apply Dev.setCand_kept
      assumption
    · intro _
      apply Dev.setCand_kept
      assumption

theorem delayRespRx_kept {u : Upto} (x0 : Nat) (x1 : Nat) (x2 : Int) (x3 : Int) (x4 : Dev) (h5 : x4.kept u)
    : (delayRespRx x0 x1 x2 x3 x4).kept u := by
  unfold delayRespRx
  apply Dev.setLink_kept
  assumption

theorem Dev.enterAcquiring_kept {u : Upto} (x0 : Dev) (h1 : x0.kept u) : (Dev.enterAcquiring x0).kept u := by
  unfold Dev.enterAcquiring
  refine kept_mk ?_ rfl le_rfl rfl
  apply Dev.wr_kept
  apply Dev.setSpindleState_kept
  assumption

theorem Dev.ladderMoves_kept {u : Upto} (x0 : Dev) (x1 : Int) (x2 : Bool) (h1 : x0.kept u)
    : (Dev.ladderMoves x0 x1 x2).kept u := by
  unfold Dev.ladderMoves
  refine ite_kept ?_ ?_
  · intro _
    apply Dev.when_kept
    · refine kept_mk ?_ rfl le_rfl rfl
      assumption
    · intro _ _
      apply Dev.enterAcquiring_kept
      assumption
  · intro _
    refine ite_kept ?_ ?_
    · intro _
      refine ite_kept ?_ ?_
      · intro _
        refine kept_mk ?_ rfl le_rfl rfl
        apply Dev.wr_kept
        refine kept_mk ?_ rfl le_rfl rfl
        assumption
      · intro _
        refine kept_mk ?_ rfl le_rfl rfl
        assumption
    · intro _
      refine ite_kept ?_ ?_
      · intro _
        refine kept_mk ?_ rfl le_rfl rfl
        apply Dev.setSpindleState_kept
        refine kept_mk ?_ rfl le_rfl rfl
        assumption
      · intro _
        refine kept_mk ?_ rfl le_rfl rfl
        assumption

theorem signalingRx_kept {u : Upto} (x0 : Nat) (x1 : Bool) (x2 : Dev) (h3 : x2.kept u)
    : (signalingRx x0 x1 x2).kept u := by
  unfold signalingRx
  apply Dev.when_kept
  · assumption
  · intro _ _
    apply Dev.setLink_kept
    assumption

theorem Dev.refineHost_kept {u : Upto} (x0 : Dev) (h1 : x0.kept u) : (Dev.refineHost x0).kept u := by
  unfold Dev.refineHost
  apply Dev.forEach_kept
  · refine kept_mk ?_ rfl le_rfl rfl
    assumption
  · intro _ _ _
    apply Dev.when_kept
    · assumption
    · intro _ _
      apply Dev.counted_kept
      apply Dev.add32_kept
      assumption

theorem Dev.pairEdge_kept {u : Upto} (x0 : Dev) (x1 : Nat) (x2 : Int) (h1 : x0.kept u)
    : (Dev.pairEdge x0 x1 x2).kept u := by
  unfold Dev.pairEdge
  refine ite_kept ?_ ?_
  · intro _
    apply Dev.disqualify_kept
    apply Dev.setRefIn_kept
    assumption
  · intro _
    apply Dev.when_kept
    · apply Dev.setRefIn_kept
      assumption
    · intro _ _
      apply Dev.clearCause_kept
      assumption

theorem refinEdge_kept {u : Upto} (x0 : Nat) (x1 : Int) (x2 : Nat) (x3 : Dev) (h4 : x3.kept u)
    : (refinEdge x0 x1 x2 x3).kept u := by
  unfold refinEdge
  refine ite_kept ?_ ?_
  · intro _
    assumption
  · intro _
    refine ite_kept ?_ ?_
    · intro _
      apply Dev.setRefIn_kept
      assumption
    · intro _
      apply Dev.when_kept
      · apply Dev.pulse_kept
        apply Dev.setRefIn_kept
        assumption
      · intro _ _
        apply Dev.pairEdge_kept
        assumption

theorem pinFault_kept {u : Upto} (x0 : Nat) (x1 : Nat) (x2 : Dev) (h3 : x2.kept u) : (pinFault x0 x1 x2).kept u := by
  unfold pinFault
  refine ite_kept ?_ ?_
  · intro _
    assumption
  · intro _
    refine ite_kept ?_ ?_
    · intro _
      apply Dev.raise_kept
      apply Dev.wr_kept
      assumption
    · intro _
      apply Dev.evinEvent_kept
      apply Dev.wr_kept
      assumption

theorem Dev.plyStarts_kept {u : Upto} (x0 : Dev) (x1 : Nat) (h1 : x0.kept u) : (Dev.plyStarts x0 x1).kept u := by
  unfold Dev.plyStarts
  apply Dev.plyTransitions_kept
  apply Dev.plyIncomplete_kept
  apply Dev.setLink_kept
  assumption

theorem swapStream_kept {u : Upto} (x0 : Nat) (x1 : Dev) (h2 : x1.kept u) : (swapStream x0 x1).kept u := by
  unfold swapStream
  refine ite_kept ?_ ?_
  · intro _
    apply Dev.setImage_kept
    apply Dev.setStream_kept
    assumption
  · intro _
    assumption

theorem applySwap_kept {u : Upto} (x0 : Nat) (x1 : Dev) (h2 : x1.kept u) : (applySwap x0 x1).kept u := by
  unfold applySwap
  refine ite_kept ?_ ?_
  · intro _
    apply Dev.raise_kept
    apply Dev.wr_kept
    apply Dev.wr_kept
    assumption
  · intro _
    apply Dev.raise_kept
    apply Dev.inc_kept
    apply Dev.wrs_kept
    refine kept_mk ?_ rfl le_rfl rfl
    apply Dev.forEach_kept
    · apply Dev.forEach_kept
      · assumption
      · intro _ _ _
        apply swapStream_kept
        assumption
    · intro _ _ _
      apply Dev.wrs_kept
      assumption

theorem pdelayRespRx_kept {u : Upto} (x0 : Nat) (x1 : Nat) (x2 : Bool) (x3 : Int) (x4 : Int) (x5 : RxStamp)
    (x6 : Dev) (h7 : x6.kept u) : (pdelayRespRx x0 x1 x2 x3 x4 x5 x6).kept u := by
  unfold pdelayRespRx
  apply Dev.setLink_kept
  assumption

theorem Dev.perfFlags_kept {u : Upto} (x0 : Dev) (x1 : Nat) (h1 : x0.kept u) : (Dev.perfFlags x0 x1).kept u := by
  unfold Dev.perfFlags
  refine kept_mk ?_ rfl le_rfl rfl
  assumption

theorem Dev.steeredLost_kept {u : Upto} (x0 : Dev) (x1 : Int) (h1 : x0.kept u) : (Dev.steeredLost x0 x1).kept u := by
  unfold Dev.steeredLost
  apply Dev.refreshLines_kept
  refine kept_mk ?_ rfl le_rfl rfl
  apply Dev.raise_kept
  apply Dev.perfFlags_kept
  apply Dev.inc_kept
  apply Dev.wrs_kept
  assumption

theorem Dev.discardUpdate_kept {u : Upto} (x0 : Dev) (h1 : x0.kept u) : (Dev.discardUpdate x0).kept u := by
  unfold Dev.discardUpdate
  apply Dev.when_kept
  · apply Dev.when_kept
    · assumption
    · intro _ _
      refine kept_mk ?_ rfl le_rfl rfl
      apply Dev.wr_kept
      apply Dev.disarm_kept
      assumption
  · intro _ _
    apply Dev.wr_kept
    assumption

theorem Dev.faultMeetsCal_kept {u : Upto} (x0 : Dev) (h1 : x0.kept u) : (Dev.faultMeetsCal x0).kept u := by
  unfold Dev.faultMeetsCal
  refine kept_mk ?_ rfl le_rfl rfl
  apply Dev.wr_kept
  apply Dev.dropRun_kept
  assumption

theorem faultMeetsEvin_kept {u : Upto} (x0 : Nat) (x1 : Dev) (h2 : x1.kept u) : (faultMeetsEvin x0 x1).kept u := by
  unfold faultMeetsEvin
  apply Dev.setEvin_kept
  apply Dev.fitEnds_kept
  assumption

theorem Dev.faultSpool_kept {u : Upto} (x0 : Dev) (h1 : x0.kept u) : (Dev.faultSpool x0).kept u := by
  unfold Dev.faultSpool
  refine kept_mk ?_ rfl le_rfl rfl
  assumption

theorem Dev.discardRecords_kept {u : Upto} (x0 : Dev) (h1 : x0.kept u) : (Dev.discardRecords x0).kept u := by
  unfold Dev.discardRecords
  apply Dev.faultSpool_kept
  apply Dev.perfFlags_kept
  refine kept_mk ?_ rfl le_rfl rfl
  apply Dev.reelQuiet_kept
  apply Dev.faultMeetsCal_kept
  apply Dev.forEach_kept
  · assumption
  · intro _ _ _
    apply faultMeetsEvin_kept
    assumption

theorem Dev.discardQueues_kept {u : Upto} (x0 : Dev) (h1 : x0.kept u) : (Dev.discardQueues x0).kept u := by
  unfold Dev.discardQueues
  apply Dev.setLearnQueue_kept
  apply Dev.when_kept
  · refine kept_mk ?_ rfl le_rfl rfl
    assumption
  · intro _ _
    refine kept_mk ?_ rfl le_rfl rfl
    apply Dev.wr_kept
    assumption

theorem ringFault_kept {u : Upto} (x0 : Nat) (x1 : Dev) (h2 : x1.kept u) : (ringFault x0 x1).kept u := by
  unfold ringFault
  apply Dev.setRing_kept
  assumption

theorem Dev.dropFrames_kept {u : Upto} (x0 : Dev) (h1 : x0.kept u) : (Dev.dropFrames x0).kept u := by
  unfold Dev.dropFrames
  refine kept_mk ?_ rfl le_rfl rfl
  apply Dev.checkStores_kept
  apply Dev.addLanding_kept
  apply Dev.discardCopies_kept
  apply Dev.discardAll_kept
  apply Dev.forEach_kept
  · apply Dev.forEach_kept
    · assumption
    · intro _ _ _
      apply Dev.setEgress_kept
      assumption
  · intro _ _ _
    apply ringFault_kept
    assumption

theorem faultLink_kept {u : Upto} (x0 : Nat) (x1 : Dev) (h2 : x1.kept u) : (faultLink x0 x1).kept u := by
  unfold faultLink
  apply Dev.when_kept
  · apply Dev.when_kept
    · apply Dev.wrs_kept
      apply Dev.timingLost_kept
      refine kept_mk ?_ rfl le_rfl rfl
      assumption
    · intro _ _
      apply Dev.setNq_kept
      apply Dev.wrs_kept
      assumption
  · intro _ _
    apply Dev.roleDown_kept
    apply Dev.when_kept
    · assumption
    · intro _ _
      apply Dev.setLink_kept
      assumption

theorem faultLane_kept {u : Upto} (x0 : Nat) (x1 : Dev) (h2 : x1.kept u) : (faultLane x0 x1).kept u := by
  unfold faultLane
  apply Dev.when_kept
  · apply Dev.when_kept
    · assumption
    · intro _ _
      apply Dev.wr_kept
      assumption
  · intro _ _
    apply Dev.rxTo_kept
    assumption

theorem faultBox_kept {u : Upto} (x0 : Nat) (x1 : Dev) (h2 : x1.kept u) : (faultBox x0 x1).kept u := by
  unfold faultBox
  refine ite_kept ?_ ?_
  · intro _
    refine kept_mk ?_ rfl le_rfl rfl
    assumption
  · intro _
    assumption

theorem faultSession_kept {u : Upto} (x0 : Nat) (x1 : Dev) (h2 : x1.kept u) : (faultSession x0 x1).kept u := by
  unfold faultSession
  apply Dev.when_kept
  · assumption
  · intro _ _
    apply Dev.setSession_kept
    assumption

theorem Dev.discardTraffic_kept {u : Upto} (x0 : Dev) (h1 : x0.kept u) : (Dev.discardTraffic x0).kept u := by
  unfold Dev.discardTraffic
  apply Dev.forEach_kept
  · apply Dev.forEach_kept
    · apply Dev.bmca_kept
      apply Dev.forEach_kept
      · apply Dev.forEach_kept
        · apply Dev.dropFrames_kept
          assumption
        · intro _ _ _
          apply Dev.when_kept
          · assumption
          · intro _ _
            apply faultLink_kept
            assumption
      · intro _ _ _
        apply faultLane_kept
        assumption
    · intro _ _ _
      apply faultBox_kept
      assumption
  · intro _ _ _
    apply faultSession_kept
    assumption

theorem Dev.discardWork_kept {u : Upto} (x0 : Dev) (h1 : x0.kept u) : (Dev.discardWork x0).kept u := by
  unfold Dev.discardWork
  apply Dev.when_kept
  · apply Dev.forEach_kept
    · apply Dev.discardUpdate_kept
      apply Dev.discardRecords_kept
      apply Dev.discardQueues_kept
      apply Dev.discardTraffic_kept
      assumption
    · intro _ _ _
      apply Dev.setPair_kept
      assumption
  · intro _ _
    refine kept_mk ?_ rfl le_rfl rfl
    assumption

theorem deviceFault_kept {u : Upto} (x0 : Nat) (x1 : Bool) (x2 : Dev) (h3 : x2.kept u)
    : (deviceFault x0 x1 x2).kept u := by
  unfold deviceFault
  refine ite_kept ?_ ?_
  · intro _
    refine kept_mk ?_ rfl le_rfl rfl
    apply Dev.raise_kept
    apply Dev.wrs_kept
    apply Dev.inc_kept
    assumption
  · intro _
    apply Dev.planeStatus_kept
    apply Dev.refreshLines_kept
    apply Dev.discardWork_kept
    refine kept_mk ?_ rfl le_rfl rfl
    refine kept_mk ?_ rfl le_rfl rfl
    apply Dev.raise_kept
    apply Dev.wrs_kept
    apply Dev.inc_kept
    assumption

theorem Dev.bothUnlocked_kept {u : Upto} (x0 : Dev) (h1 : x0.kept u) : (Dev.bothUnlocked x0).kept u := by
  unfold Dev.bothUnlocked
  refine kept_mk ?_ rfl le_rfl rfl
  assumption

theorem steeredLoss_kept {u : Upto} (x0 : Dev) (h1 : x0.kept u) : (steeredLoss x0).kept u := by
  unfold steeredLoss
  refine ite_kept ?_ ?_
  · intro _
    assumption
  · intro _
    apply Dev.when_kept
    · apply Dev.steeredLost_kept
      assumption
    · intro _ _
      apply deviceFault_kept
      apply Dev.refreshLines_kept
      apply Dev.bothUnlocked_kept
      assumption

theorem esmcRxTimeout_kept {u : Upto} (x0 : Nat) (x1 : Dev) (h2 : x1.kept u) : (esmcRxTimeout x0 x1).kept u := by
  unfold esmcRxTimeout
  apply Dev.when_kept
  · assumption
  · intro _ _
    apply Dev.inc_kept
    apply Dev.wr_kept
    assumption

theorem Dev.spoolStores_kept {u : Upto} (x0 : Dev) (x1 : List (Nat × Byte)) (h1 : x0.kept u)
    : (Dev.spoolStores x0 x1).kept u := by
  unfold Dev.spoolStores
  refine kept_mk ?_ rfl le_rfl rfl
  assumption

theorem Dev.spoolCall_kept {u : Upto} (x0 : Dev) (x1 : List (Nat × Byte)) (x2 : Nat) (x3 : SpoolRun → Dev → Dev)
    (h1 : x0.kept u) (h4 : ∀ y1 y2, Dev.kept u y2 → (x3 y1 y2).kept u) : (Dev.spoolCall x0 x1 x2 x3).kept u := by
  unfold Dev.spoolCall
  split
  · assumption
  · apply h4
    apply Dev.counted_kept
    refine kept_mk ?_ rfl le_rfl rfl
    apply Dev.spoolStores_kept
    assumption

theorem Dev.spoolNext_kept {u : Upto} (x0 : Dev) (h1 : x0.kept u) : (Dev.spoolNext x0).kept u := by
  unfold Dev.spoolNext
  split
  · apply Dev.spoolFinish_kept
    assumption
  · refine ite_kept ?_ ?_
    · intro _
      apply Dev.spoolFinish_kept
      apply Dev.spoolSkip_kept
      assumption
    · intro _
      refine kept_mk ?_ rfl le_rfl rfl
      assumption

theorem sysDone_kept {u : Upto} (x0 : List (Nat × Byte)) (x1 : Nat) (x2 : Dev) (h3 : x2.kept u)
    : (sysDone x0 x1 x2).kept u := by
  unfold sysDone
  apply Dev.spoolCall_kept
  · assumption
  · intro _ _ _
    apply Dev.spoolNext_kept
    apply Dev.spoolEnds_kept
    assumption

theorem waitExpiry_kept {u : Upto} (x0 : Nat) (x1 : Dev) (h2 : x1.kept u) : (waitExpiry x0 x1).kept u := by
  unfold waitExpiry
  refine ite_kept ?_ ?_
  · intro _
    apply Dev.setCand_kept
    assumption
  · intro _
    assumption

theorem nqMarkerLoss_kept {u : Upto} (x0 : Nat) (x1 : Nat) (x2 : Dev) (h3 : x2.kept u)
    : (nqMarkerLoss x0 x1 x2).kept u := by
  unfold nqMarkerLoss
  refine ite_kept ?_ ?_
  · intro _
    apply Dev.when_kept
    · apply Dev.setNq_kept
      assumption
    · intro _ _
      apply Dev.linkDown_kept
      assumption
  · intro _
    assumption

theorem Dev.boxTransfer_kept {u : Upto} (x0 : Dev) (x1 : Nat) (x2 : Option Transfer) (h1 : x0.kept u)
    : (Dev.boxTransfer x0 x1 x2).kept u := by
  unfold Dev.boxTransfer
  apply Dev.setBox_kept
  assumption

theorem Dev.countTx_kept {u : Upto} (x0 : Dev) (x1 : Nat) (x2 : Nat) (x3 : List Byte) (x4 : Bool) (x5 : Bool)
    (x6 : Bool) (x7 : Bool) (h1 : x0.kept u) : (Dev.countTx x0 x1 x2 x3 x4 x5 x6 x7).kept u := by
  unfold Dev.countTx
  refine ite_kept ?_ ?_
  · intro _
    apply Dev.count_kept
    apply Dev.when_kept
    · apply Dev.count_kept
      apply Dev.count_kept
      assumption
    · intro _ _
      apply Dev.count_kept
      assumption
  · intro _
    refine ite_kept ?_ ?_
    · intro _
      apply Dev.count_kept
      apply Dev.when_kept
      · apply Dev.count_kept
        apply Dev.count_kept
        assumption
      · intro _ _
        apply Dev.count_kept
        assumption
    · intro _
      apply Dev.when_kept
      · apply Dev.when_kept
        · apply Dev.count_kept
          apply Dev.count_kept
          assumption
        · intro _ _
          apply Dev.count_kept
          assumption
      · intro _ _
        apply Dev.count_kept
        apply Dev.count_kept
        assumption

theorem Dev.delivered_kept {u : Upto} (x0 : Dev) (x1 : Copy) (h1 : x0.kept u) : (Dev.delivered x0 x1).kept u := by
  unfold Dev.delivered
  apply Dev.freeCopy_kept
  apply Dev.countTx_kept
  assumption

theorem Dev.fill_kept {u : Upto} (x0 : Dev) (x1 : Nat) (x2 : Copy) (x3 : List Byte) (x4 : Nat) (x5 : Nat)
    (h1 : x0.kept u) : (Dev.fill x0 x1 x2 x3 x4 x5).kept u := by
  (revert h1; fun_induction Dev.fill x0 x1 x2 x3 x4 x5 <;> intros)
  · apply Dev.setRing_kept
    assumption
  · apply Dev.delivered_kept
    apply Dev.setRing_kept
    apply Dev.setRing_kept
    assumption
  · apply_assumption
    apply Dev.setRing_kept
    assumption

theorem holdOffExpiry_kept {u : Upto} (x0 : Nat) (x1 : Dev) (h2 : x1.kept u) : (holdOffExpiry x0 x1).kept u := by
  unfold holdOffExpiry
  apply refreshCand_kept
  apply Dev.when_kept
  · apply Dev.setCand_kept
    assumption
  · intro _ _
    apply Dev.clearCause_kept
    assumption

theorem Dev.foldPort_kept {u : Upto} (x0 : Dev) (x1 : Nat) (h1 : x0.kept u) : (Dev.foldPort x0 x1).kept u := by
  unfold Dev.foldPort
  apply Dev.wrs_kept
  assumption

theorem syncReceiptLoss_kept {u : Upto} (x0 : Nat) (x1 : Dev) (h2 : x1.kept u) : (syncReceiptLoss x0 x1).kept u := by
  unfold syncReceiptLoss
  apply Dev.when_kept
  · assumption
  · intro _ _
    apply Dev.toRanging_kept
    assumption

theorem Dev.linkUp_kept {u : Upto} (x0 : Dev) (x1 : Nat) (x2 : Nat) (h1 : x0.kept u)
    : (Dev.linkUp x0 x1 x2).kept u := by
  unfold Dev.linkUp
  apply Dev.when_kept
  · apply Dev.when_kept
    · apply Dev.quadEvent_kept
      apply Dev.wrs_kept
      assumption
    · intro _ _
      apply Dev.setLink_kept
      apply Dev.foldPort_kept
      apply Dev.setNq_kept
      apply Dev.wrs_kept
      apply Dev.wr_kept
      assumption
  · intro _ _
    apply Dev.wr_kept
    assumption

theorem Dev.fromHostWord_kept {u : Upto} (x0 : Dev) (h1 : x0.kept u) : (Dev.fromHostWord x0).kept u := by
  unfold Dev.fromHostWord
  (extract_lets; split)
  · refine kept_mk ?_ rfl le_rfl rfl
    refine kept_mk ?_ rfl le_rfl rfl
    assumption
  · refine kept_mk ?_ rfl le_rfl rfl
    assumption

theorem Dev.servoStarts_kept {u : Upto} (x0 : Dev) (h1 : x0.kept u) : (Dev.servoStarts x0).kept u := by
  unfold Dev.servoStarts
  refine ite_kept ?_ ?_
  · intro _
    refine ite_kept ?_ ?_
    · intro _
      apply Dev.when_kept
      · apply Dev.when_kept
        · apply Dev.enterAcquiring_kept
          apply Dev.fromHostWord_kept
          refine kept_mk ?_ rfl le_rfl rfl
          assumption
        · intro _ _
          apply Dev.raise_kept
          apply Dev.wr_kept
          assumption
      · intro _ _
        apply Dev.raise_kept
        apply Dev.wr_kept
        assumption
    · intro _
      apply Dev.fromHostWord_kept
      refine kept_mk ?_ rfl le_rfl rfl
      assumption
  · intro _
    refine kept_mk ?_ rfl le_rfl rfl
    assumption

theorem Dev.adaptStarts_kept {u : Upto} (x0 : Dev) (x1 : Nat) (h1 : x0.kept u) : (Dev.adaptStarts x0 x1).kept u := by
  unfold Dev.adaptStarts
  (extract_lets; split)
  · apply Dev.when_kept
    · apply Dev.setLane_kept
      assumption
    · intro _ _
      apply Dev.setCoeffs_kept
      assumption
  · apply Dev.setLane_kept
    assumption

theorem evinStarts_kept {u : Upto} (x0 : Nat) (x1 : Dev) (h2 : x1.kept u) : (evinStarts x0 x1).kept u := by
  unfold evinStarts
  apply refreshFifo_kept
  apply Dev.windowKept
  apply Dev.wrs_kept
  apply Dev.setEvin_kept
  assumption

theorem Dev.calStarts_kept {u : Upto} (x0 : Dev) (h1 : x0.kept u) : (Dev.calStarts x0).kept u := by
  unfold Dev.calStarts
  refine kept_mk ?_ rfl le_rfl rfl
  assumption

theorem Dev.txRelock_kept {u : Upto} (x0 : Dev) (x1 : Nat) (h1 : x0.kept u) : (Dev.txRelock x0 x1).kept u := by
  unfold Dev.txRelock
  split
  · (extract_lets; split)
    · apply Dev.foldPort_kept
      apply Dev.setLane_kept
      apply Dev.drawn_kept
      assumption
    · apply Dev.setLane_kept
      apply Dev.drawn_kept
      assumption
  · (extract_lets; split)
    · apply Dev.foldPort_kept
      apply Dev.setLane_kept
      apply Dev.drawn_kept
      assumption
    · apply Dev.setLane_kept
      apply Dev.drawn_kept
      assumption

theorem Dev.txStart_kept {u : Upto} (x0 : Dev) (x1 : Nat) (h1 : x0.kept u) : (Dev.txStart x0 x1).kept u := by
  unfold Dev.txStart
  refine ite_kept ?_ ?_
  · intro _
    apply Dev.txRelock_kept
    apply Dev.wr_kept
    assumption
  · intro _
    assumption

theorem Dev.laneEnabled_kept {u : Upto} (x0 : Dev) (x1 : Nat) (h1 : x0.kept u) : (Dev.laneEnabled x0 x1).kept u := by
  unfold Dev.laneEnabled
  apply Dev.when_kept
  · assumption
  · intro _ _
    apply Dev.rxTo_kept
    assumption

theorem Dev.spoolStarts_kept {u : Upto} (x0 : Dev) (h1 : x0.kept u) : (Dev.spoolStarts x0).kept u := by
  unfold Dev.spoolStarts
  refine kept_mk ?_ rfl le_rfl rfl
  assumption

theorem Dev.blockStarts_kept {u : Upto} (x0 : Dev) (x1 : BlockId) (h1 : x0.kept u)
    : (Dev.blockStarts x0 x1).kept u := by
  unfold Dev.blockStarts
  split
  · apply Dev.servoStarts_kept
    assumption
  · apply Dev.adaptStarts_kept
    assumption
  · apply refreshCand_kept
    assumption
  · apply Dev.wr_kept
    assumption
  · apply Dev.wrB_kept
    assumption
  · apply Dev.plyStarts_kept
    assumption
  · apply Dev.refreshLines_kept
    assumption
  · apply refreshOut_kept
    apply outStarts_kept
    assumption
  · apply refreshOut_kept
    apply outStarts_kept
    assumption
  · apply evinStarts_kept
    assumption
  · apply Dev.calStarts_kept
    assumption
  · apply Dev.wr_kept
    assumption
  · apply Dev.forEach_kept
    · assumption
    · intro _ _ _
      apply Dev.txStart_kept
      assumption
  · apply Dev.laneEnabled_kept
    assumption
  · apply Dev.retune_kept
    assumption
  · apply Dev.spoolStarts_kept
    assumption
  · apply Dev.showAllGates_kept
    assumption
  · assumption
  · assumption
  · assumption
  · assumption
  · assumption
  · assumption
  · assumption
  · assumption
  · assumption
  · assumption
  · assumption
  · assumption
  · assumption
  · assumption
  · assumption
  · assumption

theorem Dev.blockResumes_kept {u : Upto} (x0 : Dev) (x1 : BlockId) (h1 : x0.kept u)
    : (Dev.blockResumes x0 x1).kept u := by
  unfold Dev.blockResumes
  split
  · apply refreshOut_kept
    assumption
  · apply refreshOut_kept
    apply Dev.singlePassed_kept
    assumption
  · assumption
  · refine kept_mk ?_ rfl le_rfl rfl
    assumption
  · apply Dev.blockStarts_kept
    assumption

theorem blockReady_kept {u : Upto} (x0 : BlockId) (x1 : Dev) (h2 : x1.kept u) : (blockReady x0 x1).kept u := by
  unfold blockReady
  refine ite_kept ?_ ?_
  · intro _
    refine ite_kept ?_ ?_
    · intro _
      apply Dev.blockResumes_kept
      refine kept_mk ?_ rfl le_rfl rfl
      apply Dev.setBlk_kept
      assumption
    · intro _
      apply Dev.blockStarts_kept
      refine kept_mk ?_ rfl le_rfl rfl
      apply Dev.setBlk_kept
      assumption
  · intro _
    assumption

theorem Dev.drrRounds_kept {u : Upto} (x0 : Dev) (x1 : Nat) (x2 : List (Nat × Nat)) (x3 : Nat) (h1 : x0.kept u)
    : (Dev.drrRounds x0 x1 x2 x3).1.kept u := by
  (revert h1; fun_induction Dev.drrRounds x0 x1 x2 x3 <;> intros)
  · dsimp only
    assumption
  · dsimp only
    refine fst_kept (by assumption) ?_
    refine Dev.drrPass_kept _ _ _ ?_
    assumption
  · apply_assumption
    refine fst_kept (by assumption) ?_
    refine Dev.drrPass_kept _ _ _ ?_
    assumption

theorem Dev.selectClass_kept {u : Upto} (x0 : Dev) (x1 : Nat) (x2 : Int) (h1 : x0.kept u)
    : (Dev.selectClass x0 x1 x2).1.kept u := by
  unfold Dev.selectClass
  (extract_lets; split)
  · dsimp only
    assumption
  · refine ite_fst_kept ?_ ?_
    · intro _
      dsimp only
      assumption
    · intro _
      refine ite_fst_kept ?_ ?_
      · intro _
        dsimp only
        assumption
      · intro _
        refine Dev.drrRounds_kept _ _ _ _ ?_
        assumption

theorem fecUncorrectable_kept {u : Upto} (x0 : Nat) (x1 : Nat) (x2 : Dev) (h3 : x2.kept u)
    : (fecUncorrectable x0 x1 x2).kept u := by
  unfold fecUncorrectable
  apply Dev.quadEvent_kept
  apply Dev.inc_kept
  apply Dev.add32_kept
  assumption

theorem histogramComplete_kept {u : Upto} (x0 : Nat) (x1 : List Nat) (x2 : List Nat) (x3 : Dev) (h4 : x3.kept u)
    : (histogramComplete x0 x1 x2 x3).kept u := by
  unfold histogramComplete
  (extract_lets; split)
  · refine ite_kept ?_ ?_
    · intro _
      refine kept_mk ?_ rfl le_rfl rfl
      apply Dev.wr_kept
      apply Dev.mapTargets_kept
      assumption
    · intro _
      apply Dev.mapTargets_kept
      assumption
  · apply Dev.mapTargets_kept
    assumption

theorem qualifyElapsed_kept {u : Upto} (x0 : Nat) (x1 : Dev) (h2 : x1.kept u) : (qualifyElapsed x0 x1).kept u := by
  unfold qualifyElapsed
  refine ite_kept ?_ ?_
  · intro _
    apply Dev.setZero_kept
    apply Dev.setQual_kept
    assumption
  · intro _
    assumption

theorem Dev.refineLink_kept {u : Upto} (x0 : Dev) (x1 : Nat) (h1 : x0.kept u) : (Dev.refineLink x0 x1).kept u := by
  unfold Dev.refineLink
  apply Dev.setLink_kept
  apply Dev.counted_kept
  apply Dev.add32_kept
  assumption

theorem Dev.updateRatio_kept {u : Upto} (x0 : Dev) (x1 : Nat) (h1 : x0.kept u) : (Dev.updateRatio x0 x1).kept u := by
  unfold Dev.updateRatio
  refine ite_kept ?_ ?_
  · intro _
    apply Dev.setWhorl_kept
    apply Dev.wr_kept
    assumption
  · intro _
    assumption

theorem Dev.pathStep_kept {u : Upto} (x0 : Dev) (x1 : Nat) (x2 : Nat) (x3 : Int) (h1 : x0.kept u)
    : (Dev.pathStep x0 x1 x2 x3).kept u := by
  unfold Dev.pathStep
  refine ite_kept ?_ ?_
  · intro _
    apply Dev.setLink_kept
    apply Dev.raise_kept
    apply Dev.wrs_kept
    apply Dev.inc_kept
    assumption
  · intro _
    apply Dev.wrs_kept
    apply Dev.setLink_kept
    apply Dev.when_kept
    · apply Dev.raise_kept
      apply Dev.wrs_kept
      apply Dev.inc_kept
      assumption
    · intro _ _
      apply Dev.holdMedian_kept
      assumption

theorem Dev.detectWhorl_kept {u : Upto} (x0 : Dev) (x1 : Nat) (h1 : x0.kept u) : (Dev.detectWhorl x0 x1).kept u := by
  unfold Dev.detectWhorl
  (extract_lets; split)
  · refine ite_kept ?_ ?_
    · intro _
      apply Dev.pathStep_kept
      apply Dev.setWhorl_kept
      assumption
    · intro _
      assumption
  · assumption

theorem Dev.toTracking_kept {u : Upto} (x0 : Dev) (x1 : Nat) (h1 : x0.kept u) : (Dev.toTracking x0 x1).kept u := by
  unfold Dev.toTracking
  apply Dev.when_kept
  · apply Dev.wr_kept
    assumption
  · intro _ _
    split
    · refine ite_kept ?_ ?_
      · intro _
        assumption
      · intro _
        apply Dev.bTakesRole_kept
        apply Dev.wr_kept
        assumption
    · apply Dev.wr_kept
      assumption

theorem Dev.linkTransitions_kept {u : Upto} (x0 : Dev) (x1 : Nat) (h1 : x0.kept u)
    : (Dev.linkTransitions x0 x1).kept u := by
  unfold Dev.linkTransitions
  refine ite_kept ?_ ?_
  · intro _
    apply Dev.toIdle_kept
    assumption
  · intro _
    refine ite_kept ?_ ?_
    · intro _
      apply Dev.when_kept
      · assumption
      · intro _ _
        apply Dev.wr_kept
        assumption
    · intro _
      refine ite_kept ?_ ?_
      · intro _
        apply Dev.when_kept
        · assumption
        · intro _ _
          apply Dev.toRanging_kept
          assumption
      · intro _
        refine ite_kept ?_ ?_
        · intro _
          refine ite_kept ?_ ?_
          · intro _
            split
            · apply Dev.pathStep_kept
              assumption
            · apply Dev.toTracking_kept
              assumption
          · intro _
            assumption
        · intro _
          refine ite_kept ?_ ?_
          · intro _
            apply Dev.when_kept
            · assumption
            · intro _ _
              apply Dev.toRanging_kept
              assumption
          · intro _
            assumption

theorem Dev.useSync_kept {u : Upto} (x0 : Dev) (x1 : Nat) (x2 : SyncX) (h1 : x0.kept u)
    : (Dev.useSync x0 x1 x2).kept u := by
  unfold Dev.useSync
  apply Dev.setLink_kept
  apply Dev.inc_kept
  assumption

theorem Dev.updateD_kept {u : Upto} (x0 : Dev) (x1 : Nat) (h1 : x0.kept u) : (Dev.updateD x0 x1).kept u := by
  unfold Dev.updateD
  refine ite_kept ?_ ?_
  · intro _
    assumption
  · intro _
    apply Dev.updateA_kept
    apply Dev.wrs_kept
    assumption

theorem Dev.roundTrip_kept {u : Upto} (x0 : Dev) (x1 : Nat) (x2 : Int) (h1 : x0.kept u)
    : (Dev.roundTrip x0 x1 x2).kept u := by
  unfold Dev.roundTrip
  refine ite_kept ?_ ?_
  · intro _
    apply Dev.pathStep_kept
    apply Dev.inc_kept
    assumption
  · intro _
    apply Dev.updateD_kept
    apply Dev.setLink_kept
    apply Dev.inc_kept
    assumption

theorem Dev.useDreq_kept {u : Upto} (x0 : Dev) (x1 : Nat) (x2 : DreqX) (h1 : x0.kept u)
    : (Dev.useDreq x0 x1 x2).kept u := by
  unfold Dev.useDreq
  split
  · refine ite_kept ?_ ?_
    · intro _
      apply Dev.roundTrip_kept
      assumption
    · intro _
      apply Dev.inc_kept
      assumption
  · apply Dev.inc_kept
    assumption

theorem Dev.usePdelay_kept {u : Upto} (x0 : Dev) (x1 : Nat) (x2 : PdelayX) (h1 : x0.kept u)
    : (Dev.usePdelay x0 x1 x2).kept u := by
  unfold Dev.usePdelay
  split
  · refine ite_kept ?_ ?_
    · intro _
      apply Dev.roundTrip_kept
      assumption
    · intro _
      apply Dev.inc_kept
      assumption
  · assumption

theorem Dev.useExchanges_kept {u : Upto} (x0 : Dev) (x1 : Nat) (h1 : x0.kept u)
    : (Dev.useExchanges x0 x1).kept u := by
  unfold Dev.useExchanges
  refine foldl_kept _ _ _ ?_ ?_
  · refine foldl_kept _ _ _ ?_ ?_
    · refine foldl_kept _ _ _ ?_ ?_
      · apply Dev.setLink_kept
        assumption
      · intro _ _ _
        apply Dev.useSync_kept
        assumption
    · intro _ _ _
      apply Dev.useDreq_kept
      assumption
  · intro _ _ _
    apply Dev.usePdelay_kept
    assumption

theorem Dev.record2_kept {u : Upto} (x0 : Dev) (x1 : Nat) (x2 : RawSync) (h1 : x0.kept u)
    : (Dev.record2 x0 x1 x2).kept u := by
  unfold Dev.record2
  refine ite_kept ?_ ?_
  · intro _
    apply Dev.setLink_kept
    apply Dev.wrs_kept
    split
    · apply Dev.wr_kept
      assumption
    · assumption
  · intro _
    refine ite_kept ?_ ?_
    · intro _
      apply Dev.wr_kept
      assumption
    · intro _
      assumption

theorem Dev.masterDelay_kept {u : Upto} (x0 : Dev) (x1 : Nat) (h1 : x0.kept u) : (Dev.masterDelay x0 x1).kept u := by
  unfold Dev.masterDelay
  apply Dev.when_kept
  · assumption
  · intro _ _
    apply Dev.updateA_kept
    apply Dev.wrs_kept
    assumption

theorem linkUpdatePort_kept {u : Upto} (p : Nat) (d : Dev) (h : d.kept u) : (linkUpdatePort p d).kept u := by
  unfold linkUpdatePort
  refine ite_kept (fun _ => Dev.refineLink_kept _ _ h) fun _ => Dev.masterDelay_kept _ _ ?_
  have h1 := Dev.linkTransitions_kept _ p (Dev.useExchanges_kept _ p (Dev.refineLink_kept _ p
    (Dev.when_kept d (decide (1 ≤ d.linkState p)) (fun d => (d.detectWhorl p).updateRatio p) h
      fun d hd => Dev.updateRatio_kept _ _ (Dev.detectWhorl_kept _ _ hd))))
  generalize ((((d.when (decide (1 ≤ d.linkState p)) fun d => (d.detectWhorl p).updateRatio p).refineLink p).useExchanges p).linkTransitions p) = e at h1 ⊢
  split
  · exact Dev.when_kept _ _ _ h1 fun d hd => Dev.record2_kept _ _ _ hd
  · exact h1

theorem maquetteCopyComplete_kept {u : Upto} (x0 : Dev) (h1 : x0.kept u) : (maquetteCopyComplete x0).kept u := by
  unfold maquetteCopyComplete
  refine ite_kept ?_ ?_
  · intro _
    refine kept_mk ?_ rfl le_rfl rfl
    apply Dev.wr_kept
    assumption
  · intro _
    assumption

theorem Dev.boxHead_kept {u : Upto} (x0 : Dev) (x1 : Nat) (x2 : Nat) (x3 : MailboxSt → Dev → Dev) (h1 : x0.kept u)
    (h4 : ∀ y1 y2, Dev.kept u y2 → (x3 y1 y2).kept u) : (Dev.boxHead x0 x1 x2 x3).kept u := by
  unfold Dev.boxHead
  split
  · apply Dev.when_kept
    · assumption
    · intro _ _
      apply h4
      apply Dev.counted_kept
      refine kept_mk ?_ rfl le_rfl rfl
      assumption
  · assumption

theorem nqTxAt_kept {u : Upto} (x0 : Nat) (x1 : Bool) (x2 : Dev) (h3 : x2.kept u) : (nqTxAt x0 x1 x2).kept u := by
  unfold nqTxAt
  refine ite_kept ?_ ?_
  · intro _
    split
    · assumption
    · apply Dev.forEach_kept
      · apply Dev.setNq_kept
        apply Dev.wr_kept
        assumption
      · intro _ _ _
        apply Dev.when_kept
        · assumption
        · intro _ _
          apply Dev.rxTo_kept
          assumption
  · intro _
    split
    · assumption
    · refine ite_kept ?_ ?_
      · intro _
        apply Dev.setNq_kept
        apply Dev.wr_kept
        assumption
      · intro _
        apply Dev.quadEvent_kept
        apply Dev.inc_kept
        apply Dev.forEach_kept
        · apply Dev.setNq_kept
          apply Dev.wr_kept
          assumption
        · intro _ _ _
          apply Dev.when_kept
          · assumption
          · intro _ _
            apply Dev.wr_kept
            assumption

theorem Dev.boxDone_kept {u : Upto} (x0 : Dev) (x1 : Nat) (x2 : Nat) (x3 : List Byte) (x4 : Nat) (x5 : Nat)
    (h1 : x0.kept u) : (Dev.boxDone x0 x1 x2 x3 x4 x5).kept u := by
  unfold Dev.boxDone
  apply Dev.setBox_kept
  assumption

theorem Dev.boxStatus_kept {u : Upto} (x0 : Dev) (x1 : Nat) (x2 : Nat) (h1 : x0.kept u)
    : (Dev.boxStatus x0 x1 x2).kept u := by
  unfold Dev.boxStatus
  apply Dev.boxDone_kept
  assumption

theorem mailboxDescribe_kept {u : Upto} (x0 : Nat) (x1 : Dev) (h2 : x1.kept u) : (mailboxDescribe x0 x1).kept u := by
  unfold mailboxDescribe
  apply Dev.boxHead_kept
  · assumption
  · intro _ _ _
    split
    · apply Dev.boxDone_kept
      assumption
    · apply Dev.boxStatus_kept
      assumption

theorem faultOf_kept {u : Upto} (r : Dev × Option (Nat × Bool)) (h : r.1.kept u) : (faultOf r).kept u := by
  unfold faultOf
  split
  · exact deviceFault_kept _ _ _ h
  · exact h

theorem Dev.sendSlot_kept {u : Upto} (x0 : Dev) (x1 : Nat) (x2 : Nat) (x3 : Nat) (h1 : x0.kept u)
    : (Dev.sendSlot x0 x1 x2 x3).kept u := by
  unfold Dev.sendSlot
  apply Dev.setUnit_kept
  assumption

theorem Dev.removeStandby_kept {u : Upto} (x0 : Dev) (x1 : Nat) (x2 : Nat) (x3 : Bool) (h1 : x0.kept u)
    : (Dev.removeStandby x0 x1 x2 x3).kept u := by
  unfold Dev.removeStandby
  apply Dev.when_kept
  · apply Dev.record_kept
    apply Dev.setPair_kept
    assumption
  · intro _ _
    apply Dev.wr_kept
    assumption

theorem Dev.arbitrate_kept {u : Upto} (x0 : Dev) (x1 : Nat) (x2 : PairHeard) (x3 : Bool) (h1 : x0.kept u)
    : (Dev.arbitrate x0 x1 x2 x3).1.kept u := by
  unfold Dev.arbitrate
  refine ite_fst_kept ?_ ?_
  · intro _
    dsimp only
    refine kept_mk ?_ rfl le_rfl rfl
    apply Dev.heartbeatPath_kept
    apply Dev.heartbeatPath_kept
    apply Dev.drawn_kept
    apply Dev.when_kept
    · apply Dev.sendSlot_kept
      assumption
    · intro _ _
      apply Dev.sendSlot_kept
      assumption
  · intro _
    refine ite_fst_kept ?_ ?_
    · intro _
      dsimp only
      apply Dev.when_kept
      · apply Dev.when_kept
        · apply Dev.when_kept
          · apply Dev.heartbeatPath_kept
            apply Dev.heartbeatPath_kept
            apply Dev.drawn_kept
            apply Dev.when_kept
            · apply Dev.sendSlot_kept
              assumption
            · intro _ _
              apply Dev.sendSlot_kept
              assumption
          · intro _ _
            apply Dev.setPair_kept
            apply Dev.setUnit_kept
            apply Dev.wr_kept
            apply Dev.inc_kept
            assumption
        · intro _ _
          apply Dev.setUnit_kept
          assumption
      · intro _ _
        apply Dev.inStep_kept
        assumption
    · intro _
      refine ite_fst_kept ?_ ?_
      · intro _
        dsimp only
        apply Dev.setPair_kept
        apply Dev.when_kept
        · apply Dev.when_kept
          · apply Dev.when_kept
            · apply Dev.heartbeatPath_kept
              apply Dev.heartbeatPath_kept
              apply Dev.drawn_kept
              apply Dev.when_kept
              · apply Dev.sendSlot_kept
                assumption
              · intro _ _
                apply Dev.sendSlot_kept
                assumption
            · intro _ _
              apply Dev.setPair_kept
              apply Dev.setUnit_kept
              apply Dev.wr_kept
              apply Dev.inc_kept
              assumption
          · intro _ _
            apply Dev.setUnit_kept
            assumption
        · intro _ _
          apply Dev.inStep_kept
          assumption
      · intro _
        refine ite_fst_kept ?_ ?_
        · intro _
          dsimp only
          apply Dev.raise_kept
          apply Dev.wr_kept
          apply Dev.when_kept
          · apply Dev.when_kept
            · apply Dev.when_kept
              · apply Dev.heartbeatPath_kept
                apply Dev.heartbeatPath_kept
                apply Dev.drawn_kept
                apply Dev.when_kept
                · apply Dev.sendSlot_kept
                  assumption
                · intro _ _
                  apply Dev.sendSlot_kept
                  assumption
              · intro _ _
                apply Dev.setPair_kept
                apply Dev.setUnit_kept
                apply Dev.wr_kept
                apply Dev.inc_kept
                assumption
            · intro _ _
              apply Dev.setUnit_kept
              assumption
          · intro _ _
            apply Dev.inStep_kept
            assumption
        · intro _
          refine ite_fst_kept ?_ ?_
          · intro _
            dsimp only
            apply Dev.when_kept
            · apply Dev.when_kept
              · apply Dev.when_kept
                · apply Dev.heartbeatPath_kept
                  apply Dev.heartbeatPath_kept
                  apply Dev.drawn_kept
                  apply Dev.when_kept
                  · apply Dev.sendSlot_kept
                    assumption
                  · intro _ _
                    apply Dev.sendSlot_kept
                    assumption
                · intro _ _
                  apply Dev.setPair_kept
                  apply Dev.setUnit_kept
                  apply Dev.wr_kept
                  apply Dev.inc_kept
                  assumption
              · intro _ _
                apply Dev.setUnit_kept
                assumption
            · intro _ _
              apply Dev.inStep_kept
              assumption
          · intro _
            refine ite_fst_kept ?_ ?_
            · intro _
              dsimp only
              apply Dev.setPair_kept
              apply Dev.when_kept
              · apply Dev.when_kept
                · apply Dev.when_kept
                  · apply Dev.heartbeatPath_kept
                    apply Dev.heartbeatPath_kept
                    apply Dev.drawn_kept
                    apply Dev.when_kept
                    · apply Dev.sendSlot_kept
                      assumption
                    · intro _ _
                      apply Dev.sendSlot_kept
                      assumption
                  · intro _ _
                    apply Dev.setPair_kept
                    apply Dev.setUnit_kept
                    apply Dev.wr_kept
                    apply Dev.inc_kept
                    assumption
                · intro _ _
                  apply Dev.setUnit_kept
                  assumption
              · intro _ _
                apply Dev.inStep_kept
                assumption
            · intro _
              refine ite_fst_kept ?_ ?_
              · intro _
                dsimp only
                apply Dev.removeStandby_kept
                apply Dev.when_kept
                · apply Dev.when_kept
                  · apply Dev.when_kept
                    · apply Dev.heartbeatPath_kept
                      apply Dev.heartbeatPath_kept
                      apply Dev.drawn_kept
                      apply Dev.when_kept
                      · apply Dev.sendSlot_kept
                        assumption
                      · intro _ _
                        apply Dev.sendSlot_kept
                        assumption
                    · intro _ _
                      apply Dev.setPair_kept
                      apply Dev.setUnit_kept
                      apply Dev.wr_kept
                      apply Dev.inc_kept
                      assumption
                  · intro _ _
                    apply Dev.setUnit_kept
                    assumption
                · intro _ _
                  apply Dev.inStep_kept
                  assumption
              · intro _
                refine ite_fst_kept ?_ ?_
                · intro _
                  dsimp only
                  apply Dev.removeStandby_kept
                  apply Dev.when_kept
                  · apply Dev.when_kept
                    · apply Dev.when_kept
                      · apply Dev.heartbeatPath_kept
                        apply Dev.heartbeatPath_kept
                        apply Dev.drawn_kept
                        apply Dev.when_kept
                        · apply Dev.sendSlot_kept
                          assumption
                        · intro _ _
                          apply Dev.sendSlot_kept
                          assumption
                      · intro _ _
                        apply Dev.setPair_kept
                        apply Dev.setUnit_kept
                        apply Dev.wr_kept
                        apply Dev.inc_kept
                        assumption
                    · intro _ _
                      apply Dev.setUnit_kept
                      assumption
                  · intro _ _
                    apply Dev.inStep_kept
                    assumption
                · intro _
                  refine ite_fst_kept ?_ ?_
                  · intro _
                    dsimp only
                    apply Dev.removeStandby_kept
                    apply Dev.when_kept
                    · apply Dev.when_kept
                      · apply Dev.when_kept
                        · apply Dev.heartbeatPath_kept
                          apply Dev.heartbeatPath_kept
                          apply Dev.drawn_kept
                          apply Dev.when_kept
                          · apply Dev.sendSlot_kept
                            assumption
                          · intro _ _
                            apply Dev.sendSlot_kept
                            assumption
                        · intro _ _
                          apply Dev.setPair_kept
                          apply Dev.setUnit_kept
                          apply Dev.wr_kept
                          apply Dev.inc_kept
                          assumption
                      · intro _ _
                        apply Dev.setUnit_kept
                        assumption
                    · intro _ _
                      apply Dev.inStep_kept
                      assumption
                  · intro _
                    dsimp only
                    apply Dev.when_kept
                    · apply Dev.when_kept
                      · apply Dev.when_kept
                        · apply Dev.heartbeatPath_kept
                          apply Dev.heartbeatPath_kept
                          apply Dev.drawn_kept
                          apply Dev.when_kept
                          · apply Dev.sendSlot_kept
                            assumption
                          · intro _ _
                            apply Dev.sendSlot_kept
                            assumption
                        · intro _ _
                          apply Dev.setPair_kept
                          apply Dev.setUnit_kept
                          apply Dev.wr_kept
                          apply Dev.inc_kept
                          assumption
                      · intro _ _
                        apply Dev.setUnit_kept
                        assumption
                    · intro _ _
                      apply Dev.inStep_kept
                      assumption

end Sys2Proof.Machine
end

