-- ==== Sys2Proof/Laws/Kept3.lean ====
section
/-! SUPPORT. Each operation keeps the stores of the block in canonical form and its uptime, part 3 of 4, callees first. -/

namespace Sys2Proof.Machine

set_option Elab.async false

theorem Dev.arbitrateAll_kept {u : Upto} (x0 : Dev) (x1 : PairObs) (x2 : PairObs) (x3 : Bool) (h1 : x0.kept u)
    : (Dev.arbitrateAll x0 x1 x2 x3).1.kept u := by
  unfold Dev.arbitrateAll
  dsimp only
  refine Dev.arbitrate_kept _ _ _ _ ?_
  refine Dev.arbitrate_kept _ _ _ _ ?_
  assumption

theorem heartbeat_kept {u : Upto} (x0 : PairObs) (x1 : PairObs) (x2 : Dev) (h3 : x2.kept u)
    : (heartbeat x0 x1 x2).kept u := by
  unfold heartbeat
  refine ite_kept ?_ ?_
  · intro _
    apply faultOf_kept
    refine Dev.arbitrateAll_kept _ _ _ _ ?_
    apply Dev.closeItem_kept
    assumption
  · intro _
    assumption

theorem applyDecision_kept {u : Upto} (x0 : Nat) (x1 : Dev) (h2 : x1.kept u) : (applyDecision x0 x1).kept u := by
  unfold applyDecision
  split
  · assumption
  · refine ite_kept ?_ ?_
    · intro _
      apply Dev.setLink_kept
      assumption
    · intro _
      apply Dev.toTracking_kept
      apply Dev.updateA_kept
      apply Dev.wrs_kept
      apply Dev.when_kept
      · apply Dev.setLink_kept
        assumption
      · intro _ _
        apply Dev.wr_kept
        assumption

theorem Dev.eccSpoils_kept {u : Upto} (x0 : Dev) (x1 : DramPlace) (h1 : x0.kept u)
    : (Dev.eccSpoils x0 x1).kept u := by
  unfold Dev.eccSpoils
  split
  · apply Dev.setQueue_kept
    assumption
  · refine ite_kept ?_ ?_
    · intro _
      assumption
    · intro _
      refine kept_mk ?_ rfl le_rfl rfl
      assumption
  · refine kept_mk ?_ rfl le_rfl rfl
    assumption
  · refine kept_mk ?_ rfl le_rfl rfl
    assumption
  · assumption

theorem Dev.eccCorrected_kept {u : Upto} (x0 : Dev) (x1 : Nat) (h1 : x0.kept u)
    : (Dev.eccCorrected x0 x1).kept u := by
  unfold Dev.eccCorrected
  refine kept_mk ?_ rfl le_rfl rfl
  apply Dev.when_kept
  · apply Dev.inc_kept
    assumption
  · intro _ _
    apply Dev.raise_kept
    assumption

theorem dramEcc_kept {u : Upto} (x0 : Nat) (x1 : Bool) (x2 : DramPlace) (x3 : Dev) (h4 : x3.kept u)
    : (dramEcc x0 x1 x2 x3).kept u := by
  unfold dramEcc
  refine ite_kept ?_ ?_
  · intro _
    apply Dev.eccSpoils_kept
    apply Dev.raise_kept
    apply Dev.inc_kept
    assumption
  · intro _
    apply Dev.eccCorrected_kept
    assumption

theorem Dev.stepCounter_kept {u : Upto} (x0 : Nat) (x1 : Int) (x2 : Dev) (h3 : x2.kept u)
    : (Dev.stepCounter x0 x1 x2).kept u := by
  unfold Dev.stepCounter
  apply Dev.setSpindle_kept
  assumption

theorem Dev.learnTime_kept {u : Upto} (x0 : Dev) (x1 : Int) (x2 : Int) (x3 : Nat) (h1 : x0.kept u)
    : (Dev.learnTime x0 x1 x2 x3).kept u := by
  unfold Dev.learnTime
  apply Dev.refreshPhase_kept
  apply Dev.wrs_kept
  apply Dev.wr_kept
  apply Dev.when_kept
  · assumption
  · intro _ _
    apply Dev.wr_kept
    assumption

theorem Dev.applyStep_kept {u : Upto} (x0 : Dev) (x1 : Nat) (x2 : Nat) (x3 : ChangeKind) (h1 : x0.kept u)
    : (Dev.applyStep x0 x1 x2 x3).kept u := by
  unfold Dev.applyStep
  apply Dev.raiseSpindles_kept
  apply Dev.wr_kept
  split
  · apply Dev.learnTime_kept
    apply Dev.wr_kept
    apply Dev.wrB_kept
    apply Dev.wr_kept
    apply Dev.inc_kept
    apply Dev.stepCounter_kept
    apply Dev.stepCounter_kept
    assumption
  · apply Dev.learnTime_kept
    apply Dev.wr_kept
    apply Dev.wrB_kept
    apply Dev.wr_kept
    apply Dev.inc_kept
    apply Dev.stepCounter_kept
    apply Dev.stepCounter_kept
    assumption
  · apply Dev.wr_kept
    apply Dev.wrB_kept
    apply Dev.wr_kept
    apply Dev.inc_kept
    apply Dev.stepCounter_kept
    apply Dev.stepCounter_kept
    assumption

theorem Dev.cutItems_kept {u : Upto} (x0 : Dev) (x1 : Int) (h1 : x0.kept u) : (Dev.cutItems x0 x1).kept u := by
  unfold Dev.cutItems
  apply Dev.forEach_kept
  · assumption
  · intro _ _ _
    apply Dev.abandons_kept
    assumption

theorem stepMeetsBridging_kept {u : Upto} (x0 : Int) (x1 : Nat) (x2 : Dev) (h3 : x2.kept u)
    : (stepMeetsBridging x0 x1 x2).kept u := by
  unfold stepMeetsBridging
  refine ite_kept ?_ ?_
  · intro _
    apply Dev.setLink_kept
    apply Dev.wr_kept
    assumption
  · intro _
    assumption

theorem stepMeetsWatch_kept {u : Upto} (x0 : Int) (x1 : Nat) (x2 : Dev) (h3 : x2.kept u)
    : (stepMeetsWatch x0 x1 x2).kept u := by
  unfold stepMeetsWatch
  apply Dev.setLink_kept
  assumption

theorem stepMeetsOut_kept {u : Upto} (x0 : Int) (x1 : Dev) (h2 : x1.kept u) : (stepMeetsOut x0 x1).kept u := by
  unfold stepMeetsOut
  apply Dev.forEach_kept
  · apply Dev.forEach_kept
    · apply Dev.forEach_kept
      · assumption
      · intro _ _ _
        apply addMis_kept
        assumption
    · intro _ _ _
      apply Dev.setPulse_kept
      assumption
  · intro _ _ _
    apply Dev.setClk_kept
    assumption

theorem stepMeetsLabels_kept {u : Upto} (x0 : Int) (x1 : Dev) (h2 : x1.kept u) : (stepMeetsLabels x0 x1).kept u := by
  unfold stepMeetsLabels
  refine kept_mk ?_ rfl le_rfl rfl
  apply Dev.forEach_kept
  · assumption
  · intro _ _ _
    apply Dev.setRefIn_kept
    assumption

theorem stepMeetsEvin_kept {u : Upto} (x0 : Int) (x1 : Nat) (x2 : Dev) (h3 : x2.kept u)
    : (stepMeetsEvin x0 x1 x2).kept u := by
  unfold stepMeetsEvin
  refine ite_kept ?_ ?_ <;> exact fun _ => Dev.setEvin_kept _ _ _ h3

theorem Dev.discontinuity_kept {u : Upto} (d : Dev) (m : Nat) (h : d.kept u) (hm : d.turn.reached ≤ m)
    (hs : u.still = none) :
    (d.discontinuity m).kept u := by
  unfold Dev.discontinuity
  extract_lets f
  have hf : f.kept u := Dev.perfFlags_kept _ _ (Dev.wr_kept _ _ _ (Dev.inc_kept _ _ h))
  exact kept_gap (X := f) hf rfl rfl rfl rfl rfl rfl rfl hm hs

theorem Dev.firstTurnAt_reached (d : Dev) (t : Int) : d.turn.reached ≤ d.firstTurnAt t := by
  unfold Dev.firstTurnAt TurnSt.reached
  exact le_max_right _ _

theorem Dev.makeStep_kept {u : Upto} (d : Dev) (n : Nat) (c : Change) (h : d.kept u) (hs : u.still = none) :
    (d.makeStep n c).kept u := by
  unfold Dev.makeStep
  refine Dev.discontinuity_kept _ _ ?_ (Dev.firstTurnAt_reached _ _) hs
  refine kept_mk ?_ rfl le_rfl rfl
  refine Dev.forEach_kept _ _ _ ?_ fun _ _ h => stepMeetsEvin_kept _ _ _ h
  apply stepMeetsOut_kept
  apply stepMeetsLabels_kept
  refine Dev.forEach_kept _ _ _ ?_ fun _ _ h => stepMeetsCand_kept _ _ _ h
  refine Dev.forEach_kept _ _ _ ?_ fun _ _ h => stepMeetsWatch_kept _ _ _ h
  refine Dev.forEach_kept _ _ _ ?_ fun _ _ h => stepMeetsBridging_kept _ _ _ h
  exact Dev.applyStep_kept _ _ _ _ (Dev.cutItems_kept _ _ h)

theorem Dev.turnHistory_kept {u : Upto} (x0 : Dev) (h1 : x0.kept u) : (Dev.turnHistory x0).kept u := by
  unfold Dev.turnHistory
  refine kept_mk ?_ rfl le_rfl rfl
  assumption

theorem coeffDeadline_kept {u : Upto} (x0 : Nat) (x1 : Dev) (h2 : x1.kept u) : (coeffDeadline x0 x1).kept u := by
  unfold coeffDeadline
  apply Dev.when_kept
  · assumption
  · intro _ _
    apply Dev.setLane_kept
    assumption

theorem Dev.spendBudget_kept {u : Upto} (x0 : Dev) (x1 : Looked) (h1 : x0.kept u)
    : (Dev.spendBudget x0 x1).kept u := by
  unfold Dev.spendBudget
  split
  · refine ite_kept ?_ ?_
    · intro _
      refine kept_mk ?_ rfl le_rfl rfl
      assumption
    · intro _
      assumption
  · assumption

theorem Dev.forwarding_kept {u : Upto} (x0 : Dev) (x1 : Nat) (x2 : List Byte) (x3 : Bool) (h1 : x0.kept u)
    : (Dev.forwarding x0 x1 x2 x3).1.kept u := by
  unfold Dev.forwarding
  refine ite_fst_kept ?_ ?_
  · intro _
    dsimp only
    apply Dev.inc_kept
    split
    · apply Dev.setMac_kept
      apply Dev.counted_kept
      apply Dev.counted_kept
      assumption
    · apply Dev.counted_kept
      apply Dev.counted_kept
      assumption
  · intro _
    refine ite_fst_kept ?_ ?_
    · intro _
      refine ite_fst_kept ?_ ?_
      · intro _
        refine ite_fst_kept ?_ ?_
        · intro _
          dsimp only
          split
          · apply Dev.setMac_kept
            apply Dev.counted_kept
            apply Dev.counted_kept
            assumption
          · apply Dev.counted_kept
            apply Dev.counted_kept
            assumption
        · intro _
          dsimp only
          split
          · apply Dev.setMac_kept
            apply Dev.counted_kept
            apply Dev.counted_kept
            assumption
          · apply Dev.counted_kept
            apply Dev.counted_kept
            assumption
      · intro _
        dsimp only
        apply Dev.inc_kept
        split
        · apply Dev.setMac_kept
          apply Dev.counted_kept
          apply Dev.counted_kept
          assumption
        · apply Dev.counted_kept
          apply Dev.counted_kept
          assumption
    · intro _
      refine ite_fst_kept ?_ ?_
      · intro _
        dsimp only
        split
        · apply Dev.setMac_kept
          apply Dev.counted_kept
          apply Dev.counted_kept
          assumption
        · apply Dev.counted_kept
          apply Dev.counted_kept
          assumption
      · intro _
        refine ite_fst_kept ?_ ?_
        · intro _
          refine ite_fst_kept ?_ ?_
          · intro _
            dsimp only
            split
            · apply Dev.setMac_kept
              apply Dev.counted_kept
              apply Dev.counted_kept
              assumption
            · apply Dev.counted_kept
              apply Dev.counted_kept
              assumption
          · intro _
            dsimp only
            split
            · apply Dev.setMac_kept
              apply Dev.counted_kept
              apply Dev.counted_kept
              assumption
            · apply Dev.counted_kept
              apply Dev.counted_kept
              assumption
        · intro _
          refine ite_fst_kept ?_ ?_
          · intro _
            split
            · dsimp only
              split
              · apply Dev.setMac_kept
                apply Dev.counted_kept
                apply Dev.counted_kept
                assumption
              · apply Dev.counted_kept
                apply Dev.counted_kept
                assumption
            · dsimp only
              apply Dev.inc_kept
              split
              · apply Dev.setMac_kept
                apply Dev.counted_kept
                apply Dev.counted_kept
                assumption
              · apply Dev.counted_kept
                apply Dev.counted_kept
                assumption
            · refine ite_fst_kept ?_ ?_
              · intro _
                dsimp only
                split
                · apply Dev.setMac_kept
                  apply Dev.counted_kept
                  apply Dev.counted_kept
                  assumption
                · apply Dev.counted_kept
                  apply Dev.counted_kept
                  assumption
              · intro _
                dsimp only
                split
                · apply Dev.setMac_kept
                  apply Dev.counted_kept
                  apply Dev.counted_kept
                  assumption
                · apply Dev.counted_kept
                  apply Dev.counted_kept
                  assumption
          · intro _
            refine ite_fst_kept ?_ ?_
            · intro _
              dsimp only
              split
              · apply Dev.setMac_kept
                apply Dev.counted_kept
                apply Dev.counted_kept
                assumption
              · apply Dev.counted_kept
                apply Dev.counted_kept
                assumption
            · intro _
              refine ite_fst_kept ?_ ?_
              · intro _
                dsimp only
                split
                · apply Dev.setMac_kept
                  apply Dev.counted_kept
                  apply Dev.counted_kept
                  assumption
                · apply Dev.counted_kept
                  apply Dev.counted_kept
                  assumption
              · intro _
                refine ite_fst_kept ?_ ?_
                · intro _
                  dsimp only
                  split
                  · apply Dev.setMac_kept
                    apply Dev.counted_kept
                    apply Dev.counted_kept
                    assumption
                  · apply Dev.counted_kept
                    apply Dev.counted_kept
                    assumption
                · intro _
                  refine ite_fst_kept ?_ ?_
                  · intro _
                    dsimp only
                    apply Dev.inc_kept
                    split
                    · apply Dev.setMac_kept
                      apply Dev.counted_kept
                      apply Dev.counted_kept
                      assumption
                    · apply Dev.counted_kept
                      apply Dev.counted_kept
                      assumption
                  · intro _
                    refine ite_fst_kept ?_ ?_
                    · intro _
                      dsimp only
                      apply Dev.inc_kept
                      apply Dev.when_kept
                      · apply Dev.spendBudget_kept
                        split
                        · apply Dev.setMac_kept
                          apply Dev.counted_kept
                          apply Dev.counted_kept
                          assumption
                        · apply Dev.counted_kept
                          apply Dev.counted_kept
                          assumption
                      · intro _ _
                        apply Dev.inc_kept
                        assumption
                    · intro _
                      dsimp only
                      apply Dev.when_kept
                      · apply Dev.spendBudget_kept
                        split
                        · apply Dev.setMac_kept
                          apply Dev.counted_kept
                          apply Dev.counted_kept
                          assumption
                        · apply Dev.counted_kept
                          apply Dev.counted_kept
                          assumption
                      · intro _ _
                        apply Dev.inc_kept
                        assumption

theorem Dev.noteClamp_kept {u : Upto} (x0 : Dev) (h1 : x0.kept u) : (Dev.noteClamp x0).kept u := by
  unfold Dev.noteClamp
  refine ite_kept ?_ ?_
  · intro _
    assumption
  · intro _
    apply Dev.when_kept
    · apply Dev.inc_kept
      apply Dev.inc_kept
      refine kept_mk ?_ rfl le_rfl rfl
      assumption
    · intro _ _
      apply Dev.raiseSpindles_kept
      assumption

theorem Dev.stageWord_kept {u : Upto} (x0 : Dev) (x1 : Int) (x2 : Int) (h1 : x0.kept u)
    : (Dev.stageWord x0 x1 x2).kept u := by
  unfold Dev.stageWord
  apply Dev.setSpindle_kept
  apply Dev.setSpindle_kept
  apply Dev.when_kept
  · assumption
  · intro _ _
    apply Dev.noteClamp_kept
    assumption

theorem Dev.opens_kept {u : Upto} (d : Dev) (n : Nat) (h : d.kept u) (hn : d.turn.reached ≤ n) (hs : u.still = none) :
    (d.opens n).kept u := by
  unfold Dev.opens
  extract_lets e
  have hp : ∀ v : Upto, d.kept v → e.kept v := fun v hv =>
    Dev.when_kept _ _ _ (Dev.wr_kept _ _ _ hv) fun d hd => Dev.wr_kept _ _ _ hd
  have ht : e.turn = d.turn := by
    simp only [e, Dev.when]
    split <;> rfl
  refine kept_starts (X := e) (hp u h) rfl rfl rfl rfl rfl ?_ rfl rfl hs
  rw [ht]
  exact hn

theorem arpRequest_kept {u : Upto} (x0 : Nat) (x1 : List Byte) (x2 : Dev) (h3 : x2.kept u)
    : (arpRequest x0 x1 x2).kept u := by
  unfold arpRequest
  apply Dev.when_kept
  · assumption
  · intro _ _
    apply Dev.engineSend_kept
    assumption

theorem Dev.enterFrom_kept {u : Upto} (x0 : Dev) (x1 : Nat) (h1 : x0.kept u) : (Dev.enterFrom x0 x1).kept u := by
  unfold Dev.enterFrom
  split
  · assumption
  · split
    · apply Dev.setFifo_kept
      assumption
    · refine ite_kept ?_ ?_
      · intro _
        apply Dev.reapFrame_kept
        apply Dev.onFrame_kept
        apply Dev.setFifo_kept
        assumption
      · intro _
        apply Dev.learnReal_kept
        refine kept_mk ?_ rfl le_rfl rfl
        apply Dev.setStage_kept
        apply Dev.putFrame_kept
        refine Dev.forwarding_kept _ _ _ _ ?_
        apply Dev.counted_kept
        apply Dev.setFifo_kept
        assumption

theorem standbyReturn_kept {u : Upto} (x0 : Dev) (h1 : x0.kept u) : (standbyReturn x0).kept u := by
  unfold standbyReturn
  refine ite_kept ?_ ?_
  · intro _
    assumption
  · intro _
    apply Dev.wr_kept
    apply Dev.unitEnable_kept
    apply Dev.unitEnable_kept
    assumption

theorem mrefConvert_kept {u : Upto} (x0 : Nat) (x1 : Nat) (x2 : List Int) (x3 : List Int) (x4 : Dev) (h5 : x4.kept u)
    : (mrefConvert x0 x1 x2 x3 x4).kept u := by
  unfold mrefConvert
  split
  · assumption
  · refine ite_kept ?_ ?_
    · intro _
      apply Dev.setEvin_kept
      assumption
    · intro _
      apply Dev.useStamp_kept
      apply Dev.setEvin_kept
      assumption

theorem Dev.makeCopy_kept {u : Upto} (x0 : Dev) (x1 : Nat) (x2 : Frame) (x3 : Decision) (x4 : CopyPlan) (x5 : Int)
    (h1 : x0.kept u) : (Dev.makeCopy x0 x1 x2 x3 x4 x5).1.kept u := by
  unfold Dev.makeCopy
  refine ite_fst_kept ?_ ?_
  · intro _
    dsimp only
    apply Dev.countFlushed_kept
    assumption
  · intro _
    split
    · split
      · split
        · (extract_lets; split)
          · dsimp only
            apply Dev.refuse_kept
            assumption
          · dsimp only
            apply Dev.enqueue_kept
            apply Dev.when_kept
            · apply Dev.onFrame_kept
              assumption
            · intro _ _
              apply Dev.inc_kept
              assumption
        · (extract_lets; split)
          · dsimp only
            apply Dev.refuse_kept
            assumption
          · dsimp only
            apply Dev.enqueue_kept
            apply Dev.when_kept
            · apply Dev.onFrame_kept
              assumption
            · intro _ _
              apply Dev.inc_kept
              assumption
      · split
        · (extract_lets; split)
          · dsimp only
            apply Dev.refuse_kept
            assumption
          · dsimp only
            apply Dev.enqueue_kept
            apply Dev.when_kept
            · apply Dev.onFrame_kept
              assumption
            · intro _ _
              apply Dev.inc_kept
              assumption
        · (extract_lets; split)
          · dsimp only
            apply Dev.refuse_kept
            assumption
          · dsimp only
            apply Dev.enqueue_kept
            apply Dev.when_kept
            · apply Dev.onFrame_kept
              assumption
            · intro _ _
              apply Dev.inc_kept
              assumption
    · split
      · split
        · (extract_lets; split)
          · dsimp only
            apply Dev.refuse_kept
            assumption
          · dsimp only
            apply Dev.enqueue_kept
            apply Dev.when_kept
            · apply Dev.onFrame_kept
              assumption
            · intro _ _
              apply Dev.inc_kept
              assumption
        · (extract_lets; split)
          · dsimp only
            apply Dev.refuse_kept
            assumption
          · dsimp only
            apply Dev.enqueue_kept
            apply Dev.when_kept
            · apply Dev.onFrame_kept
              assumption
            · intro _ _
              apply Dev.inc_kept
              assumption
      · split
        · (extract_lets; split)
          · dsimp only
            apply Dev.refuse_kept
            assumption
          · dsimp only
            apply Dev.enqueue_kept
            apply Dev.when_kept
            · apply Dev.onFrame_kept
              assumption
            · intro _ _
              apply Dev.inc_kept
              assumption
        · (extract_lets; split)
          · dsimp only
            apply Dev.refuse_kept
            assumption
          · dsimp only
            apply Dev.enqueue_kept
            apply Dev.when_kept
            · apply Dev.onFrame_kept
              assumption
            · intro _ _
              apply Dev.inc_kept
              assumption

theorem Dev.makeCopies_kept {u : Upto} (d : Dev) (id : Nat) (f : Frame) (x : Decision) (t : Int) (l : List CopyPlan)
    (h : d.kept u) :
    (d.makeCopies id f x t l).1.kept u := by
  induction l generalizing d with
  | nil => exact h
  | cons p l ih => exact ih _ (Dev.makeCopy_kept _ _ _ _ _ _ h)

theorem Dev.reelLose_kept {u : Upto} (x0 : Dev) (h1 : x0.kept u) : (Dev.reelLose x0).kept u := by
  unfold Dev.reelLose
  refine kept_mk ?_ rfl le_rfl rfl
  apply Dev.when_kept
  · apply Dev.inc_kept
    assumption
  · intro _ _
    apply Dev.wr_kept
    assumption

theorem Dev.reelCopy_kept {u : Upto} (x0 : Dev) (x1 : Nat) (x2 : Frame) (h1 : x0.kept u)
    : (Dev.reelCopy x0 x1 x2).kept u := by
  unfold Dev.reelCopy
  refine ite_kept ?_ ?_
  · intro _
    assumption
  · intro _
    refine ite_kept ?_ ?_
    · intro _
      apply Dev.reelLose_kept
      assumption
    · intro _
      apply Dev.onFrame_kept
      apply Dev.addLanding_kept
      assumption

theorem Dev.injectedStatus_kept {u : Upto} (x0 : Dev) (x1 : Frame) (x2 : List Nat) (h1 : x0.kept u)
    : (Dev.injectedStatus x0 x1 x2).kept u := by
  unfold Dev.injectedStatus
  split
  · assumption
  · refine ite_kept ?_ ?_
    · intro _
      assumption
    · intro _
      apply Dev.txStatus_kept
      assumption

theorem replication_kept {u : Upto} (x0 : Nat) (x1 : Int) (x2 : Dev) (h3 : x2.kept u)
    : (replication x0 x1 x2).kept u := by
  unfold replication
  (extract_lets; split)
  · apply Dev.until_kept
    assumption
  · (extract_lets; split)
    · apply Dev.setStage_kept
      apply Dev.until_kept
      assumption
    · apply Dev.finishFrame_kept
      apply Dev.injectedStatus_kept
      apply Dev.onFrame_kept
      apply Dev.when_kept
      · refine Dev.makeCopies_kept _ _ _ _ _ _ ?_
        apply Dev.when_kept
        · apply Dev.setStage_kept
          apply Dev.until_kept
          assumption
        · intro _ _
          apply Dev.add32_kept
          assumption
      · intro _ _
        apply Dev.reelCopy_kept
        assumption

theorem Dev.clkRealign_kept {u : Upto} (x0 : Dev) (x1 : Nat) (h1 : x0.kept u) : (Dev.clkRealign x0 x1).kept u := by
  unfold Dev.clkRealign
  apply Dev.setClk_kept
  assumption

theorem realignOut_kept {u : Upto} (x0 : Nat) (x1 : Dev) (h2 : x1.kept u) : (realignOut x0 x1).kept u := by
  unfold realignOut
  refine ite_kept ?_ ?_
  · intro _
    apply clearMis_kept
    apply Dev.clkRealign_kept
    assumption
  · intro _
    apply Dev.singlePassed_kept
    apply Dev.setPulse_kept
    apply Dev.add32_kept
    apply clearMis_kept
    assumption

theorem applyRealign_kept {u : Upto} (x0 : Nat) (x1 : Dev) (h2 : x1.kept u) : (applyRealign x0 x1).kept u := by
  unfold applyRealign
  apply Dev.refreshOuts_kept
  apply Dev.raise_kept
  apply Dev.wrs_kept
  apply Dev.forEach_kept
  · assumption
  · intro _ _ _
    refine ite_kept ?_ ?_
    · intro _
      refine ite_kept ?_ ?_
      · intro _
        apply clearMis_kept
        assumption
      · intro _
        apply Dev.singlePassed_kept
        apply Dev.setPulse_kept
        apply Dev.add32_kept
        apply clearMis_kept
        assumption
    · intro _
      assumption

theorem fwHandover_kept {u : Upto} (x0 : Nat) (x1 : Dev) (h2 : x1.kept u) : (fwHandover x0 x1).kept u := by
  unfold fwHandover
  split
  · assumption
  · refine ite_kept ?_ ?_
    · intro _
      assumption
    · intro _
      refine kept_mk ?_ rfl le_rfl rfl
      apply Dev.raise_kept
      apply Dev.wrs_kept
      apply Dev.inc_kept
      apply Dev.outOfService_kept
      apply Dev.unitTo_kept
      assumption

theorem applyOther_kept {u : Upto} (x0 : Nat) (x1 : Dev) (x2 : Change) (h2 : x1.kept u)
    : (applyOther x0 x1 x2).kept u := by
  unfold applyOther
  split
  · apply applySwap_kept
    assumption
  · apply applyRealign_kept
    assumption
  · apply fwHandover_kept
    assumption
  · assumption

theorem Dev.segReadInit_kept {u : Upto} (x0 : Dev) (x1 : Nat) (x2 : Nat) (h1 : x0.kept u)
    : (Dev.segReadInit x0 x1 x2).1.kept u := by
  unfold Dev.segReadInit
  split
  · refine ite_fst_kept ?_ ?_
    · intro _
      dsimp only
      assumption
    · intro _
      split
      · dsimp only
        refine fst_kept (by assumption) ?_
        refine Dev.readObj_kept _ _ _ _ ?_
        assumption
      · dsimp only
        refine fst_kept (by assumption) ?_
        refine Dev.readObj_kept _ _ _ _ ?_
        assumption
  · dsimp only
    assumption

theorem mailboxSegReadInit_kept {u : Upto} (x0 : Nat) (x1 : Dev) (h2 : x1.kept u)
    : (mailboxSegReadInit x0 x1).kept u := by
  unfold mailboxSegReadInit
  apply Dev.boxHead_kept
  · assumption
  · intro _ _ _
    (extract_lets; split)
    · apply Dev.boxDone_kept
      apply Dev.boxTransfer_kept
      refine fst_kept (by assumption) ?_
      refine Dev.segReadInit_kept _ _ _ ?_
      apply Dev.boxTransfer_kept
      assumption
    · apply Dev.boxStatus_kept
      refine fst_kept (by assumption) ?_
      refine Dev.segReadInit_kept _ _ _ ?_
      apply Dev.boxTransfer_kept
      assumption

theorem boxRecovers_kept {u : Upto} (x0 : Nat) (x1 : Dev) (h2 : x1.kept u) : (boxRecovers x0 x1).kept u := by
  unfold boxRecovers
  refine ite_kept ?_ ?_
  · intro _
    refine kept_mk ?_ rfl le_rfl rfl
    assumption
  · intro _
    assumption

theorem Dev.enterFreeRun_kept {u : Upto} (x0 : Dev) (h1 : x0.kept u) : (Dev.enterFreeRun x0).kept u := by
  unfold Dev.enterFreeRun
  refine kept_mk ?_ rfl le_rfl rfl
  apply Dev.wr_kept
  apply Dev.setSpindleState_kept
  assumption

theorem Dev.reloadPair_kept {u : Upto} (x0 : Dev) (h1 : x0.kept u) : (Dev.reloadPair x0).kept u := by
  unfold Dev.reloadPair
  refine ite_kept ?_ ?_
  · intro _
    apply Dev.enterHoldover_kept
    apply Dev.noteLoss_kept
    apply Dev.setSpindle_kept
    assumption
  · intro _
    apply Dev.enterFreeRun_kept
    apply Dev.setSpindle_kept
    assumption

theorem Dev.restartReloads_kept {u : Upto} (x0 : Dev) (h1 : x0.kept u) : (Dev.restartReloads x0).kept u := by
  unfold Dev.restartReloads
  apply Dev.forEach_kept
  · refine kept_mk ?_ rfl le_rfl rfl
    apply Dev.factoryTables_kept
    apply Dev.when_kept
    · apply Dev.when_kept
      · assumption
      · intro _ _
        apply Dev.reloadCores_kept
        assumption
    · intro _ _
      apply Dev.reloadPair_kept
      assumption
  · intro _ _ _
    apply boxRecovers_kept
    assumption

theorem Dev.switchComplete_kept {u : Upto} (x0 : Dev) (x1 : Int) (h1 : x0.kept u)
    : (Dev.switchComplete x0 x1).kept u := by
  unfold Dev.switchComplete
  refine kept_mk ?_ rfl le_rfl rfl
  apply Dev.raise_kept
  apply Dev.wrs_kept
  assumption

theorem switchSettle_kept {u : Upto} (x0 : Dev) (h1 : x0.kept u) : (switchSettle x0).kept u := by
  unfold switchSettle
  apply Dev.when_kept
  · assumption
  · intro _ _
    apply Dev.switchComplete_kept
    assumption

theorem Dev.wordInForce_kept {u : Upto} (x0 : Nat) (x1 : Dev) (h2 : x1.kept u) : (Dev.wordInForce x0 x1).kept u := by
  unfold Dev.wordInForce
  split
  · assumption
  · apply Dev.setSpindle_kept
    apply Dev.wrs_kept
    assumption

theorem Dev.wordsAtBoundary_kept {u : Upto} (x0 : Dev) (h1 : x0.kept u) : (Dev.wordsAtBoundary x0).kept u := by
  unfold Dev.wordsAtBoundary
  refine ite_kept ?_ ?_
  · intro _
    apply Dev.wordInForce_kept
    apply Dev.wordInForce_kept
    assumption
  · intro _
    apply Dev.setSpindle_kept
    apply Dev.setSpindle_kept
    assumption

theorem Dev.calTemps_kept {u : Upto} (x0 : Dev) (h1 : x0.kept u) : (Dev.calTemps x0).kept u := by
  unfold Dev.calTemps
  split
  · refine ite_kept ?_ ?_
    · intro _
      refine kept_mk ?_ rfl le_rfl rfl
      assumption
    · intro _
      assumption
  · assumption

theorem Dev.thermalTo_kept {u : Upto} (x0 : Dev) (x1 : Int) (x2 : Int) (h1 : x0.kept u)
    : (Dev.thermalTo x0 x1 x2).kept u := by
  unfold Dev.thermalTo
  apply Dev.raise_kept
  apply Dev.wrs_kept
  assumption

theorem thermalSample_kept {u : Upto} (x0 : List Int) (x1 : Bool) (x2 : Dev) (h3 : x2.kept u)
    : (thermalSample x0 x1 x2).kept u := by
  unfold thermalSample
  refine ite_kept ?_ ?_
  · intro _
    apply deviceFault_kept
    apply Dev.inc_kept
    apply Dev.reelStop_kept
    apply Dev.thermalTo_kept
    refine ite_kept ?_ ?_
    · intro _
      apply Dev.reelStop_kept
      apply Dev.thermalTo_kept
      apply Dev.calTemps_kept
      refine kept_mk ?_ rfl le_rfl rfl
      apply Dev.wr_kept
      apply Dev.wrs_kept
      assumption
    · intro _
      apply Dev.calTemps_kept
      refine kept_mk ?_ rfl le_rfl rfl
      apply Dev.wr_kept
      apply Dev.wrs_kept
      assumption
  · intro _
    refine ite_kept ?_ ?_
    · intro _
      apply Dev.thermalTo_kept
      refine ite_kept ?_ ?_
      · intro _
        apply Dev.reelStop_kept
        apply Dev.thermalTo_kept
        apply Dev.calTemps_kept
        refine kept_mk ?_ rfl le_rfl rfl
        apply Dev.wr_kept
        apply Dev.wrs_kept
        assumption
      · intro _
        apply Dev.calTemps_kept
        refine kept_mk ?_ rfl le_rfl rfl
        apply Dev.wr_kept
        apply Dev.wrs_kept
        assumption
    · intro _
      refine ite_kept ?_ ?_
      · intro _
        apply Dev.thermalTo_kept
        refine ite_kept ?_ ?_
        · intro _
          apply Dev.reelStop_kept
          apply Dev.thermalTo_kept
          apply Dev.calTemps_kept
          refine kept_mk ?_ rfl le_rfl rfl
          apply Dev.wr_kept
          apply Dev.wrs_kept
          assumption
        · intro _
          apply Dev.calTemps_kept
          refine kept_mk ?_ rfl le_rfl rfl
          apply Dev.wr_kept
          apply Dev.wrs_kept
          assumption
      · intro _
        refine ite_kept ?_ ?_
        · intro _
          apply Dev.reelStop_kept
          apply Dev.thermalTo_kept
          apply Dev.calTemps_kept
          refine kept_mk ?_ rfl le_rfl rfl
          apply Dev.wr_kept
          apply Dev.wrs_kept
          assumption
        · intro _
          apply Dev.calTemps_kept
          refine kept_mk ?_ rfl le_rfl rfl
          apply Dev.wr_kept
          apply Dev.wrs_kept
          assumption

theorem presenceTimeout_kept {u : Upto} (x0 : Nat) (x1 : Dev) (h2 : x1.kept u) : (presenceTimeout x0 x1).kept u := by
  unfold presenceTimeout
  apply Dev.when_kept
  · apply refreshCand_kept
    apply Dev.setRefIn_kept
    assumption
  · intro _ _
    apply refreshCand_kept
    assumption

theorem Dev.sampleTaken_kept {u : Upto} (x0 : Dev) (x1 : Nat) (h1 : x0.kept u) : (Dev.sampleTaken x0 x1).kept u := by
  unfold Dev.sampleTaken
  split
  · refine kept_mk ?_ rfl le_rfl rfl
    assumption
  · refine kept_mk ?_ rfl le_rfl rfl
    assumption

theorem f0Fallback_kept {u : Upto} (x0 : Nat) (x1 : Dev) (h2 : x1.kept u) : (f0Fallback x0 x1).kept u := by
  unfold f0Fallback
  apply Dev.when_kept
  · assumption
  · intro _ _
    apply Dev.toRanging_kept
    assumption

theorem Dev.missHostWord_kept {u : Upto} (x0 : Dev) (h1 : x0.kept u) : (Dev.missHostWord x0).kept u := by
  unfold Dev.missHostWord
  apply Dev.when_kept
  · apply Dev.missWord_kept
    assumption
  · intro _ _
    apply Dev.wordInForce_kept
    apply Dev.wordInForce_kept
    apply Dev.stageWord_kept
    assumption

theorem Dev.discardOldEvents_kept {u : Upto} (x0 : Dev) (h1 : x0.kept u) : (Dev.discardOldEvents x0).kept u := by
  unfold Dev.discardOldEvents
  apply Dev.when_kept
  · assumption
  · intro _ _
    apply Dev.record_kept
    apply Dev.add32_kept
    apply Dev.setLearnQueue_kept
    assumption

theorem Dev.fallback_kept {u : Upto} (x0 : Dev) (x1 : HostFn) (h1 : x0.kept u) : (Dev.fallback x0 x1).kept u := by
  unfold Dev.fallback
  split
  · apply f0Fallback_kept
    apply Dev.setLink_kept
    assumption
  · apply Dev.missHostWord_kept
    assumption
  · refine kept_mk ?_ rfl le_rfl rfl
    assumption
  · apply Dev.discardOldEvents_kept
    assumption
  · apply Dev.abandonRun_kept
    assumption
  · assumption
  · apply coeffDeadline_kept
    assumption

theorem Dev.spoolResult_kept {u : Upto} (x0 : Dev) (x1 : Int) (h1 : x0.kept u) : (Dev.spoolResult x0 x1).kept u := by
  unfold Dev.spoolResult
  refine kept_mk ?_ rfl le_rfl rfl
  assumption

theorem sysTime_kept {u : Upto} (x0 : Nat) (x1 : List (Nat × Byte)) (x2 : Nat) (x3 : Dev) (h4 : x3.kept u)
    : (sysTime x0 x1 x2 x3).kept u := by
  unfold sysTime
  apply Dev.spoolCall_kept
  · assumption
  · intro _ _ _
    refine ite_kept ?_ ?_
    · intro _
      apply Dev.spoolResult_kept
      apply Dev.spoolWrite_kept
      assumption
    · intro _
      apply Dev.spoolResult_kept
      assumption

theorem Dev.newFrame_kept {u : Upto} (x0 : Dev) (x1 : Frame) (h1 : x0.kept u) : (Dev.newFrame x0 x1).kept u := by
  unfold Dev.newFrame
  refine kept_mk ?_ rfl le_rfl rfl
  apply Dev.putFrame_kept
  assumption

theorem Dev.inject_kept {u : Upto} (x0 : Dev) (x1 : Nat) (x2 : Nat) (x3 : TxDesc) (x4 : List Byte) (x5 : Int)
    (h1 : x0.kept u) : (Dev.inject x0 x1 x2 x3 x4 x5).kept u := by
  unfold Dev.inject
  refine ite_kept ?_ ?_
  · intro _
    apply Dev.finishFrame_kept
    apply Dev.injectedStatus_kept
    refine Dev.makeCopies_kept _ _ _ _ _ _ ?_
    apply Dev.newFrame_kept
    apply Dev.countRx_kept
    assumption
  · intro _
    apply Dev.setFifo_kept
    apply Dev.newFrame_kept
    apply Dev.countRx_kept
    assumption

theorem takeMeasurement_kept {u : Upto} (x0 : Nat) (x1 : Dev) (h2 : x1.kept u) : (takeMeasurement x0 x1).kept u := by
  unfold takeMeasurement
  refine ite_kept ?_ ?_
  · intro _
    assumption
  · intro _
    refine ite_kept ?_ ?_
    · intro _
      apply Dev.disqualify_kept
      apply Dev.raise_kept
      apply Dev.inc_kept
      refine ite_kept ?_ ?_
      · intro _
        refine ite_kept ?_ ?_
        · intro _
          apply Dev.setRefIn_kept
          apply Dev.setRefIn_kept
          apply Dev.setCand_kept
          apply Dev.wr_kept
          assumption
        · intro _
          apply Dev.setRefIn_kept
          apply Dev.setCand_kept
          apply Dev.wr_kept
          assumption
      · intro _
        apply Dev.setCand_kept
        apply Dev.wr_kept
        assumption
    · intro _
      refine ite_kept ?_ ?_
      · intro _
        refine ite_kept ?_ ?_
        · intro _
          apply Dev.setRefIn_kept
          apply Dev.setRefIn_kept
          apply Dev.setCand_kept
          apply Dev.wr_kept
          assumption
        · intro _
          apply Dev.setRefIn_kept
          apply Dev.setCand_kept
          apply Dev.wr_kept
          assumption
      · intro _
        apply Dev.setCand_kept
        apply Dev.wr_kept
        assumption

theorem cutLeads_kept {u : Upto} (x0 : Nat) (x1 : Dev) (h2 : x1.kept u) : (cutLeads x0 x1).kept u := by
  unfold cutLeads
  split
  · apply Dev.missWord_kept
    assumption
  · apply Dev.slotsMissed_kept
    assumption
  · assumption

theorem Dev.mdpHead_kept {u : Upto} (x0 : Dev) (x1 : Nat) (x2 : Datagram → MdpReq → Dev → Dev) (h1 : x0.kept u)
    (h3 : ∀ y1 y2 y3, Dev.kept u y3 → (x2 y1 y2 y3).kept u) : (Dev.mdpHead x0 x1 x2).kept u := by
  unfold Dev.mdpHead
  split
  · split
    · apply Dev.when_kept
      · assumption
      · intro _ _
        apply h3
        refine kept_mk ?_ rfl le_rfl rfl
        assumption
    · assumption
  · assumption

theorem proveTimeout_kept {u : Upto} (x0 : Nat) (x1 : Dev) (h2 : x1.kept u) : (proveTimeout x0 x1).kept u := by
  unfold proveTimeout
  apply Dev.when_kept
  · assumption
  · intro _ _
    apply Dev.freeSlot_kept
    assumption

theorem temperatureTrigger_kept {u : Upto} (x0 : Dev) (h1 : x0.kept u) : (temperatureTrigger x0).kept u := by
  unfold temperatureTrigger
  refine ite_kept ?_ ?_
  · intro _
    apply Dev.raise_kept
    apply Dev.wr_kept
    assumption
  · intro _
    assumption

theorem idle_kept {u : Upto} (x0 : Dev) (h1 : x0.kept u) : (idle x0).kept u := by
  unfold idle
  apply Dev.when_kept
  · assumption
  · intro _ _
    apply Dev.pass_kept
    assumption

theorem railSample_kept {u : Upto} (x0 : Nat) (x1 : Bool) (x2 : Nat) (x3 : Dev) (h4 : x3.kept u)
    : (railSample x0 x1 x2 x3).kept u := by
  unfold railSample
  refine ite_kept ?_ ?_
  · intro _
    apply Dev.wrs_kept
    assumption
  · intro _
    apply Dev.raise_kept
    apply Dev.wrs_kept
    apply Dev.wrs_kept
    assumption

theorem oversizeTruncation_kept {u : Upto} (x0 : Nat) (x1 : Dev) (h2 : x1.kept u)
    : (oversizeTruncation x0 x1).kept u := by
  unfold oversizeTruncation
  split
  · assumption
  · split
    · assumption
    · refine ite_kept ?_ ?_
      · intro _
        assumption
      · intro _
        apply Dev.spoil_kept
        apply Dev.onFrame_kept
        assumption

theorem Dev.invertRx_kept {u : Upto} (x0 : Dev) (x1 : Nat) (h1 : x0.kept u) : (Dev.invertRx x0 x1).kept u := by
  unfold Dev.invertRx
  apply Dev.raise_kept
  apply Dev.quadEvent_kept
  apply Dev.wrB_kept
  assumption

theorem Dev.workItem_kept {u : Upto} (x0 : Dev) (x1 : Nat) (x2 : Dev → Dev) (h1 : x0.kept u)
    (h3 : ∀ y1, Dev.kept u y1 → (x2 y1).kept u) : (Dev.workItem x0 x1 x2).kept u := by
  unfold Dev.workItem
  refine ite_kept ?_ ?_
  · intro _
    apply Dev.closeItem_kept
    apply h3
    assumption
  · intro _
    assumption

theorem linkTimingUpdate_kept {u : Upto} (x0 : Dev) (h1 : x0.kept u) : (linkTimingUpdate x0).kept u := by
  unfold linkTimingUpdate
  apply Dev.workItem_kept
  · assumption
  · intro _ _
    apply Dev.forEach_kept
    · apply Dev.forEach_kept
      · apply Dev.refineHost_kept
        assumption
      · intro _ _ _
        apply linkUpdatePort_kept
        assumption
    · intro _ _ _
      refine ite_kept ?_ ?_
      · intro _
        apply Dev.plySolve_kept
        apply Dev.plyTransitions_kept
        assumption
      · intro _
        assumption

theorem lossOfSignal_kept {u : Upto} (x0 : Nat) (x1 : Dev) (h2 : x1.kept u) : (lossOfSignal x0 x1).kept u := by
  unfold lossOfSignal
  apply Dev.when_kept
  · apply Dev.wr_kept
    assumption
  · intro _ _
    apply Dev.rxTo_kept
    assumption

theorem Dev.discardSelected_kept {u : Upto} (x0 : Dev) (x1 : Nat) (x2 : Nat) (x3 : Copy) (x4 : Nat) (h1 : x0.kept u)
    : (Dev.discardSelected x0 x1 x2 x3 x4).kept u := by
  unfold Dev.discardSelected
  apply Dev.freeCopy_kept
  apply Dev.txOutcome_kept
  apply Dev.when_kept
  · refine ite_kept ?_ ?_
    · intro _
      apply Dev.record_kept
      apply Dev.inc_kept
      apply Dev.popQueue_kept
      assumption
    · intro _
      refine ite_kept ?_ ?_
      · intro _
        apply Dev.inc_kept
        apply Dev.popQueue_kept
        assumption
      · intro _
        apply Dev.raise_kept
        apply Dev.inc_kept
        apply Dev.popQueue_kept
        assumption
  · intro _ _
    apply Dev.drawn_kept
    assumption

theorem Dev.hostWordStage_kept {u : Upto} (x0 : Dev) (x1 : Int) (x2 : Int) (h1 : x0.kept u)
    : (Dev.hostWordStage x0 x1 x2).kept u := by
  unfold Dev.hostWordStage
  refine kept_mk ?_ rfl le_rfl rfl
  apply Dev.stageWord_kept
  apply Dev.wrB_kept
  assumption

theorem Dev.hostWordApply_kept {u : Upto} (x0 : Dev) (h1 : x0.kept u) : (Dev.hostWordApply x0).kept u := by
  unfold Dev.hostWordApply
  refine ite_kept ?_ ?_
  · intro _
    refine kept_mk ?_ rfl le_rfl rfl
    apply Dev.wr_kept
    assumption
  · intro _
    refine ite_kept ?_ ?_
    · intro _
      apply Dev.enterHoldover_kept
      refine kept_mk ?_ rfl le_rfl rfl
      refine ite_kept ?_ ?_
      · intro _
        refine kept_mk ?_ rfl le_rfl rfl
        refine kept_mk ?_ rfl le_rfl rfl
        apply Dev.wr_kept
        assumption
      · intro _
        refine kept_mk ?_ rfl le_rfl rfl
        apply Dev.wr_kept
        assumption
    · intro _
      split
      · refine ite_kept ?_ ?_
        · intro _
          refine kept_mk ?_ rfl le_rfl rfl
          refine kept_mk ?_ rfl le_rfl rfl
          apply Dev.wr_kept
          assumption
        · intro _
          refine kept_mk ?_ rfl le_rfl rfl
          apply Dev.wr_kept
          assumption
      · refine ite_kept ?_ ?_
        · intro _
          refine ite_kept ?_ ?_
          · intro _
            refine kept_mk ?_ rfl le_rfl rfl
            refine kept_mk ?_ rfl le_rfl rfl
            apply Dev.wr_kept
            assumption
          · intro _
            refine kept_mk ?_ rfl le_rfl rfl
            apply Dev.wr_kept
            assumption
        · intro _
          apply Dev.hostWordStage_kept
          split
          · apply Dev.setSpindleState_kept
            refine kept_mk ?_ rfl le_rfl rfl
            refine ite_kept ?_ ?_
            · intro _
              refine kept_mk ?_ rfl le_rfl rfl
              refine kept_mk ?_ rfl le_rfl rfl
              apply Dev.wr_kept
              assumption
            · intro _
              refine kept_mk ?_ rfl le_rfl rfl
              apply Dev.wr_kept
              assumption
          · refine kept_mk ?_ rfl le_rfl rfl
            refine ite_kept ?_ ?_
            · intro _
              refine kept_mk ?_ rfl le_rfl rfl
              refine kept_mk ?_ rfl le_rfl rfl
              apply Dev.wr_kept
              assumption
            · intro _
              refine kept_mk ?_ rfl le_rfl rfl
              apply Dev.wr_kept
              assumption

theorem commitOps_kept {u : Upto} (x0 : Bool) (x1 : List (MdpOp × Except Nat Val)) (x2 : Bool) (x3 : Dev)
    (h4 : x3.kept u) : (commitOps x0 x1 x2 x3).1.kept u := by
  (revert h4; fun_induction commitOps x0 x1 x2 x3 <;> intros)
  · dsimp only
    assumption
  · dsimp only
    refine fst_kept (by assumption) ?_
    apply_assumption
    refine fst_kept (by assumption) ?_
    split
    · dsimp only
      apply Dev.when_kept
      · assumption
      · intro _ _
        apply Dev.logIgnored_kept
        assumption
    · refine ite_fst_kept ?_ ?_
      · intro _
        dsimp only
        assumption
      · intro _
        dsimp only
        apply commitWrite_kept
        assumption

theorem mdpWrite_kept {u : Upto} (x0 : Datagram) (x1 : MdpReq) (x2 : Dev) (h3 : x2.kept u)
    : (mdpWrite x0 x1 x2).kept u := by
  unfold mdpWrite
  apply Dev.mdpSequenced_kept
  · assumption
  · intro _ _ _ _
    refine ite_fst_kept ?_ ?_
    · intro _
      dsimp only
      refine commitOps_kept _ _ _ _ ?_
      assumption
    · intro _
      refine ite_fst_kept ?_ ?_
      · intro _
        dsimp only
        assumption
      · intro _
        dsimp only
        refine Dev.writeObj_kept _ _ _ _ _ _ ?_
        assumption

theorem tableRead_kept {u : Upto} (x0 : Dev) (x1 : TableOp) (h1 : x0.kept u) : (tableRead x0 x1).1.kept u := by
  unfold tableRead
  dsimp only
  assumption

theorem mrefPresent_kept {u : Upto} (x0 : Int) (x1 : Dev) (h2 : x1.kept u) : (mrefPresent x0 x1).kept u := by
  unfold mrefPresent
  refine ite_kept ?_ ?_
  · intro _
    assumption
  · intro _
    apply Dev.forEach_kept
    · apply Dev.raise_kept
      apply Dev.inc_kept
      apply Dev.wrs_kept
      assumption
    · intro _ _ _
      apply Dev.when_kept
      · assumption
      · intro _ _
        apply Dev.setEvin_kept
        assumption

theorem xoffRepeat_kept {u : Upto} (x0 : Nat) (x1 : Option Nat) (x2 : Dev) (h3 : x2.kept u)
    : (xoffRepeat x0 x1 x2).kept u := by
  unfold xoffRepeat
  refine ite_kept ?_ ?_
  · intro _
    apply Dev.setEgress_kept
    assumption
  · intro _
    assumption

theorem plyWindowExpiry_kept {u : Upto} (x0 : Nat) (x1 : Dev) (h2 : x1.kept u) : (plyWindowExpiry x0 x1).kept u := by
  unfold plyWindowExpiry
  refine ite_kept ?_ ?_
  · intro _
    apply Dev.plyIncomplete_kept
    apply Dev.plyAlarm_kept
    assumption
  · intro _
    assumption

theorem l1SyncTx_kept {u : Upto} (x0 : Nat) (x1 : Dev) (h2 : x1.kept u) : (l1SyncTx x0 x1).kept u := by
  unfold l1SyncTx
  refine ite_kept ?_ ?_
  · intro _
    apply Dev.setLink_kept
    apply Dev.engineSend_kept
    assumption
  · intro _
    assumption

theorem Dev.armOwn_kept {u : Upto} (x0 : Dev) (x1 : Int) (x2 : Nat) (x3 : Nat) (h1 : x0.kept u)
    : (Dev.armOwn x0 x1 x2 x3).1.kept u := by
  unfold Dev.armOwn
  refine ite_fst_kept ?_ ?_
  · intro _
    dsimp only
    apply Dev.wr_kept
    apply Dev.arm_kept
    assumption
  · intro _
    dsimp only
    assumption

theorem Dev.hostSet_kept {u : Upto} (x0 : Dev) (h1 : x0.kept u) : (Dev.hostSet x0).kept u := by
  unfold Dev.hostSet
  split
  · refine ite_kept ?_ ?_
    · intro _
      refine kept_mk ?_ rfl le_rfl rfl
      assumption
    · intro _
      refine ite_kept ?_ ?_
      · intro _
        refine kept_mk ?_ rfl le_rfl rfl
        refine Dev.armOwn_kept _ _ _ _ ?_
        assumption
      · intro _
        refine Dev.armOwn_kept _ _ _ _ ?_
        assumption
  · assumption

theorem alignHuntTimeout_kept {u : Upto} (x0 : Nat) (x1 : Dev) (h2 : x1.kept u)
    : (alignHuntTimeout x0 x1).kept u := by
  unfold alignHuntTimeout
  apply Dev.when_kept
  · assumption
  · intro _ _
    apply Dev.when_kept
    · apply Dev.rxTo_kept
      assumption
    · intro _ _
      apply Dev.invertRx_kept
      assumption

theorem pcieTraining_kept {u : Upto} (x0 : Dev) (h1 : x0.kept u) : (pcieTraining x0).kept u := by
  unfold pcieTraining
  apply Dev.when_kept
  · assumption
  · intro _ _
    refine kept_mk ?_ rfl le_rfl rfl
    assumption

theorem supplySample_kept {u : Upto} (x0 : List Nat) (x1 : Nat) (x2 : Dev) (h3 : x2.kept u)
    : (supplySample x0 x1 x2).kept u := by
  unfold supplySample
  refine ite_kept ?_ ?_
  · intro _
    apply deviceFault_kept
    refine kept_mk ?_ rfl le_rfl rfl
    apply Dev.forEach_kept
    · assumption
    · intro _ _ _
      apply railSample_kept
      assumption
  · intro _
    refine kept_mk ?_ rfl le_rfl rfl
    apply Dev.forEach_kept
    · assumption
    · intro _ _ _
      apply railSample_kept
      assumption

theorem spoolStart_kept {u : Upto} (x0 : Dev) (h1 : x0.kept u) : (spoolStart x0).kept u := by
  unfold spoolStart
  refine ite_kept ?_ ?_
  · intro _
    assumption
  · intro _
    refine ite_kept ?_ ?_
    · intro _
      apply Dev.spoolFinish_kept
      assumption
    · intro _
      apply Dev.spoolNext_kept
      refine kept_mk ?_ rfl le_rfl rfl
      assumption

theorem Dev.spoolRequest_kept {u : Upto} (x0 : Dev) (x1 : SpoolReq) (h1 : x0.kept u)
    : (Dev.spoolRequest x0 x1).kept u := by
  unfold Dev.spoolRequest
  refine ite_kept ?_ ?_
  · intro _
    apply Dev.spoolResult_kept
    assumption
  · intro _
    apply Dev.spoolResult_kept
    refine kept_mk ?_ rfl le_rfl rfl
    apply Dev.spoolWrite_kept
    assumption

theorem sysWrite_kept {u : Upto} (x0 : Nat) (x1 : Nat) (x2 : Nat) (x3 : List (Nat × Byte)) (x4 : Nat) (x5 : Dev)
    (h6 : x5.kept u) : (sysWrite x0 x1 x2 x3 x4 x5).kept u := by
  unfold sysWrite
  apply Dev.spoolCall_kept
  · assumption
  · intro _ _ _
    refine ite_kept ?_ ?_
    · intro _
      apply Dev.spoolResult_kept
      assumption
    · intro _
      apply Dev.spoolRequest_kept
      assumption

theorem Dev.ageEntry_kept {u : Upto} (x0 : Nat) (x1 : Dev) (h2 : x1.kept u) : (Dev.ageEntry x0 x1).kept u := by
  unfold Dev.ageEntry
  refine ite_kept ?_ ?_
  · intro _
    refine ite_kept ?_ ?_
    · intro _
      apply Dev.inc_kept
      apply Dev.commitMac_kept
      assumption
    · intro _
      apply Dev.setMac_kept
      assumption
  · intro _
    assumption

theorem macAgeing_kept {u : Upto} (x0 : Dev) (h1 : x0.kept u) : (macAgeing x0).kept u := by
  unfold macAgeing
  refine ite_kept ?_ ?_
  · intro _
    assumption
  · intro _
    apply Dev.forEach_kept
    · assumption
    · intro _ _ _
      apply Dev.ageEntry_kept
      assumption

theorem hpDelivery_kept {u : Upto} (x0 : Nat) (x1 : Nat) (x2 : Dev) (h3 : x2.kept u)
    : (hpDelivery x0 x1 x2).kept u := by
  unfold hpDelivery
  refine ite_kept ?_ ?_
  · intro _
    assumption
  · intro _
    split
    · refine ite_kept ?_ ?_
      · intro _
        apply Dev.setRing_kept
        assumption
      · intro _
        apply Dev.fill_kept
        apply Dev.setRing_kept
        refine ite_kept ?_ ?_
        · intro _
          assumption
        · intro _
          apply Dev.setQueue_kept
          assumption
    · split
      · (dsimp only; split)
        · assumption
        · apply Dev.setRing_kept
          assumption
      · split
        · (dsimp only; split)
          · assumption
          · apply Dev.fill_kept
            apply Dev.setRing_kept
            assumption
        · (dsimp only; split)
          · assumption
          · apply Dev.fill_kept
            apply Dev.setRing_kept
            apply Dev.setQueue_kept
            assumption

theorem Dev.nqName_kept {u : Upto} (x0 : Dev) (x1 : Nat) (x2 : Nat) (x3 : Bool) (h1 : x0.kept u)
    : (Dev.nqName x0 x1 x2 x3).kept u := by
  unfold Dev.nqName
  apply Dev.nqAnnounce_kept
  apply Dev.setNq_kept
  assumption

theorem Dev.txRelockAll_kept {u : Upto} (x0 : Dev) (h1 : x0.kept u) : (Dev.txRelockAll x0).kept u := by
  unfold Dev.txRelockAll
  apply Dev.forEach_kept
  · assumption
  · intro _ _ _
    apply Dev.when_kept
    · assumption
    · intro _ _
      apply Dev.txRelock_kept
      assumption

theorem applyHostRecord_kept {u : Upto} (x0 : Nat) (x1 : Dev) (h2 : x1.kept u) : (applyHostRecord x0 x1).kept u := by
  unfold applyHostRecord
  split
  · assumption
  · refine ite_kept ?_ ?_
    · intro _
      apply Dev.setLink_kept
      assumption
    · intro _
      apply Dev.when_kept
      · apply Dev.setLink_kept
        apply Dev.updateA_kept
        apply Dev.wrs_kept
        apply Dev.setLink_kept
        assumption
      · intro _ _
        apply Dev.toTracking_kept
        assumption

theorem mailboxSegRead_kept {u : Upto} (x0 : Nat) (x1 : Dev) (h2 : x1.kept u) : (mailboxSegRead x0 x1).kept u := by
  unfold mailboxSegRead
  apply Dev.boxHead_kept
  · assumption
  · intro _ _ _
    split
    · apply Dev.boxDone_kept
      assumption
    · apply Dev.boxStatus_kept
      assumption

theorem collectExpiry_kept {u : Upto} (x0 : Nat) (x1 : Dev) (h2 : x1.kept u) : (collectExpiry x0 x1).kept u := by
  unfold collectExpiry
  (extract_lets; split)
  · refine ite_kept ?_ ?_
    · intro _
      refine kept_mk ?_ rfl le_rfl rfl
      apply Dev.calReject_kept
      apply Dev.wr_kept
      apply Dev.mapTargets_kept
      assumption
    · intro _
      apply Dev.mapTargets_kept
      assumption
  · apply Dev.mapTargets_kept
    assumption

theorem Dev.pcieAccess_kept {u : Upto} (x0 : Dev) (x1 : Access) (x2 : Bool) (x3 : Nat) (h1 : x0.kept u)
    : (Dev.pcieAccess x0 x1 x2 x3).kept u := by
  unfold Dev.pcieAccess
  refine ite_kept ?_ ?_
  · intro _
    assumption
  · intro _
    refine ite_kept ?_ ?_
    · intro _
      apply Dev.busFails_kept
      assumption
    · intro _
      refine ite_kept ?_ ?_
      · intro _
        refine kept_mk ?_ rfl le_rfl rfl
        apply Dev.performParts_kept
        assumption
      · intro _
        apply Dev.performParts_kept
        assumption

theorem busTransaction_kept {u : Upto} (x0 : Bool) (x1 : BusAccess) (x2 : Nat) (x3 : Dev) (h4 : x3.kept u)
    : (busTransaction x0 x1 x2 x3).kept u := by
  unfold busTransaction
  split
  · apply Dev.pcieAccess_kept
    refine kept_mk ?_ rfl le_rfl rfl
    assumption
  · apply Dev.spiAccess_kept
    refine kept_mk ?_ rfl le_rfl rfl
    assumption

theorem mdpRead_kept {u : Upto} (x0 : Datagram) (x1 : MdpReq) (x2 : Dev) (h3 : x2.kept u)
    : (mdpRead x0 x1 x2).kept u := by
  unfold mdpRead
  apply Dev.mdpSequenced_kept
  · assumption
  · intro _ _ _ _
    refine ite_fst_kept ?_ ?_
    · intro _
      dsimp only
      refine readOps_kept _ _ _ _ _ _ ?_
      assumption
    · intro _
      split
      · dsimp only
        refine fst_kept (by assumption) ?_
        refine Dev.readObj_kept _ _ _ _ ?_
        assumption
      · dsimp only
        refine fst_kept (by assumption) ?_
        refine Dev.readObj_kept _ _ _ _ ?_
        assumption

theorem Dev.updateMeetsTakeover_kept {u : Upto} (x0 : Dev) (x1 : Bool) (h1 : x0.kept u)
    : (Dev.updateMeetsTakeover x0 x1).kept u := by
  unfold Dev.updateMeetsTakeover
  refine ite_kept ?_ ?_
  · intro _
    apply Dev.wrs_kept
    apply Dev.disarm_kept
    assumption
  · intro _
    assumption

theorem autoDecision_kept {u : Upto} (x0 : Nat) (x1 : Dev) (h2 : x1.kept u) : (autoDecision x0 x1).kept u := by
  unfold autoDecision
  refine ite_kept ?_ ?_
  · intro _
    apply Dev.setLink_kept
    apply Dev.when_kept
    · assumption
    · intro _ _
      apply Dev.wr_kept
      assumption
  · intro _
    assumption

theorem plyPairTimeout_kept {u : Upto} (x0 : Nat) (x1 : Dev) (h2 : x1.kept u) : (plyPairTimeout x0 x1).kept u := by
  unfold plyPairTimeout
  apply Dev.when_kept
  · assumption
  · intro _ _
    apply Dev.plyAlarm_kept
    assumption

theorem beaconRx_kept {u : Upto} (x0 : Nat) (x1 : Nat) (x2 : Dev) (h3 : x2.kept u) : (beaconRx x0 x1 x2).kept u := by
  unfold beaconRx
  refine ite_kept ?_ ?_
  · intro _
    apply Dev.quadEvent_kept
    apply Dev.linkDown_kept
    apply Dev.forEach_kept
    · assumption
    · intro _ _ _
      apply Dev.wr_kept
      assumption
  · intro _
    assumption

theorem mdpDescribe_kept {u : Upto} (x0 : Datagram) (x1 : MdpReq) (x2 : Dev) (h3 : x2.kept u)
    : (mdpDescribe x0 x1 x2).kept u := by
  unfold mdpDescribe
  apply Dev.mdpSequenced_kept
  · assumption
  · intro _ _ _ _
    dsimp only
    assumption

theorem laneAlignLoss_kept {u : Upto} (x0 : Nat) (x1 : Nat) (x2 : Dev) (h3 : x2.kept u)
    : (laneAlignLoss x0 x1 x2).kept u := by
  unfold laneAlignLoss
  apply Dev.when_kept
  · assumption
  · intro _ _
    apply Dev.rxTo_kept
    apply Dev.add32_kept
    assumption

theorem Dev.selectLoop_kept {u : Upto} (x0 : Dev) (x1 : Nat) (x2 : Int) (x3 : Int) (x4 : Nat) (h1 : x0.kept u)
    : (Dev.selectLoop x0 x1 x2 x3 x4).kept u := by
  (revert h1; fun_induction Dev.selectLoop x0 x1 x2 x3 x4 <;> intros)
  · assumption
  · refine fst_kept (by assumption) ?_
    refine Dev.selectClass_kept _ _ _ ?_
    assumption
  · refine fst_kept (by assumption) ?_
    refine Dev.selectClass_kept _ _ _ ?_
    assumption
  · apply_assumption
    apply Dev.discardSelected_kept
    refine fst_kept (by assumption) ?_
    refine Dev.selectClass_kept _ _ _ ?_
    assumption
  · apply Dev.startTx_kept
    apply Dev.popQueue_kept
    apply Dev.when_kept
    · refine fst_kept (by assumption) ?_
      refine Dev.selectClass_kept _ _ _ ?_
      assumption
    · intro _ _
      apply Dev.setEgress_kept
      apply Dev.setDeficit_kept
      assumption

theorem transmitSelection_kept {u : Upto} (x0 : Nat) (x1 : Int) (x2 : Int) (x3 : Dev) (h4 : x3.kept u)
    : (transmitSelection x0 x1 x2 x3).kept u := by
  unfold transmitSelection
  refine ite_kept ?_ ?_
  · intro _
    apply Dev.until_kept
    assumption
  · intro _
    apply Dev.selectLoop_kept
    apply Dev.until_kept
    assumption

theorem serverReady_kept {u : Upto} (x0 : Dev) (h1 : x0.kept u) : (serverReady x0).kept u := by
  unfold serverReady
  refine ite_kept ?_ ?_
  · intro _
    assumption
  · intro _
    apply Dev.forEach_kept
    · apply Dev.wrs_kept
      refine kept_mk ?_ rfl le_rfl rfl
      assumption
    · intro _ _ _
      apply blockCmd_kept
      assumption

theorem Dev.pairAct_kept {u : Upto} (x0 : Dev) (x1 : Nat) (x2 : Nat) (h1 : x0.kept u)
    : (Dev.pairAct x0 x1 x2).1.kept u := by
  unfold Dev.pairAct
  (extract_lets; split)
  · dsimp only
    apply Dev.takeOver_kept
    apply Dev.setPair_kept
    assumption
  · refine ite_fst_kept ?_ ?_
    · intro _
      dsimp only
      apply Dev.setPair_kept
      apply Dev.outOfService_kept
      apply Dev.setPair_kept
      assumption
    · intro _
      dsimp only
      apply Dev.setPair_kept
      assumption
  · dsimp only
    apply Dev.setPair_kept
    assumption

theorem counterDump_kept {u : Upto} (x0 : Dev) (h1 : x0.kept u) : (counterDump x0).kept u := by
  unfold counterDump
  apply Dev.workItem_kept
  · assumption
  · intro _ _
    apply Dev.when_kept
    · refine foldl_kept _ _ _ ?_ ?_
      · refine kept_mk ?_ rfl le_rfl rfl
        assumption
      · intro _ _ _
        apply Dev.perfWrite_kept
        assumption
    · intro _ _
      apply Dev.record_kept
      assumption

theorem Dev.noReference_kept {u : Upto} (x0 : Dev) (h1 : x0.kept u) : (Dev.noReference x0).kept u := by
  unfold Dev.noReference
  refine ite_kept ?_ ?_
  · intro _
    assumption
  · intro _
    refine ite_kept ?_ ?_
    · intro _
      apply Dev.enterHoldover_kept
      apply Dev.noteLoss_kept
      assumption
    · intro _
      apply Dev.enterFreeRun_kept
      assumption

theorem txFetch_kept {u : Upto} (x0 : Nat) (x1 : TxDesc) (x2 : List Byte) (x3 : Nat) (x4 : Int) (x5 : Dev)
    (h6 : x5.kept u) : (txFetch x0 x1 x2 x3 x4 x5).kept u := by
  unfold txFetch
  refine ite_kept ?_ ?_
  · intro _
    apply Dev.until_kept
    assumption
  · intro _
    refine ite_kept ?_ ?_
    · intro _
      apply Dev.setRing_kept
      apply Dev.until_kept
      assumption
    · intro _
      refine ite_kept ?_ ?_
      · intro _
        apply Dev.txStatus_kept
        apply Dev.setRing_kept
        apply Dev.until_kept
        assumption
      · intro _
        refine ite_kept ?_ ?_
        · intro _
          apply Dev.txStatus_kept
          apply Dev.setRing_kept
          apply Dev.until_kept
          assumption
        · intro _
          refine ite_kept ?_ ?_
          · intro _
            apply Dev.txStatus_kept
            apply Dev.setRing_kept
            apply Dev.until_kept
            assumption
          · intro _
            apply Dev.inject_kept
            apply Dev.setRing_kept
            apply Dev.until_kept
            assumption

theorem mailboxRead_kept {u : Upto} (x0 : Nat) (x1 : Dev) (h2 : x1.kept u) : (mailboxRead x0 x1).kept u := by
  unfold mailboxRead
  apply Dev.boxHead_kept
  · assumption
  · intro _ _ _
    split
    · apply Dev.boxDone_kept
      refine fst_kept (by assumption) ?_
      refine Dev.readObj_kept _ _ _ _ ?_
      assumption
    · apply Dev.boxStatus_kept
      refine fst_kept (by assumption) ?_
      refine Dev.readObj_kept _ _ _ _ ?_
      assumption

theorem tableWrite_kept {u : Upto} (x0 : Dev) (x1 : TableOp) (h1 : x0.kept u) : (tableWrite x0 x1).1.kept u := by
  unfold tableWrite
  dsimp only
  refine ite_kept ?_ ?_
  · intro _
    apply Dev.writeEntry_kept
    assumption
  · intro _
    assumption

theorem Dev.fwAfterHandover_kept {u : Upto} (x0 : Dev) (x1 : Nat) (h1 : x0.kept u)
    : (Dev.fwAfterHandover x0 x1).kept u := by
  unfold Dev.fwAfterHandover
  refine ite_kept ?_ ?_
  · intro _
    assumption
  · intro _
    refine ite_kept ?_ ?_
    · intro _
      refine kept_mk ?_ rfl le_rfl rfl
      apply Dev.unitSync_kept
      apply Dev.raise_kept
      apply Dev.wrs_kept
      apply Dev.inc_kept
      apply Dev.outOfService_kept
      apply Dev.unitTo_kept
      assumption
    · intro _
      refine kept_mk ?_ rfl le_rfl rfl
      apply Dev.wrs_kept
      apply Dev.unitSync_kept
      assumption

theorem followUpRx_kept {u : Upto} (x0 : Nat) (x1 : Nat) (x2 : Int) (x3 : Int) (x4 : Nat) (x5 : Dev) (h6 : x5.kept u)
    : (followUpRx x0 x1 x2 x3 x4 x5).kept u := by
  unfold followUpRx
  (extract_lets; split)
  · assumption
  · refine ite_kept ?_ ?_
    · intro _
      apply Dev.setLink_kept
      assumption
    · intro _
      apply Dev.setLink_kept
      apply Dev.inc_kept
      assumption

theorem sysRead_kept {u : Upto} (x0 : Nat) (x1 : Nat) (x2 : Nat) (x3 : List (Nat × Byte)) (x4 : Nat) (x5 : Dev)
    (h6 : x5.kept u) : (sysRead x0 x1 x2 x3 x4 x5).kept u := by
  unfold sysRead
  apply Dev.spoolCall_kept
  · assumption
  · intro _ _ _
    refine ite_kept ?_ ?_
    · intro _
      apply Dev.spoolResult_kept
      assumption
    · intro _
      apply Dev.spoolRequest_kept
      assumption

theorem Dev.othersUpTo_kept {u : Upto} (x0 : Dev) (x1 : Nat) (x2 : Nat) (h1 : x0.kept u)
    : (Dev.othersUpTo x0 x1 x2).kept u := by
  unfold Dev.othersUpTo
  refine foldl_kept _ _ _ ?_ ?_
  · apply Dev.disarm_kept
    assumption
  · intro _ _ _
    apply applyOther_kept
    assumption

theorem revertHold_kept {u : Upto} (x0 : Nat) (x1 : Dev) (h2 : x1.kept u) : (revertHold x0 x1).kept u := by
  unfold revertHold
  apply Dev.when_kept
  · assumption
  · intro _ _
    apply Dev.setPair_kept
    assumption

theorem Dev.unitDisable_kept {u : Upto} (x0 : Dev) (x1 : Nat) (h1 : x0.kept u) : (Dev.unitDisable x0 x1).kept u := by
  unfold Dev.unitDisable
  refine ite_kept ?_ ?_
  · intro _
    apply Dev.outOfService_kept
    assumption
  · intro _
    refine ite_kept ?_ ?_
    · intro _
      apply Dev.unitTo_kept
      apply Dev.wr_kept
      apply Dev.setUnit_kept
      assumption
    · intro _
      assumption

theorem Dev.laneEnabling_kept {u : Upto} (x0 : Dev) (x1 : Nat) (h1 : x0.kept u)
    : (Dev.laneEnabling x0 x1).kept u := by
  unfold Dev.laneEnabling
  apply Dev.txStart_kept
  apply Dev.wr_kept
  apply Dev.when_kept
  · assumption
  · intro _ _
    apply Dev.takePll_kept
    assumption

theorem Dev.blockAct_kept {u : Upto} (x0 : Dev) (x1 : BlockId) (x2 : Nat) (h1 : x0.kept u)
    : (Dev.blockAct x0 x1 x2).kept u := by
  unfold Dev.blockAct
  split
  · refine ite_kept ?_ ?_
    · intro _
      refine ite_kept ?_ ?_
      · intro _
        apply Dev.unitEnable_kept
        assumption
      · intro _
        apply Dev.wr_kept
        assumption
    · intro _
      refine ite_kept ?_ ?_
      · intro _
        apply Dev.wr_kept
        assumption
      · intro _
        apply Dev.unitDisable_kept
        assumption
  · refine ite_kept ?_ ?_
    · intro _
      refine ite_kept ?_ ?_
      · intro _
        assumption
      · intro _
        refine ite_kept ?_ ?_
        · intro _
          apply Dev.wr_kept
          assumption
        · intro _
          refine ite_kept ?_ ?_
          · intro _
            apply Dev.laneEnabling_kept
            apply Dev.setBlk_kept
            assumption
          · intro _
            apply Dev.setBlk_kept
            assumption
    · intro _
      refine ite_kept ?_ ?_
      · intro _
        assumption
      · intro _
        refine ite_kept ?_ ?_
        · intro _
          apply Dev.setBlk_kept
          assumption
        · intro _
          apply Dev.blockLeaves_kept
          assumption

theorem perstAssert_kept {u : Upto} (x0 : Dev) (h1 : x0.kept u) : (perstAssert x0).kept u := by
  unfold perstAssert
  refine kept_mk ?_ rfl le_rfl rfl
  apply Dev.forEach_kept
  · assumption
  · intro _ _ _
    apply ringDisable_kept
    assumption

theorem pipelineEntry_kept {u : Upto} (x0 : Nat) (x1 : List Nat) (x2 : Dev) (h3 : x2.kept u)
    : (pipelineEntry x0 x1 x2).kept u := by
  unfold pipelineEntry
  split
  · apply Dev.enterFrom_kept
    assumption
  · assumption

theorem Dev.restartRecords_kept {u : Upto} (x0 : Dev) (h1 : x0.kept u) : (Dev.restartRecords x0).kept u := by
  unfold Dev.restartRecords
  refine kept_mk ?_ rfl le_rfl rfl
  split
  · apply Dev.forEach_kept
    · refine kept_mk ?_ rfl le_rfl rfl
      assumption
    · intro _ _ _
      apply cutLeads_kept
      apply Dev.overrun_kept
      assumption
  · assumption

theorem Dev.restartClears_kept {u : Upto} (x0 : Bool) (x1 : Dev) (h2 : x1.kept u)
    : (Dev.restartClears x0 x1).kept u := by
  unfold Dev.restartClears
  apply Dev.when_kept
  · refine kept_mk ?_ rfl le_rfl rfl
    apply Dev.forEach_kept
    · refine Dev.macFlush_kept _ _ _ ?_
      assumption
    · intro _ _ _
      apply Dev.wrs_kept
      apply Dev.setEgress_kept
      assumption
  · intro _ _
    apply Dev.configLost_kept
    assumption

theorem restartBegins_kept {u : Upto} (configBad : Bool) (d : Dev) (h : d.kept u) (hs : u.still = none) :
    (restartBegins configBad d).kept u := by
  unfold restartBegins
  extract_lets d1 d2
  have h2 : d2.kept u := Dev.showAllGates_kept _ _ (Dev.discontinuity_kept _ _ (Dev.restartRecords_kept _
    (Dev.restartReloads_kept _ (Dev.restartClears_kept _ _ h))) (Dev.firstTurnAt_reached _ _) hs)
  clear_value d2
  exact Dev.planeStatus_kept _ (Dev.wr_kept _ _ _ (kept_mk h2 rfl le_rfl rfl))

theorem frameRxStart_kept {u : Upto} (x0 : Nat) (x1 : List Byte) (x2 : Bool) (x3 : RxStamp) (x4 : Dev)
    (h5 : x4.kept u) : (frameRxStart x0 x1 x2 x3 x4).kept u := by
  unfold frameRxStart
  refine ite_kept ?_ ?_
  · intro _
    assumption
  · intro _
    refine ite_kept ?_ ?_
    · intro _
      apply Dev.setReceiving_kept
      apply Dev.inc_kept
      apply Dev.newFrame_kept
      apply Dev.counted_kept
      assumption
    · intro _
      apply Dev.setReceiving_kept
      apply Dev.setFifo_kept
      apply Dev.newFrame_kept
      apply Dev.counted_kept
      assumption

theorem tableDelete_kept {u : Upto} (x0 : Dev) (x1 : TableOp) (h1 : x0.kept u) : (tableDelete x0 x1).1.kept u := by
  unfold tableDelete
  refine ite_fst_kept ?_ ?_
  · intro _
    dsimp only
    assumption
  · intro _
    split
    · dsimp only
      apply Dev.commitMac_kept
      assumption
    · dsimp only
      assumption

theorem tableSearch_kept {u : Upto} (x0 : Dev) (x1 : TableOp) (h1 : x0.kept u) : (tableSearch x0 x1).1.kept u := by
  unfold tableSearch
  refine ite_fst_kept ?_ ?_
  · intro _
    dsimp only
    assumption
  · intro _
    split
    · dsimp only
      assumption
    · dsimp only
      assumption

theorem tableFlush_kept {u : Upto} (x0 : Dev) (x1 : TableOp) (h1 : x0.kept u) : (tableFlush x0 x1).1.kept u := by
  unfold tableFlush
  refine ite_fst_kept ?_ ?_
  · intro _
    dsimp only
    assumption
  · intro _
    dsimp only
    refine Dev.macFlush_kept _ _ _ ?_
    assumption

theorem Dev.tableRun_kept {u : Upto} (x0 : Dev) (x1 : TableOp) (h1 : x0.kept u) : (Dev.tableRun x0 x1).1.kept u := by
  unfold Dev.tableRun
  split
  · refine tableRead_kept _ _ ?_
    assumption
  · refine tableWrite_kept _ _ ?_
    assumption
  · refine tableInsert_kept _ _ ?_
    assumption
  · refine tableDelete_kept _ _ ?_
    assumption
  · refine tableSearch_kept _ _ ?_
    assumption
  · refine tableFlush_kept _ _ ?_
    assumption

theorem Dev.sendPtp_kept {u : Upto} (x0 : Dev) (x1 : Nat) (x2 : PtpMsg) (h1 : x0.kept u)
    : (Dev.sendPtp x0 x1 x2).kept u := by
  unfold Dev.sendPtp
  apply Dev.engineSend_kept
  assumption

theorem pdelayRespTx_kept {u : Upto} (x0 : Nat) (x1 : Dev) (h2 : x1.kept u) : (pdelayRespTx x0 x1).kept u := by
  unfold pdelayRespTx
  (extract_lets; split)
  · assumption
  · apply Dev.setLink_kept
    apply Dev.sendPtp_kept
    assumption

theorem mailboxWrite_kept {u : Upto} (x0 : Nat) (x1 : Dev) (h2 : x1.kept u) : (mailboxWrite x0 x1).kept u := by
  unfold mailboxWrite
  apply Dev.boxHead_kept
  · assumption
  · intro _ _ _
    refine ite_kept ?_ ?_
    · intro _
      apply Dev.boxStatus_kept
      assumption
    · intro _
      apply Dev.boxStatus_kept
      split
      · dsimp only
        apply Dev.when_kept
        · assumption
        · intro _ _
          apply Dev.logIgnored_kept
          assumption
      · dsimp only
        apply commitWrite_kept
        assumption

theorem adaptationConverged_kept {u : Upto} (x0 : Nat) (x1 : List Byte) (x2 : Dev) (h3 : x2.kept u)
    : (adaptationConverged x0 x1 x2).kept u := by
  unfold adaptationConverged
  refine ite_kept ?_ ?_
  · intro _
    apply Dev.rxTo_kept
    apply Dev.when_kept
    · assumption
    · intro _ _
      apply Dev.setCoeffs_kept
      assumption
  · intro _
    assumption

theorem mdpStatus_kept {u : Upto} (x0 : Datagram) (x1 : MdpReq) (x2 : Dev) (h3 : x2.kept u)
    : (mdpStatus x0 x1 x2).kept u := by
  unfold mdpStatus
  apply Dev.mdpInSession_kept
  · assumption
  · intro _ _ _
    apply Dev.mdpSend_kept
    apply Dev.counted_kept
    assumption

theorem Dev.ptpFollows_kept {u : Upto} (x0 : Dev) (x1 : Nat) (x2 : PtpMsg) (x3 : Int) (h1 : x0.kept u)
    : (Dev.ptpFollows x0 x1 x2 x3).kept u := by
  unfold Dev.ptpFollows
  refine ite_kept ?_ ?_
  · intro _
    assumption
  · intro _
    refine ite_kept ?_ ?_
    · intro _
      apply Dev.sendPtp_kept
      assumption
    · intro _
      refine ite_kept ?_ ?_
      · intro _
        apply Dev.sendPtp_kept
        assumption
      · intro _
        assumption

theorem frameTxEnd_kept {u : Upto} (x0 : Nat) (x1 : Int) (x2 : Dev) (h3 : x2.kept u)
    : (frameTxEnd x0 x1 x2).kept u := by
  unfold frameTxEnd
  (extract_lets; split)
  · apply Dev.until_kept
    assumption
  · (extract_lets; split)
    · split
      · apply Dev.ptpFollows_kept
        apply Dev.freeCopy_kept
        apply Dev.countTx_kept
        apply Dev.inc_kept
        apply Dev.setEgress_kept
        apply Dev.until_kept
        assumption
      · apply Dev.freeCopy_kept
        apply Dev.countTx_kept
        apply Dev.inc_kept
        apply Dev.setEgress_kept
        apply Dev.until_kept
        assumption
    · apply Dev.freeCopy_kept
      apply Dev.txOutcome_kept
      apply Dev.countTx_kept
      apply Dev.inc_kept
      apply Dev.setEgress_kept
      apply Dev.until_kept
      assumption

theorem blockFault_kept {u : Upto} (x0 : BlockId) (x1 : Nat) (x2 : Dev) (h3 : x2.kept u)
    : (blockFault x0 x1 x2).kept u := by
  unfold blockFault
  refine ite_kept ?_ ?_
  · intro _
    assumption
  · intro _
    refine ite_kept ?_ ?_
    · intro _
      apply Dev.blockLeaves_kept
      apply Dev.countFault_kept
      assumption
    · intro _
      apply Dev.countFault_kept
      assumption

theorem cdrLockLoss_kept {u : Upto} (x0 : Nat) (x1 : Dev) (h2 : x1.kept u) : (cdrLockLoss x0 x1).kept u := by
  unfold cdrLockLoss
  apply Dev.when_kept
  · assumption
  · intro _ _
    apply Dev.rxTo_kept
    assumption

theorem Dev.tableReport_kept {u : Upto} (x0 : Dev) (x1 : TableOut) (h1 : x0.kept u)
    : (Dev.tableReport x0 x1).kept u := by
  unfold Dev.tableReport
  apply Dev.when_kept
  · apply Dev.inc_kept
    split
    · apply Dev.wrV_kept
      split
      · apply Dev.wr_kept
        apply Dev.wrs_kept
        assumption
      · apply Dev.wrs_kept
        assumption
    · split
      · apply Dev.wr_kept
        apply Dev.wrs_kept
        assumption
      · apply Dev.wrs_kept
        assumption
  · intro _ _
    apply Dev.raise_kept
    assumption

theorem tableComplete_kept {u : Upto} (x0 : Dev) (h1 : x0.kept u) : (tableComplete x0).kept u := by
  unfold tableComplete
  split
  · assumption
  · apply Dev.tableReport_kept
    refine Dev.tableRun_kept _ _ ?_
    refine kept_mk ?_ rfl le_rfl rfl
    assumption

theorem syncTx_kept {u : Upto} (x0 : Nat) (x1 : Dev) (h2 : x1.kept u) : (syncTx x0 x1).kept u := by
  unfold syncTx
  refine ite_kept ?_ ?_
  · intro _
    assumption
  · intro _
    (extract_lets; split)
    · apply Dev.setLink_kept
      apply Dev.sendPtp_kept
      apply Dev.setLink_kept
      apply Dev.sendPtp_kept
      assumption
    · apply Dev.setLink_kept
      apply Dev.sendPtp_kept
      assumption

theorem addressLearning_kept {u : Upto} (x0 : Dev) (h1 : x0.kept u) : (addressLearning x0).kept u := by
  unfold addressLearning
  apply Dev.workItem_kept
  · assumption
  · intro _ _
    refine ite_kept ?_ ?_
    · intro _
      apply Dev.learnAll_kept
      apply Dev.setLearnQueue_kept
      assumption
    · intro _
      assumption

theorem Dev.switchTo_kept {u : Upto} (x0 : Dev) (x1 : Nat) (h1 : x0.kept u) : (Dev.switchTo x0 x1).kept u := by
  unfold Dev.switchTo
  apply Dev.refreshQl_kept
  apply Dev.updateClass_kept
  refine ite_kept ?_ ?_
  · intro _
    refine kept_mk ?_ rfl le_rfl rfl
    apply Dev.forEach_kept
    · apply Dev.setZero_kept
      apply Dev.wrs_kept
      apply Dev.inc_kept
      apply Dev.raise_kept
      apply Dev.wr_kept
      assumption
    · intro _ _ _
      apply Dev.setCand_kept
      assumption
  · intro _
    refine ite_kept ?_ ?_
    · intro _
      apply Dev.enterAcquiring_kept
      refine kept_mk ?_ rfl le_rfl rfl
      apply Dev.forEach_kept
      · apply Dev.setZero_kept
        apply Dev.wrs_kept
        apply Dev.inc_kept
        apply Dev.raise_kept
        apply Dev.wr_kept
        assumption
      · intro _ _ _
        apply Dev.setCand_kept
        assumption
    · intro _
      apply Dev.when_kept
      · refine kept_mk ?_ rfl le_rfl rfl
        apply Dev.forEach_kept
        · apply Dev.setZero_kept
          apply Dev.wrs_kept
          apply Dev.inc_kept
          apply Dev.raise_kept
          apply Dev.wr_kept
          assumption
        · intro _ _ _
          apply Dev.setCand_kept
          assumption
      · intro _ _
        apply Dev.enterAcquiring_kept
        assumption

theorem Dev.deselect_kept {u : Upto} (x0 : Dev) (h1 : x0.kept u) : (Dev.deselect x0).kept u := by
  unfold Dev.deselect
  apply Dev.refreshQl_kept
  apply Dev.updateClass_kept
  apply Dev.when_kept
  · refine kept_mk ?_ rfl le_rfl rfl
    apply Dev.raise_kept
    apply Dev.wrs_kept
    assumption
  · intro _ _
    apply Dev.noReference_kept
    assumption

theorem Dev.referenceSwitch_kept {u : Upto} (x0 : Dev) (h1 : x0.kept u) : (Dev.referenceSwitch x0).kept u := by
  unfold Dev.referenceSwitch
  split
  · assumption
  · refine ite_kept ?_ ?_
    · intro _
      apply Dev.switchTo_kept
      refine kept_mk ?_ rfl le_rfl rfl
      assumption
    · intro _
      apply Dev.deselect_kept
      refine kept_mk ?_ rfl le_rfl rfl
      assumption

theorem Dev.nqWiden_kept {u : Upto} (x0 : Dev) (x1 : Nat) (x2 : Nat) (h1 : x0.kept u)
    : (Dev.nqWiden x0 x1 x2).kept u := by
  unfold Dev.nqWiden
  apply Dev.nqAnnounce_kept
  apply Dev.setNq_kept
  apply Dev.forEach_kept
  · assumption
  · intro _ _ _
    apply Dev.when_kept
    · assumption
    · intro _ _
      apply Dev.wr_kept
      assumption

theorem nqThinWindow_kept {u : Upto} (x0 : Nat) (x1 : Nat) (x2 : Dev) (h3 : x2.kept u)
    : (nqThinWindow x0 x1 x2).kept u := by
  unfold nqThinWindow
  refine ite_kept ?_ ?_
  · intro _
    assumption
  · intro _
    refine ite_kept ?_ ?_
    · intro _
      apply Dev.setNq_kept
      assumption
    · intro _
      refine ite_kept ?_ ?_
      · intro _
        apply Dev.nqName_kept
        apply Dev.setNq_kept
        assumption
      · intro _
        refine ite_kept ?_ ?_
        · intro _
          apply Dev.nqName_kept
          apply Dev.setNq_kept
          assumption
        · intro _
          refine ite_kept ?_ ?_
          · intro _
            apply Dev.nqWiden_kept
            apply Dev.setNq_kept
            assumption
          · intro _
            apply Dev.setNq_kept
            assumption

theorem Dev.laneLocks_kept {u : Upto} (x0 : Dev) (x1 : Nat) (x2 : Nat) (x3 : Nat) (x4 : Nat) (h1 : x0.kept u)
    : (Dev.laneLocks x0 x1 x2 x3 x4).kept u := by
  unfold Dev.laneLocks
  apply Dev.when_kept
  · split
    · apply Dev.when_kept
      · apply Dev.setLink_kept
        apply Dev.foldPort_kept
        apply Dev.setWhorl_kept
        apply Dev.wrB_kept
        apply Dev.setLane_kept
        apply Dev.wr_kept
        apply Dev.inc_kept
        apply Dev.wr_kept
        assumption
      · intro _ _
        apply Dev.inc_kept
        assumption
    · apply Dev.setWhorl_kept
      apply Dev.wrB_kept
      apply Dev.setLane_kept
      apply Dev.wr_kept
      apply Dev.inc_kept
      apply Dev.wr_kept
      assumption
  · intro _ _
    apply Dev.setNq_kept
    assumption

theorem alignmentFound_kept {u : Upto} (x0 : Nat) (x1 : Nat) (x2 : Nat) (x3 : Nat) (x4 : Bool) (x5 : Dev)
    (h6 : x5.kept u) : (alignmentFound x0 x1 x2 x3 x4 x5).kept u := by
  unfold alignmentFound
  refine ite_kept ?_ ?_
  · intro _
    assumption
  · intro _
    refine ite_kept ?_ ?_
    · intro _
      apply Dev.invertRx_kept
      assumption
    · intro _
      apply Dev.laneLocks_kept
      assumption

theorem mdpSegRead_kept {u : Upto} (x0 : Datagram) (x1 : MdpReq) (x2 : Dev) (h3 : x2.kept u)
    : (mdpSegRead x0 x1 x2).kept u := by
  unfold mdpSegRead
  apply Dev.mdpSequenced_kept
  · assumption
  · intro _ _ _ _
    refine ite_fst_kept ?_ ?_
    · intro _
      dsimp only
      assumption
    · intro _
      split
      · dsimp only
        assumption
      · dsimp only
        assumption

theorem syncRx_kept {u : Upto} (x0 : Nat) (x1 : Nat) (x2 : Bool) (x3 : Int) (x4 : Int) (x5 : Nat) (x6 : RxStamp)
    (x7 : Dev) (h8 : x7.kept u) : (syncRx x0 x1 x2 x3 x4 x5 x6 x7).kept u := by
  unfold syncRx
  refine ite_kept ?_ ?_
  · intro _
    assumption
  · intro _
    apply Dev.setLink_kept
    apply Dev.add32_kept
    assumption

theorem ptLock_kept {u : Upto} (x0 : Nat) (x1 : Nat) (x2 : Nat) (x3 : Dev) (h4 : x3.kept u)
    : (ptLock x0 x1 x2 x3).kept u := by
  unfold ptLock
  apply Dev.when_kept
  · assumption
  · intro _ _
    apply Dev.ptCount_kept
    apply Dev.wr_kept
    assumption

theorem announceTx_kept {u : Upto} (x0 : Nat) (x1 : Dev) (h2 : x1.kept u) : (announceTx x0 x1).kept u := by
  unfold announceTx
  refine ite_kept ?_ ?_
  · intro _
    apply Dev.setLink_kept
    apply Dev.engineSend_kept
    apply Dev.updateClass_kept
    assumption
  · intro _
    apply Dev.updateClass_kept
    assumption

theorem mdpKeepalive_kept {u : Upto} (x0 : Datagram) (x1 : MdpReq) (x2 : Dev) (h3 : x2.kept u)
    : (mdpKeepalive x0 x1 x2).kept u := by
  unfold mdpKeepalive
  apply Dev.mdpInSession_kept
  · assumption
  · intro _ _ _
    apply Dev.mdpSend_kept
    apply Dev.counted_kept
    assumption

theorem Dev.blockBoundary_kept {u : Upto} (x0 : Dev) (h1 : x0.kept u) : (Dev.blockBoundary x0).kept u := by
  unfold Dev.blockBoundary
  refine foldl_kept _ _ _ ?_ ?_
  · refine kept_mk ?_ rfl le_rfl rfl
    assumption
  · intro _ _ _
    split
    · apply Dev.blockAct_kept
      assumption
    · assumption

theorem Dev.softAlarm_kept {u : Upto} (x0 : Dev) (x1 : Nat) (x2 : Bool) (h1 : x0.kept u)
    : (Dev.softAlarm x0 x1 x2).kept u := by
  unfold Dev.softAlarm
  refine ite_kept ?_ ?_
  · intro _
    assumption
  · intro _
    refine ite_kept ?_ ?_
    · intro _
      apply Dev.refInEvent_kept
      apply Dev.wrB_kept
      assumption
    · intro _
      apply Dev.raise_kept
      apply Dev.wr_kept
      apply Dev.wrB_kept
      assumption

theorem freqReport_kept {u : Upto} (x0 x3 : Nat) (x1 : Dev) (h2 : x1.kept u) : (freqReport x0 x3 x1).kept u := by
  unfold freqReport
  split
  · assumption
  · refine ite_kept ?_ ?_
    · intro _
      apply Dev.disqualify_kept
      refine ite_kept ?_ ?_
      · intro _
        apply Dev.softAlarm_kept
        apply Dev.setCand_kept
        apply Dev.wr_kept
        assumption
      · intro _
        apply Dev.when_kept
        · apply Dev.setCand_kept
          apply Dev.wr_kept
          assumption
        · intro _ _
          apply Dev.softAlarm_kept
          assumption
    · intro _
      apply Dev.when_kept
      · refine ite_kept ?_ ?_
        · intro _
          apply Dev.softAlarm_kept
          apply Dev.setCand_kept
          apply Dev.wr_kept
          assumption
        · intro _
          apply Dev.when_kept
          · apply Dev.setCand_kept
            apply Dev.wr_kept
            assumption
          · intro _ _
            apply Dev.softAlarm_kept
            assumption
      · intro _ _
        apply Dev.clearCause_kept
        assumption

theorem restartBlock_kept {u : Upto} (x0 : BlockId) (x1 : Dev) (h2 : x1.kept u) : (restartBlock x0 x1).kept u := by
  unfold restartBlock
  refine ite_kept ?_ ?_
  · intro _
    assumption
  · intro _
    refine ite_kept ?_ ?_
    · intro _
      split
      · split
        · apply Dev.laneEnabling_kept
          refine kept_mk ?_ rfl le_rfl rfl
          apply Dev.setBlk_kept
          assumption
        · apply refreshCand_kept
          refine kept_mk ?_ rfl le_rfl rfl
          apply Dev.setBlk_kept
          assumption
        · apply Dev.refreshLines_kept
          refine kept_mk ?_ rfl le_rfl rfl
          apply Dev.setBlk_kept
          assumption
        · apply refreshOut_kept
          refine kept_mk ?_ rfl le_rfl rfl
          apply Dev.setBlk_kept
          assumption
        · apply refreshOut_kept
          apply outStops_kept
          refine kept_mk ?_ rfl le_rfl rfl
          apply Dev.setBlk_kept
          assumption
        · refine kept_mk ?_ rfl le_rfl rfl
          apply Dev.setBlk_kept
          assumption
      · split
        · apply Dev.laneEnabling_kept
          refine kept_mk ?_ rfl le_rfl rfl
          apply Dev.setBlk_kept
          assumption
        · apply refreshCand_kept
          refine kept_mk ?_ rfl le_rfl rfl
          apply Dev.setBlk_kept
          assumption
        · apply Dev.refreshLines_kept
          refine kept_mk ?_ rfl le_rfl rfl
          apply Dev.setBlk_kept
          assumption
        · apply refreshOut_kept
          refine kept_mk ?_ rfl le_rfl rfl
          apply Dev.setBlk_kept
          assumption
        · apply refreshOut_kept
          apply outStops_kept
          refine kept_mk ?_ rfl le_rfl rfl
          apply Dev.setBlk_kept
          assumption
        · refine kept_mk ?_ rfl le_rfl rfl
          apply Dev.setBlk_kept
          assumption
    · intro _
      apply Dev.when_kept
      · assumption
      · intro _ _
        apply Dev.setBlk_kept
        assumption

theorem Dev.wordWithin_kept {u : Upto} (x0 : Nat) (x1 : Dev) (h2 : x1.kept u) : (Dev.wordWithin x0 x1).kept u := by
  unfold Dev.wordWithin
  apply Dev.wrs_kept
  assumption

theorem Dev.segWrite_kept {u : Upto} (x0 : Dev) (x1 : Nat) (x2 : Bool) (x3 : Nat) (x4 : Option Transfer) (x5 : Nat)
    (x6 : Nat) (x7 : List Byte) (h1 : x0.kept u) : (Dev.segWrite x0 x1 x2 x3 x4 x5 x6 x7).1.kept u := by
  unfold Dev.segWrite
  split
  · refine ite_fst_kept ?_ ?_
    · intro _
      dsimp only
      assumption
    · intro _
      refine ite_fst_kept ?_ ?_
      · intro _
        dsimp only
        assumption
      · intro _
        dsimp only
        refine Dev.writeObj_kept _ _ _ _ _ _ ?_
        assumption
  · dsimp only
    assumption

theorem Dev.setTransfer_kept {u : Upto} (x0 : Dev) (x1 : Nat) (x2 : Option Transfer) (h1 : x0.kept u)
    : (Dev.setTransfer x0 x1 x2).kept u := by
  unfold Dev.setTransfer
  apply Dev.setSession_kept
  assumption

theorem mdpSegWrite_kept {u : Upto} (x0 : Datagram) (x1 : MdpReq) (x2 : Dev) (h3 : x2.kept u)
    : (mdpSegWrite x0 x1 x2).kept u := by
  unfold mdpSegWrite
  apply Dev.mdpSequenced_kept
  · assumption
  · intro _ _ _ _
    refine ite_fst_kept ?_ ?_
    · intro _
      dsimp only
      assumption
    · intro _
      dsimp only
      apply Dev.when_kept
      · refine Dev.segWrite_kept _ _ _ _ _ _ _ _ ?_
        assumption
      · intro _ _
        apply Dev.setTransfer_kept
        assumption

theorem lockoutEnds_kept {u : Upto} (x0 : List Byte) (x1 : Dev) (h2 : x1.kept u) : (lockoutEnds x0 x1).kept u := by
  unfold lockoutEnds
  refine kept_mk ?_ rfl le_rfl rfl
  assumption

theorem deepTraining_kept {u : Upto} (x0 : Bool) (x1 : Dev) (h2 : x1.kept u) : (deepTraining x0 x1).kept u := by
  unfold deepTraining
  refine ite_kept ?_ ?_
  · intro _
    assumption
  · intro _
    refine kept_mk ?_ rfl le_rfl rfl
    apply Dev.wrs_kept
    apply Dev.blockLeaves_kept
    apply Dev.countFault_kept
    assumption

theorem mdpProve_kept {u : Upto} (x0 : Datagram) (x1 : MdpReq) (x2 : Dev) (h3 : x2.kept u)
    : (mdpProve x0 x1 x2).kept u := by
  unfold mdpProve
  refine ite_kept ?_ ?_
  · intro _
    apply Dev.mdpDiscard_kept
    apply Dev.counted_kept
    assumption
  · intro _
    refine ite_kept ?_ ?_
    · intro _
      apply Dev.mdpAnswer_kept
      apply Dev.counted_kept
      assumption
    · intro _
      refine ite_kept ?_ ?_
      · intro _
        apply Dev.mdpSend_kept
        apply Dev.slotOpens_kept
        apply Dev.setSession_kept
        apply Dev.counted_kept
        assumption
      · intro _
        apply Dev.mdpAnswer_kept
        apply Dev.proofFailed_kept
        apply Dev.counted_kept
        assumption

theorem nqRestore_kept {u : Upto} (x0 : Nat) (x1 : Nat) (x2 : Dev) (h3 : x2.kept u)
    : (nqRestore x0 x1 x2).kept u := by
  unfold nqRestore
  refine ite_kept ?_ ?_
  · intro _
    apply Dev.quadEvent_kept
    apply Dev.nqAnnounce_kept
    apply Dev.setNq_kept
    assumption
  · intro _
    assumption

theorem Dev.fixedLost_kept {u : Upto} (x0 : Dev) (h1 : x0.kept u) : (Dev.fixedLost x0).kept u := by
  unfold Dev.fixedLost
  apply Dev.raise_kept
  apply Dev.inc_kept
  apply Dev.wr_kept
  apply Dev.forEach_kept
  · assumption
  · intro _ _ _
    apply Dev.setPulse_kept
    assumption

theorem Dev.plinthGone_kept {u : Upto} (d : Dev) (h : d.kept u) : d.plinthGone.kept u := by
  unfold Dev.plinthGone
  extract_lets d1 d2
  have h2 : d2.kept u := Dev.wr_kept _ _ _ (Dev.steeredLost_kept _ _
    (Dev.when_kept _ _ _ h fun d hd => Dev.fixedLost_kept _ hd))
  clear_value d2
  exact kept_mk h2 rfl le_rfl rfl

theorem plinthLoss_kept {u : Upto} (x0 : Dev) (h1 : x0.kept u) : (plinthLoss x0).kept u := by
  unfold plinthLoss
  refine ite_kept ?_ ?_
  · intro _
    assumption
  · intro _
    apply deviceFault_kept
    apply Dev.refreshLines_kept
    apply Dev.when_kept
    · apply Dev.plinthGone_kept
      assumption
    · intro _ _
      apply Dev.raiseSpindles_kept
      apply Dev.refreshPhase_kept
      apply Dev.wrs_kept
      assumption

theorem lanePllLoss_kept {u : Upto} (x0 : Nat) (x1 : Nat) (x2 : Dev) (h3 : x2.kept u)
    : (lanePllLoss x0 x1 x2).kept u := by
  unfold lanePllLoss
  refine ite_kept ?_ ?_
  · intro _
    assumption
  · intro _
    apply Dev.quadEvent_kept
    apply Dev.forEach_kept
    · apply Dev.wr_kept
      assumption
    · intro _ _ _
      apply Dev.unclock_kept
      assumption

theorem Dev.moveTiming_kept {u : Upto} (x0 : Dev) (x1 : Nat) (x2 : Nat) (h1 : x0.kept u)
    : (Dev.moveTiming x0 x1 x2).kept u := by
  unfold Dev.moveTiming
  refine ite_kept ?_ ?_
  · intro _
    assumption
  · intro _
    apply Dev.foldPort_kept
    apply Dev.abandonExchanges_kept
    apply Dev.setWhorl_kept
    apply Dev.wr_kept
    assumption

theorem Dev.advanceTo_kept {u : Upto} (x0 : Dev) (x1 : Int) (h1 : x0.kept u) : (Dev.advanceTo x0 x1).kept u := by
  unfold Dev.advanceTo
  apply Dev.advance_kept
  assumption

theorem gapHeartbeat_kept {u : Upto} (x0 : PairObs) (x1 : PairObs) (x2 : Dev) (h3 : x2.kept u)
    : (gapHeartbeat x0 x1 x2).kept u := by
  unfold gapHeartbeat
  refine ite_kept ?_ ?_
  · intro _
    apply faultOf_kept
    refine Dev.arbitrateAll_kept _ _ _ _ ?_
    refine Dev.pairAct_kept _ _ _ ?_
    refine Dev.pairAct_kept _ _ _ ?_
    assumption
  · intro _
    assumption

theorem fixedSynthLoss_kept {u : Upto} (x0 : Dev) (h1 : x0.kept u) : (fixedSynthLoss x0).kept u := by
  unfold fixedSynthLoss
  refine ite_kept ?_ ?_
  · intro _
    assumption
  · intro _
    refine ite_kept ?_ ?_
    · intro _
      apply deviceFault_kept
      apply Dev.refreshLines_kept
      apply Dev.fixedLost_kept
      assumption
    · intro _
      apply deviceFault_kept
      apply Dev.refreshLines_kept
      apply Dev.bothUnlocked_kept
      apply Dev.fixedLost_kept
      assumption

theorem disablingComplete_kept {u : Upto} (x0 : BlockId) (x1 : Dev) (h2 : x1.kept u)
    : (disablingComplete x0 x1).kept u := by
  unfold disablingComplete
  refine ite_kept ?_ ?_
  · intro _
    apply Dev.setBlk_kept
    assumption
  · intro _
    assumption

theorem snapshotCapture_kept {u : Upto} (x0 : Dev) (h1 : x0.kept u) : (snapshotCapture x0).kept u := by
  unfold snapshotCapture
  refine ite_kept ?_ ?_
  · intro _
    refine kept_mk ?_ rfl le_rfl rfl
    apply Dev.wrs_kept
    assumption
  · intro _
    assumption

theorem mailboxUnsupported_kept {u : Upto} (x0 : Nat) (x1 : Dev) (h2 : x1.kept u)
    : (mailboxUnsupported x0 x1).kept u := by
  unfold mailboxUnsupported
  refine ite_kept ?_ ?_
  · intro _
    apply Dev.boxHead_kept
    · assumption
    · intro _ _ _
      apply Dev.boxStatus_kept
      assumption
  · intro _
    assumption

theorem mailboxComplete_kept {u : Upto} (x0 : Nat) (x1 : Dev) (h2 : x1.kept u) : (mailboxComplete x0 x1).kept u := by
  unfold mailboxComplete
  (extract_lets; split)
  · apply mailboxUnsupported_kept
    assumption
  · apply Dev.when_kept
    · apply Dev.setBox_kept
      apply mailboxUnsupported_kept
      assumption
    · intro _ _
      apply Dev.raise_kept
      assumption

theorem fwLoaded_kept {u : Upto} (x0 : Bool) (x1 : Dev) (h2 : x1.kept u) : (fwLoaded x0 x1).kept u := by
  unfold fwLoaded
  refine ite_kept ?_ ?_
  · intro _
    assumption
  · intro _
    refine ite_kept ?_ ?_
    · intro _
      apply Dev.wr_kept
      assumption
    · intro _
      apply Dev.wrs_kept
      apply Dev.disarm_kept
      assumption

theorem fwFlashComplete_kept {u : Upto} (x0 : Bool) (x1 : Dev) (h2 : x1.kept u) : (fwFlashComplete x0 x1).kept u := by
  unfold fwFlashComplete
  refine ite_kept ?_ ?_
  · intro _
    assumption
  · intro _
    split
    · refine kept_mk ?_ rfl le_rfl rfl
      apply Dev.wrs_kept
      assumption
    · apply Dev.wr_kept
      assumption

theorem announceRx_kept {u : Upto} (x0 : Nat) (x1 : Nat) (x2 : AnnounceMsg) (x3 : Dev) (h4 : x3.kept u)
    : (announceRx x0 x1 x2 x3).kept u := by
  unfold announceRx
  refine ite_kept ?_ ?_
  · intro _
    assumption
  · intro _
    apply Dev.bmca_kept
    apply Dev.updateClass_kept
    apply Dev.setLink_kept
    assumption

theorem pdelayFollowUpRx_kept {u : Upto} (x0 : Nat) (x1 : Nat) (x2 : Int) (x3 : Int) (x4 : Dev) (h5 : x4.kept u)
    : (pdelayFollowUpRx x0 x1 x2 x3 x4).kept u := by
  unfold pdelayFollowUpRx
  apply Dev.setLink_kept
  assumption

theorem edgesAtBoundary_kept {u : Upto} (x0 : Nat) (x1 : Dev) (h2 : x1.kept u) : (edgesAtBoundary x0 x1).kept u := by
  unfold edgesAtBoundary
  apply Dev.setRefIn_kept
  assumption

theorem pairAtBoundary_kept {u : Upto} (x0 : Nat) (x1 : Dev) (h2 : x1.kept u) : (pairAtBoundary x0 x1).kept u := by
  unfold pairAtBoundary
  apply Dev.when_kept
  · assumption
  · intro _ _
    apply Dev.setRefIn_kept
    assumption

theorem Dev.changeoverBack_kept {u : Upto} (x0 : Dev) (h1 : x0.kept u) : (Dev.changeoverBack x0).kept u := by
  unfold Dev.changeoverBack
  refine ite_kept ?_ ?_
  · intro _
    apply Dev.refreshLines_kept
    refine kept_mk ?_ rfl le_rfl rfl
    apply Dev.raise_kept
    apply Dev.wr_kept
    assumption
  · intro _
    assumption

theorem Dev.changesBack_kept {u : Upto} (x0 : Dev) (h1 : x0.kept u) : (Dev.changesBack x0).kept u := by
  unfold Dev.changesBack
  apply Dev.when_kept
  · apply Dev.changeoverBack_kept
    assumption
  · intro _ _
    apply Dev.txRelockAll_kept
    assumption

theorem Dev.wordsWithin_kept {u : Upto} (x0 : Dev) (h1 : x0.kept u) : (Dev.wordsWithin x0).kept u := by
  unfold Dev.wordsWithin
  apply Dev.when_kept
  · assumption
  · intro _ _
    apply Dev.wordWithin_kept
    apply Dev.wordWithin_kept
    assumption

theorem Dev.decisionsAtBoundary_kept {u : Upto} (x0 : Dev) (h1 : x0.kept u)
    : (Dev.decisionsAtBoundary x0).kept u := by
  unfold Dev.decisionsAtBoundary
  apply Dev.changesBack_kept
  apply Dev.wordsWithin_kept
  apply Dev.referenceSwitch_kept
  apply Dev.forEach_kept
  · apply Dev.forEach_kept
    · apply Dev.forEach_kept
      · apply Dev.forEach_kept
        · apply Dev.forEach_kept
          · apply Dev.wordsAtBoundary_kept
            apply Dev.hostWordApply_kept
            apply Dev.blockBoundary_kept
            assumption
          · intro _ _ _
            apply applyHostRecord_kept
            assumption
        · intro _ _ _
          apply applyDecision_kept
          assumption
      · intro _ _ _
        apply edgesAtBoundary_kept
        assumption
    · intro _ _ _
      apply pairAtBoundary_kept
      assumption
  · intro _ _ _
    apply refInversion_kept
    apply labelBoundary_kept
    assumption

end Sys2Proof.Machine
end

