-- ==== Sys2Proof/Laws/Kept4.lean ====
section
/-! SUPPORT. Each operation keeps the stores of the block in canonical form and its uptime, part 4 of 4, callees first. -/

namespace Sys2Proof.Machine

set_option Elab.async false

theorem Dev.restartCompletes_kept {u : Upto} (x0 : Dev) (h1 : x0.kept u) : (Dev.restartCompletes x0).kept u := by
  unfold Dev.restartCompletes
  refine ite_kept ?_ ?_
  · intro _
    assumption
  · intro _
    apply Dev.raise_kept
    apply Dev.wrs_kept
    apply Dev.forEach_kept
    · refine foldl_kept _ _ _ ?_ ?_
      · assumption
      · intro _ _ _
        apply restartBlock_kept
        assumption
    · intro _ _ _
      apply Dev.when_kept
      · assumption
      · intro _ _
        apply Dev.unitSync_kept
        assumption

theorem pairBoundary_kept {u : Upto} (x0 : Nat) (x1 : Nat) (x2 : Dev) (h3 : x2.kept u)
    : (pairBoundary x0 x1 x2).kept u := by
  unfold pairBoundary
  refine ite_kept ?_ ?_
  · intro _
    apply Dev.updateMeetsTakeover_kept
    refine ite_kept ?_ ?_
    · intro _
      refine ite_kept ?_ ?_
      · intro _
        apply Dev.wr_kept
        apply Dev.takeOver_kept
        refine Dev.pairAct_kept _ _ _ ?_
        assumption
      · intro _
        apply Dev.wr_kept
        refine Dev.pairAct_kept _ _ _ ?_
        assumption
    · intro _
      refine ite_kept ?_ ?_
      · intro _
        apply Dev.setPair_kept
        apply Dev.when_kept
        · refine Dev.pairAct_kept _ _ _ ?_
          assumption
        · intro _ _
          apply Dev.takeOver_kept
          assumption
      · intro _
        refine Dev.pairAct_kept _ _ _ ?_
        assumption
  · intro _
    refine ite_kept ?_ ?_
    · intro _
      refine ite_kept ?_ ?_
      · intro _
        apply Dev.wr_kept
        apply Dev.takeOver_kept
        refine Dev.pairAct_kept _ _ _ ?_
        assumption
      · intro _
        apply Dev.wr_kept
        refine Dev.pairAct_kept _ _ _ ?_
        assumption
    · intro _
      refine ite_kept ?_ ?_
      · intro _
        apply Dev.setPair_kept
        apply Dev.when_kept
        · refine Dev.pairAct_kept _ _ _ ?_
          assumption
        · intro _ _
          apply Dev.takeOver_kept
          assumption
      · intro _
        refine Dev.pairAct_kept _ _ _ ?_
        assumption

theorem Dev.turnStarts_kept {u : Upto} (d : Dev) (n : Nat) (h : d.kept u) (hn : d.turn.reached ≤ n)
    (hs : u.still = none) :
    (d.turnStarts n).kept u := by
  unfold Dev.turnStarts
  exact Dev.restAtBoundary_kept _ _ (Dev.othersUpTo_kept _ _ _ (pairBoundary_kept _ _ _ (pairBoundary_kept _ _ _
    (Dev.fwAfterHandover_kept _ _ (Dev.decisionsAtBoundary_kept _ (Dev.restartCompletes_kept _
      (Dev.opens_kept _ _ h hn hs)))))))

theorem Dev.reachBoundary_kept {u : Upto} (d : Dev) (cclk : Nat) (cs : List PerfCount) (h : d.kept u) :
    (d.reachBoundary cclk cs).kept u := by
  unfold Dev.reachBoundary
  refine foldl_kept _ _ _ ?_ fun d c hd => Dev.counted_kept _ _ _ _ _ hd
  exact kept_mk (Dev.advanceTo_kept _ _ h) rfl (Nat.le_max_left _ _) rfl

theorem Dev.initialStep_kept {u : Upto} (x0 : Dev) (h1 : x0.kept u) : (Dev.initialStep x0).kept u := by
  unfold Dev.initialStep
  refine ite_kept ?_ ?_
  · intro _
    refine kept_mk ?_ rfl le_rfl rfl
    assumption
  · intro _
    refine ite_kept ?_ ?_
    · intro _
      assumption
    · intro _
      split
      · (dsimp only; split)
        · refine kept_mk ?_ rfl le_rfl rfl
          assumption
        · refine kept_mk ?_ rfl le_rfl rfl
          refine Dev.armOwn_kept _ _ _ _ ?_
          assumption
      · refine kept_mk ?_ rfl le_rfl rfl
        assumption

theorem Dev.turnEnds_kept {u : Upto} (x0 : Dev) (x1 : Nat) (h1 : x0.kept u) : (Dev.turnEnds x0 x1).kept u := by
  unfold Dev.turnEnds
  apply Dev.hostSet_kept
  apply Dev.initialStep_kept
  refine kept_mk ?_ rfl le_rfl rfl
  apply Dev.turnHistory_kept
  apply Dev.wr_kept
  assumption

theorem Dev.cutItems_reached (d : Dev) (c : Int) (h1 : d.sound) (h2 : d.ordered) :
    (d.cutItems c).turn.reached ≤ d.turn.reached :=
  kept_reached (fun _ _ h => Dev.cutItems_kept _ _ h) d h1 h2

theorem Dev.othersBefore {u : Upto} (d : Dev) (n : Nat) (c : Change) (h : d.kept u) :
    ((d.disarm (· == c)).when (decide (0 < c.turn)) fun d => d.othersUpTo n (c.turn - 1)).kept u :=
  Dev.when_kept _ _ _ (Dev.disarm_kept _ _ h) fun _ hd => Dev.othersUpTo_kept _ _ _ hd

theorem Dev.boundaryChanges_both {u : Upto} (k n : Nat) (d : Dev) (h : d.kept u) (hn : d.turn.reached ≤ n)
    (hs : u.still = none) : (Dev.boundaryChanges k n d).1.kept u ∧
      ∀ m, (Dev.boundaryChanges k n d).2 = some m → (Dev.boundaryChanges k n d).1.turn.reached ≤ m := by
  revert h hn
  fun_induction Dev.boundaryChanges k n d
  · exact fun h hn => ⟨h, fun m hm => by cases hm; exact hn⟩
  · exact fun h hn => ⟨h, fun m hm => by cases hm; exact hn⟩
  · rename_i ih
    intro h hn
    exact ih (Dev.wrs_kept _ _ (Dev.othersBefore _ _ _ h))
      ((kept_reached (fun v e he => Dev.othersBefore e _ _ he) _ h.1 h.2.1).trans hn)
  · rename_i ih
    exact fun h _ => ih (Dev.wrs_kept _ _ (Dev.othersBefore _ _ _ h)) (Dev.firstTurnAt_reached _ _)
  · intro h _
    rename_i d c _ _ _ _ _ _ _ f _ _ _
    have hk : f.kept u := Dev.wrs_kept _ _ (Dev.othersBefore d _ c h)
    exact ⟨Dev.discontinuity_kept _ _ (Dev.cutItems_kept _ _ hk) ((Dev.cutItems_reached _ _ hk.1 hk.2.1).trans
      (Dev.firstTurnAt_reached _ _)) hs, fun m hm => by cases hm⟩
  · exact fun h _ => ⟨Dev.makeStep_kept _ _ _ (Dev.othersBefore _ _ _ h) hs, fun m hm => by cases hm⟩

theorem turnBoundary_kept {u : Upto} (cclk : Nat) (cs : List PerfCount) (d : Dev) (h : d.kept u)
    (hs : u.still = none) :
    (turnBoundary cclk cs d).kept u := by
  unfold turnBoundary
  refine ite_kept (fun _ => h) fun _ => ?_
  extract_lets e
  have he : e.kept u := Dev.when_kept _ _ _ (Dev.reachBoundary_kept _ _ _ h) fun d hd => Dev.turnEnds_kept _ _ hd
  obtain ⟨hb, hm⟩ := Dev.boundaryChanges_both (e.turn.queue.length + 1) e.turn.next e he he.2.1 hs
  split
  · rename_i d m hd
    rw [hd] at hb hm
    exact Dev.turnStarts_kept _ _ (Dev.cutItems_kept _ _ hb) ((Dev.cutItems_reached _ _ hb.1 hb.2.1).trans (hm m rfl)) hs
  · rename_i d hd
    rw [hd] at hb
    exact Dev.showAllGates_kept _ _ (kept_mk hb rfl le_rfl rfl)

theorem relockSyncPair_kept {u : Upto} (x0 : Nat) (x1 : Dev) (h2 : x1.kept u) : (relockSyncPair x0 x1).kept u := by
  unfold relockSyncPair
  refine ite_kept ?_ ?_
  · intro _
    apply Dev.plyTo_kept
    apply Dev.setPly_kept
    apply Dev.setLink_kept
    apply Dev.sendPtp_kept
    apply Dev.setLink_kept
    apply Dev.sendPtp_kept
    assumption
  · intro _
    assumption

theorem Dev.strays_kept {u : Upto} (x0 : Dev) (x1 : Bool) (h1 : x0.kept u) : (Dev.strays x0 x1).kept u := by
  unfold Dev.strays
  split
  · assumption
  · refine ite_kept ?_ ?_
    · intro _
      refine kept_mk ?_ rfl le_rfl rfl
      assumption
    · intro _
      refine ite_kept ?_ ?_
      · intro _
        assumption
      · intro _
        refine ite_kept ?_ ?_
        · intro _
          apply Dev.when_kept
          · apply Dev.enterHoldover_kept
            apply Dev.noteLoss_kept
            apply Dev.when_kept
            · refine kept_mk ?_ rfl le_rfl rfl
              assumption
            · intro _ _
              apply Dev.raise_kept
              apply Dev.wr_kept
              assumption
          · intro _ _
            refine kept_mk ?_ rfl le_rfl rfl
            apply Dev.wr_kept
            assumption
        · intro _
          apply Dev.when_kept
          · refine kept_mk ?_ rfl le_rfl rfl
            assumption
          · intro _ _
            apply Dev.raise_kept
            apply Dev.wr_kept
            assumption

theorem referenceSelection_kept {u : Upto} (d : Dev) (h : d.kept u) : (referenceSelection d).kept u := by
  unfold referenceSelection
  refine Dev.workItem_kept _ _ _ h fun d hd => Dev.hostSet_kept _ (Dev.initialStep_kept _ ?_)
  have hk : (d.forEach (fun k d => waitKept k (takeMeasurement k (refreshCand k d))) (List.range 101)).kept u :=
    Dev.forEach_kept _ _ _ hd fun k d hd => waitKept_kept _ _ (takeMeasurement_kept _ _ (refreshCand_kept _ _ hd))
  generalize d.forEach (fun k d => waitKept k (takeMeasurement k (refreshCand k d))) (List.range 101) = e at hk ⊢
  refine ite_kept (fun _ => Dev.strays_kept _ _ hk) fun _ => ite_kept (fun _ => Dev.strays_kept _ _ hk) fun _ => ?_
  refine kept_mk ?_ rfl le_rfl rfl
  split
  · exact ite_kept (fun _ => hk) fun _ => Dev.noteLoss_kept _ hk
  · exact hk

theorem Dev.mdpAccept_kept {u : Upto} (x0 : Dev) (x1 : Datagram) (x2 : MdpReq) (h1 : x0.kept u)
    : (Dev.mdpAccept x0 x1 x2).kept u := by
  unfold Dev.mdpAccept
  refine ite_kept ?_ ?_
  · intro _
    apply Dev.mdpDiscard_kept
    assumption
  · intro _
    refine ite_kept ?_ ?_
    · intro _
      apply Dev.mdpSend_kept
      apply Dev.sessionEvent_kept
      apply Dev.inc_kept
      apply Dev.setSession_kept
      assumption
    · intro _
      refine ite_kept ?_ ?_
      · intro _
        apply Dev.mdpSend_kept
        assumption
      · intro _
        refine ite_kept ?_ ?_
        · intro _
          apply Dev.mdpDiscard_kept
          assumption
        · intro _
          refine kept_mk ?_ rfl le_rfl rfl
          assumption

theorem ringDisableComplete_kept {u : Upto} (x0 : Nat) (x1 : Dev) (h2 : x1.kept u)
    : (ringDisableComplete x0 x1).kept u := by
  unfold ringDisableComplete
  refine ite_kept ?_ ?_
  · intro _
    assumption
  · intro _
    (dsimp only; split)
    · apply Dev.delivered_kept
      apply Dev.setRing_kept
      assumption
    · apply Dev.setRing_kept
      assumption

theorem samplingInterrupt_kept {u : Upto} (x0 : Nat) (x1 : Nat) (x2 : Nat) (x3 : Bool) (x4 : Nat) (x5 : Dev)
    (h6 : x5.kept u) : (samplingInterrupt x0 x1 x2 x3 x4 x5).kept u := by
  unfold samplingInterrupt
  refine ite_kept ?_ ?_
  · intro _
    assumption
  · intro _
    refine ite_kept ?_ ?_
    · intro _
      apply Dev.inc_kept
      apply Dev.sampleTaken_kept
      assumption
    · intro _
      apply Dev.when_kept
      · apply Dev.wr_kept
        refine kept_mk ?_ rfl le_rfl rfl
        apply Dev.sampleTaken_kept
        assumption
      · intro _ _
        apply Dev.raise_kept
        assumption

theorem laneAdaptation_kept {u : Upto} (x0 : List (Nat × List Int)) (x1 : Dev) (h2 : x1.kept u)
    : (laneAdaptation x0 x1).kept u := by
  unfold laneAdaptation
  apply Dev.workItem_kept
  · assumption
  · intro _ _
    refine foldl_kept _ _ _ ?_ ?_
    · assumption
    · intro _ _ _
      refine ite_kept ?_ ?_
      · intro _
        apply Dev.setLane_kept
        assumption
      · intro _
        assumption

theorem pdelayReqRx_kept {u : Upto} (x0 : Nat) (x1 : Nat) (x2 : Int) (x3 : Nat) (x4 : Option Nat) (x5 : RxStamp)
    (x6 : Dev) (h7 : x6.kept u) : (pdelayReqRx x0 x1 x2 x3 x4 x5 x6).kept u := by
  unfold pdelayReqRx
  refine ite_kept ?_ ?_
  · intro _
    apply Dev.setLink_kept
    assumption
  · intro _
    assumption

theorem bothSynthsUnlocked_kept {u : Upto} (x0 : Dev) (h1 : x0.kept u) : (bothSynthsUnlocked x0).kept u := by
  unfold bothSynthsUnlocked
  refine ite_kept ?_ ?_
  · intro _
    assumption
  · intro _
    apply deviceFault_kept
    apply Dev.refreshLines_kept
    apply Dev.bothUnlocked_kept
    apply Dev.when_kept
    · apply Dev.when_kept
      · assumption
      · intro _ _
        apply Dev.fixedLost_kept
        assumption
    · intro _ _
      apply Dev.steeredLost_kept
      assumption

theorem pauseFrameRx_kept {u : Upto} (x0 : Nat) (x1 : Nat) (x2 : Dev) (h3 : x2.kept u)
    : (pauseFrameRx x0 x1 x2).kept u := by
  unfold pauseFrameRx
  refine ite_kept ?_ ?_
  · intro _
    apply Dev.inc_kept
    apply Dev.setPaused_kept
    assumption
  · intro _
    assumption

theorem gateEntryStart_kept {u : Upto} (x0 : Nat) (x1 : Int) (x2 : Dev) (h3 : x2.kept u)
    : (gateEntryStart x0 x1 x2).kept u := by
  unfold gateEntryStart
  apply Dev.showGates_kept
  apply Dev.until_kept
  assumption

theorem sessionTimeout_kept {u : Upto} (x0 : Nat) (x1 : Dev) (h2 : x1.kept u) : (sessionTimeout x0 x1).kept u := by
  unfold sessionTimeout
  apply Dev.when_kept
  · assumption
  · intro _ _
    apply Dev.closeSession_kept
    assumption

theorem sysBudget_kept {u : Upto} (x0 : List (Nat × Byte)) (x1 : Nat) (x2 : Dev) (h3 : x2.kept u)
    : (sysBudget x0 x1 x2).kept u := by
  unfold sysBudget
  apply Dev.spoolCall_kept
  · assumption
  · intro _ _ _
    apply Dev.spoolResult_kept
    assumption

theorem mdpSegWriteInit_kept {u : Upto} (x0 : Datagram) (x1 : MdpReq) (x2 : Dev) (h3 : x2.kept u)
    : (mdpSegWriteInit x0 x1 x2).kept u := by
  unfold mdpSegWriteInit
  apply Dev.mdpSequenced_kept
  · assumption
  · intro _ _ _ _
    refine ite_fst_kept ?_ ?_
    · intro _
      dsimp only
      apply Dev.setTransfer_kept
      assumption
    · intro _
      split
      · dsimp only
        apply Dev.setTransfer_kept
        apply Dev.setTransfer_kept
        assumption
      · dsimp only
        apply Dev.setTransfer_kept
        assumption

theorem whorlReadings_kept {u : Upto} (x0 : List (Nat × Int × Nat)) (x1 : Dev) (h2 : x1.kept u)
    : (whorlReadings x0 x1).kept u := by
  unfold whorlReadings
  apply Dev.workItem_kept
  · assumption
  · intro _ _
    refine foldl_kept _ _ _ ?_ ?_
    · assumption
    · intro _ _ _
      refine ite_kept ?_ ?_
      · intro _
        apply Dev.setWhorl_kept
        apply Dev.wrs_kept
        assumption
      · intro _
        assumption

theorem ptpManagementRx_kept {u : Upto} (x0 : Nat) (x1 : List Byte) (x2 : RxStamp) (x3 : Dev) (h4 : x3.kept u)
    : (ptpManagementRx x0 x1 x2 x3).kept u := by
  unfold ptpManagementRx
  refine ite_kept ?_ ?_
  · intro _
    assumption
  · intro _
    apply Dev.finishFrame_kept
    refine Dev.makeCopy_kept _ _ _ _ _ _ ?_
    apply Dev.newFrame_kept
    assumption

theorem coreLoad_kept {u : Upto} (x0 : Nat) (x1 : Dev) (h2 : x1.kept u) : (coreLoad x0 x1).kept u := by
  unfold coreLoad
  apply Dev.when_kept
  · assumption
  · intro _ _
    apply Dev.setUnit_kept
    assumption

theorem frameRxEnd_kept {u : Upto} (x0 : Nat) (x1 : Dev) (h2 : x1.kept u) : (frameRxEnd x0 x1).kept u := by
  unfold frameRxEnd
  split
  · apply Dev.endFrame_kept
    assumption
  · assumption

theorem mailboxSegWriteInit_kept {u : Upto} (x0 : Nat) (x1 : Dev) (h2 : x1.kept u)
    : (mailboxSegWriteInit x0 x1).kept u := by
  unfold mailboxSegWriteInit
  apply Dev.boxHead_kept
  · assumption
  · intro _ _ _
    split
    · apply Dev.boxStatus_kept
      apply Dev.boxTransfer_kept
      apply Dev.boxTransfer_kept
      assumption
    · apply Dev.boxStatus_kept
      apply Dev.boxTransfer_kept
      assumption

theorem pinFaultDetect_kept {u : Upto} (x0 : Nat) (x1 : Nat) (x2 : Nat) (x3 : Dev) (h4 : x3.kept u)
    : (pinFaultDetect x0 x1 x2 x3).kept u := by
  unfold pinFaultDetect
  split
  · assumption
  · refine ite_kept ?_ ?_
    · intro _
      assumption
    · intro _
      apply Dev.when_kept
      · split
        · refine kept_mk ?_ rfl le_rfl rfl
          apply Dev.raise_kept
          apply Dev.wrs_kept
          assumption
        · apply Dev.raise_kept
          apply Dev.wrs_kept
          assumption
      · intro _ _
        apply Dev.setRefIn_kept
        assumption

theorem shortRetry_kept {u : Upto} (x0 : Nat) (x1 : Bool) (x2 : Dev) (h3 : x2.kept u)
    : (shortRetry x0 x1 x2).kept u := by
  unfold shortRetry
  refine ite_kept ?_ ?_
  · intro _
    refine ite_kept ?_ ?_
    · intro _
      apply pinFaultDetect_kept
      assumption
    · intro _
      apply pinFaultDetect_kept
      assumption
  · intro _
    assumption

theorem pulseFall_kept {u : Upto} (x0 : Nat) (x1 : Dev) (h2 : x1.kept u) : (pulseFall x0 x1).kept u := by
  unfold pulseFall
  apply Dev.when_kept
  · assumption
  · intro _ _
    apply Dev.setPulse_kept
    split
    · apply Dev.until_kept
      assumption
    · assumption

theorem hostRefExpiry_kept {u : Upto} (x0 : Dev) (h1 : x0.kept u) : (hostRefExpiry x0).kept u := by
  unfold hostRefExpiry
  apply refreshCand_kept
  refine kept_mk ?_ rfl le_rfl rfl
  assumption

theorem preMasterTimeout_kept {u : Upto} (x0 : Nat) (x1 : Dev) (h2 : x1.kept u)
    : (preMasterTimeout x0 x1).kept u := by
  unfold preMasterTimeout
  refine ite_kept ?_ ?_
  · intro _
    (extract_lets; split)
    · apply Dev.bTakesRole_kept
      apply Dev.wr_kept
      assumption
    · apply Dev.wr_kept
      assumption
  · intro _
    assumption

theorem sysLog_kept {u : Upto} (x0 : Nat) (x1 : Nat) (x2 : List (Nat × Byte)) (x3 : Nat) (x4 : Dev) (h5 : x4.kept u)
    : (sysLog x0 x1 x2 x3 x4).kept u := by
  unfold sysLog
  apply Dev.spoolCall_kept
  · assumption
  · intro _ _ _
    refine ite_kept ?_ ?_
    · intro _
      apply Dev.spoolResult_kept
      assumption
    · intro _
      refine ite_kept ?_ ?_
      · intro _
        apply Dev.spoolResult_kept
        apply Dev.inc_kept
        assumption
      · intro _
        apply Dev.spoolResult_kept
        refine kept_mk ?_ rfl le_rfl rfl
        assumption

theorem delayRespTx_kept {u : Upto} (x0 : Nat) (x1 : Dev) (h2 : x1.kept u) : (delayRespTx x0 x1).kept u := by
  unfold delayRespTx
  split
  · assumption
  · apply Dev.setLink_kept
    apply Dev.sendPtp_kept
    assumption

theorem selfTestCycle_kept {u : Upto} (x0 : Nat) (x1 : Nat) (x2 : Nat) (x3 : Nat) (x4 : Dev) (h5 : x4.kept u)
    : (selfTestCycle x0 x1 x2 x3 x4).kept u := by
  unfold selfTestCycle
  refine ite_kept ?_ ?_
  · intro _
    assumption
  · intro _
    refine ite_kept ?_ ?_
    · intro _
      apply Dev.when_kept
      · apply Dev.setUnit_kept
        apply Dev.recordCycle_kept
        assumption
      · intro _ _
        apply Dev.setUnit_kept
        assumption
    · intro _
      apply Dev.when_kept
      · apply Dev.setUnit_kept
        apply Dev.recordCycle_kept
        assumption
      · intro _ _
        apply Dev.setPair_kept
        apply Dev.record_kept
        apply Dev.outOfService_kept
        assumption

theorem spoolFault_kept {u : Upto} (x0 : Nat) (x1 : Nat) (x2 : Nat) (x3 : List (Nat × Byte)) (x4 : Dev)
    (h5 : x4.kept u) : (spoolFault x0 x1 x2 x3 x4).kept u := by
  unfold spoolFault
  split
  · assumption
  · apply Dev.spoolNext_kept
    apply Dev.when_kept
    · apply Dev.spoolEnds_kept
      apply Dev.wrs_kept
      apply Dev.inc_kept
      apply Dev.spoolStores_kept
      assumption
    · intro _ _
      apply Dev.wr_kept
      assumption

theorem deviceRestart_kept {u : Upto} (configBad : Bool) (d : Dev) (h : d.kept u) (hs : u.still = none) :
    (deviceRestart configBad d).kept u := by
  unfold deviceRestart
  exact Dev.when_kept _ _ _ h fun d hd => restartBegins_kept _ _ hd hs

theorem signalHold_kept {u : Upto} (x0 : Nat) (x1 : Dev) (h2 : x1.kept u) : (signalHold x0 x1).kept u := by
  unfold signalHold
  apply Dev.when_kept
  · assumption
  · intro _ _
    apply Dev.rxTo_kept
    assumption

theorem hostDeadlineMiss_kept {u : Upto} (x0 : HostFn) (x1 : Dev) (h2 : x1.kept u)
    : (hostDeadlineMiss x0 x1).kept u := by
  unfold hostDeadlineMiss
  refine ite_kept ?_ ?_
  · intro _
    apply Dev.fallback_kept
    apply Dev.overrun_kept
    assumption
  · intro _
    split
    · refine kept_mk ?_ rfl le_rfl rfl
      assumption
    · assumption

theorem deviceLevelFault_kept {u : Upto} (x0 : Nat) (x1 : Bool) (x2 : Dev) (h3 : x2.kept u)
    : (deviceLevelFault x0 x1 x2).kept u := by
  unfold deviceLevelFault
  apply Dev.when_kept
  · assumption
  · intro _ _
    apply deviceFault_kept
    assumption

theorem checkerError_kept {u : Upto} (x0 : Nat) (x1 : Dev) (h2 : x1.kept u) : (checkerError x0 x1).kept u := by
  unfold checkerError
  apply Dev.setUnit_kept
  assumption

theorem Dev.servoRun_kept {u : Upto} (x0 : Dev) (h1 : x0.kept u) : (Dev.servoRun x0).kept u := by
  unfold Dev.servoRun
  apply Dev.ladderMoves_kept
  refine kept_mk ?_ rfl le_rfl rfl
  apply Dev.wr_kept
  apply Dev.stageWord_kept
  split
  · apply takeMeasurement_kept
    assumption
  · assumption

theorem servoUpdate_kept {u : Upto} (x0 : Dev) (h1 : x0.kept u) : (servoUpdate x0).kept u := by
  unfold servoUpdate
  apply Dev.workItem_kept
  · assumption
  · intro _ _
    refine ite_kept ?_ ?_
    · intro _
      assumption
    · intro _
      refine ite_kept ?_ ?_
      · intro _
        apply Dev.when_kept
        · assumption
        · intro _ _
          apply Dev.stageWord_kept
          assumption
      · intro _
        refine ite_kept ?_ ?_
        · intro _
          assumption
        · intro _
          refine ite_kept ?_ ?_
          · intro _
            apply Dev.stageWord_kept
            refine kept_mk ?_ rfl le_rfl rfl
            assumption
          · intro _
            refine ite_kept ?_ ?_
            · intro _
              apply Dev.stageWord_kept
              refine kept_mk ?_ rfl le_rfl rfl
              assumption
            · intro _
              apply Dev.servoRun_kept
              refine kept_mk ?_ rfl le_rfl rfl
              assumption

theorem alignmentLoss_kept {u : Upto} (x0 : Nat) (x1 : Dev) (h2 : x1.kept u) : (alignmentLoss x0 x1).kept u := by
  unfold alignmentLoss
  refine ite_kept ?_ ?_
  · intro _
    apply Dev.refreshOuts_kept
    apply Dev.setLine_kept
    assumption
  · intro _
    assumption

theorem mdpSegAbort_kept {u : Upto} (x0 : Datagram) (x1 : MdpReq) (x2 : Dev) (h3 : x2.kept u)
    : (mdpSegAbort x0 x1 x2).kept u := by
  unfold mdpSegAbort
  apply Dev.mdpSequenced_kept
  · assumption
  · intro _ _ _ _
    refine ite_fst_kept ?_ ?_
    · intro _
      dsimp only
      apply Dev.setTransfer_kept
      assumption
    · intro _
      dsimp only
      assumption

theorem Dev.eventRx_kept {u : Upto} (x0 : Dev) (x1 : Nat) (h1 : x0.kept u) : (Dev.eventRx x0 x1).kept u := by
  unfold Dev.eventRx
  apply Dev.when_kept
  · assumption
  · intro _ _
    apply Dev.counted_kept
    apply Dev.counted_kept
    assumption

theorem cdrLock_kept {u : Upto} (x0 : Nat) (x1 : Dev) (h2 : x1.kept u) : (cdrLock x0 x1).kept u := by
  unfold cdrLock
  apply Dev.when_kept
  · assumption
  · intro _ _
    apply Dev.rxTo_kept
    assumption

theorem neighbourSolicitation_kept {u : Upto} (x0 : Nat) (x1 : List Byte) (x2 : Dev) (h3 : x2.kept u)
    : (neighbourSolicitation x0 x1 x2).kept u := by
  unfold neighbourSolicitation
  (extract_lets; split)
  · assumption
  · apply Dev.when_kept
    · assumption
    · intro _ _
      apply Dev.engineSend_kept
      assumption

theorem holdoverBin_kept {u : Upto} (x0 : Dev) (h1 : x0.kept u) : (holdoverBin x0).kept u := by
  unfold holdoverBin
  refine kept_mk ?_ rfl le_rfl rfl
  assumption

theorem reelEvaluation_kept {u : Upto} (x0 : Dev) (h1 : x0.kept u) : (reelEvaluation x0).kept u := by
  unfold reelEvaluation
  apply Dev.workItem_kept
  · assumption
  · intro _ _
    refine ite_kept ?_ ?_
    · intro _
      apply reelTrigger_kept
      assumption
    · intro _
      assumption

theorem switchTimeout_kept {u : Upto} (x0 : Dev) (h1 : x0.kept u) : (switchTimeout x0).kept u := by
  unfold switchTimeout
  apply Dev.when_kept
  · assumption
  · intro _ _
    apply Dev.switchComplete_kept
    assumption

theorem loopbackClear_kept {u : Upto} (x0 : Nat) (x1 : Dev) (h2 : x1.kept u) : (loopbackClear x0 x1).kept u := by
  unfold loopbackClear
  apply Dev.forEach_kept
  · assumption
  · intro _ _ _
    apply Dev.wr_kept
    assumption

theorem fwVerifyComplete_kept {u : Upto} (x0 : Dev) (h1 : x0.kept u) : (fwVerifyComplete x0).kept u := by
  unfold fwVerifyComplete
  refine ite_kept ?_ ?_
  · intro _
    assumption
  · intro _
    refine kept_mk ?_ rfl le_rfl rfl
    apply Dev.wrs_kept
    assumption

theorem lanePllLock_kept {u : Upto} (x0 : Nat) (x1 : Nat) (x2 : Dev) (h3 : x2.kept u)
    : (lanePllLock x0 x1 x2).kept u := by
  unfold lanePllLock
  refine ite_kept ?_ ?_
  · intro _
    assumption
  · intro _
    apply Dev.forEach_kept
    · apply Dev.wr_kept
      assumption
    · intro _ _ _
      apply Dev.when_kept
      · assumption
      · intro _ _
        apply Dev.txStart_kept
        assumption

theorem loopComplete_kept {u : Upto} (x0 : Dev) (h1 : x0.kept u) : (loopComplete x0).kept u := by
  unfold loopComplete
  split
  · assumption
  · refine ite_kept ?_ ?_
    · intro _
      assumption
    · intro _
      refine ite_kept ?_ ?_
      · intro _
        apply Dev.portReject_kept
        assumption
      · intro _
        refine ite_kept ?_ ?_
        · intro _
          apply Dev.portReject_kept
          apply Dev.wr_kept
          assumption
        · intro _
          refine ite_kept ?_ ?_
          · intro _
            apply Dev.portReject_kept
            apply Dev.wr_kept
            assumption
          · intro _
            apply Dev.when_kept
            · apply Dev.wr_kept
              apply Dev.wr_kept
              assumption
            · intro _ _
              refine kept_mk ?_ rfl le_rfl rfl
              apply Dev.wr_kept
              assumption

theorem alignmentLock_kept {u : Upto} (x0 : Nat) (x1 : Int) (x2 : Nat) (x3 : Dev) (h4 : x3.kept u)
    : (alignmentLock x0 x1 x2 x3).kept u := by
  unfold alignmentLock
  refine ite_kept ?_ ?_
  · intro _
    assumption
  · intro _
    apply Dev.refreshOuts_kept
    refine ite_kept ?_ ?_
    · intro _
      apply Dev.when_kept
      · apply Dev.forEach_kept
        · refine kept_mk ?_ rfl le_rfl rfl
          apply Dev.wr_kept
          apply Dev.inc_kept
          apply Dev.setLine_kept
          assumption
        · intro _ _ _
          apply addMis_kept
          assumption
      · intro _ _
        apply Dev.forEach_kept
        · assumption
        · intro _ _ _
          apply Dev.when_kept
          · assumption
          · intro _ _
            apply Dev.setPulse_kept
            assumption
    · intro _
      apply Dev.wr_kept
      apply Dev.wr_kept
      apply Dev.inc_kept
      apply Dev.setLine_kept
      assumption

theorem portLinkUp_kept {u : Upto} (x0 : Nat) (x1 : Nat) (x2 : Bool) (x3 : Dev) (h4 : x3.kept u)
    : (portLinkUp x0 x1 x2 x3).kept u := by
  unfold portLinkUp
  refine ite_kept ?_ ?_
  · intro _
    assumption
  · intro _
    refine ite_kept ?_ ?_
    · intro _
      refine ite_kept ?_ ?_
      · intro _
        apply Dev.inc_kept
        assumption
      · intro _
        apply Dev.linkUp_kept
        assumption
    · intro _
      refine ite_kept ?_ ?_
      · intro _
        assumption
      · intro _
        apply Dev.linkUp_kept
        assumption

theorem spoolBudgetStop_kept {u : Upto} (x0 : List (Nat × Byte)) (x1 : Dev) (h2 : x1.kept u)
    : (spoolBudgetStop x0 x1).kept u := by
  unfold spoolBudgetStop
  split
  · assumption
  · apply Dev.spoolNext_kept
    apply Dev.spoolEnds_kept
    apply Dev.inc_kept
    apply Dev.overrun_kept
    apply Dev.spoolStores_kept
    assumption

theorem highBer_kept {u : Upto} (x0 : Nat) (x1 : Nat) (x2 : Dev) (h3 : x2.kept u) : (highBer x0 x1 x2).kept u := by
  unfold highBer
  apply Dev.when_kept
  · assumption
  · intro _ _
    apply Dev.linkDown_kept
    apply Dev.quadEvent_kept
    apply Dev.inc_kept
    apply Dev.add32_kept
    assumption

theorem calibrationStep_kept {u : Upto} (x0 : Dev) (h1 : x0.kept u) : (calibrationStep x0).kept u := by
  unfold calibrationStep
  apply Dev.workItem_kept
  · assumption
  · intro _ _
    (extract_lets; split)
    · refine kept_mk ?_ rfl le_rfl rfl
      apply Dev.wr_kept
      split
      · dsimp only
        apply Dev.calReject_kept
        refine kept_mk ?_ rfl le_rfl rfl
        assumption
      · split
        · dsimp only
          refine kept_mk ?_ rfl le_rfl rfl
          assumption
        · dsimp only
          apply Dev.calReject_kept
          refine kept_mk ?_ rfl le_rfl rfl
          assumption
    · refine kept_mk ?_ rfl le_rfl rfl
      apply Dev.wr_kept
      apply Dev.trim_kept
      refine kept_mk ?_ rfl le_rfl rfl
      assumption
    · refine ite_kept ?_ ?_
      · intro _
        refine kept_mk ?_ rfl le_rfl rfl
        assumption
      · intro _
        refine ite_kept ?_ ?_
        · intro _
          refine kept_mk ?_ rfl le_rfl rfl
          refine kept_mk ?_ rfl le_rfl rfl
          assumption
        · intro _
          split
          · refine ite_kept ?_ ?_
            · intro _
              apply Dev.runEnds_kept
              refine kept_mk ?_ rfl le_rfl rfl
              apply Dev.wr_kept
              apply Dev.trim_kept
              refine kept_mk ?_ rfl le_rfl rfl
              assumption
            · intro _
              split
              · refine kept_mk ?_ rfl le_rfl rfl
                split
                · dsimp only
                  apply Dev.calReject_kept
                  refine kept_mk ?_ rfl le_rfl rfl
                  assumption
                · split
                  · dsimp only
                    refine kept_mk ?_ rfl le_rfl rfl
                    assumption
                  · dsimp only
                    apply Dev.calReject_kept
                    refine kept_mk ?_ rfl le_rfl rfl
                    assumption
              · refine kept_mk ?_ rfl le_rfl rfl
                assumption
          · apply Dev.when_kept
            · refine kept_mk ?_ rfl le_rfl rfl
              assumption
            · intro _ _
              apply Dev.portReject_kept
              assumption
          · refine kept_mk ?_ rfl le_rfl rfl
            assumption

theorem mdpReceive_kept {u : Upto} (x0 : Nat) (x1 : List Byte) (x2 : Dev) (h3 : x2.kept u)
    : (mdpReceive x0 x1 x2).kept u := by
  unfold mdpReceive
  (extract_lets; split)
  · assumption
  · refine ite_kept ?_ ?_
    · intro _
      assumption
    · intro _
      split
      · split
        · apply Dev.mdpAccept_kept
          apply Dev.counted_kept
          assumption
        · apply Dev.mdpDiscard_kept
          apply Dev.counted_kept
          assumption
      · apply Dev.mdpDiscard_kept
        apply Dev.counted_kept
        assumption

theorem dramScrub_kept {u : Upto} (x0 : Nat) (x1 : Nat) (x2 : Dev) (h3 : x2.kept u)
    : (dramScrub x0 x1 x2).kept u := by
  unfold dramScrub
  apply Dev.add32_kept
  apply Dev.add32_kept
  assumption

theorem Dev.edgeBlanked_kept {u : Upto} (x0 : Dev) (x1 : Nat) (x2 : Int) (h1 : x0.kept u)
    : (Dev.edgeBlanked x0 x1 x2).kept u := by
  unfold Dev.edgeBlanked
  apply Dev.setEvin_kept
  apply Dev.counted_kept
  apply Dev.inc_kept
  apply Dev.until_kept
  assumption

theorem delayReqTx_kept {u : Upto} (x0 : Nat) (x1 : Dev) (h2 : x1.kept u) : (delayReqTx x0 x1).kept u := by
  unfold delayReqTx
  refine ite_kept ?_ ?_
  · intro _
    assumption
  · intro _
    split
    · (extract_lets; split)
      · apply Dev.setLink_kept
        apply Dev.sendPtp_kept
        apply Dev.setLink_kept
        apply Dev.sendPtp_kept
        assumption
      · apply Dev.setLink_kept
        apply Dev.sendPtp_kept
        assumption
    · (extract_lets; split)
      · apply Dev.setLink_kept
        apply Dev.sendPtp_kept
        apply Dev.setLink_kept
        apply Dev.sendPtp_kept
        assumption
      · apply Dev.setLink_kept
        apply Dev.sendPtp_kept
        assumption

theorem pauseFrameTx_kept {u : Upto} (x0 : Nat) (x1 : Int) (x2 : Dev) (h3 : x2.kept u)
    : (pauseFrameTx x0 x1 x2).kept u := by
  unfold pauseFrameTx
  (extract_lets; split)
  · apply Dev.until_kept
    assumption
  · refine ite_kept ?_ ?_
    · intro _
      apply Dev.until_kept
      assumption
    · intro _
      apply Dev.countTx_kept
      apply Dev.count_kept
      apply Dev.inc_kept
      apply Dev.wr_kept
      apply Dev.setEgress_kept
      apply Dev.until_kept
      assumption

theorem signalDetect_kept {u : Upto} (x0 : Nat) (x1 : Dev) (h2 : x1.kept u) : (signalDetect x0 x1).kept u := by
  unfold signalDetect
  refine ite_kept ?_ ?_
  · intro _
    assumption
  · intro _
    apply Dev.when_kept
    · apply Dev.wr_kept
      assumption
    · intro _ _
      apply Dev.rxTo_kept
      assumption

theorem bootImageRead_kept {u : Upto} (x0 : List Byte) (x1 : List Byte) (x2 : List Byte) (x3 : List Byte) (x4 : Dev)
    (h5 : x4.kept u) : (bootImageRead x0 x1 x2 x3 x4).kept u := by
  unfold bootImageRead
  refine ite_kept ?_ ?_
  · intro _
    assumption
  · intro _
    refine ite_kept ?_ ?_
    · intro _
      refine kept_mk ?_ rfl le_rfl rfl
      apply Dev.wrs_kept
      refine kept_mk ?_ rfl le_rfl rfl
      apply Dev.wrs_kept
      assumption
    · intro _
      refine ite_kept ?_ ?_
      · intro _
        refine kept_mk ?_ rfl le_rfl rfl
        apply Dev.wrs_kept
        refine kept_mk ?_ rfl le_rfl rfl
        apply Dev.wrs_kept
        assumption
      · intro _
        refine kept_mk ?_ rfl le_rfl rfl
        refine kept_mk ?_ rfl le_rfl rfl
        apply Dev.wrs_kept
        assumption

theorem evinEdge_kept {u : Upto} (x0 : Nat) (x1 : Bool) (x2 : Int) (x3 : Nat) (x4 : Dev) (h5 : x4.kept u)
    : (evinEdge x0 x1 x2 x3 x4).kept u := by
  unfold evinEdge
  refine ite_kept ?_ ?_
  · intro _
    assumption
  · intro _
    (extract_lets; split)
    · apply Dev.inc_kept
      apply Dev.setEvin_kept
      apply Dev.until_kept
      assumption
    · refine ite_kept ?_ ?_
      · intro _
        apply Dev.setEvin_kept
        apply Dev.counted_kept
        apply Dev.inc_kept
        apply Dev.setEvin_kept
        apply Dev.until_kept
        assumption
      · intro _
        refine ite_kept ?_ ?_
        · intro _
          apply Dev.startsFrom_kept
          apply Dev.setEvin_kept
          apply Dev.until_kept
          assumption
        · intro _
          refine ite_kept ?_ ?_
          · intro _
            apply Dev.takeStamp_kept
            apply Dev.counted_kept
            apply Dev.inc_kept
            apply Dev.startsFrom_kept
            apply Dev.setEvin_kept
            apply Dev.until_kept
            assumption
          · intro _
            refine ite_kept ?_ ?_
            · intro _
              apply Dev.setEvin_kept
              apply Dev.startsFrom_kept
              apply Dev.setEvin_kept
              apply Dev.until_kept
              assumption
            · intro _
              apply Dev.takeStamp_kept
              apply Dev.setEvin_kept
              apply Dev.counted_kept
              apply Dev.inc_kept
              apply Dev.setEvin_kept
              apply Dev.startsFrom_kept
              apply Dev.setEvin_kept
              apply Dev.until_kept
              assumption

theorem mailboxSegAbort_kept {u : Upto} (x0 : Nat) (x1 : Dev) (h2 : x1.kept u) : (mailboxSegAbort x0 x1).kept u := by
  unfold mailboxSegAbort
  apply Dev.boxHead_kept
  · assumption
  · intro _ _ _
    apply Dev.boxStatus_kept
    apply Dev.boxTransfer_kept
    assumption

theorem holdoverEstimate_kept {u : Upto} (x0 : Dev) (h1 : x0.kept u) : (holdoverEstimate x0).kept u := by
  unfold holdoverEstimate
  refine ite_kept ?_ ?_
  · intro _
    assumption
  · intro _
    apply Dev.when_kept
    · apply Dev.wrs_kept
      assumption
    · intro _ _
      apply Dev.setSpindleState_kept
      assumption

theorem sysPerf_kept {u : Upto} (x0 : Nat) (x1 : Nat) (x2 : List (Nat × Byte)) (x3 : Nat) (x4 : Dev) (h5 : x4.kept u)
    : (sysPerf x0 x1 x2 x3 x4).kept u := by
  unfold sysPerf
  apply Dev.spoolCall_kept
  · assumption
  · intro _ _ _
    refine ite_kept ?_ ?_
    · intro _
      apply Dev.spoolResult_kept
      assumption
    · intro _
      refine ite_kept ?_ ?_
      · intro _
        apply Dev.spoolResult_kept
        assumption
      · intro _
        refine ite_kept ?_ ?_
        · intro _
          apply Dev.spoolResult_kept
          assumption
        · intro _
          apply Dev.spoolResult_kept
          apply Dev.spoolWrite_kept
          assumption

theorem mailboxSegWrite_kept {u : Upto} (x0 : Nat) (x1 : Dev) (h2 : x1.kept u) : (mailboxSegWrite x0 x1).kept u := by
  unfold mailboxSegWrite
  apply Dev.boxHead_kept
  · assumption
  · intro _ _ _
    refine ite_kept ?_ ?_
    · intro _
      apply Dev.boxStatus_kept
      assumption
    · intro _
      apply Dev.boxStatus_kept
      apply Dev.boxTransfer_kept
      split
      · refine ite_fst_kept ?_ ?_
        · intro _
          dsimp only
          assumption
        · intro _
          refine ite_fst_kept ?_ ?_
          · intro _
            dsimp only
            assumption
          · intro _
            dsimp only
            refine Dev.writeObj_kept _ _ _ _ _ _ ?_
            assumption
      · dsimp only
        assumption

theorem eventEvaluation_kept {u : Upto} (x0 : Dev) (h1 : x0.kept u) : (eventEvaluation x0).kept u := by
  unfold eventEvaluation
  apply Dev.workItem_kept
  · assumption
  · intro _ _
    apply Dev.forEach_kept
    · refine kept_mk ?_ rfl le_rfl rfl
      assumption
    · intro _ _ _
      apply Dev.raise_kept
      assumption

theorem nqBlockRx_kept {u : Upto} (x0 : Nat) (x1 : Nat) (x2 : Nat) (x3 : Nat) (x4 : Dev) (h5 : x4.kept u)
    : (nqBlockRx x0 x1 x2 x3 x4).kept u := by
  unfold nqBlockRx
  refine ite_kept ?_ ?_
  · intro _
    assumption
  · intro _
    refine ite_kept ?_ ?_
    · intro _
      apply Dev.setNq_kept
      assumption
    · intro _
      refine ite_kept ?_ ?_
      · intro _
        apply Dev.nqName_kept
        apply Dev.setNq_kept
        assumption
      · intro _
        split
        · apply Dev.when_kept
          · apply Dev.setNq_kept
            assumption
          · intro _ _
            apply Dev.nqName_kept
            assumption
        · apply Dev.setNq_kept
          assumption

theorem swapCheck_kept {u : Upto} (x0 : Nat) (x1 : Nat) (x2 : Nat) (x3 : Dev) (h4 : x3.kept u)
    : (swapCheck x0 x1 x2 x3).kept u := by
  unfold swapCheck
  refine ite_kept ?_ ?_
  · intro _
    assumption
  · intro _
    refine ite_kept ?_ ?_
    · intro _
      refine ite_kept ?_ ?_
      · intro _
        apply Dev.evinEvent_kept
        apply Dev.setEvin_kept
        apply Dev.wr_kept
        assumption
      · intro _
        apply Dev.raise_kept
        apply Dev.setEvin_kept
        apply Dev.wr_kept
        assumption
    · intro _
      assumption

theorem mdpSegReadInit_kept {u : Upto} (x0 : Datagram) (x1 : MdpReq) (x2 : Dev) (h3 : x2.kept u)
    : (mdpSegReadInit x0 x1 x2).kept u := by
  unfold mdpSegReadInit
  apply Dev.mdpSequenced_kept
  · assumption
  · intro _ _ _ _
    refine ite_fst_kept ?_ ?_
    · intro _
      dsimp only
      apply Dev.setTransfer_kept
      assumption
    · intro _
      split
      · dsimp only
        apply Dev.setTransfer_kept
        refine fst_kept (by assumption) ?_
        refine Dev.segReadInit_kept _ _ _ ?_
        apply Dev.setTransfer_kept
        assumption
      · dsimp only
        refine fst_kept (by assumption) ?_
        refine Dev.segReadInit_kept _ _ _ ?_
        apply Dev.setTransfer_kept
        assumption

theorem beaconTx_kept {u : Upto} (x0 : Nat) (x1 : Dev) (h2 : x1.kept u) : (beaconTx x0 x1).kept u := by
  unfold beaconTx
  refine ite_kept ?_ ?_
  · intro _
    refine ite_kept ?_ ?_
    · intro _
      apply Dev.engineSend_kept
      assumption
    · intro _
      apply Dev.countTx_kept
      assumption
  · intro _
    assumption

theorem esmcPduRx_kept {u : Upto} (x0 : Nat) (x1 : Nat) (x2 : Bool) (x3 : Dev) (h4 : x3.kept u)
    : (esmcPduRx x0 x1 x2 x3).kept u := by
  unfold esmcPduRx
  refine ite_kept ?_ ?_
  · intro _
    apply Dev.when_kept
    · apply Dev.wr_kept
      assumption
    · intro _ _
      apply Dev.inc_kept
      assumption
  · intro _
    assumption

theorem ptLockLoss_kept {u : Upto} (x0 : Nat) (x1 : Nat) (x2 : Nat) (x3 : Dev) (h4 : x3.kept u)
    : (ptLockLoss x0 x1 x2 x3).kept u := by
  unfold ptLockLoss
  apply Dev.when_kept
  · assumption
  · intro _ _
    apply Dev.inc_kept
    apply Dev.wr_kept
    apply Dev.ptCount_kept
    assumption

theorem nqLaneLoss_kept {u : Upto} (x0 : Nat) (x1 : Nat) (x2 : Nat) (x3 : Dev) (h4 : x3.kept u)
    : (nqLaneLoss x0 x1 x2 x3).kept u := by
  unfold nqLaneLoss
  refine ite_kept ?_ ?_
  · intro _
    assumption
  · intro _
    refine ite_kept ?_ ?_
    · intro _
      apply Dev.linkDown_kept
      apply Dev.quadEvent_kept
      apply Dev.inc_kept
      apply Dev.count_kept
      apply Dev.add32_kept
      assumption
    · intro _
      apply Dev.moveTiming_kept
      apply Dev.nqAnnounce_kept
      apply Dev.setNq_kept
      apply Dev.wr_kept
      apply Dev.quadEvent_kept
      apply Dev.inc_kept
      apply Dev.count_kept
      apply Dev.add32_kept
      assumption

theorem coalesceExpiry_kept {u : Upto} (x0 : Nat) (x1 : Dev) (h2 : x1.kept u) : (coalesceExpiry x0 x1).kept u := by
  unfold coalesceExpiry
  apply Dev.setRing_kept
  assumption

theorem steeredLock_kept {u : Upto} (x0 : Dev) (h1 : x0.kept u) : (steeredLock x0).kept u := by
  unfold steeredLock
  refine ite_kept ?_ ?_
  · intro _
    assumption
  · intro _
    apply Dev.refreshLines_kept
    refine kept_mk ?_ rfl le_rfl rfl
    refine ite_kept ?_ ?_
    · intro _
      refine kept_mk ?_ rfl le_rfl rfl
      apply Dev.plinthRateEnds_kept
      apply Dev.wr_kept
      assumption
    · intro _
      apply Dev.plinthRateEnds_kept
      apply Dev.wr_kept
      assumption

theorem resetRelease_kept {u : Upto} (straps : Nat) (d : Dev) (h : d.kept u)
    (hu : u.mark.up ≤ d.time.uptime ∧ u.mark.turn ≤ d.turn.reached ∧
      (d.turn.started = u.mark.started ∨ u.mark.turn < d.turn.reached)) :
    (resetRelease straps d).kept u := by
  unfold resetRelease
  refine ite_kept (fun _ => h) fun _ => ⟨(Dev.wrV_kept d _ _ h).1, h.2.1, .inl hu, h.2.2.2⟩

end Sys2Proof.Machine
end

