-- ==== Sys2Proof/Laws/KeptExec.lean ====
section
/-! SUPPORT. Each command keeps the stores of the block in canonical form and its uptime. -/

namespace Sys2Proof.Machine

set_option Elab.async false

theorem effect_kept {u : Upto} {s t : State} {f : Dev → Dev} (hf : ∀ d, d.kept u → (f d).kept u) (h : s.dev.kept u)
    (e : s.effect f = .next t) : t.dev.kept u := by
  cases e
  exact hf _ h

theorem execTurnBoundary_kept {u : Upto} (x0 : Nat) (x1 : List PerfCount) (s t : State) (h : s.dev.kept u)
    (hs : u.still = none)
    (e : execTurnBoundary x0 x1 s = .next t) : t.dev.kept u :=
  effect_kept (fun _ hd => turnBoundary_kept _ _ _ hd hs) h e

theorem execWhorlReadingDelivery_kept {u : Upto} (x0 : List (Nat × Int × Nat)) (s t : State) (h : s.dev.kept u)
    (e : execWhorlReadingDelivery x0 s = .next t) : t.dev.kept u := by
  refine effect_kept ?_ h e
  intro _ _
  apply whorlReadings_kept
  assumption

theorem execLinkTimingUpdate_kept {u : Upto} (s t : State) (h : s.dev.kept u) (e : execLinkTimingUpdate s = .next t)
    : t.dev.kept u := by
  refine effect_kept ?_ h e
  intro _ _
  apply linkTimingUpdate_kept
  assumption

theorem execServoUpdate_kept {u : Upto} (s t : State) (h : s.dev.kept u) (e : execServoUpdate s = .next t)
    : t.dev.kept u := by
  refine effect_kept ?_ h e
  intro _ _
  apply servoUpdate_kept
  assumption

theorem execReferenceSelection_kept {u : Upto} (s t : State) (h : s.dev.kept u)
    (e : execReferenceSelection s = .next t) : t.dev.kept u := by
  refine effect_kept ?_ h e
  intro _ _
  apply referenceSelection_kept
  assumption

theorem execEventEvaluation_kept {u : Upto} (s t : State) (h : s.dev.kept u) (e : execEventEvaluation s = .next t)
    : t.dev.kept u := by
  refine effect_kept ?_ h e
  intro _ _
  apply eventEvaluation_kept
  assumption

theorem execCounterDump_kept {u : Upto} (s t : State) (h : s.dev.kept u) (e : execCounterDump s = .next t)
    : t.dev.kept u := by
  refine effect_kept ?_ h e
  intro _ _
  apply counterDump_kept
  assumption

theorem execCalibrationStep_kept {u : Upto} (s t : State) (h : s.dev.kept u) (e : execCalibrationStep s = .next t)
    : t.dev.kept u := by
  refine effect_kept ?_ h e
  intro _ _
  apply calibrationStep_kept
  assumption

theorem execLaneEqualisationAdaptation_kept {u : Upto} (x0 : List (Lane × List Int)) (s t : State) (h : s.dev.kept u)
    (e : execLaneEqualisationAdaptation x0 s = .next t) : t.dev.kept u := by
  refine effect_kept ?_ h e
  intro _ _
  apply laneAdaptation_kept
  assumption

theorem execAddressLearning_kept {u : Upto} (s t : State) (h : s.dev.kept u) (e : execAddressLearning s = .next t)
    : t.dev.kept u := by
  refine effect_kept ?_ h e
  intro _ _
  apply addressLearning_kept
  assumption

theorem execReelTriggerEvaluation_kept {u : Upto} (s t : State) (h : s.dev.kept u)
    (e : execReelTriggerEvaluation s = .next t) : t.dev.kept u := by
  refine effect_kept ?_ h e
  intro _ _
  apply reelEvaluation_kept
  assumption

theorem execHeartbeatAndComparison_kept {u : Upto} (x0 : PairObs) (x1 : PairObs) (s t : State) (h : s.dev.kept u)
    (e : execHeartbeatAndComparison x0 x1 s = .next t) : t.dev.kept u := by
  refine effect_kept ?_ h e
  intro _ _
  apply heartbeat_kept
  assumption

theorem execSpoolPrograms_kept {u : Upto} (x0 : SpoolStep) (x1 : List (Nat × Byte)) (s t : State) (h : s.dev.kept u)
    (e : execSpoolPrograms x0 x1 s = .next t) : t.dev.kept u := by
  refine effect_kept ?_ h e
  intro _ _
  split
  · apply spoolStart_kept
    assumption
  · apply spoolFault_kept
    assumption

theorem execWorkItemOverrun_kept {u : Upto} (x0 : Fin 13) (x1 : OverrunObs) (s t : State)
    (h : s.dev.kept u) (e : execWorkItemOverrun x0 x1 s = .next t) : t.dev.kept u := by
  refine effect_kept ?_ h e
  intro _ _
  apply itemOverrun_kept
  assumption

theorem execSpoolBudgetStop_kept {u : Upto} (x0 : List (Nat × Byte)) (s t : State) (h : s.dev.kept u)
    (e : execSpoolBudgetStop x0 s = .next t) : t.dev.kept u := by
  refine effect_kept ?_ h e
  intro _ _
  apply spoolBudgetStop_kept
  assumption

theorem execTurnChangeContinuous_kept {u : Upto} (s t : State) (h : s.dev.kept u)
    (e : execTurnChangeContinuous s = .next t) : t.dev.kept u := by
  refine effect_kept ?_ h e
  intro _ _
  apply armPeriod_kept
  assumption

theorem execTurnReanchor_kept {u : Upto} (s t : State) (h : s.dev.kept u) (e : execTurnReanchor s = .next t)
    : t.dev.kept u := by
  refine effect_kept ?_ h e
  intro _ _
  apply armReanchor_kept
  assumption

theorem execTurnChangeCancel_kept {u : Upto} (s t : State) (h : s.dev.kept u) (e : execTurnChangeCancel s = .next t)
    : t.dev.kept u := by
  refine effect_kept ?_ h e
  intro _ _
  apply cancelParam_kept
  assumption

theorem execGapHeartbeat_kept {u : Upto} (x0 : PairObs) (x1 : PairObs) (s t : State) (h : s.dev.kept u)
    (e : execGapHeartbeat x0 x1 s = .next t) : t.dev.kept u := by
  refine effect_kept ?_ h e
  intro _ _
  apply gapHeartbeat_kept
  assumption

theorem execOverrunClear_kept {u : Upto} (x0 : Fin 13) (s t : State) (h : s.dev.kept u)
    (e : execOverrunClear x0 s = .next t) : t.dev.kept u := by
  refine effect_kept ?_ h e
  intro _ _
  apply overrunClear_kept
  assumption

theorem execBlockEnableCmd_kept {u : Upto} (x0 : BlockId) (s t : State) (h : s.dev.kept u)
    (e : execBlockEnableCmd x0 s = .next t) : t.dev.kept u := by
  refine effect_kept ?_ h e
  intro _ _
  apply blockCmd_kept
  assumption

theorem execBlockDisableCmd_kept {u : Upto} (x0 : BlockId) (s t : State) (h : s.dev.kept u)
    (e : execBlockDisableCmd x0 s = .next t) : t.dev.kept u := by
  refine effect_kept ?_ h e
  intro _ _
  apply blockCmd_kept
  assumption

theorem execBlockReady_kept {u : Upto} (x0 : BlockId) (s t : State) (h : s.dev.kept u)
    (e : execBlockReady x0 s = .next t) : t.dev.kept u := by
  refine effect_kept ?_ h e
  intro _ _
  apply blockReady_kept
  assumption

theorem execReadinessLimitExpiry_kept {u : Upto} (x0 : BlockId) (s t : State) (h : s.dev.kept u)
    (e : execReadinessLimitExpiry x0 s = .next t) : t.dev.kept u := by
  refine effect_kept ?_ h e
  intro _ _
  apply readinessExpiry_kept
  assumption

theorem execDisablingComplete_kept {u : Upto} (x0 : BlockId) (s t : State) (h : s.dev.kept u)
    (e : execDisablingComplete x0 s = .next t) : t.dev.kept u := by
  refine effect_kept ?_ h e
  intro _ _
  apply disablingComplete_kept
  assumption

theorem execBlockFault_kept {u : Upto} (x0 : BlockId) (x1 : Nat) (s t : State) (h : s.dev.kept u)
    (e : execBlockFault x0 x1 s = .next t) : t.dev.kept u := by
  refine effect_kept ?_ h e
  intro _ _
  apply blockFault_kept
  assumption

theorem execHostDeadlineMiss_kept {u : Upto} (x0 : HostFn) (s t : State) (h : s.dev.kept u)
    (e : execHostDeadlineMiss x0 s = .next t) : t.dev.kept u := by
  refine effect_kept ?_ h e
  intro _ _
  apply hostDeadlineMiss_kept
  assumption

theorem execHostNcoPhaseWrite_kept {u : Upto} (x0 : Int) (s t : State) (h : s.dev.kept u)
    (e : execHostNcoPhaseWrite x0 s = .next t) : t.dev.kept u := by
  refine effect_kept ?_ h e
  intro _ _
  apply hostNcoPhaseWrite_kept
  assumption

theorem execHostServoStateWrite_kept {u : Upto} (x0 : Fin 3) (s t : State) (h : s.dev.kept u)
    (e : execHostServoStateWrite x0 s = .next t) : t.dev.kept u := by
  refine effect_kept ?_ h e
  intro _ _
  apply hostServoStateWrite_kept
  assumption

theorem execTimeStepRelative_kept {u : Upto} (s t : State) (h : s.dev.kept u) (e : execTimeStepRelative s = .next t)
    : t.dev.kept u := by
  refine effect_kept ?_ h e
  intro _ _
  apply armStepRel_kept
  assumption

theorem execTimeSetAbsolute_kept {u : Upto} (s t : State) (h : s.dev.kept u) (e : execTimeSetAbsolute s = .next t)
    : t.dev.kept u := by
  refine effect_kept ?_ h e
  intro _ _
  apply armStepAbs_kept
  assumption

theorem execTimeStepCancel_kept {u : Upto} (s t : State) (h : s.dev.kept u) (e : execTimeStepCancel s = .next t)
    : t.dev.kept u := by
  refine effect_kept ?_ h e
  intro _ _
  apply cancelStep_kept
  assumption

theorem execTimeSnapshotCmd_kept {u : Upto} (s t : State) (h : s.dev.kept u) (e : execTimeSnapshotCmd s = .next t)
    : t.dev.kept u := by
  refine effect_kept ?_ h e
  intro _ _
  apply snapshotCmd_kept
  assumption

theorem execTimeSnapshotCapture_kept {u : Upto} (s t : State) (h : s.dev.kept u)
    (e : execTimeSnapshotCapture s = .next t) : t.dev.kept u := by
  refine effect_kept ?_ h e
  intro _ _
  apply snapshotCapture_kept
  assumption

theorem execSyncRx_kept {u : Upto} (x0 : Port) (x1 : Nat) (x2 : Bool) (x3 : Int) (x4 : Int) (x5 : Nat) (x6 : RxStamp)
    (s t : State) (h : s.dev.kept u) (e : execSyncRx x0 x1 x2 x3 x4 x5 x6 s = .next t) : t.dev.kept u := by
  refine effect_kept ?_ h e
  intro _ _
  apply syncRx_kept
  apply Dev.eventRx_kept
  assumption

theorem execFollowUpRx_kept {u : Upto} (x0 : Port) (x1 : Nat) (x2 : Int) (x3 : Int) (x4 : Nat) (s t : State)
    (h : s.dev.kept u) (e : execFollowUpRx x0 x1 x2 x3 x4 s = .next t) : t.dev.kept u := by
  refine effect_kept ?_ h e
  intro _ _
  apply followUpRx_kept
  assumption

theorem execDelayReqRx_kept {u : Upto} (x0 : Port) (x1 : Nat) (x2 : Int) (x3 : Nat) (x4 : RxStamp) (s t : State)
    (h : s.dev.kept u) (e : execDelayReqRx x0 x1 x2 x3 x4 s = .next t) : t.dev.kept u := by
  refine effect_kept ?_ h e
  intro _ _
  apply delayReqRx_kept
  apply Dev.eventRx_kept
  assumption

theorem execDelayRespRx_kept {u : Upto} (x0 : Port) (x1 : Nat) (x2 : Int) (x3 : Int) (s t : State) (h : s.dev.kept u)
    (e : execDelayRespRx x0 x1 x2 x3 s = .next t) : t.dev.kept u := by
  refine effect_kept ?_ h e
  intro _ _
  apply delayRespRx_kept
  assumption

theorem execPdelayReqRx_kept {u : Upto} (x0 : Port) (x1 : Nat) (x2 : Int) (x3 : Nat) (x4 : Option (Fin 4))
    (x5 : RxStamp) (s t : State) (h : s.dev.kept u) (e : execPdelayReqRx x0 x1 x2 x3 x4 x5 s = .next t)
    : t.dev.kept u := by
  refine effect_kept ?_ h e
  intro _ _
  apply pdelayReqRx_kept
  apply Dev.eventRx_kept
  assumption

theorem execPdelayRespRx_kept {u : Upto} (x0 : Port) (x1 : Nat) (x2 : Bool) (x3 : Int) (x4 : Int) (x5 : RxStamp)
    (s t : State) (h : s.dev.kept u) (e : execPdelayRespRx x0 x1 x2 x3 x4 x5 s = .next t) : t.dev.kept u := by
  refine effect_kept ?_ h e
  intro _ _
  apply pdelayRespRx_kept
  apply Dev.eventRx_kept
  assumption

theorem execPdelayRespFollowUpRx_kept {u : Upto} (x0 : Port) (x1 : Nat) (x2 : Int) (x3 : Int) (s t : State)
    (h : s.dev.kept u) (e : execPdelayRespFollowUpRx x0 x1 x2 x3 s = .next t) : t.dev.kept u := by
  refine effect_kept ?_ h e
  intro _ _
  apply pdelayFollowUpRx_kept
  assumption

theorem execAnnounceRx_kept {u : Upto} (x0 : Port) (x1 : Nat) (x2 : AnnounceMsg) (s t : State) (h : s.dev.kept u)
    (e : execAnnounceRx x0 x1 x2 s = .next t) : t.dev.kept u := by
  refine effect_kept ?_ h e
  intro _ _
  apply announceRx_kept
  assumption

theorem execSignalingRx_kept {u : Upto} (x0 : Port) (x1 : Bool) (s t : State) (h : s.dev.kept u)
    (e : execSignalingRx x0 x1 s = .next t) : t.dev.kept u := by
  refine effect_kept ?_ h e
  intro _ _
  apply signalingRx_kept
  assumption

theorem execPtpManagementRx_kept {u : Upto} (x0 : Port) (x1 : List Byte) (x2 : RxStamp) (s t : State)
    (h : s.dev.kept u)
    (e : execPtpManagementRx x0 x1 x2 s = .next t) : t.dev.kept u := by
  refine effect_kept ?_ h e
  intro _ _
  apply ptpManagementRx_kept
  assumption

theorem execSyncTx_kept {u : Upto} (x0 : Port) (s t : State) (h : s.dev.kept u) (e : execSyncTx x0 s = .next t)
    : t.dev.kept u := by
  refine effect_kept ?_ h e
  intro _ _
  apply syncTx_kept
  assumption

theorem execDelayReqTx_kept {u : Upto} (x0 : Port) (s t : State) (h : s.dev.kept u)
    (e : execDelayReqTx x0 s = .next t) : t.dev.kept u := by
  refine effect_kept ?_ h e
  intro _ _
  apply delayReqTx_kept
  assumption

theorem execDelayRespTx_kept {u : Upto} (x0 : Port) (s t : State) (h : s.dev.kept u)
    (e : execDelayRespTx x0 s = .next t) : t.dev.kept u := by
  refine effect_kept ?_ h e
  intro _ _
  apply delayRespTx_kept
  assumption

theorem execPdelayRespTx_kept {u : Upto} (x0 : Port) (s t : State) (h : s.dev.kept u)
    (e : execPdelayRespTx x0 s = .next t) : t.dev.kept u := by
  refine effect_kept ?_ h e
  intro _ _
  apply pdelayRespTx_kept
  assumption

theorem execAnnounceTx_kept {u : Upto} (x0 : Port) (s t : State) (h : s.dev.kept u)
    (e : execAnnounceTx x0 s = .next t) : t.dev.kept u := by
  refine effect_kept ?_ h e
  intro _ _
  apply announceTx_kept
  assumption

theorem execL1SyncTx_kept {u : Upto} (x0 : Port) (s t : State) (h : s.dev.kept u) (e : execL1SyncTx x0 s = .next t)
    : t.dev.kept u := by
  refine effect_kept ?_ h e
  intro _ _
  apply l1SyncTx_kept
  assumption

theorem execAnnounceReceiptTimeout_kept {u : Upto} (x0 : Port) (s t : State) (h : s.dev.kept u)
    (e : execAnnounceReceiptTimeout x0 s = .next t) : t.dev.kept u := by
  refine effect_kept ?_ h e
  intro _ _
  apply announceReceiptTimeout_kept
  assumption

theorem execSyncReceiptLoss_kept {u : Upto} (x0 : Port) (s t : State) (h : s.dev.kept u)
    (e : execSyncReceiptLoss x0 s = .next t) : t.dev.kept u := by
  refine effect_kept ?_ h e
  intro _ _
  apply syncReceiptLoss_kept
  assumption

theorem execEsmcPduRx_kept {u : Upto} (x0 : Port) (x1 : Nat) (x2 : Bool) (s t : State) (h : s.dev.kept u)
    (e : execEsmcPduRx x0 x1 x2 s = .next t) : t.dev.kept u := by
  refine effect_kept ?_ h e
  intro _ _
  apply esmcPduRx_kept
  assumption

theorem execEsmcInformationTx_kept {u : Upto} (x0 : Port) (s t : State) (h : s.dev.kept u)
    (e : execEsmcInformationTx x0 s = .next t) : t.dev.kept u := by
  refine effect_kept ?_ h e
  intro _ _
  apply esmcTx_kept
  assumption

theorem execEsmcEventTx_kept {u : Upto} (x0 : Port) (s t : State) (h : s.dev.kept u)
    (e : execEsmcEventTx x0 s = .next t) : t.dev.kept u := by
  refine effect_kept ?_ h e
  intro _ _
  apply esmcTx_kept
  assumption

theorem execEsmcRxTimeout_kept {u : Upto} (x0 : Port) (s t : State) (h : s.dev.kept u)
    (e : execEsmcRxTimeout x0 s = .next t) : t.dev.kept u := by
  refine effect_kept ?_ h e
  intro _ _
  apply esmcRxTimeout_kept
  assumption

theorem execHostLinkRecordCmd_kept {u : Upto} (x0 : Port) (s t : State) (h : s.dev.kept u)
    (e : execHostLinkRecordCmd x0 s = .next t) : t.dev.kept u := by
  refine effect_kept ?_ h e
  intro _ _
  apply hostLinkRecordCmd_kept
  assumption

theorem execPlyRelockWindowExpiry_kept {u : Upto} (x0 : Fin 24) (s t : State) (h : s.dev.kept u)
    (e : execPlyRelockWindowExpiry x0 s = .next t) : t.dev.kept u := by
  refine effect_kept ?_ h e
  intro _ _
  apply plyWindowExpiry_kept
  assumption

theorem execRelockSyncPairTx_kept {u : Upto} (x0 : Fin 24) (s t : State) (h : s.dev.kept u)
    (e : execRelockSyncPairTx x0 s = .next t) : t.dev.kept u := by
  refine effect_kept ?_ h e
  intro _ _
  apply relockSyncPair_kept
  assumption

theorem execPlySyncPairTimeout_kept {u : Upto} (x0 : Fin 24) (s t : State) (h : s.dev.kept u)
    (e : execPlySyncPairTimeout x0 s = .next t) : t.dev.kept u := by
  refine effect_kept ?_ h e
  intro _ _
  apply plyPairTimeout_kept
  assumption

theorem execPathStepDecisionSplit_kept {u : Upto} (x0 : Port) (s t : State) (h : s.dev.kept u)
    (e : execPathStepDecisionSplit x0 s = .next t) : t.dev.kept u := by
  refine effect_kept ?_ h e
  intro _ _
  apply pathDecision_kept
  assumption

theorem execPathStepDecisionReplace_kept {u : Upto} (x0 : Port) (s t : State) (h : s.dev.kept u)
    (e : execPathStepDecisionReplace x0 s = .next t) : t.dev.kept u := by
  refine effect_kept ?_ h e
  intro _ _
  apply pathDecision_kept
  assumption

theorem execPathStepAutoDecision_kept {u : Upto} (x0 : Port) (s t : State) (h : s.dev.kept u)
    (e : execPathStepAutoDecision x0 s = .next t) : t.dev.kept u := by
  refine effect_kept ?_ h e
  intro _ _
  apply autoDecision_kept
  assumption

theorem execRefinEdgeStamp_kept {u : Upto} (x0 : Fin 4) (x1 : TapStamp) (s t : State) (h : s.dev.kept u)
    (e : execRefinEdgeStamp x0 x1 s = .next t) : t.dev.kept u := by
  refine effect_kept ?_ h e
  intro _ _
  apply refinEdge_kept
  assumption

theorem execRefinLabelApply_kept {u : Upto} (x0 : Fin 4) (s t : State) (h : s.dev.kept u)
    (e : execRefinLabelApply x0 s = .next t) : t.dev.kept u := by
  refine effect_kept ?_ h e
  intro _ _
  apply labelApply_kept
  assumption

theorem execRefinLabelClear_kept {u : Upto} (x0 : Fin 4) (s t : State) (h : s.dev.kept u)
    (e : execRefinLabelClear x0 s = .next t) : t.dev.kept u := by
  refine effect_kept ?_ h e
  intro _ _
  apply labelClear_kept
  assumption

theorem execHostRefCmd_kept {u : Upto} (s t : State) (h : s.dev.kept u) (e : execHostRefCmd s = .next t)
    : t.dev.kept u := by
  refine effect_kept ?_ h e
  intro _ _
  apply hostRefCmd_kept
  assumption

theorem execRefinPresenceTimeout_kept {u : Upto} (x0 : Fin 4) (s t : State) (h : s.dev.kept u)
    (e : execRefinPresenceTimeout x0 s = .next t) : t.dev.kept u := by
  refine effect_kept ?_ h e
  intro _ _
  apply presenceTimeout_kept
  assumption

theorem execHostRefIntervalExpiry_kept {u : Upto} (s t : State) (h : s.dev.kept u)
    (e : execHostRefIntervalExpiry s = .next t) : t.dev.kept u := by
  refine effect_kept ?_ h e
  intro _ _
  apply hostRefExpiry_kept
  assumption

theorem execFreqMonitorReport_kept {u : Upto} (x0 : Cand) (x1 : Nat) (s t : State) (h : s.dev.kept u)
    (e : execFreqMonitorReport x0 x1 s = .next t) : t.dev.kept u := by
  refine effect_kept ?_ h e
  intro _ _
  apply freqReport_kept
  assumption

theorem execQualifyTimeElapsed_kept {u : Upto} (x0 : Cand) (s t : State) (h : s.dev.kept u)
    (e : execQualifyTimeElapsed x0 s = .next t) : t.dev.kept u := by
  refine effect_kept ?_ h e
  intro _ _
  apply qualifyElapsed_kept
  assumption

theorem execRefHoldOffExpiry_kept {u : Upto} (x0 : Cand) (s t : State) (h : s.dev.kept u)
    (e : execRefHoldOffExpiry x0 s = .next t) : t.dev.kept u := by
  refine effect_kept ?_ h e
  intro _ _
  apply holdOffExpiry_kept
  assumption

theorem execSwitchSettleComplete_kept {u : Upto} (s t : State) (h : s.dev.kept u)
    (e : execSwitchSettleComplete s = .next t) : t.dev.kept u := by
  refine effect_kept ?_ h e
  intro _ _
  apply switchSettle_kept
  assumption

theorem execSwitchTimeout_kept {u : Upto} (s t : State) (h : s.dev.kept u) (e : execSwitchTimeout s = .next t)
    : t.dev.kept u := by
  refine effect_kept ?_ h e
  intro _ _
  apply switchTimeout_kept
  assumption

theorem execWaitToRestoreExpiry_kept {u : Upto} (x0 : Cand) (s t : State) (h : s.dev.kept u)
    (e : execWaitToRestoreExpiry x0 s = .next t) : t.dev.kept u := by
  refine effect_kept ?_ h e
  intro _ _
  apply waitExpiry_kept
  assumption

theorem execHostRefSelectCmd_kept {u : Upto} (s t : State) (h : s.dev.kept u) (e : execHostRefSelectCmd s = .next t)
    : t.dev.kept u := by
  refine effect_kept ?_ h e
  intro _ _
  apply hostRefSelect_kept
  assumption

theorem execHoldoverBin_kept {u : Upto} (s t : State) (h : s.dev.kept u) (e : execHoldoverBin s = .next t)
    : t.dev.kept u := by
  refine effect_kept ?_ h e
  intro _ _
  apply holdoverBin_kept
  assumption

theorem execHoldoverEstimateUpdate_kept {u : Upto} (s t : State) (h : s.dev.kept u)
    (e : execHoldoverEstimateUpdate s = .next t) : t.dev.kept u := by
  refine effect_kept ?_ h e
  intro _ _
  apply holdoverEstimate_kept
  assumption

theorem execSteeredSynthLoss_kept {u : Upto} (s t : State) (h : s.dev.kept u) (e : execSteeredSynthLoss s = .next t)
    : t.dev.kept u := by
  refine effect_kept ?_ h e
  intro _ _
  apply steeredLoss_kept
  assumption

theorem execSteeredSynthLock_kept {u : Upto} (s t : State) (h : s.dev.kept u) (e : execSteeredSynthLock s = .next t)
    : t.dev.kept u := by
  refine effect_kept ?_ h e
  intro _ _
  apply steeredLock_kept
  assumption

theorem execFixedSynthLoss_kept {u : Upto} (s t : State) (h : s.dev.kept u) (e : execFixedSynthLoss s = .next t)
    : t.dev.kept u := by
  refine effect_kept ?_ h e
  intro _ _
  apply fixedSynthLoss_kept
  assumption

theorem execPlinthLoss_kept {u : Upto} (s t : State) (h : s.dev.kept u) (e : execPlinthLoss s = .next t)
    : t.dev.kept u := by
  refine effect_kept ?_ h e
  intro _ _
  apply plinthLoss_kept
  assumption

theorem execPlinthReturn_kept {u : Upto} (s t : State) (h : s.dev.kept u) (e : execPlinthReturn s = .next t)
    : t.dev.kept u := by
  refine effect_kept ?_ h e
  intro _ _
  apply plinthReturn_kept
  assumption

theorem execBothSynthsUnlocked_kept {u : Upto} (s t : State) (h : s.dev.kept u)
    (e : execBothSynthsUnlocked s = .next t) : t.dev.kept u := by
  refine effect_kept ?_ h e
  intro _ _
  apply bothSynthsUnlocked_kept
  assumption

theorem execAlignmentLineLock_kept {u : Upto} (x0 : Fin 4) (x1 : Int) (x2 : Nat) (s t : State) (h : s.dev.kept u)
    (e : execAlignmentLineLock x0 x1 x2 s = .next t) : t.dev.kept u := by
  refine effect_kept ?_ h e
  intro _ _
  apply alignmentLock_kept
  assumption

theorem execAlignmentLineLockLoss_kept {u : Upto} (x0 : Fin 4) (s t : State) (h : s.dev.kept u)
    (e : execAlignmentLineLockLoss x0 s = .next t) : t.dev.kept u := by
  refine effect_kept ?_ h e
  intro _ _
  apply alignmentLoss_kept
  assumption

theorem execOutputRealignArm_kept {u : Upto} (s t : State) (h : s.dev.kept u) (e : execOutputRealignArm s = .next t)
    : t.dev.kept u := by
  refine effect_kept ?_ h e
  intro _ _
  apply realignArm_kept
  assumption

theorem execOutputRealignCancel_kept {u : Upto} (s t : State) (h : s.dev.kept u)
    (e : execOutputRealignCancel s = .next t) : t.dev.kept u := by
  refine effect_kept ?_ h e
  intro _ _
  apply realignCancel_kept
  assumption

theorem execPulseRisingEdge_kept {u : Upto} (x0 : Fin 16) (x1 : Int) (s t : State) (h : s.dev.kept u)
    (e : execPulseRisingEdge x0 x1 s = .next t) : t.dev.kept u := by
  refine effect_kept ?_ h e
  intro _ _
  apply pulseRising_kept
  assumption

theorem execPulseFallingEdge_kept {u : Upto} (x0 : Fin 16) (s t : State) (h : s.dev.kept u)
    (e : execPulseFallingEdge x0 s = .next t) : t.dev.kept u := by
  refine effect_kept ?_ h e
  intro _ _
  apply pulseFall_kept
  assumption

theorem execEvinEdge_kept {u : Upto} (x0 : Evin) (x1 : Bool) (x2 : Int) (x3 : Fin 128) (x4 : Bool) (s t : State)
    (h : s.dev.kept u) (e : execEvinEdge x0 x1 x2 x3 x4 s = .next t) : t.dev.kept u := by
  refine effect_kept ?_ h e
  intro _ _
  refine ite_kept ?_ ?_
  · intro _
    apply Dev.edgeBlanked_kept
    assumption
  · intro _
    apply evinEdge_kept
    assumption

theorem execMrefStampConversion_kept {u : Upto} (x0 : Evin) (x1 : Nat) (x2 : List Int) (x3 : List Int) (s t : State)
    (h : s.dev.kept u) (e : execMrefStampConversion x0 x1 x2 x3 s = .next t) : t.dev.kept u := by
  refine effect_kept ?_ h e
  intro _ _
  apply mrefConvert_kept
  assumption

theorem execMeasurementTimeout_kept {u : Upto} (x0 : Evin) (s t : State) (h : s.dev.kept u)
    (e : execMeasurementTimeout x0 s = .next t) : t.dev.kept u := by
  refine effect_kept ?_ h e
  intro _ _
  apply measTimeout_kept
  assumption

theorem execEvinPinFault_kept {u : Upto} (x0 : Evin) (x1 : Fin 4) (s t : State) (h : s.dev.kept u)
    (e : execEvinPinFault x0 x1 s = .next t) : t.dev.kept u := by
  refine effect_kept ?_ h e
  intro _ _
  apply pinFault_kept
  assumption

theorem execEvinSwapCheck_kept {u : Upto} (x0 : Evin) (x1 : Nat) (x2 : Nat) (s t : State) (h : s.dev.kept u)
    (e : execEvinSwapCheck x0 x1 x2 s = .next t) : t.dev.kept u := by
  refine effect_kept ?_ h e
  intro _ _
  apply swapCheck_kept
  assumption

theorem execMrefPresent_kept {u : Upto} (x0 : Int) (s t : State) (h : s.dev.kept u)
    (e : execMrefPresent x0 s = .next t) : t.dev.kept u := by
  refine effect_kept ?_ h e
  intro _ _
  apply mrefPresent_kept
  assumption

theorem execMrefAbsent_kept {u : Upto} (s t : State) (h : s.dev.kept u) (e : execMrefAbsent s = .next t)
    : t.dev.kept u := by
  refine effect_kept ?_ h e
  intro _ _
  apply mrefAbsent_kept
  assumption

theorem execFreqGateOne_kept {u : Upto} (x0 : Evin) (s t : State) (h : s.dev.kept u)
    (e : execFreqGateOne x0 s = .next t) : t.dev.kept u := by
  refine effect_kept ?_ h e
  intro _ _
  apply gateRequest_kept
  assumption

theorem execFreqGateContinuous_kept {u : Upto} (x0 : Evin) (s t : State) (h : s.dev.kept u)
    (e : execFreqGateContinuous x0 s = .next t) : t.dev.kept u := by
  refine effect_kept ?_ h e
  intro _ _
  apply gateRequest_kept
  assumption

theorem execFreqGateStop_kept {u : Upto} (x0 : Evin) (s t : State) (h : s.dev.kept u)
    (e : execFreqGateStop x0 s = .next t) : t.dev.kept u := by
  refine effect_kept ?_ h e
  intro _ _
  apply gateStop_kept
  assumption

theorem execFreqGateClose_kept {u : Upto} (x0 : Evin) (s t : State) (h : s.dev.kept u)
    (e : execFreqGateClose x0 s = .next t) : t.dev.kept u := by
  refine effect_kept ?_ h e
  intro _ _
  apply gateClose_kept
  assumption

theorem execEvinStampRead_kept {u : Upto} (x0 : Evin) (s t : State) (h : s.dev.kept u)
    (e : execEvinStampRead x0 s = .next t) : t.dev.kept u := by
  refine effect_kept ?_ h e
  intro _ _
  apply stampRead_kept
  assumption

theorem execEvinResultHeaderRead_kept {u : Upto} (x0 : Evin) (s t : State) (h : s.dev.kept u)
    (e : execEvinResultHeaderRead x0 s = .next t) : t.dev.kept u := by
  refine effect_kept ?_ h e
  intro _ _
  apply resultRead_kept
  assumption

theorem execCalBinRunCmd_kept {u : Upto} (s t : State) (h : s.dev.kept u) (e : execCalBinRunCmd s = .next t)
    : t.dev.kept u := by
  refine effect_kept ?_ h e
  intro _ _
  apply binRunCmd_kept
  assumption

theorem execCalPortRunCmd_kept {u : Upto} (s t : State) (h : s.dev.kept u) (e : execCalPortRunCmd s = .next t)
    : t.dev.kept u := by
  refine effect_kept ?_ h e
  intro _ _
  apply portRunCmd_kept
  assumption

theorem execCalRunAbort_kept {u : Upto} (s t : State) (h : s.dev.kept u) (e : execCalRunAbort s = .next t)
    : t.dev.kept u := by
  refine effect_kept ?_ h e
  intro _ _
  apply runAbort_kept
  assumption

theorem execHistogramComplete_kept {u : Upto} (x0 : Fin 80) (x1 : List Nat) (x2 : List Nat) (s t : State)
    (h : s.dev.kept u) (e : execHistogramComplete x0 x1 x2 s = .next t) : t.dev.kept u := by
  refine effect_kept ?_ h e
  intro _ _
  apply histogramComplete_kept
  assumption

theorem execCalCollectLimitExpiry_kept {u : Upto} (x0 : Fin 80) (s t : State) (h : s.dev.kept u)
    (e : execCalCollectLimitExpiry x0 s = .next t) : t.dev.kept u := by
  refine effect_kept ?_ h e
  intro _ _
  apply collectExpiry_kept
  assumption

theorem execCalPortNextCmd_kept {u : Upto} (s t : State) (h : s.dev.kept u) (e : execCalPortNextCmd s = .next t)
    : t.dev.kept u := by
  refine effect_kept ?_ h e
  intro _ _
  apply portNext_kept
  assumption

theorem execCalLoopPhaseComplete_kept {u : Upto} (s t : State) (h : s.dev.kept u)
    (e : execCalLoopPhaseComplete s = .next t) : t.dev.kept u := by
  refine effect_kept ?_ h e
  intro _ _
  apply loopComplete_kept
  assumption

theorem execCalMeasuringPhaseComplete_kept {u : Upto} (s t : State) (h : s.dev.kept u)
    (e : execCalMeasuringPhaseComplete s = .next t) : t.dev.kept u := by
  refine effect_kept ?_ h e
  intro _ _
  apply measuringComplete_kept
  assumption

theorem execTemperatureTrigger_kept {u : Upto} (s t : State) (h : s.dev.kept u)
    (e : execTemperatureTrigger s = .next t) : t.dev.kept u := by
  refine effect_kept ?_ h e
  intro _ _
  apply temperatureTrigger_kept
  assumption

theorem execCalStepCollectSignal_kept {u : Upto} (s t : State) (h : s.dev.kept u)
    (e : execCalStepCollectSignal s = .next t) : t.dev.kept u := by
  refine effect_kept ?_ h e
  intro _ _
  apply hostCollect_kept
  assumption

theorem execCalStepCollectDither_kept {u : Upto} (s t : State) (h : s.dev.kept u)
    (e : execCalStepCollectDither s = .next t) : t.dev.kept u := by
  refine effect_kept ?_ h e
  intro _ _
  apply hostCollect_kept
  assumption

theorem execCalStepEvaluate_kept {u : Upto} (s t : State) (h : s.dev.kept u) (e : execCalStepEvaluate s = .next t)
    : t.dev.kept u := by
  refine effect_kept ?_ h e
  intro _ _
  apply hostEvaluate_kept
  assumption

theorem execCalStepCommitTable_kept {u : Upto} (s t : State) (h : s.dev.kept u)
    (e : execCalStepCommitTable s = .next t) : t.dev.kept u := by
  refine effect_kept ?_ h e
  intro _ _
  apply hostCommit_kept
  assumption

theorem execCalStepDiscard_kept {u : Upto} (s t : State) (h : s.dev.kept u) (e : execCalStepDiscard s = .next t)
    : t.dev.kept u := by
  refine effect_kept ?_ h e
  intro _ _
  apply hostDiscard_kept
  assumption

theorem execCalStepTrim_kept {u : Upto} (s t : State) (h : s.dev.kept u) (e : execCalStepTrim s = .next t)
    : t.dev.kept u := by
  refine effect_kept ?_ h e
  intro _ _
  apply hostTrim_kept
  assumption

theorem execCalStepPortLoop_kept {u : Upto} (s t : State) (h : s.dev.kept u) (e : execCalStepPortLoop s = .next t)
    : t.dev.kept u := by
  refine effect_kept ?_ h e
  intro _ _
  apply hostPortLoop_kept
  assumption

theorem execCalStepPortMeasure_kept {u : Upto} (s t : State) (h : s.dev.kept u)
    (e : execCalStepPortMeasure s = .next t) : t.dev.kept u := by
  refine effect_kept ?_ h e
  intro _ _
  apply hostPortMeasure_kept
  assumption

theorem execCalStepCommitPort_kept {u : Upto} (s t : State) (h : s.dev.kept u)
    (e : execCalStepCommitPort s = .next t) : t.dev.kept u := by
  refine effect_kept ?_ h e
  intro _ _
  apply hostCommitPort_kept
  assumption

theorem execFrameRxStart_kept {u : Upto} (x0 : Port) (x1 : List Byte) (x2 : Bool) (x3 : RxStamp) (s t : State)
    (h : s.dev.kept u) (e : execFrameRxStart x0 x1 x2 x3 s = .next t) : t.dev.kept u := by
  refine effect_kept ?_ h e
  intro _ _
  apply frameRxStart_kept
  assumption

theorem execPipelineEntry_kept {u : Upto} (x0 : EntryObs) (s t : State) (h : s.dev.kept u)
    (e : execPipelineEntry x0 s = .next t) : t.dev.kept u := by
  refine effect_kept ?_ h e
  intro _ _
  apply pipelineEntry_kept
  assumption

theorem execReplication_kept {u : Upto} (x0 : Fin 2) (x1 : Int) (s t : State) (h : s.dev.kept u)
    (e : execReplication x0 x1 s = .next t) : t.dev.kept u := by
  refine effect_kept ?_ h e
  intro _ _
  apply replication_kept
  assumption

theorem execOversizeTruncation_kept {u : Upto} (x0 : Port) (s t : State) (h : s.dev.kept u)
    (e : execOversizeTruncation x0 s = .next t) : t.dev.kept u := by
  refine effect_kept ?_ h e
  intro _ _
  apply oversizeTruncation_kept
  assumption

theorem execFrameRxEnd_kept {u : Upto} (x0 : Port) (s t : State) (h : s.dev.kept u)
    (e : execFrameRxEnd x0 s = .next t) : t.dev.kept u := by
  refine effect_kept ?_ h e
  intro _ _
  apply frameRxEnd_kept
  assumption

theorem execCutThroughStart_kept {u : Upto} (x0 : Port) (x1 : Int) (x2 : Int) (x3 : Nat) (s t : State)
    (h : s.dev.kept u) (e : execCutThroughStart x0 x1 x2 x3 s = .next t) : t.dev.kept u := by
  refine effect_kept ?_ h e
  intro _ _
  apply cutThroughStart_kept
  assumption

theorem execLearnQueueRead_kept {u : Upto} (s t : State) (h : s.dev.kept u) (e : execLearnQueueRead s = .next t)
    : t.dev.kept u := by
  refine effect_kept ?_ h e
  intro _ _
  apply learnQueueRead_kept
  assumption

theorem execMacAgeingVisit_kept {u : Upto} (s t : State) (h : s.dev.kept u) (e : execMacAgeingVisit s = .next t)
    : t.dev.kept u := by
  refine effect_kept ?_ h e
  intro _ _
  apply macAgeing_kept
  assumption

theorem execTableOpRead_kept {u : Upto} (s t : State) (h : s.dev.kept u) (e : execTableOpRead s = .next t)
    : t.dev.kept u := by
  refine effect_kept ?_ h e
  intro _ _
  apply tableOpStart_kept
  assumption

theorem execTableOpWrite_kept {u : Upto} (s t : State) (h : s.dev.kept u) (e : execTableOpWrite s = .next t)
    : t.dev.kept u := by
  refine effect_kept ?_ h e
  intro _ _
  apply tableOpStart_kept
  assumption

theorem execTableOpInsert_kept {u : Upto} (s t : State) (h : s.dev.kept u) (e : execTableOpInsert s = .next t)
    : t.dev.kept u := by
  refine effect_kept ?_ h e
  intro _ _
  apply tableOpStart_kept
  assumption

theorem execTableOpDelete_kept {u : Upto} (s t : State) (h : s.dev.kept u) (e : execTableOpDelete s = .next t)
    : t.dev.kept u := by
  refine effect_kept ?_ h e
  intro _ _
  apply tableOpStart_kept
  assumption

theorem execTableOpSearch_kept {u : Upto} (s t : State) (h : s.dev.kept u) (e : execTableOpSearch s = .next t)
    : t.dev.kept u := by
  refine effect_kept ?_ h e
  intro _ _
  apply tableOpStart_kept
  assumption

theorem execTableOpFlush_kept {u : Upto} (s t : State) (h : s.dev.kept u) (e : execTableOpFlush s = .next t)
    : t.dev.kept u := by
  refine effect_kept ?_ h e
  intro _ _
  apply tableOpStart_kept
  assumption

theorem execTableOpComplete_kept {u : Upto} (s t : State) (h : s.dev.kept u) (e : execTableOpComplete s = .next t)
    : t.dev.kept u := by
  refine effect_kept ?_ h e
  intro _ _
  apply tableComplete_kept
  assumption

theorem execHpRxDelivery_kept {u : Upto} (x0 : Fin 4) (x1 : Nat) (s t : State) (h : s.dev.kept u)
    (e : execHpRxDelivery x0 x1 s = .next t) : t.dev.kept u := by
  refine effect_kept ?_ h e
  intro _ _
  apply hpDelivery_kept
  assumption

theorem execTransmitSelection_kept {u : Upto} (x0 : Port) (x1 : Int) (x2 : Int) (x3 : Nat) (s t : State)
    (h : s.dev.kept u) (e : execTransmitSelection x0 x1 x2 x3 s = .next t) : t.dev.kept u := by
  refine effect_kept ?_ h e
  intro _ _
  apply transmitSelection_kept
  assumption

theorem execFrameTxEnd_kept {u : Upto} (x0 : Port) (x1 : Int) (s t : State) (h : s.dev.kept u)
    (e : execFrameTxEnd x0 x1 s = .next t) : t.dev.kept u := by
  refine effect_kept ?_ h e
  intro _ _
  apply frameTxEnd_kept
  assumption

theorem execGateEntryStart_kept {u : Upto} (x0 : Port) (x1 : Int) (s t : State) (h : s.dev.kept u)
    (e : execGateEntryStart x0 x1 s = .next t) : t.dev.kept u := by
  refine effect_kept ?_ h e
  intro _ _
  apply gateEntryStart_kept
  assumption

theorem execLaunchTimeReached_kept {u : Upto} (x0 : Port) (x1 : Int) (s t : State) (h : s.dev.kept u)
    (e : execLaunchTimeReached x0 x1 s = .next t) : t.dev.kept u := by
  refine effect_kept ?_ h e
  intro _ _
  apply Dev.until_kept
  assumption

theorem execGateOpReadArmature_kept {u : Upto} (s t : State) (h : s.dev.kept u)
    (e : execGateOpReadArmature s = .next t) : t.dev.kept u := by
  refine effect_kept ?_ h e
  intro _ _
  apply gateRead_kept
  assumption

theorem execGateOpReadMaquette_kept {u : Upto} (s t : State) (h : s.dev.kept u)
    (e : execGateOpReadMaquette s = .next t) : t.dev.kept u := by
  refine effect_kept ?_ h e
  intro _ _
  apply gateRead_kept
  assumption

theorem execGateOpWriteMaquette_kept {u : Upto} (s t : State) (h : s.dev.kept u)
    (e : execGateOpWriteMaquette s = .next t) : t.dev.kept u := by
  refine effect_kept ?_ h e
  intro _ _
  apply gateWrite_kept
  assumption

theorem execMaquetteStreamRead_kept {u : Upto} (s t : State) (h : s.dev.kept u)
    (e : execMaquetteStreamRead s = .next t) : t.dev.kept u := by
  refine effect_kept ?_ h e
  intro _ _
  apply imageRead_kept
  assumption

theorem execMaquetteStreamWrite_kept {u : Upto} (s t : State) (h : s.dev.kept u)
    (e : execMaquetteStreamWrite s = .next t) : t.dev.kept u := by
  refine effect_kept ?_ h e
  intro _ _
  apply imageWrite_kept
  assumption

theorem execMaquetteCopy_kept {u : Upto} (s t : State) (h : s.dev.kept u) (e : execMaquetteCopy s = .next t)
    : t.dev.kept u := by
  refine effect_kept ?_ h e
  intro _ _
  apply maquetteCopy_kept
  assumption

theorem execMaquetteCopyComplete_kept {u : Upto} (s t : State) (h : s.dev.kept u)
    (e : execMaquetteCopyComplete s = .next t) : t.dev.kept u := by
  refine effect_kept ?_ h e
  intro _ _
  apply maquetteCopyComplete_kept
  assumption

theorem execMaquetteSwapArm_kept {u : Upto} (s t : State) (h : s.dev.kept u) (e : execMaquetteSwapArm s = .next t)
    : t.dev.kept u := by
  refine effect_kept ?_ h e
  intro _ _
  apply swapArm_kept
  assumption

theorem execMaquetteSwapCancel_kept {u : Upto} (s t : State) (h : s.dev.kept u)
    (e : execMaquetteSwapCancel s = .next t) : t.dev.kept u := by
  refine effect_kept ?_ h e
  intro _ _
  apply swapCancel_kept
  assumption

theorem execPauseFrameRx_kept {u : Upto} (x0 : Port) (x1 : Nat) (s t : State) (h : s.dev.kept u)
    (e : execPauseFrameRx x0 x1 s = .next t) : t.dev.kept u := by
  refine effect_kept ?_ h e
  intro _ _
  apply pauseFrameRx_kept
  assumption

theorem execPfcFrameRx_kept {u : Upto} (x0 : Port) (x1 : Nat) (x2 : List Nat) (s t : State) (h : s.dev.kept u)
    (e : execPfcFrameRx x0 x1 x2 s = .next t) : t.dev.kept u := by
  refine effect_kept ?_ h e
  intro _ _
  apply pfcFrameRx_kept
  assumption

theorem execPauseTimerExpiry_kept {u : Upto} (x0 : Port) (x1 : Option (Fin 8)) (s t : State) (h : s.dev.kept u)
    (e : execPauseTimerExpiry x0 x1 s = .next t) : t.dev.kept u := by
  refine effect_kept ?_ h e
  intro _ _
  apply pauseTimerExpiry_kept
  assumption

theorem execXoffRepeat_kept {u : Upto} (x0 : Port) (x1 : Option (Fin 8)) (s t : State) (h : s.dev.kept u)
    (e : execXoffRepeat x0 x1 s = .next t) : t.dev.kept u := by
  refine effect_kept ?_ h e
  intro _ _
  apply xoffRepeat_kept
  assumption

theorem execPauseFrameTx_kept {u : Upto} (x0 : Port) (x1 : Int) (s t : State) (h : s.dev.kept u)
    (e : execPauseFrameTx x0 x1 s = .next t) : t.dev.kept u := by
  refine effect_kept ?_ h e
  intro _ _
  apply pauseFrameTx_kept
  assumption

theorem execReelStart_kept {u : Upto} (s t : State) (h : s.dev.kept u) (e : execReelStart s = .next t)
    : t.dev.kept u := by
  refine effect_kept ?_ h e
  intro _ _
  apply reelCommand_kept
  assumption

theorem execReelStop_kept {u : Upto} (s t : State) (h : s.dev.kept u) (e : execReelStop s = .next t)
    : t.dev.kept u := by
  refine effect_kept ?_ h e
  intro _ _
  apply reelCommand_kept
  assumption

theorem execReelResume_kept {u : Upto} (s t : State) (h : s.dev.kept u) (e : execReelResume s = .next t)
    : t.dev.kept u := by
  refine effect_kept ?_ h e
  intro _ _
  apply reelCommand_kept
  assumption

theorem execReelTriggerCmd_kept {u : Upto} (s t : State) (h : s.dev.kept u) (e : execReelTriggerCmd s = .next t)
    : t.dev.kept u := by
  refine effect_kept ?_ h e
  intro _ _
  apply reelTrigger_kept
  assumption

theorem execReelRead_kept {u : Upto} (s t : State) (h : s.dev.kept u) (e : execReelRead s = .next t)
    : t.dev.kept u := by
  refine effect_kept ?_ h e
  intro _ _
  apply reelRead_kept
  assumption

theorem execStatSnapshot_kept {u : Upto} (x0 : PortHp) (s t : State) (h : s.dev.kept u)
    (e : execStatSnapshot x0 s = .next t) : t.dev.kept u := by
  refine effect_kept ?_ h e
  intro _ _
  apply statSnapshot_kept
  assumption

theorem execStatPeek_kept {u : Upto} (x0 : PortHp) (s t : State) (h : s.dev.kept u) (e : execStatPeek x0 s = .next t)
    : t.dev.kept u := by
  refine effect_kept ?_ h e
  intro _ _
  apply statPeek_kept
  assumption

theorem execSignalDetect_kept {u : Upto} (x0 : Lane) (s t : State) (h : s.dev.kept u)
    (e : execSignalDetect x0 s = .next t) : t.dev.kept u := by
  refine effect_kept ?_ h e
  intro _ _
  apply signalDetect_kept
  assumption

theorem execLossOfSignal_kept {u : Upto} (x0 : Lane) (s t : State) (h : s.dev.kept u)
    (e : execLossOfSignal x0 s = .next t) : t.dev.kept u := by
  refine effect_kept ?_ h e
  intro _ _
  apply lossOfSignal_kept
  assumption

theorem execSignalHoldElapsed_kept {u : Upto} (x0 : Lane) (s t : State) (h : s.dev.kept u)
    (e : execSignalHoldElapsed x0 s = .next t) : t.dev.kept u := by
  refine effect_kept ?_ h e
  intro _ _
  apply signalHold_kept
  assumption

theorem execCdrLock_kept {u : Upto} (x0 : Lane) (s t : State) (h : s.dev.kept u) (e : execCdrLock x0 s = .next t)
    : t.dev.kept u := by
  refine effect_kept ?_ h e
  intro _ _
  apply cdrLock_kept
  assumption

theorem execCdrLockLoss_kept {u : Upto} (x0 : Lane) (s t : State) (h : s.dev.kept u)
    (e : execCdrLockLoss x0 s = .next t) : t.dev.kept u := by
  refine effect_kept ?_ h e
  intro _ _
  apply cdrLockLoss_kept
  assumption

theorem execAdaptationConverged_kept {u : Upto} (x0 : Lane) (x1 : List Byte) (s t : State) (h : s.dev.kept u)
    (e : execAdaptationConverged x0 x1 s = .next t) : t.dev.kept u := by
  refine effect_kept ?_ h e
  intro _ _
  apply adaptationConverged_kept
  assumption

theorem execAlignmentFound_kept {u : Upto} (x0 : Lane) (x1 : Nat) (x2 : Nat) (x3 : Nat) (x4 : Bool) (s t : State)
    (h : s.dev.kept u) (e : execAlignmentFound x0 x1 x2 x3 x4 s = .next t) : t.dev.kept u := by
  refine effect_kept ?_ h e
  intro _ _
  apply alignmentFound_kept
  assumption

theorem execAlignHuntTimeout_kept {u : Upto} (x0 : Lane) (s t : State) (h : s.dev.kept u)
    (e : execAlignHuntTimeout x0 s = .next t) : t.dev.kept u := by
  refine effect_kept ?_ h e
  intro _ _
  apply alignHuntTimeout_kept
  assumption

theorem execAlignmentLoss_kept {u : Upto} (x0 : Lane) (x1 : Nat) (s t : State) (h : s.dev.kept u)
    (e : execAlignmentLoss x0 x1 s = .next t) : t.dev.kept u := by
  refine effect_kept ?_ h e
  intro _ _
  apply laneAlignLoss_kept
  assumption

theorem execHighBerOnset_kept {u : Upto} (x0 : Lane) (x1 : Nat) (s t : State) (h : s.dev.kept u)
    (e : execHighBerOnset x0 x1 s = .next t) : t.dev.kept u := by
  refine effect_kept ?_ h e
  intro _ _
  apply highBer_kept
  assumption

theorem execLanePllLock_kept {u : Upto} (x0 : Quad) (x1 : Fin 2) (s t : State) (h : s.dev.kept u)
    (e : execLanePllLock x0 x1 s = .next t) : t.dev.kept u := by
  refine effect_kept ?_ h e
  intro _ _
  apply lanePllLock_kept
  assumption

theorem execLanePllLockLoss_kept {u : Upto} (x0 : Quad) (x1 : Fin 2) (s t : State) (h : s.dev.kept u)
    (e : execLanePllLockLoss x0 x1 s = .next t) : t.dev.kept u := by
  refine effect_kept ?_ h e
  intro _ _
  apply lanePllLoss_kept
  assumption

theorem execPortLinkUp_kept {u : Upto} (x0 : Port) (x1 : Fin 3) (x2 : Bool) (s t : State) (h : s.dev.kept u)
    (e : execPortLinkUp x0 x1 x2 s = .next t) : t.dev.kept u := by
  refine effect_kept ?_ h e
  intro _ _
  apply portLinkUp_kept
  assumption

theorem execPortLinkDown_kept {u : Upto} (x0 : Port) (s t : State) (h : s.dev.kept u)
    (e : execPortLinkDown x0 s = .next t) : t.dev.kept u := by
  refine effect_kept ?_ h e
  intro _ _
  apply Dev.linkDown_kept
  assumption

theorem execLaneHostCoeffCmd_kept {u : Upto} (x0 : Lane) (s t : State) (h : s.dev.kept u)
    (e : execLaneHostCoeffCmd x0 s = .next t) : t.dev.kept u := by
  refine effect_kept ?_ h e
  intro _ _
  apply hostCoeffs_kept
  assumption

theorem execLoopbackBeaconTx_kept {u : Upto} (x0 : Port) (s t : State) (h : s.dev.kept u)
    (e : execLoopbackBeaconTx x0 s = .next t) : t.dev.kept u := by
  refine effect_kept ?_ h e
  intro _ _
  apply beaconTx_kept
  assumption

theorem execLoopbackBeaconRx_kept {u : Upto} (x0 : Port) (x1 : Nat) (s t : State) (h : s.dev.kept u)
    (e : execLoopbackBeaconRx x0 x1 s = .next t) : t.dev.kept u := by
  refine effect_kept ?_ h e
  intro _ _
  apply beaconRx_kept
  assumption

theorem execLoopCheckHoldExpiry_kept {u : Upto} (x0 : Port) (s t : State) (h : s.dev.kept u)
    (e : execLoopCheckHoldExpiry x0 s = .next t) : t.dev.kept u := by
  refine effect_kept ?_ h e
  intro _ _
  apply loopCheckExpiry_kept
  assumption

theorem execLoopbackClear_kept {u : Upto} (x0 : Port) (s t : State) (h : s.dev.kept u)
    (e : execLoopbackClear x0 s = .next t) : t.dev.kept u := by
  refine effect_kept ?_ h e
  intro _ _
  apply loopbackClear_kept
  assumption

theorem execPtClearCmd_kept {u : Upto} (x0 : Lane) (s t : State) (h : s.dev.kept u)
    (e : execPtClearCmd x0 s = .next t) : t.dev.kept u := by
  refine effect_kept ?_ h e
  intro _ _
  apply ptClear_kept
  assumption

theorem execPtInjectCmd_kept {u : Upto} (x0 : Lane) (s t : State) (h : s.dev.kept u)
    (e : execPtInjectCmd x0 s = .next t) : t.dev.kept u := by
  refine effect_kept ?_ h e
  intro _ _
  apply ptInject_kept
  assumption

theorem execPtCheckerLock_kept {u : Upto} (x0 : Lane) (x1 : Nat) (x2 : Nat) (s t : State) (h : s.dev.kept u)
    (e : execPtCheckerLock x0 x1 x2 s = .next t) : t.dev.kept u := by
  refine effect_kept ?_ h e
  intro _ _
  apply ptLock_kept
  assumption

theorem execPtCheckerLockLoss_kept {u : Upto} (x0 : Lane) (x1 : Nat) (x2 : Nat) (s t : State) (h : s.dev.kept u)
    (e : execPtCheckerLockLoss x0 x1 x2 s = .next t) : t.dev.kept u := by
  refine effect_kept ?_ h e
  intro _ _
  apply ptLockLoss_kept
  assumption

theorem execLaneTxSleep_kept {u : Upto} (x0 : Lane) (s t : State) (h : s.dev.kept u)
    (e : execLaneTxSleep x0 s = .next t) : t.dev.kept u := by
  refine effect_kept ?_ h e
  intro _ _
  apply laneTxSleep_kept
  assumption

theorem execLaneTxWake_kept {u : Upto} (x0 : Lane) (s t : State) (h : s.dev.kept u)
    (e : execLaneTxWake x0 s = .next t) : t.dev.kept u := by
  refine effect_kept ?_ h e
  intro _ _
  apply laneTxWake_kept
  assumption

theorem execLaneRxSleep_kept {u : Upto} (x0 : Lane) (s t : State) (h : s.dev.kept u)
    (e : execLaneRxSleep x0 s = .next t) : t.dev.kept u := by
  refine effect_kept ?_ h e
  intro _ _
  apply laneRxSleep_kept
  assumption

theorem execLaneRxWake_kept {u : Upto} (x0 : Lane) (s t : State) (h : s.dev.kept u)
    (e : execLaneRxWake x0 s = .next t) : t.dev.kept u := by
  refine effect_kept ?_ h e
  intro _ _
  apply laneRxWake_kept
  assumption

theorem execNqThinWindow_kept {u : Upto} (x0 : Quad) (x1 : Nat) (s t : State) (h : s.dev.kept u)
    (e : execNqThinWindow x0 x1 s = .next t) : t.dev.kept u := by
  refine effect_kept ?_ h e
  intro _ _
  apply nqThinWindow_kept
  assumption

theorem execNqLaneSetBlockRx_kept {u : Upto} (x0 : Quad) (x1 : Nat) (x2 : Nat) (x3 : Nat) (x4 : Nat) (x5 : Nat)
    (s t : State) (h : s.dev.kept u) (e : execNqLaneSetBlockRx x0 x1 x2 x3 x4 x5 s = .next t) : t.dev.kept u := by
  refine effect_kept ?_ h e
  intro _ _
  apply nqBlockRx_kept
  assumption

theorem execNqTxAtMarker_kept {u : Upto} (x0 : Quad) (x1 : Bool) (s t : State) (h : s.dev.kept u)
    (e : execNqTxAtMarker x0 x1 s = .next t) : t.dev.kept u := by
  refine effect_kept ?_ h e
  intro _ _
  apply nqTxAt_kept
  assumption

theorem execNqLaneLoss_kept {u : Upto} (x0 : Quad) (x1 : Fin 4) (x2 : Nat) (s t : State) (h : s.dev.kept u)
    (e : execNqLaneLoss x0 x1 x2 s = .next t) : t.dev.kept u := by
  refine effect_kept ?_ h e
  intro _ _
  apply nqLaneLoss_kept
  assumption

theorem execNqMarkerLockLoss_kept {u : Upto} (x0 : Quad) (x1 : Fin 4) (s t : State) (h : s.dev.kept u)
    (e : execNqMarkerLockLoss x0 x1 s = .next t) : t.dev.kept u := by
  refine effect_kept ?_ h e
  intro _ _
  apply nqMarkerLoss_kept
  assumption

theorem execNqRestoreHoldExpiry_kept {u : Upto} (x0 : Quad) (x1 : Fin 4) (s t : State) (h : s.dev.kept u)
    (e : execNqRestoreHoldExpiry x0 x1 s = .next t) : t.dev.kept u := by
  refine effect_kept ?_ h e
  intro _ _
  apply nqRestore_kept
  assumption

theorem execCheckerError_kept {u : Upto} (x0 : RedUnit) (s t : State) (h : s.dev.kept u)
    (e : execCheckerError x0 s = .next t) : t.dev.kept u := by
  refine effect_kept ?_ h e
  intro _ _
  apply checkerError_kept
  assumption

theorem execSelfTestCycleComplete_kept {u : Upto} (x0 : RedUnit) (x1 : Nat) (x2 : Nat) (x3 : Nat) (s t : State)
    (h : s.dev.kept u) (e : execSelfTestCycleComplete x0 x1 x2 x3 s = .next t) : t.dev.kept u := by
  refine effect_kept ?_ h e
  intro _ _
  apply selfTestCycle_kept
  assumption

theorem execIsolatedSelfTestComplete_kept {u : Upto} (x0 : RedUnit) (x1 : Nat) (s t : State) (h : s.dev.kept u)
    (e : execIsolatedSelfTestComplete x0 x1 s = .next t) : t.dev.kept u := by
  refine effect_kept ?_ h e
  intro _ _
  apply isolatedTest_kept
  assumption

theorem execRedReturnCmd_kept {u : Upto} (x0 : RedUnit) (s t : State) (h : s.dev.kept u)
    (e : execRedReturnCmd x0 s = .next t) : t.dev.kept u := by
  refine effect_kept ?_ h e
  intro _ _
  apply redReturn_kept
  assumption

theorem execRedSwitchCmd_kept {u : Upto} (x0 : Fin 2) (s t : State) (h : s.dev.kept u)
    (e : execRedSwitchCmd x0 s = .next t) : t.dev.kept u := by
  refine effect_kept ?_ h e
  intro _ _
  apply redSwitch_kept
  assumption

theorem execRevertHoldExpiry_kept {u : Upto} (x0 : Fin 2) (s t : State) (h : s.dev.kept u)
    (e : execRevertHoldExpiry x0 s = .next t) : t.dev.kept u := by
  refine effect_kept ?_ h e
  intro _ _
  apply revertHold_kept
  assumption

theorem execCoreRegisterLoad_kept {u : Upto} (x0 : Fin 2) (s t : State) (h : s.dev.kept u)
    (e : execCoreRegisterLoad x0 s = .next t) : t.dev.kept u := by
  refine effect_kept ?_ h e
  intro _ _
  apply coreLoad_kept
  assumption

theorem execFwStageDataWrite_kept {u : Upto} (x0 : List Byte) (s t : State) (h : s.dev.kept u)
    (e : execFwStageDataWrite x0 s = .next t) : t.dev.kept u := by
  refine effect_kept ?_ h e
  intro _ _
  apply stageData_kept
  assumption

theorem execFwVerify_kept {u : Upto} (s t : State) (h : s.dev.kept u) (e : execFwVerify s = .next t)
    : t.dev.kept u := by
  refine effect_kept ?_ h e
  intro _ _
  apply fwVerify_kept
  assumption

theorem execFwVerifyComplete_kept {u : Upto} (s t : State) (h : s.dev.kept u) (e : execFwVerifyComplete s = .next t)
    : t.dev.kept u := by
  refine effect_kept ?_ h e
  intro _ _
  apply fwVerifyComplete_kept
  assumption

theorem execFwArm_kept {u : Upto} (s t : State) (h : s.dev.kept u) (e : execFwArm s = .next t) : t.dev.kept u := by
  refine effect_kept ?_ h e
  intro _ _
  apply fwArm_kept
  assumption

theorem execFwCancel_kept {u : Upto} (s t : State) (h : s.dev.kept u) (e : execFwCancel s = .next t)
    : t.dev.kept u := by
  refine effect_kept ?_ h e
  intro _ _
  apply fwCancel_kept
  assumption

theorem execFwWriteFlash_kept {u : Upto} (s t : State) (h : s.dev.kept u) (e : execFwWriteFlash s = .next t)
    : t.dev.kept u := by
  refine effect_kept ?_ h e
  intro _ _
  apply fwWriteFlash_kept
  assumption

theorem execFwStandbyLoaded_kept {u : Upto} (x0 : Bool) (s t : State) (h : s.dev.kept u)
    (e : execFwStandbyLoaded x0 s = .next t) : t.dev.kept u := by
  refine effect_kept ?_ h e
  intro _ _
  apply fwLoaded_kept
  assumption

theorem execFwFlashWriteComplete_kept {u : Upto} (x0 : Bool) (s t : State) (h : s.dev.kept u)
    (e : execFwFlashWriteComplete x0 s = .next t) : t.dev.kept u := by
  refine effect_kept ?_ h e
  intro _ _
  apply fwFlashComplete_kept
  assumption

theorem execMdpDatagramRx_kept {u : Upto} (x0 : PortHp) (x1 : List Byte) (s t : State) (h : s.dev.kept u)
    (e : execMdpDatagramRx x0 x1 s = .next t) : t.dev.kept u := by
  refine effect_kept ?_ h e
  intro _ _
  apply mdpReceive_kept
  assumption

theorem execMdpOpen_kept {u : Upto} (s t : State) (h : s.dev.kept u) (e : execMdpOpen s = .next t)
    : t.dev.kept u := by
  refine effect_kept ?_ h e
  intro _ _
  apply Dev.mdpHead_kept
  · assumption
  · intro _ _ _ _
    apply mdpOpen_kept
    assumption

theorem execMdpProve_kept {u : Upto} (s t : State) (h : s.dev.kept u) (e : execMdpProve s = .next t)
    : t.dev.kept u := by
  refine effect_kept ?_ h e
  intro _ _
  apply Dev.mdpHead_kept
  · assumption
  · intro _ _ _ _
    apply mdpProve_kept
    assumption

theorem execMdpClose_kept {u : Upto} (s t : State) (h : s.dev.kept u) (e : execMdpClose s = .next t)
    : t.dev.kept u := by
  refine effect_kept ?_ h e
  intro _ _
  apply Dev.mdpHead_kept
  · assumption
  · intro _ _ _ _
    apply mdpClose_kept
    assumption

theorem execMdpKeepalive_kept {u : Upto} (s t : State) (h : s.dev.kept u) (e : execMdpKeepalive s = .next t)
    : t.dev.kept u := by
  refine effect_kept ?_ h e
  intro _ _
  apply Dev.mdpHead_kept
  · assumption
  · intro _ _ _ _
    apply mdpKeepalive_kept
    assumption

theorem execMdpStatus_kept {u : Upto} (s t : State) (h : s.dev.kept u) (e : execMdpStatus s = .next t)
    : t.dev.kept u := by
  refine effect_kept ?_ h e
  intro _ _
  apply Dev.mdpHead_kept
  · assumption
  · intro _ _ _ _
    apply mdpStatus_kept
    assumption

theorem execMdpRead_kept {u : Upto} (s t : State) (h : s.dev.kept u) (e : execMdpRead s = .next t)
    : t.dev.kept u := by
  refine effect_kept ?_ h e
  intro _ _
  apply Dev.mdpHead_kept
  · assumption
  · intro _ _ _ _
    apply mdpRead_kept
    assumption

theorem execMdpWrite_kept {u : Upto} (s t : State) (h : s.dev.kept u) (e : execMdpWrite s = .next t)
    : t.dev.kept u := by
  refine effect_kept ?_ h e
  intro _ _
  apply Dev.mdpHead_kept
  · assumption
  · intro _ _ _ _
    apply mdpWrite_kept
    assumption

theorem execMdpDescribe_kept {u : Upto} (s t : State) (h : s.dev.kept u) (e : execMdpDescribe s = .next t)
    : t.dev.kept u := by
  refine effect_kept ?_ h e
  intro _ _
  apply Dev.mdpHead_kept
  · assumption
  · intro _ _ _ _
    apply mdpDescribe_kept
    assumption

theorem execMdpSegReadInit_kept {u : Upto} (s t : State) (h : s.dev.kept u) (e : execMdpSegReadInit s = .next t)
    : t.dev.kept u := by
  refine effect_kept ?_ h e
  intro _ _
  apply Dev.mdpHead_kept
  · assumption
  · intro _ _ _ _
    apply mdpSegReadInit_kept
    assumption

theorem execMdpSegRead_kept {u : Upto} (s t : State) (h : s.dev.kept u) (e : execMdpSegRead s = .next t)
    : t.dev.kept u := by
  refine effect_kept ?_ h e
  intro _ _
  apply Dev.mdpHead_kept
  · assumption
  · intro _ _ _ _
    apply mdpSegRead_kept
    assumption

theorem execMdpSegWriteInit_kept {u : Upto} (s t : State) (h : s.dev.kept u) (e : execMdpSegWriteInit s = .next t)
    : t.dev.kept u := by
  refine effect_kept ?_ h e
  intro _ _
  apply Dev.mdpHead_kept
  · assumption
  · intro _ _ _ _
    apply mdpSegWriteInit_kept
    assumption

theorem execMdpSegWrite_kept {u : Upto} (s t : State) (h : s.dev.kept u) (e : execMdpSegWrite s = .next t)
    : t.dev.kept u := by
  refine effect_kept ?_ h e
  intro _ _
  apply Dev.mdpHead_kept
  · assumption
  · intro _ _ _ _
    apply mdpSegWrite_kept
    assumption

theorem execMdpSegAbort_kept {u : Upto} (s t : State) (h : s.dev.kept u) (e : execMdpSegAbort s = .next t)
    : t.dev.kept u := by
  refine effect_kept ?_ h e
  intro _ _
  apply Dev.mdpHead_kept
  · assumption
  · intro _ _ _ _
    apply mdpSegAbort_kept
    assumption

theorem execArpRequestRx_kept {u : Upto} (x0 : PortHp) (x1 : List Byte) (s t : State) (h : s.dev.kept u)
    (e : execArpRequestRx x0 x1 s = .next t) : t.dev.kept u := by
  refine effect_kept ?_ h e
  intro _ _
  apply arpRequest_kept
  assumption

theorem execNeighbourSolicitationRx_kept {u : Upto} (x0 : PortHp) (x1 : List Byte) (s t : State) (h : s.dev.kept u)
    (e : execNeighbourSolicitationRx x0 x1 s = .next t) : t.dev.kept u := by
  refine effect_kept ?_ h e
  intro _ _
  apply neighbourSolicitation_kept
  assumption

theorem execProveWaitTimeout_kept {u : Upto} (x0 : Fin 16) (s t : State) (h : s.dev.kept u)
    (e : execProveWaitTimeout x0 s = .next t) : t.dev.kept u := by
  refine effect_kept ?_ h e
  intro _ _
  apply proveTimeout_kept
  assumption

theorem execMdpSessionTimeout_kept {u : Upto} (x0 : Fin 16) (s t : State) (h : s.dev.kept u)
    (e : execMdpSessionTimeout x0 s = .next t) : t.dev.kept u := by
  refine effect_kept ?_ h e
  intro _ _
  apply sessionTimeout_kept
  assumption

theorem execAuthLockoutExpiry_kept {u : Upto} (x0 : List Byte) (s t : State) (h : s.dev.kept u)
    (e : execAuthLockoutExpiry x0 s = .next t) : t.dev.kept u := by
  refine effect_kept ?_ h e
  intro _ _
  apply lockoutEnds_kept
  assumption

theorem execMdpKeyWrite_kept {u : Upto} (x0 : Fin 3) (x1 : List Byte) (s t : State) (h : s.dev.kept u)
    (e : execMdpKeyWrite x0 x1 s = .next t) : t.dev.kept u := by
  refine effect_kept ?_ h e
  intro _ _
  apply Dev.when_kept
  · assumption
  · intro _ _
    apply keyWrite_kept
    assumption

theorem execMbRead_kept {u : Upto} (x0 : Fin 4) (s t : State) (h : s.dev.kept u) (e : execMbRead x0 s = .next t)
    : t.dev.kept u := by
  refine effect_kept ?_ h e
  intro _ _
  apply mailboxRead_kept
  assumption

theorem execMbWrite_kept {u : Upto} (x0 : Fin 4) (s t : State) (h : s.dev.kept u) (e : execMbWrite x0 s = .next t)
    : t.dev.kept u := by
  refine effect_kept ?_ h e
  intro _ _
  apply mailboxWrite_kept
  assumption

theorem execMbDescribe_kept {u : Upto} (x0 : Fin 4) (s t : State) (h : s.dev.kept u)
    (e : execMbDescribe x0 s = .next t) : t.dev.kept u := by
  refine effect_kept ?_ h e
  intro _ _
  apply mailboxDescribe_kept
  assumption

theorem execMbSegReadInit_kept {u : Upto} (x0 : Fin 4) (s t : State) (h : s.dev.kept u)
    (e : execMbSegReadInit x0 s = .next t) : t.dev.kept u := by
  refine effect_kept ?_ h e
  intro _ _
  apply mailboxSegReadInit_kept
  assumption

theorem execMbSegRead_kept {u : Upto} (x0 : Fin 4) (s t : State) (h : s.dev.kept u)
    (e : execMbSegRead x0 s = .next t) : t.dev.kept u := by
  refine effect_kept ?_ h e
  intro _ _
  apply mailboxSegRead_kept
  assumption

theorem execMbSegWriteInit_kept {u : Upto} (x0 : Fin 4) (s t : State) (h : s.dev.kept u)
    (e : execMbSegWriteInit x0 s = .next t) : t.dev.kept u := by
  refine effect_kept ?_ h e
  intro _ _
  apply mailboxSegWriteInit_kept
  assumption

theorem execMbSegWrite_kept {u : Upto} (x0 : Fin 4) (s t : State) (h : s.dev.kept u)
    (e : execMbSegWrite x0 s = .next t) : t.dev.kept u := by
  refine effect_kept ?_ h e
  intro _ _
  apply mailboxSegWrite_kept
  assumption

theorem execMbSegAbort_kept {u : Upto} (x0 : Fin 4) (s t : State) (h : s.dev.kept u)
    (e : execMbSegAbort x0 s = .next t) : t.dev.kept u := by
  refine effect_kept ?_ h e
  intro _ _
  apply mailboxSegAbort_kept
  assumption

theorem execMbOperationComplete_kept {u : Upto} (x0 : Fin 4) (s t : State) (h : s.dev.kept u)
    (e : execMbOperationComplete x0 s = .next t) : t.dev.kept u := by
  refine effect_kept ?_ h e
  intro _ _
  apply mailboxComplete_kept
  assumption

theorem execDirectMapWrite_kept {u : Upto} (x0 : BusAccess) (x1 : Nat) (s t : State) (h : s.dev.kept u)
    (e : execDirectMapWrite x0 x1 s = .next t) : t.dev.kept u := by
  refine effect_kept ?_ h e
  intro _ _
  apply busTransaction_kept
  assumption

theorem execBenigWindowWrite_kept {u : Upto} (x0 : BusAccess) (x1 x2 : BitVec 32) (s t : State) (h : s.dev.kept u)
    (e : execBenigWindowWrite x0 x1 x2 s = .next t) : t.dev.kept u := by
  refine effect_kept ?_ h e
  intro _ _
  apply busTransaction_kept
  assumption

theorem execRegisterWrite_kept {u : Upto} (x0 : BusAccess) (x1 : Nat) (s t : State) (h : s.dev.kept u)
    (e : execRegisterWrite x0 x1 s = .next t) : t.dev.kept u := by
  refine effect_kept ?_ h e
  intro _ _
  apply busTransaction_kept
  assumption

theorem execEvAckWrite_kept {u : Upto} (x0 : Fin 64) (x1 : Nat) (s t : State) (h : s.dev.kept u)
    (e : execEvAckWrite x0 x1 s = .next t) : t.dev.kept u := by
  refine effect_kept ?_ h e
  intro _ _
  apply eventAck_kept
  assumption

theorem execRingTailWrite_kept {u : Upto} (x0 : Fin 8) (x1 : Nat) (s t : State) (h : s.dev.kept u)
    (e : execRingTailWrite x0 x1 s = .next t) : t.dev.kept u := by
  refine effect_kept ?_ h e
  intro _ _
  apply ringTail_kept
  assumption

theorem execRingEnable_kept {u : Upto} (x0 : Fin 8) (s t : State) (h : s.dev.kept u)
    (e : execRingEnable x0 s = .next t) : t.dev.kept u := by
  refine effect_kept ?_ h e
  intro _ _
  apply ringEnable_kept
  assumption

theorem execRingDisable_kept {u : Upto} (x0 : Fin 8) (s t : State) (h : s.dev.kept u)
    (e : execRingDisable x0 s = .next t) : t.dev.kept u := by
  refine effect_kept ?_ h e
  intro _ _
  apply ringDisable_kept
  assumption

theorem execRingDisableComplete_kept {u : Upto} (x0 : Fin 8) (s t : State) (h : s.dev.kept u)
    (e : execRingDisableComplete x0 s = .next t) : t.dev.kept u := by
  refine effect_kept ?_ h e
  intro _ _
  apply ringDisableComplete_kept
  assumption

theorem execTxDescriptorFetch_kept {u : Upto} (x0 : Fin 4) (x1 : TxDesc) (x2 : List Byte) (x3 : Nat) (x4 : Int)
    (s t : State) (h : s.dev.kept u) (e : execTxDescriptorFetch x0 x1 x2 x3 x4 s = .next t) : t.dev.kept u := by
  refine effect_kept ?_ h e
  intro _ _
  apply txFetch_kept
  assumption

theorem execRingAttentionAck_kept {u : Upto} (x0 : Fin 8) (x1 : Nat) (s t : State) (h : s.dev.kept u)
    (e : execRingAttentionAck x0 x1 s = .next t) : t.dev.kept u := by
  refine effect_kept ?_ h e
  intro _ _
  apply attentionAck_kept
  assumption

theorem execAttentionCoalesceExpiry_kept {u : Upto} (x0 : Fin 8) (s t : State) (h : s.dev.kept u)
    (e : execAttentionCoalesceExpiry x0 s = .next t) : t.dev.kept u := by
  refine effect_kept ?_ h e
  intro _ _
  apply coalesceExpiry_kept
  assumption

theorem execPerfBankSnap_kept {u : Upto} (x0 : Fin 3) (s t : State) (h : s.dev.kept u)
    (e : execPerfBankSnap x0 s = .next t) : t.dev.kept u := by
  refine effect_kept ?_ h e
  intro _ _
  apply bankSnap_kept
  assumption

theorem execPerfCounterConfigWrite_kept {u : Upto} (x0 : Fin 3) (x1 : Fin 8) (x2 : Nat) (s t : State)
    (h : s.dev.kept u) (e : execPerfCounterConfigWrite x0 x1 x2 s = .next t) : t.dev.kept u := by
  refine effect_kept ?_ h e
  intro _ _
  apply counterConfig_kept
  assumption

theorem execPerfBankSnapshotRead_kept {u : Upto} (x0 : Fin 3) (s t : State) (h : s.dev.kept u)
    (e : execPerfBankSnapshotRead x0 s = .next t) : t.dev.kept u := by
  refine effect_kept ?_ h e
  intro _ _
  apply bankSnapshotRead_kept
  assumption

theorem execPerfBankPeek_kept {u : Upto} (x0 : Fin 3) (s t : State) (h : s.dev.kept u)
    (e : execPerfBankPeek x0 s = .next t) : t.dev.kept u := by
  refine effect_kept ?_ h e
  intro _ _
  apply bankPeek_kept
  assumption

theorem execSamplingInterrupt_kept {u : Upto} (x0 : Fin 3) (x1 : Fin 8) (x2 : Nat) (x3 : Bool) (x4 : Nat)
    (s t : State) (h : s.dev.kept u) (e : execSamplingInterrupt x0 x1 x2 x3 x4 s = .next t) : t.dev.kept u := by
  refine effect_kept ?_ h e
  intro _ _
  apply samplingInterrupt_kept
  assumption

theorem execPerfSampleRead_kept {u : Upto} (s t : State) (h : s.dev.kept u) (e : execPerfSampleRead s = .next t)
    : t.dev.kept u := by
  refine effect_kept ?_ h e
  intro _ _
  apply sampleRead_kept
  assumption

theorem execSysDone_kept {u : Upto} (x0 : List (Nat × Byte)) (x1 : Nat) (s t : State) (h : s.dev.kept u)
    (e : execSysDone x0 x1 s = .next t) : t.dev.kept u := by
  refine effect_kept ?_ h e
  intro _ _
  apply sysDone_kept
  assumption

theorem execSysTime_kept {u : Upto} (x0 : Nat) (x1 : List (Nat × Byte)) (x2 : Nat) (s t : State) (h : s.dev.kept u)
    (e : execSysTime x0 x1 x2 s = .next t) : t.dev.kept u := by
  refine effect_kept ?_ h e
  intro _ _
  apply sysTime_kept
  assumption

theorem execSysRead_kept {u : Upto} (x0 : Nat) (x1 : Nat) (x2 : Nat) (x3 : List (Nat × Byte)) (x4 : Nat)
    (s t : State) (h : s.dev.kept u) (e : execSysRead x0 x1 x2 x3 x4 s = .next t) : t.dev.kept u := by
  refine effect_kept ?_ h e
  intro _ _
  apply sysRead_kept
  assumption

theorem execSysWrite_kept {u : Upto} (x0 : Nat) (x1 : Nat) (x2 : Nat) (x3 : List (Nat × Byte)) (x4 : Nat)
    (s t : State) (h : s.dev.kept u) (e : execSysWrite x0 x1 x2 x3 x4 s = .next t) : t.dev.kept u := by
  refine effect_kept ?_ h e
  intro _ _
  apply sysWrite_kept
  assumption

theorem execSysPerf_kept {u : Upto} (x0 : Nat) (x1 : Nat) (x2 : List (Nat × Byte)) (x3 : Nat) (s t : State)
    (h : s.dev.kept u) (e : execSysPerf x0 x1 x2 x3 s = .next t) : t.dev.kept u := by
  refine effect_kept ?_ h e
  intro _ _
  apply sysPerf_kept
  assumption

theorem execSysBudget_kept {u : Upto} (x0 : List (Nat × Byte)) (x1 : Nat) (s t : State) (h : s.dev.kept u)
    (e : execSysBudget x0 x1 s = .next t) : t.dev.kept u := by
  refine effect_kept ?_ h e
  intro _ _
  apply sysBudget_kept
  assumption

theorem execSysLog_kept {u : Upto} (x0 : Nat) (x1 : Nat) (x2 : List (Nat × Byte)) (x3 : Nat) (s t : State)
    (h : s.dev.kept u) (e : execSysLog x0 x1 x2 x3 s = .next t) : t.dev.kept u := by
  refine effect_kept ?_ h e
  intro _ _
  apply sysLog_kept
  assumption

theorem execSpoolLogRead_kept {u : Upto} (s t : State) (h : s.dev.kept u) (e : execSpoolLogRead s = .next t)
    : t.dev.kept u := by
  refine effect_kept ?_ h e
  intro _ _
  apply spoolLogRead_kept
  assumption

theorem execPowerOnReset_kept {u : Upto} (s t : State) (h : s.dev.kept u) (e : execPowerOnReset s = .next t)
    : t.dev.kept u := by
  refine effect_kept ?_ h e
  intro _ _
  apply deviceReset_kept
  assumption

theorem execResetNAssert_kept {u : Upto} (s t : State) (h : s.dev.kept u) (e : execResetNAssert s = .next t)
    : t.dev.kept u := by
  refine effect_kept ?_ h e
  intro _ _
  apply deviceReset_kept
  assumption

theorem execSupplyReset_kept {u : Upto} (s t : State) (h : s.dev.kept u) (e : execSupplyReset s = .next t)
    : t.dev.kept u := by
  refine effect_kept ?_ h e
  intro _ _
  apply deviceReset_kept
  assumption

theorem execDeviceResetCmd_kept {u : Upto} (s t : State) (h : s.dev.kept u) (e : execDeviceResetCmd s = .next t)
    : t.dev.kept u := by
  refine effect_kept ?_ h e
  intro _ _
  apply deviceReset_kept
  assumption

theorem execResetRelease_kept {u : Upto} (straps : Fin 16) (s t : State) (h : s.dev.kept u)
    (hu : u.mark.up ≤ s.dev.time.uptime ∧ u.mark.turn ≤ s.dev.turn.reached ∧
      (s.dev.turn.started = u.mark.started ∨ u.mark.turn < s.dev.turn.reached))
    (e : execResetRelease straps s = .next t) : t.dev.kept u := by
  cases e
  exact resetRelease_kept _ _ h hu

theorem execPerstAssert_kept {u : Upto} (s t : State) (h : s.dev.kept u) (e : execPerstAssert s = .next t)
    : t.dev.kept u := by
  refine effect_kept ?_ h e
  intro _ _
  apply perstAssert_kept
  assumption

theorem execPcieLinkTraining_kept {u : Upto} (s t : State) (h : s.dev.kept u) (e : execPcieLinkTraining s = .next t)
    : t.dev.kept u := by
  refine effect_kept ?_ h e
  intro _ _
  apply pcieTraining_kept
  assumption

theorem execBootImageReadComplete_kept {u : Upto} (x0 : List Byte) (x1 : List Byte) (x2 : List Byte) (x3 : List Byte)
    (s t : State) (h : s.dev.kept u) (e : execBootImageReadComplete x0 x1 x2 x3 s = .next t) : t.dev.kept u := by
  refine effect_kept ?_ h e
  intro _ _
  apply bootImageRead_kept
  assumption

theorem execServerReady_kept {u : Upto} (s t : State) (h : s.dev.kept u) (e : execServerReady s = .next t)
    : t.dev.kept u := by
  refine effect_kept ?_ h e
  intro _ _
  apply serverReady_kept
  assumption

theorem execStandbyReturnAtBoot_kept {u : Upto} (s t : State) (h : s.dev.kept u)
    (e : execStandbyReturnAtBoot s = .next t) : t.dev.kept u := by
  refine effect_kept ?_ h e
  intro _ _
  apply standbyReturn_kept
  assumption

theorem execDeviceLevelFault_kept {u : Upto} (x0 : Fin 10) (x1 : Bool) (s t : State) (h : s.dev.kept u)
    (e : execDeviceLevelFault x0 x1 s = .next t) : t.dev.kept u := by
  refine effect_kept ?_ h e
  intro _ _
  apply deviceLevelFault_kept
  assumption

theorem execDeviceRestart_kept {u : Upto} (x0 : Bool) (s t : State) (h : s.dev.kept u) (hs : u.still = none)
    (e : execDeviceRestart x0 s = .next t) : t.dev.kept u :=
  effect_kept (fun _ hd => deviceRestart_kept _ _ hd hs) h e

theorem execDeviceRestartCmd_kept {u : Upto} (s t : State) (h : s.dev.kept u) (e : execDeviceRestartCmd s = .next t)
    : t.dev.kept u := by
  refine effect_kept ?_ h e
  intro _ _
  apply deviceRestartCmd_kept
  assumption

theorem execConfigLostAck_kept {u : Upto} (s t : State) (h : s.dev.kept u) (e : execConfigLostAck s = .next t)
    : t.dev.kept u := by
  refine effect_kept ?_ h e
  intro _ _
  apply configLostAck_kept
  assumption

theorem execThermalSample_kept {u : Upto} (x0 : List Int) (x1 : Bool) (s t : State) (h : s.dev.kept u)
    (e : execThermalSample x0 x1 s = .next t) : t.dev.kept u := by
  refine effect_kept ?_ h e
  intro _ _
  apply thermalSample_kept
  assumption

theorem execSupplySample_kept {u : Upto} (x0 : List Nat) (x1 : Nat) (s t : State) (h : s.dev.kept u)
    (e : execSupplySample x0 x1 s = .next t) : t.dev.kept u := by
  refine effect_kept ?_ h e
  intro _ _
  apply supplySample_kept
  assumption

theorem execPinFaultDetect_kept {u : Upto} (x0 : Fin 4) (x1 : Fin 16) (x2 : Fin 7) (s t : State) (h : s.dev.kept u)
    (e : execPinFaultDetect x0 x1 x2 s = .next t) : t.dev.kept u := by
  refine effect_kept ?_ h e
  intro _ _
  apply pinFaultDetect_kept
  assumption

theorem execShortRetry_kept {u : Upto} (x0 : Fin 24) (x1 : Bool) (s t : State) (h : s.dev.kept u)
    (e : execShortRetry x0 x1 s = .next t) : t.dev.kept u := by
  refine effect_kept ?_ h e
  intro _ _
  apply shortRetry_kept
  assumption

theorem execDramEccError_kept {u : Upto} (x0 : Fin 2) (x1 : Bool) (x2 : DramPlace) (s t : State) (h : s.dev.kept u)
    (e : execDramEccError x0 x1 x2 s = .next t) : t.dev.kept u := by
  refine effect_kept ?_ h e
  intro _ _
  apply dramEcc_kept
  assumption

theorem execDramScrub_kept {u : Upto} (x0 : Nat) (x1 : Nat) (s t : State) (h : s.dev.kept u)
    (e : execDramScrub x0 x1 s = .next t) : t.dev.kept u := by
  refine effect_kept ?_ h e
  intro _ _
  apply dramScrub_kept
  assumption

theorem execFixedSynthLock_kept {u : Upto} (s t : State) (h : s.dev.kept u) (e : execFixedSynthLock s = .next t)
    : t.dev.kept u := by
  refine effect_kept ?_ h e
  intro _ _
  apply fixedSynthLock_kept
  assumption

theorem execLocalRegisterRead_kept {u : Upto} (x0 : BusAccess) (s t : State) (h : s.dev.kept u)
    (e : execLocalRegisterRead x0 s = .next t) : t.dev.kept u := by
  refine effect_kept ?_ h e
  intro _ _
  apply busTransaction_kept
  assumption

theorem execDeepStoreTrainingComplete_kept {u : Upto} (x0 : Bool) (s t : State) (h : s.dev.kept u)
    (e : execDeepStoreTrainingComplete x0 s = .next t) : t.dev.kept u := by
  refine effect_kept ?_ h e
  intro _ _
  apply deepTraining_kept
  assumption

theorem execFecUncorrectableCodeword_kept {u : Upto} (x0 : Lane) (x1 : Nat) (s t : State) (h : s.dev.kept u)
    (e : execFecUncorrectableCodeword x0 x1 s = .next t) : t.dev.kept u := by
  refine effect_kept ?_ h e
  intro _ _
  apply fecUncorrectable_kept
  assumption

theorem execPreMasterQualificationTimeout_kept {u : Upto} (x0 : Port) (s t : State) (h : s.dev.kept u)
    (e : execPreMasterQualificationTimeout x0 s = .next t) : t.dev.kept u := by
  refine effect_kept ?_ h e
  intro _ _
  apply preMasterTimeout_kept
  assumption

end Sys2Proof.Machine
end

