-- ==== Sys2Proof/Laws/Requests.lean ====
section
/-! SUPPORT. The frames that commands share, opened once: the head of the server's queue, a call of a run, a work item,
and an access of the register map. -/

namespace Sys2Proof.Machine

set_option Elab.async false

/-- A datagram at the head of the queue, of the opcode asked for, executes without it. -/
theorem Dev.mdpHead_eq (d : Dev) (g : Datagram) (q : MdpReq) (rest : List Waiting) (f : Datagram → MdpReq → Dev → Dev)
    (h : d.dict.queue = .datagram g :: rest) (hp : parseMdp g.bytes = some q) (hs : d.serving = true) :
    d.mdpHead q.opcode f = f g q { d with dict := { d.dict with queue := rest } } := by
  simp [Dev.mdpHead, h, hp, hs, Dev.when]

/-- An empty queue has nothing to execute. -/
theorem Dev.mdpHead_nil (d : Dev) (op : Nat) (f : Datagram → MdpReq → Dev → Dev) (h : d.dict.queue = []) :
    d.mdpHead op f = d := by
  simp [Dev.mdpHead, h]

/-- A mailbox at the head of the queue executes its operation without it. -/
theorem Dev.boxHead_eq (d : Dev) (n : Nat) (rest : List Waiting) (f : MailboxSt → Dev → Dev)
    (h : d.dict.queue = .mailbox n :: rest) (hd : (d.box n).done = none) (hs : d.serving = true) :
    d.boxHead n (d.box n).op f = f (d.box n) (({ d with dict := { d.dict with queue := rest } } : Dev).counted 2 0x08 0 1) := by
  simp [Dev.boxHead, h, hd, hs, Dev.when]

/-- An empty queue has no operation to execute. -/
theorem Dev.boxHead_nil (d : Dev) (n op : Nat) (f : MailboxSt → Dev → Dev) (h : d.dict.queue = []) : d.boxHead n op f = d := by
  simp [Dev.boxHead, h]

/-- A call of the run in progress: its stores are made, its cycles count, 200 of them the call's own, and the call is counted. -/
theorem Dev.spoolCall_eq (d : Dev) (stores : List (Nat × Byte)) (cycles : Nat) (f : SpoolRun → Dev → Dev) (r : SpoolRun)
    (h : d.spool.run = some r) :
    d.spoolCall stores cycles f = f { r with used := max cycles (r.used + 200) } (({ d.spoolStores stores with spool :=
      { (d.spoolStores stores).spool with run := some { r with used := max cycles (r.used + 200) } } } : Dev).counted 2 0x0A r.slot 1) := by
  simp [Dev.spoolCall, h]

/-- Without a run there is no call. -/
theorem Dev.spoolCall_none (d : Dev) (stores : List (Nat × Byte)) (cycles : Nat) (f : SpoolRun → Dev → Dev)
    (h : d.spool.run = none) : d.spoolCall stores cycles f = d := by
  simp [Dev.spoolCall, h]

/-- A malformed access over a trained link is a bus error and nothing else. -/
theorem Dev.pcieAccess_shape (d : Dev) (a : Access) (malformed : Bool) (v : Nat) (hp : d.boot.pcie = true)
    (h : (malformed || misaligned a.width a.addr) = true) : d.pcieAccess a malformed v = d.busFails a 3 a.addr := by
  simp [Dev.pcieAccess, hp, h]

/-- An access of at most 32 bits is one part. -/
theorem accessParts_one (width addr v : Nat) (h : width ≠ 3) : accessParts width addr v = [(addr, bits v 0 32)] := by
  simp [accessParts, h]

/-- A write of one part that meets no error has its effect. -/
theorem Dev.pcieAccess_write (d : Dev) (a : Access) (v : Nat) (hp : d.boot.pcie = true) (hw : a.write = true)
    (h : misaligned a.width a.addr = false) (hn : a.width ≠ 3) (he : d.partError a a.addr = none)
    (hb : (regWrite a a.addr (bits v 0 32) d).bus.error = false) :
    d.pcieAccess a false v = regWrite a a.addr (bits v 0 32) d := by
  simp [Dev.pcieAccess, hp, h, accessParts_one _ _ _ hn, Dev.performParts, he, hw, hb]

/-- An access of one part that meets an error is that bus error. -/
theorem Dev.pcieAccess_error (d : Dev) (a : Access) (v c : Nat) (hp : d.boot.pcie = true)
    (h : misaligned a.width a.addr = false) (hn : a.width ≠ 3) (he : d.partError a a.addr = some c) :
    d.pcieAccess a false v = { d.busFails a c a.addr with bus := { (d.busFails a c a.addr).bus with words := [] } } := by
  simp [Dev.pcieAccess, hp, h, accessParts_one _ _ _ hn, Dev.performParts, he, Dev.busFails]

end Sys2Proof.Machine
end

