-- ==== Sys2Proof/Laws/Stores.lean ====
section
/-! SUPPORT. What the stores that hold one structure per port, lane, input or output give back: a change is seen under its own number
and under no other, objects are none of it, and a write of an object changes no store. -/

namespace Sys2Proof.Machine

set_option Elab.async false

/-! ## Port -/

@[simp] theorem link_setLink_same (d : Dev) (n : Nat) (f : LinkSt → LinkSt) : (d.setLink n f).link n = f (d.link n) :=
  sparse_get_set_same _ _ _ _

@[simp] theorem link_setLink_other (d : Dev) (n m : Nat) (f : LinkSt → LinkSt) (h : n ≠ m) : (d.setLink n f).link m = d.link m :=
  sparse_get_set_other _ _ _ _ _ h

@[simp] theorem objs_setLink (d : Dev) (n : Nat) (f : LinkSt → LinkSt) : (d.setLink n f).objs = d.objs := rfl

@[simp] theorem rd_setLink (d : Dev) (n : Nat) (f : LinkSt → LinkSt) (k : Nat) : (d.setLink n f).rd k = d.rd k := rfl

@[simp] theorem link_wr (d : Dev) (k : Nat) (v : Int) (n : Nat) : (d.wr k v).link n = d.link n := rfl

/-! ## Whorl -/

@[simp] theorem whorl_setWhorl_same (d : Dev) (n : Nat) (f : WhorlSt → WhorlSt) : (d.setWhorl n f).whorl n = f (d.whorl n) :=
  sparse_get_set_same _ _ _ _

@[simp] theorem whorl_setWhorl_other (d : Dev) (n m : Nat) (f : WhorlSt → WhorlSt) (h : n ≠ m) : (d.setWhorl n f).whorl m = d.whorl m :=
  sparse_get_set_other _ _ _ _ _ h

@[simp] theorem objs_setWhorl (d : Dev) (n : Nat) (f : WhorlSt → WhorlSt) : (d.setWhorl n f).objs = d.objs := rfl

@[simp] theorem rd_setWhorl (d : Dev) (n : Nat) (f : WhorlSt → WhorlSt) (k : Nat) : (d.setWhorl n f).rd k = d.rd k := rfl

@[simp] theorem whorl_wr (d : Dev) (k : Nat) (v : Int) (n : Nat) : (d.wr k v).whorl n = d.whorl n := rfl

/-! ## Ply link -/

@[simp] theorem ply_setPly_same (d : Dev) (n : Nat) (f : PlySt → PlySt) : (d.setPly n f).ply n = f (d.ply n) :=
  sparse_get_set_same _ _ _ _

@[simp] theorem ply_setPly_other (d : Dev) (n m : Nat) (f : PlySt → PlySt) (h : n ≠ m) : (d.setPly n f).ply m = d.ply m :=
  sparse_get_set_other _ _ _ _ _ h

@[simp] theorem objs_setPly (d : Dev) (n : Nat) (f : PlySt → PlySt) : (d.setPly n f).objs = d.objs := rfl

@[simp] theorem rd_setPly (d : Dev) (n : Nat) (f : PlySt → PlySt) (k : Nat) : (d.setPly n f).rd k = d.rd k := rfl

@[simp] theorem ply_wr (d : Dev) (k : Nat) (v : Int) (n : Nat) : (d.wr k v).ply n = d.ply n := rfl

/-! ## Transmitter -/

@[simp] theorem egress_setEgress_same (d : Dev) (n : Nat) (f : EgressSt → EgressSt) : (d.setEgress n f).egress n = f (d.egress n) :=
  sparse_get_set_same _ _ _ _

@[simp] theorem egress_setEgress_other (d : Dev) (n m : Nat) (f : EgressSt → EgressSt) (h : n ≠ m) : (d.setEgress n f).egress m = d.egress m :=
  sparse_get_set_other _ _ _ _ _ h

@[simp] theorem objs_setEgress (d : Dev) (n : Nat) (f : EgressSt → EgressSt) : (d.setEgress n f).objs = d.objs := rfl

@[simp] theorem rd_setEgress (d : Dev) (n : Nat) (f : EgressSt → EgressSt) (k : Nat) : (d.setEgress n f).rd k = d.rd k := rfl

@[simp] theorem egress_wr (d : Dev) (k : Nat) (v : Int) (n : Nat) : (d.wr k v).egress n = d.egress n := rfl

/-! ## Candidate -/

@[simp] theorem cand_setCand_same (d : Dev) (n : Nat) (f : CandSt → CandSt) : (d.setCand n f).cand n = f (d.cand n) :=
  sparse_get_set_same _ _ _ _

@[simp] theorem cand_setCand_other (d : Dev) (n m : Nat) (f : CandSt → CandSt) (h : n ≠ m) : (d.setCand n f).cand m = d.cand m :=
  sparse_get_set_other _ _ _ _ _ h

@[simp] theorem objs_setCand (d : Dev) (n : Nat) (f : CandSt → CandSt) : (d.setCand n f).objs = d.objs := rfl

@[simp] theorem rd_setCand (d : Dev) (n : Nat) (f : CandSt → CandSt) (k : Nat) : (d.setCand n f).rd k = d.rd k := rfl

@[simp] theorem cand_wr (d : Dev) (k : Nat) (v : Int) (n : Nat) : (d.wr k v).cand n = d.cand n := rfl

/-! ## Reference input -/

@[simp] theorem refIn_setRefIn_same (d : Dev) (n : Nat) (f : RefInSt → RefInSt) : (d.setRefIn n f).refIn n = f (d.refIn n) :=
  sparse_get_set_same _ _ _ _

@[simp] theorem refIn_setRefIn_other (d : Dev) (n m : Nat) (f : RefInSt → RefInSt) (h : n ≠ m) : (d.setRefIn n f).refIn m = d.refIn m :=
  sparse_get_set_other _ _ _ _ _ h

@[simp] theorem objs_setRefIn (d : Dev) (n : Nat) (f : RefInSt → RefInSt) : (d.setRefIn n f).objs = d.objs := rfl

@[simp] theorem rd_setRefIn (d : Dev) (n : Nat) (f : RefInSt → RefInSt) (k : Nat) : (d.setRefIn n f).rd k = d.rd k := rfl

@[simp] theorem refIn_wr (d : Dev) (k : Nat) (v : Int) (n : Nat) : (d.wr k v).refIn n = d.refIn n := rfl

/-! ## EVIN channel -/

@[simp] theorem evin_setEvin_same (d : Dev) (n : Nat) (f : EvinSt → EvinSt) : (d.setEvin n f).evin n = f (d.evin n) :=
  sparse_get_set_same _ _ _ _

@[simp] theorem evin_setEvin_other (d : Dev) (n m : Nat) (f : EvinSt → EvinSt) (h : n ≠ m) : (d.setEvin n f).evin m = d.evin m :=
  sparse_get_set_other _ _ _ _ _ h

@[simp] theorem objs_setEvin (d : Dev) (n : Nat) (f : EvinSt → EvinSt) : (d.setEvin n f).objs = d.objs := rfl

@[simp] theorem rd_setEvin (d : Dev) (n : Nat) (f : EvinSt → EvinSt) (k : Nat) : (d.setEvin n f).rd k = d.rd k := rfl

@[simp] theorem evin_wr (d : Dev) (k : Nat) (v : Int) (n : Nat) : (d.wr k v).evin n = d.evin n := rfl

/-! ## Lane -/

@[simp] theorem lane_setLane_same (d : Dev) (n : Nat) (f : LaneSt → LaneSt) : (d.setLane n f).lane n = f (d.lane n) :=
  sparse_get_set_same _ _ _ _

@[simp] theorem lane_setLane_other (d : Dev) (n m : Nat) (f : LaneSt → LaneSt) (h : n ≠ m) : (d.setLane n f).lane m = d.lane m :=
  sparse_get_set_other _ _ _ _ _ h

@[simp] theorem objs_setLane (d : Dev) (n : Nat) (f : LaneSt → LaneSt) : (d.setLane n f).objs = d.objs := rfl

@[simp] theorem rd_setLane (d : Dev) (n : Nat) (f : LaneSt → LaneSt) (k : Nat) : (d.setLane n f).rd k = d.rd k := rfl

@[simp] theorem lane_wr (d : Dev) (k : Nat) (v : Int) (n : Nat) : (d.wr k v).lane n = d.lane n := rfl

/-! ## Quad -/

@[simp] theorem nq_setNq_same (d : Dev) (n : Nat) (f : NqSt → NqSt) : (d.setNq n f).nq n = f (d.nq n) :=
  sparse_get_set_same _ _ _ _

@[simp] theorem nq_setNq_other (d : Dev) (n m : Nat) (f : NqSt → NqSt) (h : n ≠ m) : (d.setNq n f).nq m = d.nq m :=
  sparse_get_set_other _ _ _ _ _ h

@[simp] theorem objs_setNq (d : Dev) (n : Nat) (f : NqSt → NqSt) : (d.setNq n f).objs = d.objs := rfl

@[simp] theorem rd_setNq (d : Dev) (n : Nat) (f : NqSt → NqSt) (k : Nat) : (d.setNq n f).rd k = d.rd k := rfl

@[simp] theorem nq_wr (d : Dev) (k : Nat) (v : Int) (n : Nat) : (d.wr k v).nq n = d.nq n := rfl

/-! ## Mailbox -/

@[simp] theorem box_setBox_same (d : Dev) (n : Nat) (f : MailboxSt → MailboxSt) : (d.setBox n f).box n = f (d.box n) :=
  sparse_get_set_same _ _ _ _

@[simp] theorem box_setBox_other (d : Dev) (n m : Nat) (f : MailboxSt → MailboxSt) (h : n ≠ m) : (d.setBox n f).box m = d.box m :=
  sparse_get_set_other _ _ _ _ _ h

@[simp] theorem objs_setBox (d : Dev) (n : Nat) (f : MailboxSt → MailboxSt) : (d.setBox n f).objs = d.objs := rfl

@[simp] theorem rd_setBox (d : Dev) (n : Nat) (f : MailboxSt → MailboxSt) (k : Nat) : (d.setBox n f).rd k = d.rd k := rfl

@[simp] theorem box_wr (d : Dev) (k : Nat) (v : Int) (n : Nat) : (d.wr k v).box n = d.box n := rfl

/-! ## Pair -/

@[simp] theorem pair_setPair_same (d : Dev) (n : Nat) (f : PairSt → PairSt) : (d.setPair n f).pair n = f (d.pair n) :=
  sparse_get_set_same _ _ _ _

@[simp] theorem pair_setPair_other (d : Dev) (n m : Nat) (f : PairSt → PairSt) (h : n ≠ m) : (d.setPair n f).pair m = d.pair m :=
  sparse_get_set_other _ _ _ _ _ h

@[simp] theorem objs_setPair (d : Dev) (n : Nat) (f : PairSt → PairSt) : (d.setPair n f).objs = d.objs := rfl

@[simp] theorem rd_setPair (d : Dev) (n : Nat) (f : PairSt → PairSt) (k : Nat) : (d.setPair n f).rd k = d.rd k := rfl

@[simp] theorem pair_wr (d : Dev) (k : Nat) (v : Int) (n : Nat) : (d.wr k v).pair n = d.pair n := rfl

/-! ## Ring -/

@[simp] theorem ring_setRing_same (d : Dev) (n : Nat) (f : RingSt → RingSt) : (d.setRing n f).ring n = f (d.ring n) :=
  sparse_get_set_same _ _ _ _

@[simp] theorem ring_setRing_other (d : Dev) (n m : Nat) (f : RingSt → RingSt) (h : n ≠ m) : (d.setRing n f).ring m = d.ring m :=
  sparse_get_set_other _ _ _ _ _ h

@[simp] theorem objs_setRing (d : Dev) (n : Nat) (f : RingSt → RingSt) : (d.setRing n f).objs = d.objs := rfl

@[simp] theorem rd_setRing (d : Dev) (n : Nat) (f : RingSt → RingSt) (k : Nat) : (d.setRing n f).rd k = d.rd k := rfl

@[simp] theorem ring_wr (d : Dev) (k : Nat) (v : Int) (n : Nat) : (d.wr k v).ring n = d.ring n := rfl

/-! ## Session -/

@[simp] theorem session_setSession_same (d : Dev) (n : Nat) (f : SessionSt → SessionSt) : (d.setSession n f).session n = f (d.session n) :=
  sparse_get_set_same _ _ _ _

@[simp] theorem session_setSession_other (d : Dev) (n m : Nat) (f : SessionSt → SessionSt) (h : n ≠ m) : (d.setSession n f).session m = d.session m :=
  sparse_get_set_other _ _ _ _ _ h

@[simp] theorem objs_setSession (d : Dev) (n : Nat) (f : SessionSt → SessionSt) : (d.setSession n f).objs = d.objs := rfl

@[simp] theorem rd_setSession (d : Dev) (n : Nat) (f : SessionSt → SessionSt) (k : Nat) : (d.setSession n f).rd k = d.rd k := rfl

@[simp] theorem session_wr (d : Dev) (k : Nat) (v : Int) (n : Nat) : (d.wr k v).session n = d.session n := rfl

/-! ## Spindle -/

@[simp] theorem spindle_setSpindle_same (d : Dev) (n : Nat) (f : SpindleSt → SpindleSt) : (d.setSpindle n f).spindle n = f (d.spindle n) :=
  sparse_get_set_same _ _ _ _

@[simp] theorem spindle_setSpindle_other (d : Dev) (n m : Nat) (f : SpindleSt → SpindleSt) (h : n ≠ m) : (d.setSpindle n f).spindle m = d.spindle m :=
  sparse_get_set_other _ _ _ _ _ h

@[simp] theorem objs_setSpindle (d : Dev) (n : Nat) (f : SpindleSt → SpindleSt) : (d.setSpindle n f).objs = d.objs := rfl

@[simp] theorem rd_setSpindle (d : Dev) (n : Nat) (f : SpindleSt → SpindleSt) (k : Nat) : (d.setSpindle n f).rd k = d.rd k := rfl

@[simp] theorem spindle_wr (d : Dev) (k : Nat) (v : Int) (n : Nat) : (d.wr k v).spindle n = d.spindle n := rfl

/-! ## Unit -/

@[simp] theorem unit_setUnit_same (d : Dev) (n : Nat) (f : UnitSt → UnitSt) : (d.setUnit n f).unit n = f (d.unit n) :=
  sparse_get_set_same _ _ _ _

@[simp] theorem unit_setUnit_other (d : Dev) (n m : Nat) (f : UnitSt → UnitSt) (h : n ≠ m) : (d.setUnit n f).unit m = d.unit m :=
  sparse_get_set_other _ _ _ _ _ h

@[simp] theorem objs_setUnit (d : Dev) (n : Nat) (f : UnitSt → UnitSt) : (d.setUnit n f).objs = d.objs := rfl

@[simp] theorem rd_setUnit (d : Dev) (n : Nat) (f : UnitSt → UnitSt) (k : Nat) : (d.setUnit n f).rd k = d.rd k := rfl

@[simp] theorem unit_wr (d : Dev) (k : Nat) (v : Int) (n : Nat) : (d.wr k v).unit n = d.unit n := rfl

/-! ## Pulse output -/

@[simp] theorem pulseSt_setPulse_same (d : Dev) (n : Nat) (f : PulseSt → PulseSt) : (d.setPulse n f).pulseSt n = f (d.pulseSt n) :=
  sparse_get_set_same _ _ _ _

@[simp] theorem pulseSt_setPulse_other (d : Dev) (n m : Nat) (f : PulseSt → PulseSt) (h : n ≠ m) : (d.setPulse n f).pulseSt m = d.pulseSt m :=
  sparse_get_set_other _ _ _ _ _ h

@[simp] theorem objs_setPulse (d : Dev) (n : Nat) (f : PulseSt → PulseSt) : (d.setPulse n f).objs = d.objs := rfl

@[simp] theorem rd_setPulse (d : Dev) (n : Nat) (f : PulseSt → PulseSt) (k : Nat) : (d.setPulse n f).rd k = d.rd k := rfl

@[simp] theorem pulseSt_wr (d : Dev) (k : Nat) (v : Int) (n : Nat) : (d.wr k v).pulseSt n = d.pulseSt n := rfl

/-! ## Clock output -/

@[simp] theorem clkSt_setClk_same (d : Dev) (n : Nat) (f : ClkSt → ClkSt) : (d.setClk n f).clkSt n = f (d.clkSt n) :=
  sparse_get_set_same _ _ _ _

@[simp] theorem clkSt_setClk_other (d : Dev) (n m : Nat) (f : ClkSt → ClkSt) (h : n ≠ m) : (d.setClk n f).clkSt m = d.clkSt m :=
  sparse_get_set_other _ _ _ _ _ h

@[simp] theorem objs_setClk (d : Dev) (n : Nat) (f : ClkSt → ClkSt) : (d.setClk n f).objs = d.objs := rfl

@[simp] theorem rd_setClk (d : Dev) (n : Nat) (f : ClkSt → ClkSt) (k : Nat) : (d.setClk n f).rd k = d.rd k := rfl

@[simp] theorem clkSt_wr (d : Dev) (k : Nat) (v : Int) (n : Nat) : (d.wr k v).clkSt n = d.clkSt n := rfl

end Sys2Proof.Machine
end

