-- ==== Sys2Proof/WellFormed.lean ====
section
/-! DEFINITION. Well-formed commands: operands that could come from outside the block at all. Every meaning is defined on
all operands; this says what a sender may give. -/

namespace Sys2Proof

/-- A block's instance exists (R15). -/
def BlockId.exists_ (b : BlockId) : Bool :=
  let count : Nat := match b.kind with
    | .spindle | .core => 2
    | .refIn | .alignLine | .tcDomain | .table | .i2c => 4
    | .clkOut => 8
    | .pulse | .evin | .mdpSession => 16
    | .quad => 12
    | .ply => 24
    | .ptpEngine | .whorl | .queueSet | .lane | .laneAdapt | .patternTest => 48
    | .port => 49
    | .counterBank | .perfDump => 3
    | .servo | .refSelector | .mref | .calSequencer | .learning | .armature | .deepStore | .mirror | .reel
    | .reelTrigger | .spool => 1
  decide (b.n < count)

/-- A number fits a two's-complement field of `w` bits. -/
def signedOk (w : Nat) (v : Int) : Bool := decide (-(2 ^ (w - 1) : Int) ≤ v) && decide (v < (2 ^ (w - 1) : Int))

/-- A sequenceId of PTP has 16 bits. -/
def seqOk (seq : Nat) : Bool := decide (seq < 2 ^ 16)

/-- A marker edge has a time, and the next one is fewer than 825 bits away (R122, R124). -/
def markOk (tm : Int) (bits : Nat) : Bool := decide (0 ≤ tm) && decide (bits < 825)

/-- A receive stamp: a marker edge, and a whorl reading of less than 32 ns (R122, R124). -/
def stampOk (st : RxStamp) : Bool := markOk st.tm st.bits && decide (0 ≤ st.phi) && decide (st.phi < 2097152)

/-- A count for the performance counters names a bank (R566). -/
def perfCountOk (c : PerfCount) : Bool := decide (c.bank < 3) && decide (c.event < 256)

/-- A store of a spool program lies in the sandbox (R578). -/
def storeOk (c : Nat × Byte) : Bool := decide (c.1 < 262144)

/-- A transaction on the local map that begins in a range: on PCIe an address of 24 bits and a value of its width (R531,
R532, R536). -/
def accessOk (t : BusAccess) (v lo hi : Nat) : Bool :=
  match t with
  | .pcie w addr _ => decide (lo ≤ addr) && decide (addr < hi) && decide (v < 2 ^ (8 * 2 ^ w.val))
  | .spi sdi _ => decide (4 ≤ sdi.length)

/-- Well-formed commands. -/
def Instr.wf (i : Instr) : Bool :=
  match i with
  | .turnBoundary cclk counted => decide (cclk < 2 ^ 32) && counted.all perfCountOk
  | .whorlReadingDelivery readings =>
    readings.all fun r => decide (r.1 < 48) && decide (0 ≤ r.2.1) && decide (r.2.2 < 2 ^ 32)
  | .laneEqualisationAdaptation moves => moves.all fun m => m.2.all fun x => decide (-1 ≤ x) && decide (x ≤ 1)
  | .spoolPrograms e stores =>
    stores.all storeOk && (match e with | .start => stores.isEmpty | .fault cause pc _ => decide (1 ≤ cause) && decide (cause ≤ 4) && decide (pc < 2 ^ 32))
  | .spoolBudgetStop stores => stores.all storeOk
  | .blockEnableCmd b => b.exists_
  | .blockDisableCmd b => b.exists_
  | .blockReady b => b.exists_
  | .readinessLimitExpiry b => b.exists_
  | .disablingComplete b => b.exists_
  | .blockFault b cause => b.exists_ && decide (cause < 256)
  | .hostNcoPhaseWrite v => signedOk 64 v
  | .syncRx _ seq _ _ _ _ st => seqOk seq && stampOk st
  | .followUpRx _ seq _ _ _ => seqOk seq
  | .delayReqRx _ seq _ _ st => seqOk seq && stampOk st
  | .delayRespRx _ seq _ _ => seqOk seq
  | .pdelayReqRx _ seq _ _ _ st => seqOk seq && stampOk st
  | .pdelayRespRx _ seq _ _ _ st => seqOk seq && stampOk st
  | .pdelayRespFollowUpRx _ seq _ _ => seqOk seq
  | .ptpManagementRx _ _ st => stampOk st
  | .esmcPduRx _ ssm _ => decide (ssm < 256)
  | .refinEdgeStamp _ e => decide (0 ≤ e.tc)
  | .alignmentLineLock _ _ tap => decide (tap < 2 ^ 16)
  | .histogramComplete _ h1 h2 => h1.length == 128 && h2.length == 128
  | .frameRxStart _ bytes _ st => decide (14 ≤ bytes.length) && stampOk st
  | .cutThroughStart _ _ marker bits => markOk marker bits
  | .hpRxDelivery _ err => decide (err ≤ 2)
  | .transmitSelection _ _ marker bits => markOk marker bits
  | .pauseFrameRx _ quanta => decide (quanta < 2 ^ 16)
  | .pfcFrameRx _ vector times => decide (vector < 256) && times.length == 8 && times.all fun t => decide (t < 2 ^ 16)
  | .adaptationConverged _ coeffs => coeffs.length == 16
  | .loopbackBeaconRx _ source => decide (source < 48)
  | .nqLaneSetBlockRx _ txSet _ rxGood rxAck _ => decide (txSet < 16) && decide (rxGood < 16) && decide (rxAck < 16)
  | .selfTestCycleComplete _ failed _ _ => decide (failed < 64)
  | .isolatedSelfTestComplete _ failed => decide (failed < 64)
  | .fwStageDataWrite bytes => bytes.length == 64
  | .mdpDatagramRx _ frame => decide (14 ≤ frame.length)
  | .arpRequestRx _ frame => decide (14 ≤ frame.length)
  | .neighbourSolicitationRx _ frame => decide (14 ≤ frame.length)
  | .authLockoutExpiry addr => addr.length == 16
  | .mdpKeyWrite _ key => key.length == 32
  | .directMapWrite t v => accessOk t v 0x100000 0x600000
  | .benigWindowWrite t lo hi => accessOk t (payload lo hi) 0x800000 0x810000
  | .registerWrite t v => accessOk t v 0 0x1000000
  | .evAckWrite _ v => decide (v < 2 ^ 32)
  | .ringTailWrite _ v => decide (v < 2 ^ 32)
  | .txDescriptorFetch _ _ _ err t => decide (err ≤ 2) && decide (0 ≤ t)
  | .ringAttentionAck _ v => decide (v < 2 ^ 32)
  | .perfCounterConfigWrite _ _ v => decide (v < 2 ^ 32)
  | .samplingInterrupt _ _ pc _ slot => decide (pc < 2 ^ 32) && (decide (slot < 8) || slot == 255)
  | .sysDone stores _ => stores.all storeOk
  | .sysTime _ stores _ => stores.all storeOk
  | .sysRead _ _ _ stores _ => stores.all storeOk
  | .sysWrite _ _ _ stores _ => stores.all storeOk
  | .sysPerf _ _ stores _ => stores.all storeOk
  | .sysBudget stores _ => stores.all storeOk
  | .sysLog _ _ stores _ => stores.all storeOk
  | .bootImageReadComplete record0 record1 _ _ => record0.length == 16 && record1.length == 16
  | .thermalSample temps _ => temps.length == 4
  | .supplySample mv _ => mv.length == 8
  | .localRegisterRead t => accessOk t 0 0 0x1000000
  | .heartbeatAndComparison _ _ | .workItemOverrun _ _ | .gapHeartbeat _ _ | .overrunClear _ | .hostDeadlineMiss _
  | .hostServoStateWrite _ | .announceRx _ _ _ | .signalingRx _ _ | .syncTx _ | .delayReqTx _ | .delayRespTx _
  | .pdelayRespTx _ | .announceTx _ | .l1SyncTx _ | .announceReceiptTimeout _ | .syncReceiptLoss _
  | .esmcInformationTx _ | .esmcEventTx _ | .esmcRxTimeout _ | .hostLinkRecordCmd _ | .plyRelockWindowExpiry _
  | .relockSyncPairTx _ | .plySyncPairTimeout _ | .pathStepDecisionSplit _ | .pathStepDecisionReplace _
  | .pathStepAutoDecision _ | .refinLabelApply _ | .refinLabelClear _ | .refinPresenceTimeout _
  | .freqMonitorReport _ _ | .qualifyTimeElapsed _ | .refHoldOffExpiry _ | .waitToRestoreExpiry _
  | .alignmentLineLockLoss _ | .pulseRisingEdge _ _ | .pulseFallingEdge _ | .evinEdge _ _ _ _ _
  | .mrefStampConversion _ _ _ _ | .measurementTimeout _ | .evinPinFault _ _ | .evinSwapCheck _ _ _ | .mrefPresent _
  | .freqGateOne _ | .freqGateContinuous _ | .freqGateStop _ | .freqGateClose _ | .evinStampRead _
  | .evinResultHeaderRead _ | .calCollectLimitExpiry _ | .pipelineEntry _ | .replication _ _ | .oversizeTruncation _
  | .frameRxEnd _ | .frameTxEnd _ _ | .gateEntryStart _ _ | .launchTimeReached _ _ | .pauseTimerExpiry _ _
  | .xoffRepeat _ _ | .pauseFrameTx _ _ | .statSnapshot _ | .statPeek _ | .signalDetect _ | .lossOfSignal _
  | .signalHoldElapsed _ | .cdrLock _ | .cdrLockLoss _ | .alignmentFound _ _ _ _ _ | .alignHuntTimeout _
  | .alignmentLoss _ _ | .highBerOnset _ _ | .lanePllLock _ _ | .lanePllLockLoss _ _ | .portLinkUp _ _ _
  | .portLinkDown _ | .laneHostCoeffCmd _ | .loopbackBeaconTx _ | .loopCheckHoldExpiry _ | .loopbackClear _
  | .ptClearCmd _ | .ptInjectCmd _ | .ptCheckerLock _ _ _ | .ptCheckerLockLoss _ _ _ | .laneTxSleep _ | .laneTxWake _
  | .laneRxSleep _ | .laneRxWake _ | .nqThinWindow _ _ | .nqTxAtMarker _ _ | .nqLaneLoss _ _ _ | .nqMarkerLockLoss _ _
  | .nqRestoreHoldExpiry _ _ | .checkerError _ | .redReturnCmd _ | .redSwitchCmd _ | .revertHoldExpiry _
  | .coreRegisterLoad _ | .fwStandbyLoaded _ | .fwFlashWriteComplete _ | .proveWaitTimeout _ | .mdpSessionTimeout _
  | .mbRead _ | .mbWrite _ | .mbDescribe _ | .mbSegReadInit _ | .mbSegRead _ | .mbSegWriteInit _ | .mbSegWrite _
  | .mbSegAbort _ | .mbOperationComplete _ | .ringEnable _ | .ringDisable _ | .ringDisableComplete _
  | .attentionCoalesceExpiry _ | .perfBankSnap _ | .perfBankSnapshotRead _ | .perfBankPeek _ | .resetRelease _
  | .deviceLevelFault _ _ | .deviceRestart _ | .pinFaultDetect _ _ _ | .shortRetry _ _ | .dramEccError _ _ _
  | .dramScrub _ _ | .deepStoreTrainingComplete _ | .fecUncorrectableCodeword _ _ | .preMasterQualificationTimeout _
  | .linkTimingUpdate | .servoUpdate | .referenceSelection | .eventEvaluation | .counterDump | .calibrationStep
  | .addressLearning | .reelTriggerEvaluation | .turnChangeContinuous | .turnReanchor | .turnChangeCancel
  | .timeStepRelative | .timeSetAbsolute | .timeStepCancel | .timeSnapshotCmd | .timeSnapshotCapture | .hostRefCmd
  | .hostRefIntervalExpiry | .switchSettleComplete | .switchTimeout | .hostRefSelectCmd | .holdoverBin
  | .holdoverEstimateUpdate | .steeredSynthLoss | .steeredSynthLock | .fixedSynthLoss | .plinthLoss | .plinthReturn
  | .bothSynthsUnlocked | .outputRealignArm | .outputRealignCancel | .mrefAbsent | .calBinRunCmd | .calPortRunCmd
  | .calRunAbort | .calPortNextCmd | .calLoopPhaseComplete | .calMeasuringPhaseComplete | .temperatureTrigger
  | .calStepCollectSignal | .calStepCollectDither | .calStepEvaluate | .calStepCommitTable | .calStepDiscard
  | .calStepTrim | .calStepPortLoop | .calStepPortMeasure | .calStepCommitPort | .learnQueueRead | .macAgeingVisit
  | .tableOpRead | .tableOpWrite | .tableOpInsert | .tableOpDelete | .tableOpSearch | .tableOpFlush | .tableOpComplete
  | .gateOpReadArmature | .gateOpReadMaquette | .gateOpWriteMaquette | .maquetteStreamRead | .maquetteStreamWrite
  | .maquetteCopy | .maquetteCopyComplete | .maquetteSwapArm | .maquetteSwapCancel | .reelStart | .reelStop
  | .reelResume | .reelTriggerCmd | .reelRead | .fwVerify | .fwVerifyComplete | .fwArm | .fwCancel | .fwWriteFlash
  | .mdpOpen | .mdpProve | .mdpClose | .mdpKeepalive | .mdpStatus | .mdpRead | .mdpWrite | .mdpDescribe
  | .mdpSegReadInit | .mdpSegRead | .mdpSegWriteInit | .mdpSegWrite | .mdpSegAbort | .perfSampleRead | .spoolLogRead
  | .powerOnReset | .resetNAssert | .supplyReset | .deviceResetCmd | .perstAssert | .pcieLinkTraining | .serverReady
  | .standbyReturnAtBoot | .deviceRestartCmd | .configLostAck | .fixedSynthLock => true

end Sys2Proof
end

