-- ==== Sys2Proof/Tests/Slice0.lean ====
section
/-! SUPPORT. Ill-formed commands that the check refuses, single commands with the results the spec gives, and for every
statement with hypotheses a state and operands that meet them. -/

namespace Sys2Proof.Tests

open Sys2Proof Sys2Proof.Machine

set_option Elab.async false

/-- The block after a reset with some objects written. -/
def boxOf (ws : List (Nat × Int)) : Dev := ({} : Dev).wrs ws

/-- The object that says a block is ENABLED, and its value. -/
def enabled (k : BlockKind) (n : Nat) : Nat × Int := ((BlockId.mk k n).state, 2)

/-- The block after one command. -/
def after (c : Instr) (d : Dev) : Dev :=
  match exec c ⟨d, []⟩ with
  | .next t => t.dev
  | _ => d

/-! ## Ill-formed commands are refused -/

/-- A Turn is as long as its counter can say, and counted events name a counter. -/
theorem illformed_turn :
    (Instr.turnBoundary (2 ^ 32) []).wf = false ∧ (Instr.turnBoundary 0 [⟨3, 0, 0, 0⟩]).wf = false ∧
      (Instr.turnBoundary 0 [⟨0, 256, 0, 0⟩]).wf = false ∧ (Instr.turnBoundary (2 ^ 32 - 1) [⟨2, 255, 0, 1⟩]).wf = true ∧
      (Instr.whorlReadingDelivery [(48, 0, 0)]).wf = false ∧ (Instr.whorlReadingDelivery [(0, -1, 0)]).wf = false ∧
      (Instr.whorlReadingDelivery [(0, 0, 2 ^ 32)]).wf = false ∧ (Instr.laneEqualisationAdaptation [(0, [2])]).wf = false ∧
      (Instr.laneEqualisationAdaptation [(0, [-2])]).wf = false := by decide +kernel

/-- A block exists; a fault cause is a byte; a word of the host has 64 bits. -/
theorem illformed_blocks :
    (Instr.blockEnableCmd ⟨.lane, 48⟩).wf = false ∧ (Instr.blockDisableCmd ⟨.spindle, 2⟩).wf = false ∧
      (Instr.blockReady ⟨.port, 49⟩).wf = false ∧ (Instr.readinessLimitExpiry ⟨.spool, 1⟩).wf = false ∧
      (Instr.disablingComplete ⟨.perfDump, 3⟩).wf = false ∧ (Instr.blockFault ⟨.evin, 16⟩ 0).wf = false ∧
      (Instr.blockFault ⟨.evin, 15⟩ 256).wf = false ∧ (Instr.hostNcoPhaseWrite (2 ^ 63)).wf = false ∧
      (Instr.hostNcoPhaseWrite (-2 ^ 63 - 1)).wf = false ∧ (Instr.hostNcoPhaseWrite (-2 ^ 63)).wf = true := by decide +kernel

/-- Sequence numbers have 16 bits, markers a time, and whorl readings less than 32 ns. -/
theorem illformed_ptp :
    (Instr.syncRx 0 65536 true 0 0 0 ⟨0, 0, 0⟩).wf = false ∧ (Instr.syncRx 0 0 true 0 0 0 ⟨0, 2097152, 0⟩).wf = false ∧
      (Instr.syncRx 0 0 true 0 0 0 ⟨-1, 0, 0⟩).wf = false ∧ (Instr.followUpRx 0 65536 0 0 0).wf = false ∧
      (Instr.delayReqRx 0 65536 0 0 ⟨0, 0, 0⟩).wf = false ∧ (Instr.delayReqRx 0 0 0 0 ⟨0, 2097152, 0⟩).wf = false ∧
      (Instr.delayRespRx 0 65536 0 0).wf = false ∧ (Instr.pdelayReqRx 0 65536 0 0 none ⟨0, 0, 0⟩).wf = false ∧
      (Instr.pdelayReqRx 0 0 0 0 none ⟨0, 2097152, 0⟩).wf = false ∧ (Instr.pdelayRespRx 0 65536 true 0 0 ⟨0, 0, 0⟩).wf = false ∧
      (Instr.pdelayRespRx 0 0 true 0 0 ⟨0, 2097152, 0⟩).wf = false ∧ (Instr.pdelayRespFollowUpRx 0 65536 0 0).wf = false ∧
      (Instr.ptpManagementRx 0 [] ⟨-1, 0, 0⟩).wf = false ∧ (Instr.esmcPduRx 0 256 false).wf = false ∧ (Instr.refinEdgeStamp 0 ⟨-1, 0⟩).wf = false ∧
      (Instr.alignmentLineLock 0 0 65536).wf = false := by decide +kernel

/-- Frames, vectors, coefficient sets and tests have their sizes. -/
theorem illformed_lines :
    (Instr.histogramComplete 0 [] (List.replicate 128 0)).wf = false ∧ (Instr.histogramComplete 0 (List.replicate 128 0) []).wf = false ∧
      (Instr.frameRxStart 0 (List.replicate 13 0) false ⟨0, 0, 0⟩).wf = false ∧ (Instr.transmitSelection 0 0 0 825).wf = false ∧
      (Instr.cutThroughStart 0 0 (-1) 0).wf = false ∧
      (Instr.frameRxStart 0 (List.replicate 14 0) false ⟨0, 2097152, 0⟩).wf = false ∧ (Instr.hpRxDelivery 0 3).wf = false ∧
      (Instr.pauseFrameRx 0 65536).wf = false ∧ (Instr.pfcFrameRx 0 256 (List.replicate 8 0)).wf = false ∧
      (Instr.pfcFrameRx 0 0 (List.replicate 7 0)).wf = false ∧ (Instr.pfcFrameRx 0 0 (List.replicate 8 65536)).wf = false ∧
      (Instr.adaptationConverged 0 []).wf = false ∧ (Instr.loopbackBeaconRx 0 48).wf = false ∧
      (Instr.nqLaneSetBlockRx 0 16 0 0 0 0).wf = false ∧ (Instr.nqLaneSetBlockRx 0 0 0 16 0 0).wf = false ∧
      (Instr.nqLaneSetBlockRx 0 0 0 0 16 0).wf = false ∧ (Instr.selfTestCycleComplete 0 64 0 0).wf = false ∧
      (Instr.isolatedSelfTestComplete 0 64).wf = false ∧ (Instr.fwStageDataWrite []).wf = false := by decide +kernel

/-- Datagrams and keys have their sizes, and accesses lie in the local map. -/
theorem illformed_host :
    (Instr.mdpDatagramRx 0 []).wf = false ∧ (Instr.arpRequestRx 0 []).wf = false ∧ (Instr.neighbourSolicitationRx 0 []).wf = false ∧
      (Instr.authLockoutExpiry []).wf = false ∧ (Instr.mdpKeyWrite 0 []).wf = false ∧
      (Instr.directMapWrite (.pcie 2 0x600000 false) 0).wf = false ∧ (Instr.directMapWrite (.pcie 2 0x0FFFFC false) 0).wf = false ∧
      (Instr.directMapWrite (.pcie 2 0x100000 false) (2 ^ 32)).wf = false ∧ (Instr.directMapWrite (.spi [0, 0, 0] 0) 0).wf = false ∧
      (Instr.benigWindowWrite (.pcie 2 0x810000 false) 0 0).wf = false ∧ (Instr.benigWindowWrite (.pcie 2 0x7FFFFC false) 0 0).wf = false ∧
      (Instr.benigWindowWrite (.pcie 0 0x800000 false) 256 0).wf = false ∧ (Instr.registerWrite (.pcie 2 (2 ^ 24) false) 0).wf = false ∧
      (Instr.registerWrite (.pcie 1 0 false) 65536).wf = false ∧ (Instr.localRegisterRead (.pcie 2 (2 ^ 24) false)).wf = false ∧
      (Instr.evAckWrite 0 (2 ^ 32)).wf = false ∧ (Instr.ringTailWrite 0 (2 ^ 32)).wf = false ∧ (Instr.ringAttentionAck 0 (2 ^ 32)).wf = false ∧
      (Instr.txDescriptorFetch 0 ⟨true, false, false, false, false, false, 0, 0, 0, 0⟩ [] 3 0).wf = false ∧
      (Instr.txDescriptorFetch 0 ⟨true, false, false, false, false, false, 0, 0, 0, 0⟩ [] 0 (-1)).wf = false := by decide +kernel

/-- Programs store into the sandbox, and the environment is sampled whole. -/
theorem illformed_cores :
    (Instr.spoolPrograms .start [(0, 0)]).wf = false ∧ (Instr.spoolPrograms (.fault 0 0 0) []).wf = false ∧
      (Instr.spoolPrograms (.fault 5 0 0) []).wf = false ∧ (Instr.spoolPrograms (.fault 1 (2 ^ 32) 0) []).wf = false ∧
      (Instr.spoolPrograms (.fault 1 0 0) [(262144, 0)]).wf = false ∧ (Instr.spoolBudgetStop [(262144, 0)]).wf = false ∧
      (Instr.perfCounterConfigWrite 0 0 (2 ^ 32)).wf = false ∧ (Instr.samplingInterrupt 0 0 (2 ^ 32) false 255).wf = false ∧
      (Instr.samplingInterrupt 0 0 0 false 8).wf = false ∧ (Instr.sysDone [(262144, 0)] 0).wf = false ∧ (Instr.sysTime 0 [(262144, 0)] 0).wf = false ∧
      (Instr.sysRead 0 0 0 [(262144, 0)] 0).wf = false ∧ (Instr.sysWrite 0 0 0 [(262144, 0)] 0).wf = false ∧
      (Instr.sysPerf 0 0 [(262144, 0)] 0).wf = false ∧ (Instr.sysBudget [(262144, 0)] 0).wf = false ∧
      (Instr.sysLog 0 0 [(262144, 0)] 0).wf = false ∧ (Instr.bootImageReadComplete [1] (List.replicate 16 0) [] []).wf = false ∧
      (Instr.bootImageReadComplete (List.replicate 16 0) [] [] []).wf = false ∧
      (Instr.thermalSample [1, 2, 3] false).wf = false ∧ (Instr.supplySample [] 0).wf = false := by decide +kernel

/-! ## States that meet the hypotheses of the statements -/

theorem witness_IdleStepIsOneClockCycle :
    ({} : Dev).boot.released = false ∧ (after (.resetRelease 0) {}).boot.released = true := by decide +kernel

theorem witness_EveryStepKeepsStoresAndTurnOrder :
    let d := after (.resetRelease 0) {}
    d.sound ∧ d.ordered ∧ step ⟨d, []⟩ = .next ⟨d.pass 1, []⟩ ∧ (d.pass 1).boot.released = true := by
  refine ⟨⟨?_, ?_, ?_⟩, ?_, rfl, ?_⟩
  · decide +kernel
  · decide +kernel
  · decide +kernel
  · unfold Dev.ordered; decide +kernel
  · decide +kernel

theorem witness_TurnNumbersIncreaseStrictly :
    let d : Dev := { after (.resetRelease 0) {} with turn := { ({} : TurnSt) with next := 1, last := some 0 } }
    Sparse.wf objDefault d.objs = true ∧ d.turn.reached ≤ d.turn.next ∧ (d.opens 1).turn.started ≠ d.turn.started ∧
      (d.opens 1).boot.released = true := by decide +kernel

theorem witness_ObjectsReadWhatWasWritten :
    Sparse.wf objDefault ({} : Dev).objs = true ∧ Sparse.wf objDefault (boxOf [(Obj.TurnPeriod, 0)]).objs = true ∧
      (Obj.TurnNumber ≠ Obj.TurnPeriod) := by decide +kernel

theorem witness_InstantAndTurnEventsAreRaised :
    5 ∈ (({} : Dev).opens 0).turn.openItems ∧ 5 ∉ ({} : Dev).turn.openItems ∧ 63 < 64 ∧
      ({} : Dev).turn.owedAt ≠ some ({} : Dev).turn.started := by decide +kernel

/-- A Turn is in progress, and a change can be armed for one from the next but one on. -/
def armable : Dev :=
  { boxOf [(Obj.TurnChangeAt, 12), (Obj.TurnStagedPeriod, 31250), (Obj.TurnStagedAnchorNumber, 12), (Obj.TimeStepAt, 12),
      (Obj.TimeStepValue, 1), (Obj.TimeSetValue, 0), (Obj.OutputRealignAt, 12), (Obj.OutputRealignMask, 1), (Obj.MaquetteSwapAt, 12),
      (Obj.HostRefAtTurn, 1034)] with
    turn := { ({} : TurnSt) with last := some 10, next := 11 } }

theorem witness_TurnChangesAreArmedOrRefused :
    armable.canArm (armable.rdN Obj.TurnChangeAt) = true ∧ armable.canArm 11 = false ∧ armable.turn.queue.all (fun c => !c.isParam) = true ∧
      armable.turn.queue.all (fun c => !(c.isStep && c.turn == armable.rdN Obj.TurnChangeAt)) = true ∧
      armable.rdN Obj.TurnChangeAt ≤ firstAtOf (armable.rdN Obj.TurnStagedPeriod) (armable.rd Obj.TurnStagedAnchorTime)
        (armable.rdN Obj.TurnStagedAnchorNumber) (armable.boundaryTime (armable.rdN Obj.TurnChangeAt)) ∧
      (let d := armable.wr Obj.TurnStagedAnchorTime (13 * 62500 * 2 * nsT)
       let e := d.wr Obj.TurnStagedAnchorNumber 11
       firstAtOf (e.rdN Obj.TurnStagedPeriod) (e.rd Obj.TurnStagedAnchorTime) (e.rdN Obj.TurnStagedAnchorNumber)
         (e.boundaryTime (e.rdN Obj.TurnChangeAt)) < e.rdN Obj.TurnChangeAt) ∧
      (armable.wr Obj.TurnChangeAt 11).canArm ((armable.wr Obj.TurnChangeAt 11).rdN Obj.TurnChangeAt) = false ∧
      (armable.arm 12 (.period 31250)).turn.queue.any Change.isParam = true := by decide +kernel

theorem witness_ParameterChangeMeetsAPendingStep :
    let d := armable.arm 12 (.stepRel 1)
    d.turn.queue.any (fun c => c.isStep && c.turn == d.rdN Obj.TurnChangeAt) = true := by decide +kernel

theorem witness_StepsOfTimeAreArmedOrRefused :
    let d := armable
    d.canArm (d.rdN Obj.TimeStepAt) = true ∧
      d.turn.queue.all (fun c => !c.isStep && !(c.isParam && c.turn == d.rdN Obj.TimeStepAt)) = true ∧ d.rd Obj.TimeStepValue ≠ 0 ∧
      0 ≤ d.boundaryTime (d.rdN Obj.TimeStepAt) + d.rd Obj.TimeStepValue ∧
      d.boundaryTime (d.rdN Obj.TimeStepAt) + d.rd Obj.TimeStepValue ≤ maxT ∧ 0 ≤ d.rd Obj.TimeSetValue ∧
      d.rd Obj.TimeSetValue ≤ maxT ∧ ({} : Dev).rd Obj.TimeStepValue = 0 ∧ d.time.snapPending = false ∧
      d.turn.queue.any Change.isInitialStep = false ∧ (d.arm 12 (.stepOwn 1 1 0)).turn.queue.any Change.isInitialStep = true ∧
      (after .timeSnapshotCmd d).time.snapPending = true := by decide +kernel

theorem witness_SnapshotReassemblesTheTime :
    let d := after .timeSnapshotCmd ({ ({} : Dev) with time := { ({} : TimeSt) with uptime := 2 ^ 64 - 1 } } : Dev)
    d.time.snapPending = true ∧ 0 ≤ d.now ∧ d.now < 2 ^ 48 * secT ∧ d.rdN Obj.TurnNumber < 2 ^ 64 ∧ d.time.uptime < 2 ^ 64 := by
  decide +kernel

/-- The counters count, and the next boundary starts Turn 11. -/
def counts : Dev :=
  { boxOf [(Obj.PlinthPresent, 1)] with
    time := { ({} : TimeSt) with counting := true }
    turn := { ({} : TurnSt) with next := 11, last := some 10 } }

theorem witness_BoundaryStartsTheNextTurn :
    counts.counting = true ∧ counts.rd Obj.DeviceFaultPhase = 0 ∧
      (counts.reachBoundary 0 []).turn.running = false ∧ (counts.reachBoundary 0 []).nextChange 11 = none ∧
      (let d := counts.arm 11 (.stepRel (2 * nsT * 62500))
       let e := d.reachBoundary 0 []
       e.turn.running = false ∧ (Dev.boundaryChanges (e.turn.queue.length + 1) e.turn.next e).2 = none) ∧
      (let d := counts.arm 11 (.period 31250)
       let e := d.reachBoundary 0 []
       (Dev.boundaryChanges (e.turn.queue.length + 1) e.turn.next e).2 = some 11) ∧
      ({} : Dev).counting = false ∧ (counts.wr Obj.DeviceFaultPhase 1).rd Obj.DeviceFaultPhase = 1 ∧
      (counts.wr Obj.DeviceFaultPhase 3).rd Obj.DeviceFaultPhase = 3 ∧
      (counts.wr Obj.DeviceFaultPhase 2).rd Obj.DeviceFaultPhase = 2 := by decide +kernel

theorem witness_BoundariesAreEvenlySpaced : (0 : Nat) < 1 ∧ (0 : Int) ≤ 0 := by decide

theorem witness_OverrunsAreRecordedAndCleared :
    1 ∈ ((boxOf [enabled .whorl 47]).opens 0).unfinished ∧ 11 ∈ (({} : Dev).opens 0).unfinished ∧ 0 ∉ (({} : Dev).opens 0).unfinished ∧
      1 ∉ (({} : Dev).opens 0).unfinished := by decide +kernel

theorem witness_BlockCommandsAreCheckedWhenWritten :
    (BlockId.mk .whorl 47).ok = true ∧ ({} : Dev).mayEnable ⟨.whorl, 47⟩ = true ∧ (BlockId.mk .clkOut 7).ok = true ∧
      (boxOf [(inst Obj.ClkOutPhaseOffset 7, 2 ^ 40)]).mayEnable ⟨.clkOut, 7⟩ = false ∧ ({} : Dev).blk .clkOut 7 = 0 ∧
      unitOf ⟨.clkOut, 7⟩ = none ∧ unitOf ⟨.core, 0⟩ = some 2 ∧ ({} : Dev).unitState 2 = 3 ∧ ({} : Dev).unitState 3 ≠ 3 := by
  decide +kernel

/-- Blocks in ENABLING whose conditions hold. -/
def enabling : Dev :=
  boxOf [((BlockId.mk .evin 0).state, 1), ((BlockId.mk .lane 0).state, 1), enabled .quad 0, (inst Obj.LaneTxState 0, 2),
    (inst Obj.QuadPllLocked 0, 3)]

theorem witness_BlocksLeaveEnabling :
    (BlockId.mk .evin 0).ok = true ∧ unitOf ⟨.evin, 0⟩ = none ∧ enabling.blk .evin 0 = 1 ∧ enabling.required ⟨.evin, 0⟩ = true ∧
      enabling.stopped = false ∧ enabling.blk .lane 0 = 1 ∧ enabling.required ⟨.lane, 0⟩ = true ∧
      ({ enabling with line := { ({} : LineSt) with lanes := [(0, { ({} : LaneSt) with pll := some 0 })] } } : Dev).laneReady 0 = true ∧
      enabling.blk .evin 15 ≠ 1 ∧ unitOf ⟨.core, 1⟩ = some 3 ∧ (BlockId.mk .core 1).ok = true ∧
      (boxOf [((BlockId.mk .core 1).state, 1)]).blk .core 1 = 1 := by decide +kernel

theorem witness_FaultWhileDisablingIsOnlyCounted :
    (boxOf [((BlockId.mk .evin 15).state, 3)]).blk .evin 15 = 3 ∧ enabling.blk .evin 0 = 1 ∧ unitOf ⟨.evin, 15⟩ = none ∧
      (BlockId.mk .evin 15).ok = true ∧ (boxOf [enabled .evin 15]).blk .evin 15 = 2 ∧ BlockKind.evin ≠ .spool ∧
      (boxOf [((BlockId.mk .spool 0).state, 3)]).blk .spool 0 = 3 ∧ ({} : Dev).spool.requests = [] := by decide +kernel

theorem witness_MissedDeadlinesFallBack :
    (boxOf [enabled .servo 0, (Obj.ModeF1Servo, 1)]).fnAwaits .f1 = true ∧ ({} : Dev).fnAwaits .f1 = false ∧
      ({} : Dev).fnAwaits (.f5 2) = false ∧ (boxOf [enabled .perfDump 2, (inst Obj.ModeF5CounterDump 2, 1)]).fnAwaits (.f5 2) = true := by
  decide +kernel

theorem witness_HeartbeatsAndGaps :
    11 ∈ (({} : Dev).opens 0).turn.openItems ∧ 11 ∉ ({} : Dev).turn.openItems ∧ ({} : Dev).stopped = false ∧
      ({ ({} : TurnSt) with gap := true } : TurnSt).gap = true ∧ ({} : Dev).turn.gap = false := by decide +kernel

theorem witness_NcoWordKeepsItsLimit :
    -56294995342 ≤ (56294995342 : Int) + 0 ∧ (56294995342 : Int) + 0 ≤ 56294995342 ∧ (56294995342 : Int) < 56294995343 ∧
      (-56294995343 : Int) < -56294995342 := by decide

/-- The servo is ENABLED, TCLK comes from the steered synth, and a Turn has opened. -/
def steering : Dev :=
  ({ boxOf [enabled .servo 0, (Obj.SteeredSynthState, 1)] with time := { ({} : TimeSt) with tclkSteered := true } } : Dev).opens 0

theorem witness_ServoHoldsItsWord :
    let d := steering
    d.itemStarts 3 = true ∧ d.steered = true ∧ d.on .servo 0 = true ∧ d.rdB Obj.ModeF1Servo = false ∧
      (d.wr Obj.ModeF1Servo 1).servoHost = true ∧ (d.wr Obj.ModeF1Servo 1).steered = true ∧ ({} : Dev).servoHost = false ∧
      d.spindleState = 0 ∧ (d.wr (inst Obj.SpindleState d.active) 1).spindleState = 1 ∧
      (d.wr (inst Obj.SpindleState d.active) 2).spindleState = 2 ∧
      (d.wr (inst Obj.SpindleState d.active) 3).spindleState = 3 ∧ (d.wr (inst Obj.SpindleState d.active) 4).spindleState = 4 ∧
      (d.wr Obj.SteeredSynthState 2).steered = false ∧ ({} : Dev).spindleState ≠ 3 ∧ ({} : Dev).spindleState ≠ 4 := by
  decide +kernel

theorem witness_WorkItemsRunOnceInTheirTurn :
    let d := (boxOf [enabled .whorl 47, (inst Obj.WhorlLocked 47, 1), enabled .refSelector 0]).opens 0
    d.itemStarts 1 = true ∧ (d.closeItem 1).itemStarts 2 = true ∧ (d.closeItem 1).itemStarts 4 = true ∧ d.itemStarts 2 = false ∧
      (let e := d.forEach (fun k e => waitKept k (takeMeasurement k (refreshCand k e))) (List.range 101)
       e.on .refSelector 0 = true ∧ e.rdB Obj.ModeF2RefSelector = false ∧ (e.wr Obj.ModeF2RefSelector 1).rdB Obj.ModeF2RefSelector = true) ∧
      ({} : Dev).on .refSelector 0 = false ∧ ({} : Dev).itemStarts 1 = false ∧ ({} : Dev).itemStarts 2 = false ∧ ({} : Dev).itemStarts 4 = false := by
  decide +kernel

/-- A receive stamp. -/
def stampAt (t : Int) : RxStamp := ⟨t, 0, 0⟩

/-- A PTP engine runs at P47 with a role and a delay mechanism. -/
def engineAt (role mech : Int) : Dev :=
  boxOf [enabled .ptpEngine 47, (inst Obj.PtpPortState 47, role), (inst Obj.PtpDelayMechanism 47, mech)]

/-- What an Announce message of a grandmaster says. -/
def announced : AnnounceMsg := ⟨128, 6, 0x21, 0x4E5D, 128, 1, 254, 0x20, 37, true, []⟩

/-- A stamp of a message received, refined or not. -/
def stampOf (ref : Option Int) : StampSt := { rx := stampAt 5, tInst := 5, turn := 0, epoch := 0, steps := 0, ref := ref }

/-- P47 follows the master 65537. -/
def follower : Dev :=
  ((engineAt 9 1).wr (inst Obj.PtpProfile 47) 3).setLink 47 fun k => { k with foreign := [{ source := 65537, msg := announced, last := 0 }] }

theorem witness_PtpMessagesAreReceived :
    (let e := follower.eventRx 47
     e.ptpHere 47 = true ∧ e.role 47 = 9 ∧ e.fromMaster 47 65537 = true ∧ e.fromMaster 47 65538 = false) ∧
      ((engineAt 6 1).eventRx 47).ptpHere 47 = true ∧ ((engineAt 6 1).eventRx 47).role 47 = 6 ∧
      ((engineAt 6 1).eventRx 47).rd (inst Obj.PtpDelayMechanism 47) = 1 ∧ ((engineAt 6 2).eventRx 47).rd (inst Obj.PtpDelayMechanism 47) = 2 ∧
      ((boxOf [enabled .tcDomain 3, (inst Obj.TcDomainType 3, 2)]).eventRx 47).on .tcDomain 3 = true ∧
      ((boxOf [enabled .tcDomain 3, (inst Obj.TcDomainType 3, 2)]).eventRx 47).rd (inst Obj.TcDomainType 3) = 2 ∧
      (({} : Dev).eventRx 47).ptpHere 47 = false ∧
      (let x : SyncX := { seq := 65535, origin := 0, corr := 0, source := 65537, t2 := stampOf none, at_ := 0 }
       let d := ({} : Dev).setLink 47 fun k => { k with syncs := [x] }
       let mine (y : SyncX) : Bool := y.complete.isNone && y.seq == 65535 && y.source == 65537
       let late (s : Nat) : Dev := { d with time := { d.time with uptime := s } }
       (d.link 47).syncs.find? mine = some x ∧ d.time.uptime ≤ x.at_ + logIntervalNs (d.rd (inst Obj.LogSyncInterval 47)) ∧
         x.at_ + logIntervalNs (d.rd (inst Obj.LogSyncInterval 47)) < (late (2 ^ 40)).time.uptime ∧
         ∀ y ∈ (({} : Dev).link 47).syncs, mine y = false) ∧
      (engineAt 6 1).ptpHere 47 = true ∧ ({} : Dev).ptpHere 47 = false := by decide +kernel

theorem witness_PtpMessagesAreSent :
    (engineAt 6 1).plyOf 47 = none ∧ (engineAt 6 1).ptpHere 47 = true ∧ (engineAt 6 1).asCapable 47 = true ∧ (engineAt 6 1).role 47 = 6 ∧
      ((engineAt 6 1).link 47).syncSent ≠ (engineAt 6 1).turn.started + 1 ∧ ({} : Dev).role 47 ≠ 6 ∧ ({} : Dev).ptpHere 47 = false ∧
      ((after (.syncTx 47) (engineAt 6 1)).link 47).syncSent = (engineAt 6 1).turn.started + 1 ∧
      (engineAt 9 2).role 47 = 9 ∧ (engineAt 8 1).role 47 = 8 ∧ ((engineAt 9 2).link 47).reqSent ≠ (engineAt 9 2).turn.started + 1 ∧
      (let x (t : Nat) (ref : Option Int) : AnswerDue := { type := t, seq := 0, requester := 1, corr := 0, domain := none, stamp := stampOf ref }
       let d (y : AnswerDue) := (engineAt 6 2).setLink 47 fun k => { k with answers := [y] }
       ((d (x 1 (some 7))).link 47).answers.find? (fun y => y.type == 1 && y.stamp.ready && (d (x 1 (some 7))).answers 47 y) = some (x 1 (some 7)) ∧
         (x 1 (some 7)).stamp.ref = some 7 ∧ (d (x 2 (some 7))).plyOf 47 = none ∧
         ((d (x 2 (some 7))).link 47).answers.find? (fun y => y.type == 2 && (false || y.stamp.ready) && (d (x 2 (some 7))).answers 47 y) =
           some (x 2 (some 7)) ∧
         ((d (x 2 none)).link 47).answers.find? (fun y => y.type == 2 && (true || y.stamp.ready) && (d (x 2 none)).answers 47 y) = some (x 2 none) ∧
         ((d (x 2 none)).wr (inst Obj.PtpStepMode 47) 1).rd (inst Obj.PtpStepMode 47) = 1 ∧ (d (x 2 none)).rd (inst Obj.PtpProfile 47) ≠ 3) ∧
      (({} : Dev).link 47).answers = [] ∧ (engineAt 6 1).updateClass.plyOf 47 = none ∧
      (engineAt 6 1).updateClass.ptpHere 47 = true ∧ (engineAt 6 1).updateClass.asCapable 47 = true ∧ (engineAt 6 1).updateClass.role 47 = 6 ∧
      (engineAt 6 1).rd (inst Obj.PtpProfile 47) = 0 ∧
      (let d := boxOf [enabled .ply 23, (inst Obj.PlyPortA 23, 46), (inst Obj.PlyPortB 23, 47), (inst Obj.PlyState 23, 5),
         (inst Obj.PtpPortState 46, 6), (inst Obj.PtpPortState 47, 6), (inst Obj.PortLinkUp 46, 1), (inst Obj.PortLinkUp 47, 1)]
       d.members 23 = (46, 47) ∧ d.on .ply 23 = true ∧ d.plyState 23 = 5 ∧ d.role 46 = 6 ∧ d.role 47 = 6 ∧
         d.rdB (inst Obj.PortLinkUp 46) = true ∧ d.rdB (inst Obj.PortLinkUp 47) = true ∧ d.plyOf 0 = none) ∧ ({} : Dev).plyState 23 ≠ 5 := by
  decide +kernel

theorem witness_AnnouncesAndTimeoutsDecideRoles :
    (engineAt 4 1).ptpHere 47 = true ∧ (4 : Int) ≤ (engineAt 4 1).role 47 ∧ 65537 / 65536 ≠ (engineAt 4 1).clockIdentity ∧
      announced.stepsRemoved < 255 ∧ 255 ≤ ({ announced with stepsRemoved := 255 } : AnnounceMsg).stepsRemoved ∧ ({} : Dev).role 47 < 4 ∧
      ((engineAt 4 1).wr (inst Obj.PtpProfile 47) 3).rd (inst Obj.PtpProfile 47) = 3 ∧ (engineAt 4 1).clockIdentity ∉ announced.path ∧
      (engineAt 4 1).roleHeld 47 = false ∧ (engineAt 5 1).plyOf 47 = none ∧ (engineAt 5 1).role 47 = 5 ∧ (engineAt 4 1).role 47 = 4 ∧
      (engineAt 7 1).role 47 = 7 ∧ (engineAt 6 1).role 47 = 6 ∧
      ((engineAt 5 1).wrs [enabled .ply 23, (inst Obj.PlyPortA 23, 47), (inst Obj.PlyPortB 23, 46)]).plyOf 47 = some (23, false) ∧
      (boxOf [(inst Obj.LinkTimingState 47, 3)]).linkState 47 = 3 ∧ ({} : Dev).linkState 47 ≠ 3 ∧
      (boxOf [(inst Obj.ModeF0PtpEngine 47, 1)]).rdB (inst Obj.ModeF0PtpEngine 47) = true ∧
      ({} : Dev).rdB (inst Obj.ModeF0PtpEngine 47) = false ∧ (engineAt 4 1).on .ptpEngine 47 = true ∧
      ({} : Dev).on .ptpEngine 47 = false := by decide +kernel

theorem witness_EsmcRunsWhileEnabled :
    (boxOf [(inst Obj.EsmcEnable 47, 1)]).rdB (inst Obj.EsmcEnable 47) = true ∧ (boxOf [(inst Obj.EsmcEnable 47, 0)]).rdB (inst Obj.EsmcEnable 47) = false ∧
      (boxOf [(Obj.RefSelected, 99)]).rdN Obj.RefSelected = 52 + (47 : Fin 48).val ∧ (boxOf [(Obj.RefSelected, 4)]).rdN Obj.RefSelected ≠ 52 + 47 ∧
      (let d := boxOf [(Obj.RefSelected, 4)]
       (d.wr (inst Obj.SpindleState d.active) 2).spindleState = 2 ∧ d.spindleState ≠ 1 ∧ d.spindleState ≠ 2) := by decide +kernel

/-- Link timing of P47 follows its master and has room for a decision on a path step. -/
def bridging (auto : Int) : Dev :=
  (boxOf [(inst Obj.LinkTimingState 47, 4), (inst Obj.PathStepAutoDecision 47, auto)]).setLink 47 fun k => { k with sinceStep := 16 }

theorem witness_PlyAlarmsAndPathStepDecisions :
    (let d := (boxOf [(inst Obj.PlyState 23, 4)]).setPly 23 fun y => { y with window := true }
     (d.ply 23).window = true ∧ d.plyState 23 = 4) ∧ (({} : Dev).ply 23).window = false ∧
      (boxOf [(inst Obj.PlyState 23, 2)]).plyState 23 = 2 ∧ ({} : Dev).plyState 23 ≠ 1 ∧ ({} : Dev).plyState 23 ≠ 2 ∧
      (bridging 1).linkState 47 = 4 ∧ 16 ≤ ((bridging 1).link 47).sinceStep ∧ (({} : Dev).link 47).sinceStep < 16 ∧
      (let d := (bridging 1).setLink 47 fun k => { k with stepAt := some (0, 7) }
       let e (s : Nat) : Dev := { d with time := { d.time with uptime := s } }
       (d.link 47).stepAt = some (0, 7) ∧ 7 ≠ d.turn.started ∧ 0 + d.rdN Obj.RefHoldOff * 1000000000 ≤ (e (2 ^ 60)).time.uptime ∧
         (e 0).time.uptime < 0 + (d.wr Obj.RefHoldOff 1).rdN Obj.RefHoldOff * 1000000000) ∧
      ((bridging 1).link 47).decision = none ∧ (bridging 1).rd (inst Obj.PathStepAutoDecision 47) = 1 ∧
      (bridging 2).rd (inst Obj.PathStepAutoDecision 47) = 2 ∧ (bridging 0).rd (inst Obj.PathStepAutoDecision 47) = 0 ∧
      ({} : Dev).linkState 47 ≠ 4 := by decide +kernel

theorem witness_ReferenceInputsTakeEdgesAndLabels :
    (boxOf [enabled .refIn 2]).on .refIn 2 = true ∧ (boxOf [enabled .refIn 2, (inst Obj.RefInMode 2, 0)]).refMode 2 = 0 ∧
      (boxOf [enabled .refIn 2, (inst Obj.RefInMode 2, 1)]).refMode 2 = 1 ∧ (2 : Fin 4).val % 2 = 0 ∧ ({} : Dev).on .refIn 2 = false ∧
      (boxOf [enabled .refIn 2, (inst Obj.RefInMode 2, 2)]).refMode ((3 : Fin 4) - 1).val = 2 ∧ (3 : Fin 4).val % 2 = 1 ∧
      (let d := (boxOf [enabled .refIn 3, (inst Obj.RefInMode 3, 1)]).setRefIn 3 fun g => { g with pulses := [(0, secT)], label := some 1 }
       (d.refIn 3).pulses.find? (fun y => y.1 == d.rdN (inst Obj.RefInLabelPulseSeq 3)) = some (0, secT) ∧ d.refMode 3 ≠ 0 ∧ d.on .refIn 3 = true ∧
         (d.refIn 3).label ≠ none) ∧ (∀ x ∈ (({} : Dev).refIn 3).pulses, x.1 ≠ ({} : Dev).rdN (inst Obj.RefInLabelPulseSeq 3)) ∧
      (({} : Dev).refIn 3).label = none ∧ startedAt 10 1024 [⟨4, 1033, 7, 1⟩] = some (boundaryOf 1 7 4 10) ∧ startedAt 10 1024 [⟨4, 1034, 7, 1⟩] = none ∧
      startedAt (armable.rdN Obj.HostRefAtTurn) 1024 armable.turn.runs = none ∧ armable.turn.next ≤ armable.rdN Obj.HostRefAtTurn ∧
      armable.rdN Obj.HostRefAtTurn < armable.turn.next + 1024 ∧ (armable.wr Obj.HostRefAtTurn 10).rdN Obj.HostRefAtTurn < armable.turn.next ∧
      armable.turn.next + 1024 ≤ (armable.wr Obj.HostRefAtTurn 1035).rdN Obj.HostRefAtTurn := by
  decide +kernel

theorem witness_CandidatesQualify :
    (let d := (boxOf [(inst Obj.RefQualState 100, 1)]).setCand 100 fun c => { c with count := 16, hardSecs := ({} : Dev).rdN Obj.RefFreqMonitorWindow }
     d.qual 100 = 1 ∧ 16 ≤ (d.cand 100).count ∧ d.rdN Obj.RefFreqMonitorWindow ≤ (d.cand 100).hardSecs) ∧
      ({} : Dev).qual 100 = 0 ∧ (({} : Dev).cand 100).count < 16 ∧ (({} : Dev).cand 100).hardSecs < ({} : Dev).rdN Obj.RefFreqMonitorWindow ∧
      slopeOf [] = none ∧ ({} : Dev).freqSlope 100 7 = none ∧
      (let d := boxOf [(inst Obj.RefQualState 0, 2)]
       let mon (x : Nat) (c : Int) : List (Nat × Int) := [(0, 0), (x, c)]
       let with_ (c : Int) (s : Nat) (m : Nat) : Dev := d.setCand 0 fun x => { x with mon := mon 2 c, softSecs := s, causes := m }
       d.qual 0 ≠ 0 ∧ (with_ 2 0 0).freqSlope 0 2 = some (2 ^ 32) ∧ slopeOf (mon 4 1) = some (2 ^ 30) ∧ (with_ 0 0 0).freqSlope 0 2 = some 0 ∧
         (with_ 2 0 0).freqSlope 0 (10 ^ 10 + 1) = none ∧
         d.rd Obj.RefSoftLimit < |(2 : Int) ^ 32| ∧ d.rd Obj.RefHardLimit < |(2 : Int) ^ 32| ∧
         d.rd Obj.RefSoftLimit < |(2 : Int) ^ 30| ∧ |(2 : Int) ^ 30| ≤ d.rd Obj.RefHardLimit ∧ 0 < d.rdN Obj.RefFreqMonitorWindow ∧
         |(0 : Int)| ≤ d.rd Obj.RefSoftLimit ∧ |(0 : Int)| ≤ d.rd Obj.RefHardLimit ∧
         ((with_ 0 0 0).cand 0).softSecs + 1 < d.rdN Obj.RefFreqMonitorWindow ∧
         d.rdN Obj.RefFreqMonitorWindow ≤ ((with_ 0 (2 ^ 32) 4).cand 0).softSecs + 1 ∧
         bit ((with_ 0 (2 ^ 32) 4).cand 0).causes 2 = true ∧ bit ((with_ 0 (2 ^ 32) 0).cand 0).causes 2 = false ∧
         bit ((with_ 0 0 2).cand 0).causes 1 = true ∧ bit ((with_ 0 0 0).cand 0).causes 1 = false) ∧
      (let d := (boxOf [(inst Obj.RefQualState 0, 3)]).setCand 0 fun c => { c with causes := 2 }
       d.qual 0 = 3 ∧ (d.cand 0).causes = 2) ∧
      (boxOf [(inst Obj.RefQualState 0, 2), (inst Obj.RefPriority 0, 1), (Obj.RefSelectorState, 2)]).refEligible 0 = true ∧
      (boxOf [(Obj.RefSelectorState, 2)]).rd Obj.RefSelectorState = 2 ∧ ({} : Dev).refEligible 0 = false ∧
      ({} : Dev).rd Obj.RefSelectorState ≠ 2 := by decide +kernel

theorem witness_SwitchesCompleteAndTheHostSelects :
    (let d := boxOf [(Obj.RefSelectorState, 1)]
     d.rd Obj.RefSelectorState = 1 ∧ (d.wr (inst Obj.SpindleState d.active) 2).spindleState = 2) ∧ ({} : Dev).rd Obj.RefSelectorState ≠ 1 ∧
      (let d := boxOf [enabled .refSelector 0, (Obj.ModeF2RefSelector, 1), (inst Obj.RefQualState 100, 2), (inst Obj.RefPriority 100, 1),
         (Obj.HostRefSelect, 100)]
       d.on .refSelector 0 = true ∧ d.rdB Obj.ModeF2RefSelector = true ∧ d.rdN Obj.HostRefSelect ≤ 100 ∧
         d.refEligible (d.rdN Obj.HostRefSelect) = true ∧ (d.wr Obj.HostRefSelect 0xFE).rdN Obj.HostRefSelect = 0xFE ∧
         d.refEligible ((d.wr Obj.HostRefSelect 4).rdN Obj.HostRefSelect) = false ∧ 100 < (d.wr Obj.HostRefSelect 101).rdN Obj.HostRefSelect) ∧
      ({} : Dev).rdB Obj.ModeF2RefSelector = false ∧ ({} : Dev).on .refSelector 0 = false ∧ ({} : Dev).spindleState ≠ 2 := by decide +kernel

/-- The Plinth is present and the synths are in the states given. -/
def synths (steered fixed : Int) : Dev :=
  { boxOf [(Obj.PlinthPresent, 1), (Obj.SteeredSynthState, steered), (Obj.FixedSynthState, fixed)] with
    turn := { ({} : TurnSt) with last := some 10, next := 11 }
    boot := { ({} : BootSt) with released := true } }

theorem witness_SynthsLoseAndRegainLock :
    (synths 1 1).rd Obj.SteeredSynthState = 1 ∧ (synths 2 1).rd Obj.SteeredSynthState ≠ 1 ∧ (synths 2 1).rdB Obj.PlinthPresent = true ∧
      (synths 2 1).turn.last ≠ none ∧ ({} : Dev).turn.last = none ∧ ({} : Dev).stopped = false ∧
      ((synths 1 1).wr Obj.DeviceFaultPhase 1).stopped = true ∧ (synths 0 0).rd Obj.FixedSynthState = 0 ∧ ({} : Dev).rd Obj.FixedSynthState = 0 ∧
      ((synths 1 2).wr Obj.PlinthPresent 0).rdB Obj.PlinthPresent = false ∧
      ({} : Dev).rdB Obj.PlinthPresent = false ∧ (synths 2 1).rd Obj.FixedSynthState = 1 ∧ (synths 1 2).rd Obj.FixedSynthState ≠ 1 ∧
      (synths 1 2).boot.released = true ∧ ({} : Dev).boot.released = false ∧ (synths 1 1).rdB Obj.TimeValid = false ∧
      ((synths 1 1).wr Obj.TimeValid 1).rdB Obj.TimeValid = true ∧ (synths 2 1).rd Obj.SteeredSynthState = 2 := by decide +kernel

theorem witness_LinesAndOutputsFollowTheirCommands :
    (boxOf [(inst Obj.AlLockState 3, 1)]).rd (inst Obj.AlLockState 3) = 1 ∧ (3 : Nat) ∉ ({} : Dev).out.steeredReturn ∧
      (boxOf [(inst Obj.AlLockState 3, 2)]).rd (inst Obj.AlLockState 3) = 2 ∧ ({} : Dev).rd (inst Obj.AlLockState 3) ≠ 1 ∧
      armable.rdN Obj.OutputRealignMask ≠ 0 ∧ armable.canArm (armable.rdN Obj.OutputRealignAt) = true ∧
      armable.turn.queue.any Change.isRealign = false ∧ ({} : Dev).rdN Obj.OutputRealignMask = 0 ∧
      (armable.arm 12 (.realign 1)).turn.queue.any Change.isRealign = true ∧ armable.canArm 11 = false ∧
      ({} : Dev).on .pulse 15 = false ∧ ({} : Dev).programmed 15 0 = false ∧
      (let d : Dev := { boxOf [(inst Obj.AlLockState 3, 1)] with out := { ({} : Dev).out with steeredReturn := [3] } }
       d.rd (inst Obj.AlLockState 3) = 1 ∧ 3 ∈ d.out.steeredReturn ∧ |nearest 0 tapT * tapT| ≤ d.rd Obj.OutputAlignTolerance ∧
         d.rd Obj.OutputAlignTolerance < |nearest (2 ^ 40) tapT * tapT|) ∧
      (({} : Dev).pulseSt 15).active = false ∧
      (let d (r : Option Int) : Dev := ({} : Dev).setPulse 15 fun p => { p with active := true, lastRise := r }
       ((d (some 7)).pulseSt 15).active = true ∧ ((d (some 7)).pulseSt 15).lastRise = some 7 ∧ ((d none).pulseSt 15).lastRise = none) ∧
      (pulseRise 15 0 {}).2 = none ∧
      (let d := boxOf [enabled .pulse 0, (inst Obj.PulseMode 0, 3), (inst Obj.PulseStart 0, secT), (Obj.SteeredSynthState, 1), (inst Obj.AlLockState 2, 2),
         (inst Obj.PulseRequireInPhase 0, 0)]
       d.programmed 0 secT = true ∧ (pulseRise 0 secT { d with time := { ({} : TimeSt) with tclkSteered := true } }).2 = some secT) := by decide +kernel

/-- EVIN channel 15 is ENABLED, its bin centres calibrated and all 0. -/
def evinOn (mode slope : Int) : Dev :=
  let centres : Option BinTab := some ⟨List.replicate 128 0, 1⟩
  { boxOf [enabled .evin 15, (inst Obj.EvinMode 15, mode), (inst Obj.EvinSlope 15, slope)] with
    cal := { ({} : CalSt) with tables := [(15, centres), (31, centres)] } }

theorem witness_EvinEdgesAreStamped :
    ({} : Dev).on .evin 15 = false ∧ (evinOn 0 3).on .evin 15 = true ∧
      (let mref (d : Dev) := (d.wrs [(inst Obj.EvinBase 15, 1), (Obj.MrefFallback, 0)]).until 0
       let g := (mref (evinOn 0 3)).setEvin 15 fun x => { x with lastEdge := some 0 }
       (mref (evinOn 0 3)).on .evin 15 = true ∧ g.baseNow 15 = none) ∧
      (let e := ((evinOn 1 1).setEvin 15 fun x => { x with lastEdge := some 0 }).until (3 * nsT - 1)
       (e.evin 15).lastEdge = some 0 ∧ (3 * nsT - 1) - nearest ((e.binCentre 15 true 127 : Nat) * 4096) 1000 - 0 < 3 * nsT ∧
         (e.setEvin 15 fun x => { x with lastEdge := some (3 * nsT - 1) }).baseNow 15 ≠ none) ∧
      (let e := ((evinOn 1 1).setEvin 15 fun x => { x with lastEdge := some 0 }).until (3 * nsT)
       (e.evin 15).lastEdge = some 0 ∧ 3 * nsT ≤ 3 * nsT - nearest ((e.binCentre 15 true 127 : Nat) * 4096) 1000 - 0) ∧
      (let edge (mode slope prescale : Int) (r : Bool) :=
         let e := ((evinOn mode slope).wr (inst Obj.EvinPrescale 15) prescale).until 0
         let g := e.setEvin 15 fun x => { x with lastEdge := some 0 }
         g.startsFrom 15 (some r) 0 (g.factoryBins 15 r) false
       ((evinOn 0 3).until 0).binCentre 15 true 127 = 0 ∧ (((evinOn 0 3).until 0).evin 15).lastEdge = none ∧
         ((evinOn 0 3).until 0).baseNow 15 = some 0 ∧ (edge 1 1 0 true).rd (inst Obj.EvinMode 15) = 1 ∧
         (edge 0 3 0 true).rd (inst Obj.EvinMode 15) ≠ 1 ∧
         (((edge 0 3 2 true).evin 15).edges + 1) % max ((edge 0 3 2 true).rdN (inst Obj.EvinPrescale 15)) 1 ≠ 0 ∧
         (((edge 0 3 0 true).evin 15).edges + 1) % max ((edge 0 3 0 true).rdN (inst Obj.EvinPrescale 15)) 1 = 0 ∧
         ((evinOn 0 2).until 0).rd (inst Obj.EvinSlope 15) = 2 ∧ ((evinOn 0 1).until 0).rd (inst Obj.EvinSlope 15) = 1) ∧
      (({} : Dev).evin 15).waits = [] ∧ (({} : Dev).evin 15).meas = none ∧
      (let w : WaitSt := { t := 5, flags := 0, use := .stop }
       ((({} : Dev).setEvin 15 fun e => { e with waits := [w] }).evin 15).waits = [w] ∧ (0 : Int) < 1) ∧
      (let m : MeasSt := { start := 0, flags := 0 }
       ((({} : Dev).setEvin 15 fun e => { e with meas := some m }).evin 15).meas = some m) := by decide +kernel

/-- EVIN channel 0 is ENABLED with an active-high pulse input. -/
def swapped (correct : Int) : Dev :=
  boxOf [enabled .evin 0, (inst Obj.EvinInputType 0, 1), (inst Obj.EvinIdleLevel 0, 0), (inst Obj.EvinSwapCorrect 0, correct)]

theorem witness_EvinGatesPinsTheMrefAndReads :
    (evinOn 0 3).rd (inst Obj.EvinMode 15) ≠ 1 ∧ (evinOn 1 3).rd (inst Obj.EvinMode 15) = 1 ∧ (({} : Dev).evin 15).gate = none ∧
      (let g : GateSt := { ({} : GateSt) with count := 2 }
       let h : GateSt := { g with holding := true }
       let d (k : Nat) : Dev := ({} : Dev).setEvin 15 fun e => { e with fit := k, gate := some g }
       let closed (k : Nat) : Dev := let e := (d k).until (g.opened + (d k).rd (inst Obj.EvinFreqGateLength 15) * (1000000 * nsT))
         (e.inc (inst Obj.EvinFreqGateCount 15)).wr (inst Obj.EvinFreqFlags 15) h.flagBits
       ((d 2).evin 15).gate = some g ∧ ((closed 2).evin 15).fit = 2 ∧ ((closed 1).evin 15).fit ≠ 2) ∧
      (evinOn 0 3).on .evin 15 = true ∧ (evinOn 0 3).rdN (inst Obj.EvinPinStatus 15) = 0 ∧
      ((evinOn 0 3).wr (inst Obj.EvinPinStatus 15) 2).rdN (inst Obj.EvinPinStatus 15) ≠ (0 : Fin 4) ∧
      ((evinOn 0 3).wr (inst Obj.EvinPinStatus 15) 2).rdN (inst Obj.EvinPinStatus 15) < 4 ∧
      ((evinOn 0 3).wr (inst Obj.EvinTermination 15) 0).rd (inst Obj.EvinTermination 15) ≠ 1 ∧
      ((evinOn 0 3).wr (inst Obj.EvinTermination 15) 1).rd (inst Obj.EvinTermination 15) = 1 ∧
      ((swapped 1).wr (inst Obj.EvinPinStatus 0) 4).rdN (inst Obj.EvinPinStatus 0) = 4 ∧ 1000000000 - 1000000000 ≤ 900000000 ∧ ({} : Dev).on .evin 15 = false ∧
      (swapped 1).on .evin 0 = true ∧ (swapped 1).rd (inst Obj.EvinInputType 0) = 1 ∧ (swapped 1).rdN (inst Obj.EvinIdleLevel 0) = 0 ∧
      (swapped 1).rdN (inst Obj.EvinPinStatus 0) = 0 ∧ (swapped 1).rdB (inst Obj.EvinSwapCorrect 0) = true ∧
      (swapped 0).rdB (inst Obj.EvinSwapCorrect 0) = false ∧ 900000000 < 900000001 ∧ 1 < 2 ∧
      (boxOf [enabled .mref 0]).on .mref 0 = true ∧ ({} : Dev).on .mref 0 = false ∧ ({} : Dev).rdB Obj.MrefPresent = false ∧
      (boxOf [(Obj.MrefPresent, 1)]).rdB Obj.MrefPresent = true ∧
      (let r : ResultRec := ⟨0, [], 0, 1⟩
       ((({} : Dev).setEvin 15 fun e => { e with results := [r] }).evin 15).results = [r]) ∧ (({} : Dev).evin 15).results = [] := by
  decide +kernel

/-- The calibration sequencer is ENABLED, and a port run on P47 with REFIN1 and PULSE1 is allowed. -/
def calibrating (host : Int) : Dev :=
  (boxOf [enabled .calSequencer 0, (Obj.ModeF4Calibration, host), (Obj.CalPortSelect, 47), (Obj.CalPortMethod, 1), (Obj.CalRefInput, 1),
    (Obj.CalLoopPulse, 1), (inst Obj.PtpPortState 47, 9), (inst Obj.LinkTimingState 47, 3), enabled .refIn 1, (inst Obj.RefInMode 1, 1),
    enabled .pulse 1, (inst Obj.PulseMode 1, 1), (inst Obj.PulsePeriod 1, secT), (Obj.SteeredSynthState, 1), (Obj.CalStepTarget, 256 * 4 + 47),
    (inst Obj.RefInPulseSeq 1, 16)]).setRefIn 1 fun g => { g with present := true, pulses := [(16, 0)] }

/-- The port run of P47. -/
def portRun : PortRun := { port := 47, method := 1, ref := 1, pulse := 1, seq0 := 0, locks0 := 0, steps0 := 0 }

/-- A port run is in the phase given. -/
def running (host phase : Int) : Dev :=
  { (calibrating host).wr Obj.CalPortPhase phase with cal := { ({} : CalSt) with port := some portRun } }

/-- A target collects; its histograms are whole. -/
def collected (id : Nat) : CalTarget := { id := id, dither := false, hist := some (List.replicate 128 0, List.replicate 128 0) }

theorem witness_CalibrationRunsBeginAndEnd :
    (calibrating 0).cal.armed = false ∧ (calibrating 0).cal.targets = none ∧ (calibrating 0).cal.port = none ∧
      (calibrating 0).on .calSequencer 0 = true ∧ (calibrating 0).rdB Obj.ModeF4Calibration = false ∧
      (calibrating 0).portRunAllowed 47 1 = true ∧ (calibrating 0).rdN Obj.CalPortSelect = 47 ∧ (calibrating 0).rdN Obj.CalPortMethod = 1 ∧
      ({} : Dev).portRunAllowed 47 1 = false ∧ (running 0 2).cal.port ≠ none ∧ (calibrating 0).armBinRun.cal.armed = true ∧
      ((calibrating 0).opens 0).itemStarts 7 = true ∧ ((calibrating 0).opens 0).cal.hostStep = 0 ∧ ({} : Dev).itemStarts 7 = false ∧
      ((calibrating 0).opens 0).on .calSequencer 0 = true ∧ (((calibrating 0).armBinRun).opens 0).cal.armed = true ∧
      [{ collected 79 with hist := none }, collected 78].find? (fun t => t.hist.isSome || t.failed) = some (collected 78) ∧
      (let d := ((running 0 1).wr (inst Obj.LinkTimingState 47) 2).opens 0
       d.itemStarts 7 = true ∧ d.cal.armed = false ∧ d.cal.targets = none ∧ d.cal.port = some portRun ∧ d.cal.portCommit = false ∧
         d.portBroken portRun = true) ∧
      ({ (calibrating 0).opens 0 with cal := { ({} : CalSt) with targets := some [] } } : Dev).cal.targets = some [] ∧
      (running 0 2).cal.port = some portRun ∧ (running 0 2).rd Obj.CalPortPhase = 2 ∧ (running 0 1).rd Obj.CalPortPhase ≠ 2 ∧
      (let d := boxOf [(inst Obj.DieTemperature 3, 1000)]
       (d.rd Obj.CalTempStep < |d.rd (inst Obj.DieTemperature 3) - d.rd (inst Obj.CalTempAtLastRun 3)|) ∧ d.rdB Obj.CalTriggerPending = false) ∧
      (boxOf [(Obj.CalTriggerPending, 1)]).rdB Obj.CalTriggerPending = true := by decide +kernel

theorem witness_CalibrationCollectsAndMeasures :
    (let t : CalTarget := { id := 79, dither := false }
     let d : Dev := { ({} : Dev) with cal := { ({} : CalSt) with targets := some [t] } }
     let h (x : CalTarget) : Dev := { d with cal := { d.cal with host := some x } }
     d.cal.targets = some [t] ∧ t.id = (79 : Fin 80) ∧ t.failed = false ∧ d.cal.host = none ∧ t.hist = none ∧ d.calMode 79 = 0 ∧
       (h t).cal.host = some t ∧ (h { t with dither := true }).cal.host = some { t with dither := true } ∧ (collected 79).hist ≠ none ∧
       (d.wr Obj.CalWhorlSourceMode 1).calMode 79 ≠ 0) ∧
      (running 0 1).cal.port = some portRun ∧ (running 0 1).portBroken portRun = false ∧
      ((running 0 1).wr (inst Obj.LinkTimingState 47) 2).portBroken portRun = true ∧ (running 0 1).calHost = false ∧
      ((running 0 3).wr (inst Obj.LinkTimingState 47) 2).portBroken portRun = true ∧ (running 0 3).rd Obj.CalPortPhase = 3 ∧
      16 ≤ ((running 0 1).rdN (inst Obj.RefInPulseSeq portRun.ref) + 2 ^ 32 - portRun.seq0) % 2 ^ 32 ∧
      (let d := running 0 1
       let ls := (d.refIn portRun.ref).pulses.map fun e =>
         wrapTo (e.2 - d.rd (inst Obj.PulseStart portRun.pulse) - d.rd (inst Obj.PulseMisalignment portRun.pulse)) secT
       ls = [0] ∧ deviation ls ≤ d.rd Obj.CalPortSpreadLimit ∧ 0 ≤ mean ls ∧ mean ls ≤ 1000 * nsT ∧
         d.rd Obj.CalPortSpreadLimit < deviation [0, 1000 * nsT] ∧ 1000 * nsT < mean [1001 * nsT] ∧
         deviation [1001 * nsT] ≤ d.rd Obj.CalPortSpreadLimit) ∧
      ({} : Dev).cal.port = none := by decide +kernel

theorem witness_HostCalibrationStepsAreTakenUp :
    ({} : Dev).calHost = false ∧ (calibrating 1).calHost = true ∧ calOf (256 * 3 + 47) = some 79 ∧ calOf (256 * 1 + 0) = some 0 ∧
      calOf ((calibrating 1).rdN Obj.CalStepTarget) = none ∧ calOf (((calibrating 1).wr Obj.CalStepTarget 256).rdN Obj.CalStepTarget) = some 0 ∧
      (calibrating 1).rdN Obj.CalStepTarget / 256 = 4 ∧ (calibrating 1).rdN Obj.CalStepTarget % 256 < 48 ∧ (calibrating 1).calActive = false ∧
      (calibrating 1).portRunAllowed 47 1 = true ∧ (running 1 2).calHost = true ∧ (running 1 2).cal.port = some portRun ∧
      (running 1 2).rd Obj.CalPortPhase = 2 ∧ (calibrating 1).cal.port = none ∧ (calibrating 1).cal.host = none ∧ (calibrating 1).cal.hostTable = none ∧
      (let t : CalTarget := { id := 0, dither := true, hist := some ([], []) }
       let b : TableDue := { id := 0, lineB := false, table := [], dither := true }
       let r : PortRun := { portRun with result := some (0, 0, 0) }
       let d : Dev := { calibrating 1 with cal := { ({} : CalSt) with host := some t, hostTable := some b, port := some r } }
       d.calHost = true ∧ d.cal.host = some t ∧ t.hist ≠ none ∧ d.cal.hostTable = some b ∧ d.cal.port = some r ∧ r.result ≠ none) ∧
      ((calibrating 1).wr Obj.CalStepTarget 0).rdN Obj.CalStepTarget / 256 ≠ 4 := by decide +kernel

/-- P47 is ENABLED, its link up and its lane locked. -/
def portUp : Dev :=
  boxOf [enabled .port 47, enabled .queueSet 47, (inst Obj.PortLinkUp 47, 1), (inst Obj.LaneRxState 47, 5), (inst Obj.LaneTxState 47, 2),
    enabled .lane 47, enabled .quad 11]

/-- A frame that arrives on P47. -/
def frameOf (n : Nat) (ended : Bool) : Frame := { port := 47, bytes := List.replicate n 0, ended := ended }

/-- That frame is number 0 and being received. -/
def receiving (n : Nat) : Dev := ((portUp.newFrame (frameOf n false)).setFifo 47 [0]).setReceiving 47 1

theorem witness_FramesEnterAndAreReplicated :
    portUp.portReceives 47 = true ∧ portUp.receiving 47 = none ∧
      (portUp.counted 1 0x01 (portUp.timingLane 47) 1).fifoFill 47 < 16384 ∧ ({} : Dev).portReceives 47 = false ∧
      (let d := (List.range 11).foldl (fun (e : Dev) _ => e.newFrame (frameOf 1518 true)) portUp
       let d := d.setFifo 47 (List.range 11)
       d.portReceives 47 = true ∧ d.receiving 47 = none ∧ 16384 ≤ (d.counted 1 0x01 (d.timingLane 47) 1).fifoFill 47) ∧
      (receiving 127).mayEnter 47 = false ∧ (receiving 128).mayEnter 47 = true ∧
      ((receiving 128).pipeOrder 1).find? (fun y => decide (∃ z ∈ [(47 : PortHp)], z.val = y) && (receiving 128).mayEnter y) = some 47 ∧
      (receiving 128).fifo 47 = [0] ∧ (receiving 128).frame 0 = some (frameOf 128 false) ∧ (frameOf 128 false).macTakes = false ∧
      (let f : Frame := { port := 47, bytes := [0x01, 0x80, 0xC2, 0, 0, 1, 0, 0, 0, 0, 0, 0, 0x88, 0x08] ++ List.replicate 50 0, ended := true }
       let d := (portUp.newFrame f).setFifo 47 [0]
       d.fifo 47 = [0] ∧ d.frame 0 = some f ∧ f.macTakes = true ∧ d.mayEnter 47 = true) ∧ (({} : Dev).until 0).stage 1 = [] ∧
      (let x : Decision := {}
       let f : Frame := { frameOf 64 true with decision := some x }
       let d := (portUp.newFrame f).setStage 1 [0]
       (d.until 0).stage 1 = [0] ∧ ((d.until 0).setStage 1 []).frame 0 = some f) ∧
      (receiving 64).receiving 47 = some 0 ∧
      (receiving ((receiving 64).maxFrame 47 + 1)).maxFrame 47 < (frameOf ((receiving 64).maxFrame 47 + 1) false).bytes.length ∧
      (receiving ((receiving 64).maxFrame 47 + 1)).frame 0 = some (frameOf ((receiving 64).maxFrame 47 + 1) false) ∧
      (receiving 64).frame 0 = some (frameOf 64 false) ∧ (frameOf 64 false).truncated = false ∧
      (frameOf 64 false).bytes.length ≤ (receiving 64).maxFrame 47 := by decide +kernel

/-- A copy of frame 0 waits in queue 7 of P47. -/
def copyOf (p : Payload) (cut : Bool) : Copy := { payload := p, plan := { out := 47, cls := 7 }, pool := .fastShared, cells := 1, cut := cut }

theorem witness_CopiesAreSentAndDelivered :
    (portUp.until 0).portTakes 47 = true ∧ ((portUp.until 0).egress 47).tx = none ∧ (({} : Dev).until 0).portTakes 47 = false ∧
      (let x := copyOf (.frame 0) true
       let d := portUp.newFrame (frameOf 257 false)
       let e : Dev := { d with buf := { ({} : BufSt) with queues := [(queueKey 47 7, [x])] } }
       ((List.range 8).filterMap fun c => (e.queue (queueKey 47 c)).head?.map fun y => (c, y)).find? (fun y => y.2.cut) = some (7, x) ∧
         e.frame 0 = some (frameOf 257 false) ∧ 256 < (frameOf 257 false).bytes.length ∧ (frameOf 256 false).bytes.length ≤ 256 ∧
         (frameOf 256 false).ended = false ∧ x.payload = .frame 0 ∧ e.portTakes 47 = true ∧ (e.egress 47).tx = none) ∧
      (∀ c < 8, (({} : Dev).queue (queueKey 47 c)).head? = none) ∧
      (let t : TxSt := { copy := copyOf (.engine .beacon 64) false }
       ((portUp.setEgress 47 fun y => { y with tx := some t }).egress 47).tx = some t ∧ t.copy.payload = .engine .beacon 64) ∧
      (let t : TxSt := { copy := copyOf (.frame 0) true }
       let e := (((portUp.newFrame (frameOf 64 true)).setEgress 47 fun y => { y with tx := some t }).until 0)
       let g := (e.setEgress 47 fun y => { y with tx := none }).inc (queueObj Obj.QueueTxCount 47 7)
       (e.egress 47).tx = some t ∧ t.copy.payload = .frame 0 ∧ g.frame 0 = some (frameOf 64 true)) ∧
      (({} : Dev).ring 7).enable = false ∧
      (let x : Copy × Nat := (copyOf (.frame 0) false, 0)
       let g : RingSt := { ({} : RingSt) with enable := true, active := true, tail := 1, delivering := some x }
       let d := ({} : Dev).setRing 7 fun _ => g
       d.ring 7 = g ∧ g.enable = true ∧ g.active = true ∧ g.waiting ≠ 0 ∧ g.halted = false) ∧
      (let x : Copy := { copyOf (.frame 0) false with plan := { out := 48, cls := 7 } }
       let d := ((({} : Dev).newFrame (frameOf 64 true)).setQueue 384 [x]).setRing 7 fun g => { g with enable := true, active := true, tail := 1 }
       (d.ring 7).delivering = none ∧ d.nextDelivery 3 = some x ∧ ({} : Dev).nextDelivery 3 = none ∧ (d.ring 7).waiting ≠ 0) := by decide +kernel

theorem witness_PauseFollowsItsFrames :
    portUp.portReceives 47 = true ∧ (portUp.wr (inst Obj.PauseRxMode 47) 1).rd (inst Obj.PauseRxMode 47) = 1 ∧
      (portUp.wr (inst Obj.PauseRxMode 47) 2).rd (inst Obj.PauseRxMode 47) = 2 ∧ ({} : Dev).portReceives 47 = false ∧
      (let d := boxOf [(inst Obj.PauseXoffState 47, 0xFF), (inst Obj.PauseIngressCells 47, 10 ^ 6)]
       d.xoffHeld 47 none = true ∧ d.rd (inst Obj.PauseXonCells 47) < d.pauseCount 47 none ∧ (d.egress 47).due = []) ∧
      (let d := { boxOf [(inst Obj.PauseXoffState 47, 128)] with buf := { ({} : BufSt) with pfcCells := [(8 * 47 + 7, 10 ^ 6)] } }
       d.xoffHeld 47 (some 7) = true ∧ d.rd (inst Obj.PauseXonCells 47) < d.pauseCount 47 (some 7)) ∧
      ({} : Dev).xoffHeld 47 none = false ∧ ({} : Dev).xoffHeld 47 (some 7) = false ∧ ((({} : Dev).until 0).egress 47).due = [] ∧
      (let e := ((portUp.wr (inst Obj.PauseRxMode 47) 1).setEgress 47 fun y => { y with due := [⟨true, none⟩] }).until 0
       (e.egress 47).due = [⟨true, none⟩] ∧ (e.egress 47).tx = none ∧ e.portTakes 47 = true ∧
         e.launchGuard 47 none 0 (txTime 64 (e.lineRate 47)) = true) ∧
      (let e := (({} : Dev).setEgress 47 fun y => { y with due := [⟨false, some 7⟩] }).until 0
       (e.egress 47).due = [⟨false, some 7⟩] ∧ e.portTakes 47 = false) := by decide +kernel

theorem witness_AddressesAreLearnedAndAged :
    (let d := (boxOf [enabled .learning 0]).opens 0
     9 ∈ d.turn.openItems ∧ d.on .learning 0 = true ∧ d.rdB Obj.ModeF3Learning = false) ∧ (({} : Dev).opens 0).on .learning 0 = false ∧
      9 ∉ ({} : Dev).turn.openItems ∧ (boxOf [(Obj.ModeF3Learning, 1)]).rdB Obj.ModeF3Learning = true ∧
      (boxOf [(Obj.MacAgeTime, 0)]).rd Obj.MacAgeTime = 0 ∧ ({} : Dev).rd Obj.MacAgeTime ≠ 0 ∧ macDynamic (({} : Dev).macAt 33023) = false ∧
      (let e := macKey 0x001122334455 4095 + 2 ^ 60
       macDynamic ((({} : Dev).setMac 33023 e).macAt 33023) = true ∧ bits ((({} : Dev).setMac 33023 e).macAt 33023) 75 3 = 0) := by
  decide +kernel

/-- A table operation names a table and an index, and its data is an entry of the MAC table. -/
def tableOn (t i e : Nat) : Dev :=
  (boxOf [(Obj.TableOpTable, t), (Obj.TableOpIndex, i)]).wrV Obj.TableOpData (.oct (leBytes 64 e))

/-- A static entry of the MAC table for P47. -/
def macEntry : Nat := macKey 0x001122334455 4095 + 2 ^ 60 + 2 ^ 61 + 47 * 2 ^ 63

theorem witness_TableOperationsRunOneAtATime :
    (after .tableOpRead (tableOn 2 4095 0)).fwd.tableOp = some ⟨1, 2, 4095, 0⟩ ∧ (tableOn 2 4095 0).fwd.tableOp = none ∧
      4095 < tableSize 2 ∧ tableSize 2 ≤ 4096 ∧ 33023 < tableSize 1 ∧ tableSize 0 ≤ 0 ∧
      (tableOn 2 4095 0).writeStatus 2 4095 (entryOf 2 ((tableOn 2 4095 0).rdV Obj.TableOpData).bytes) = 0 ∧
      (tableOn 2 4096 0).writeStatus 2 4096 (entryOf 2 ((tableOn 2 4096 0).rdV Obj.TableOpData).bytes) ≠ 0 ∧
      (let d := tableOn 1 0 macEntry
       let e := entryOf 1 (d.rdV Obj.TableOpData).bytes
       let loc := 32768
       bit e 60 = true ∧ badMac e = false ∧ d.macFind (bits e 0 48) (bits e 48 12) = none ∧ d.macFree (bits e 0 48) (bits e 48 12) ≠ none ∧
         (d.setMac loc e).macFind (bits e 0 48) (bits e 48 12) = some loc ∧ badMac (e + 13 * 2 ^ 63) = true) ∧
      (tableOn 2 4096 0).writeStatus 2 4096 0 ∈ [4, 5, 6] ∧
      bit (entryOf 1 ((tableOn 1 0 0).rdV Obj.TableOpData).bytes) 60 = false ∧
      ({ ({} : Dev) with fwd := { ({} : FwdSt) with tableOp := some ⟨6, 1, 47, 0⟩ } } : Dev).fwd.tableOp = some ⟨6, 1, 47, 0⟩ := by decide +kernel

/-- The four ways and the 256 overflow places of a key are taken by entries of other keys. -/
def fullFor (mac fid : Nat) : Dev :=
  let ways := macWays mac fid ++ (List.range 256).map (fun i => 32768 + i)
  ways.foldl (fun (d : Dev) w => d.setMac w (2 ^ 60 + w)) {}

theorem witness_TableOperationsRunOneAtATime_full :
    (fullFor 0x001122334455 4095).macFind 0x001122334455 4095 = none ∧ (fullFor 0x001122334455 4095).macFree 0x001122334455 4095 = none := by
  decide +kernel

theorem witness_InsertedAddressIsFound :
    ({} : Dev).macFind 0x001122334455 4095 = none ∧ (({} : Dev).macFree 0x001122334455 4095).isSome = true ∧ bit macEntry 60 = true ∧
      (macKey 0x001122334455 4095 + 2 ^ 60) % 2 ^ 60 = macKey 0x001122334455 4095 ∧ bit (macKey 0x001122334455 4095 + 2 ^ 60) 60 = true ∧
      Sparse.wf (fun _ => 0) ({} : Dev).fwd.mac = true := by decide +kernel

theorem witness_TheMaquetteIsStagedAndSwapped :
    (armable.arm 12 .swap).swapArmed = true ∧ armable.swapArmed = false ∧ ({} : Dev).rdN Obj.MaquetteStreamIndex < 4096 ∧
      (boxOf [(Obj.MaquetteStreamIndex, 4096)]).rdN Obj.MaquetteStreamIndex = 4096 ∧ badStream 1 = true ∧ badStream 0 = false ∧
      ({} : Dev).buf.copying = false ∧ (after .maquetteCopy {}).buf.copying = true ∧ armable.canArm (armable.rdN Obj.MaquetteSwapAt) = true ∧
      armable.turn.queue.any Change.isParam = false ∧ armable.swapChecks (armable.rdN Obj.TurnPeriod) = 0 ∧
      armable.canArm ((armable.wr Obj.MaquetteSwapAt 11).rdN Obj.MaquetteSwapAt) = false ∧
      (((({} : Dev).until 0).showGates 47 0).egress 47).tx = none ∧
      (let t : TxSt := { copy := copyOf (.frame 0) false }
       let e := ((({} : Dev).setEgress 47 fun y => { y with tx := some t }).until 0).showGates 47 0
       (e.egress 47).tx = some t ∧ bit ((e.wr (inst Obj.QueueGateStates 47) 127).rdN (inst Obj.QueueGateStates 47)) t.copy.plan.cls = false) := by
  decide +kernel

theorem witness_TheReelAndTheStatistics :
    ({} : Dev).rd Obj.ReelState ≠ 3 ∧ ({} : Dev).rd Obj.ThermalState = 0 ∧ (boxOf [(Obj.ReelState, 3)]).rd Obj.ReelState = 3 ∧
      (boxOf [(Obj.ThermalState, 2)]).rd Obj.ThermalState ≠ 0 ∧ ({} : Dev).rd Obj.ReelState ≠ 1 ∧
      (boxOf [(Obj.ReelState, 1)]).rd Obj.ReelState = 1 ∧
      ((boxOf [(Obj.ReelState, 1)]).wr Obj.ReelTriggerTime (boxOf [(Obj.ReelState, 1)]).now).rd Obj.ReelMode = 0 ∧
      (let d := (boxOf [enabled .reelTrigger 0, (Obj.ReelTriggerEventMask, 2 ^ 63)]).opens 0
       10 ∈ d.turn.openItems ∧ d.on .reelTrigger 0 = true ∧ d.rdB Obj.ModeF7ReelTrigger = false ∧
         ({ d with buf := { ({} : BufSt) with raisedBefore := 2 ^ 63 } } : Dev).buf.raisedBefore &&& d.rdN Obj.ReelTriggerEventMask ≠ 0) ∧
      10 ∈ (({} : Dev).opens 0).turn.openItems ∧ (({} : Dev).opens 0).on .reelTrigger 0 = false ∧ 10 ∉ ({} : Dev).turn.openItems := by
  decide +kernel

/-- Lane 47 is ENABLED with its receiver in a state. -/
def laneIn (rx : Int) : Dev :=
  { boxOf [enabled .lane 47, (inst Obj.LaneRxState 47, rx), (inst Obj.LaneSignalDetect 47, 1), (inst Obj.QuadPllLocked 11, 1),
      (inst Obj.LanePortMode 47, 3)] with line := { ({} : LineSt) with lanes := [(47, { ({} : LaneSt) with pll := some 0 })] } }

theorem witness_ReceiveLanesFollowTheirStates :
    ({} : Dev).on .lane 47 = false ∧ (laneIn 1).on .lane 47 = true ∧ ((laneIn 1).wr (inst Obj.LaneSignalDetect 47) 1).rxState 47 ≠ 6 ∧
      (let d := boxOf [enabled .lane 47, (inst Obj.LaneRxState 47, 6), (inst Obj.QuadMode 11, 3)]
       (d.wr (inst Obj.LaneSignalDetect 47) 1).rxState 47 = 6 ∧
         (d.wr (inst Obj.LaneSignalDetect 47) 1).isNq ((d.wr (inst Obj.LaneSignalDetect 47) 1).portOfLane 47) = true) ∧
      2 ≤ ((laneIn 2).wr (inst Obj.LaneSignalDetect 47) 0).rxState 47 ∧ ((laneIn 1).wr (inst Obj.LaneSignalDetect 47) 0).rxState 47 < 2 ∧
      ((laneIn 6).wr (inst Obj.LaneSignalDetect 47) 0).rxState 47 = 6 ∧
      (laneIn 1).rxState 47 = 1 ∧ (laneIn 1).rdB (inst Obj.LaneSignalDetect 47) = true ∧ (laneIn 1).laneClocked 47 = true ∧
      (laneIn 1).stopped = false ∧ (laneIn 2).rxState 47 = 2 ∧ (laneIn 5).rxState 47 = 5 ∧ (laneIn 3).rxState 47 = 3 ∧
      ((laneIn 3).wrs [enabled .laneAdapt 47]).adapts 47 = true ∧ coeffsOk (List.replicate 16 0) = true ∧ (laneIn 3).adapts 47 = false ∧
      (laneIn 4).rxState 47 = 4 ∧ ((laneIn 4).wr (inst Obj.LaneRxPolarityAuto 47) 0).rdB (inst Obj.LaneRxPolarityAuto 47) = false ∧
      ((laneIn 4).wr (inst Obj.LaneRxPolarityAuto 47) 1).rdB (inst Obj.LaneRxPolarityAuto 47) = true ∧ (laneIn 5).rateCode 47 ≠ some 0 ∧
      ((laneIn 5).wr (inst Obj.LanePortMode 47) 1).rateCode 47 = some 0 ∧ 8 ∈ ((laneIn 5).opens 0).turn.openItems ∧
      (((laneIn 5).wrs [enabled .laneAdapt 47]).opens 0).adapts 47 = true ∧ ((laneIn 5).opens 0).rxState 47 = 5 := by decide +kernel

theorem witness_LanesCarryLinksTestsAndSleep :
    (boxOf [(inst Obj.QuadPllRates 11, 0x0101)]).pllRate 11 1 ≠ 0xFF ∧ (boxOf [(inst Obj.QuadPllRates 11, 0xFFFF)]).pllRate 11 1 = 0xFF ∧
      ({} : Dev).pllLocked 11 1 = false ∧ (boxOf [(inst Obj.QuadPllLocked 11, 2)]).pllLocked 11 1 = true ∧
      portUp.on .port 47 = true ∧ portUp.lanesUp 47 = true ∧ portUp.looped 47 = false ∧
      (portUp.wr (inst Obj.PortLinkUp 47) 0).rdB (inst Obj.PortLinkUp 47) = false ∧ portUp.stopped = false ∧
      (portUp.wr (inst Obj.LanePortMode 47) 2).isSgmii 47 = true ∧ portUp.isSgmii 47 = false ∧
      (portUp.wr (inst Obj.LaneBeaconEnable 47) 0).rdB (inst Obj.LaneBeaconEnable ((portUp.wr (inst Obj.LaneBeaconEnable 47) 0).lowLane 47)) = false ∧
      (portUp.wr (inst Obj.LaneBeaconEnable 47) 1).rdB (inst Obj.LaneBeaconEnable ((portUp.wr (inst Obj.LaneBeaconEnable 47) 1).lowLane 47)) = true ∧
      ({} : Dev).on .port 47 = false ∧ (47 : Nat) ∉ portUp.line.checked ∧
      (let d := (boxOf [enabled .laneAdapt 47, (inst Obj.ModeF6LaneAdapt 47, 1)]).wrV (inst Obj.LaneHostCoeffs 47) (.oct (List.replicate 16 0))
       d.on .laneAdapt 47 = true ∧ d.rdB (inst Obj.ModeF6LaneAdapt 47) = true ∧ coeffsOk (d.rdV (inst Obj.LaneHostCoeffs 47)).bytes = true ∧
         coeffsOk ((d.wrV (inst Obj.LaneHostCoeffs 47) (.oct [])).rdV (inst Obj.LaneHostCoeffs 47)).bytes = false) ∧
      (let base := beNat (portUp.rdV Obj.MacBaseAddress).bytes
       base ≤ base + 47 ∧ base + 47 < base + 48) ∧
      (boxOf [enabled .patternTest 47, (inst Obj.PtRxPattern 47, 1)]).rd (inst Obj.PtRxPattern 47) ≠ 0 ∧
      (boxOf [enabled .patternTest 47]).on .patternTest 47 = true ∧ ({} : Dev).on .patternTest 47 = false ∧
      (boxOf [(inst Obj.PtCheckerLocked 47, 1)]).rdB (inst Obj.PtCheckerLocked 47) = true ∧ ({} : Dev).rdB (inst Obj.PtCheckerLocked 47) = false ∧
      (boxOf [(inst Obj.QuadMode 11, 3)]).quadMode 11 = 3 ∧ ({} : Dev).quadMode 11 ≠ 3 ∧
      ((boxOf [(inst Obj.LaneTxState 47, 2)]).wr (inst Obj.LaneTxSleepCmd 47) 1).rd (inst Obj.LaneTxState 47) = 2 ∧
      (boxOf [(inst Obj.LaneTxState 47, 3)]).rd (inst Obj.LaneTxState 47) = 3 ∧ (laneIn 5).rxState 47 = 5 ∧ (laneIn 6).rxState 47 = 6 := by
  decide +kernel

/-- Quad 11 is a Native Quad whose link is up, with its sets of transmit and receive lanes. -/
def native (tx rx : Nat) (x : NqSt) : Dev :=
  { boxOf [(inst Obj.QuadMode 11, 3), (inst Obj.PortLinkUp 44, 1), (inst Obj.NqActiveTxSet 11, tx), (inst Obj.NqActiveRxSet 11, rx),
      (inst Obj.NqThinEnable 11, 1), (inst Obj.NqThinHold 11, 1), (inst Obj.NqMinTxLanes 11, 1), (inst Obj.LaneRxState 47, 5)] with
    line := { ({} : LineSt) with nqs := [(11, x)] } }

theorem witness_NativeQuadsThinRetreatAndRestore :
    ({} : Dev).isNq 44 = false ∧ (native 15 15 {}).isNq 44 = true ∧ (native 15 15 {}).rdB (inst Obj.PortLinkUp 44) = true ∧
      (native 15 15 {}).looped 44 = false ∧ 2 ≤ lanesIn ((native 15 15 {}).rdN (inst Obj.NqActiveTxSet 11)) ∧ lanesIn 15 = 4 ∧
      0 * 100 ≤ (native 15 15 {}).rdN (inst Obj.NqThinLow 11) * (4 / 2) * 3125000 ∧
      ¬ 10 ^ 9 * 100 ≤ (native 15 15 {}).rdN (inst Obj.NqThinLow 11) * (4 / 2) * 3125000 ∧
      ((native 15 15 { ({} : NqSt) with txNext := some (3, false) }).nq 11).txNext = some (3, false) ∧
      ((native 15 15 { ({} : NqSt) with txNext := some (3, true) }).nq 11).txNext = some (3, true) ∧
      ((native 15 15 {}).nq 11).txNext = none ∧ ((native 15 15 {}).nq 11).widening = none ∧ (native 15 15 {}).rd Obj.ThermalState ≠ 1 ∧
      (native 15 15 {}).rdB (inst Obj.NqThinEnable 11) = true ∧ (native 15 15 {}).rdN (inst Obj.NqThinHold 11) ≤ ((native 15 15 {}).nq 11).low + 1 ∧
      (native 15 15 {}).rdN (inst Obj.NqMinTxLanes 11) ≤ 4 / 2 ∧ (15 &&& (0 % 16) : Nat) = 0 ∧ (15 &&& (8 % 16) : Nat) ≠ 0 ∧
      (15 &&& (8 % 16) : Nat) ≠ 15 ∧ (15 &&& (15 % 16) : Nat) = 15 ∧
      ((native 15 15 { ({} : NqSt) with rxNext := some 1 }).nq 11).rxNext = some 1 ∧ ((native 15 15 {}).nq 11).rxNext = none ∧
      bit ((native 15 15 {}).nq 11).good 3 = false ∧ bit ((native 15 15 { ({} : NqSt) with good := 8 }).nq 11).good 3 = true ∧
      (((native 15 15 { ({} : NqSt) with good := 8 }).setNq 11 fun n => { n with good := setBit n.good 3 false, lost := setBit n.lost 3 true }).nq 11).good = 0 ∧
      (((native 15 15 { ({} : NqSt) with good := 9 }).setNq 11 fun n => { n with good := setBit n.good 3 false, lost := setBit n.lost 3 true }).nq 11).good ≠ 0 ∧
      bit ((native 15 15 {}).rdN (inst Obj.NqActiveRxSet 11)) 3 = true ∧
      ((native 15 8 {}).rdN (inst Obj.NqActiveRxSet 11) &&& ((native 15 8 {}).nq 11).good) = 0 ∧
      ((native 15 15 { ({} : NqSt) with good := 7 }).rdN (inst Obj.NqActiveRxSet 11) &&& ((native 15 15 { ({} : NqSt) with good := 7 }).nq 11).good) ≠ 0 ∧
      bit ((native 15 15 { ({} : NqSt) with lost := 8 }).nq 11).lost 3 = true ∧ (native 15 15 {}).rxState 47 = 5 ∧
      bit ((native 15 15 {}).nq 11).lost 3 = false ∧ (native 0 15 {}).rdN (inst Obj.NqActiveTxSet 11) = 0 ∧
      ((native 12 15 { ({} : NqSt) with widening := some 15 }).nq 11).widening = some 15 ∧ (15 &&& ((3 % 16) ||| 12) : Nat) = 15 ∧
      (15 &&& ((1 % 16) ||| 12) : Nat) ≠ 15 ∧ ((native 15 15 {}).wr (inst Obj.NqThinEnable 11) 0).rdB (inst Obj.NqThinEnable 11) = false ∧
      lanesIn 12 < lanesIn (nqSet 15 3 4) ∧ ((native 15 15 {}).wr Obj.ThermalState 1).rd Obj.ThermalState = 1 := by decide +kernel

theorem witness_RedundantUnitsAreTestedAndReturned :
    ({} : Dev).unitState 3 < 2 ∧ 2 ≤ ({} : Dev).unitState 2 ∧
      (let e := (({} : Dev).recordCycle 2 0).setUnit 2 fun x => { x with corrected := (x.corrected + 0) % 2 ^ 32, uncorrected := (x.uncorrected + 1) % 2 ^ 32 }
       e.unitState 2 = 3 ∧ (1 : Nat) ≠ 0) ∧
      (let d := boxOf [(inst Obj.RedUnitState 3, 2)]
       let e (f : Nat) := (d.recordCycle 3 f).setUnit 3 fun x => { x with corrected := (x.corrected + 0) % 2 ^ 32, uncorrected := (x.uncorrected + 0) % 2 ^ 32 }
       2 ≤ d.unitState 3 ∧ (e 16).unitState 3 ≠ 3 ∧ (16 &&& (e 16).selfTestItems 3) ≠ 0 ∧ (0 &&& (e 0).selfTestItems 3) = 0) ∧
      (let d := ({} : Dev).setUnit 3 fun x => { x with returning := true }
       d.isolated 3 = true ∧ ((d.recordCycle 3 0).unit 3).passed = true ∧ ((d.recordCycle 3 1).unit 3).passed = false) ∧
      ({} : Dev).isolated 2 = false ∧ ((({} : Dev).setUnit 3 fun x => { x with held := true }).unit 3).held = true ∧ (({} : Dev).unit 3).held = false ∧
      (let d := ((boxOf [(inst Obj.RedUnitState 3, 2), (inst Obj.RedPreferred 1, 1)]).setUnit 3 fun x => { x with passed := true }).setPair 1 fun x =>
         { x with holdFrom := some 0 }
       d.available 1 = true ∧ d.rdN (inst Obj.RedPreferred 1) = d.standbyUnit 1 - 2 * 1 ∧ (d.pair 1).holdFrom ≠ none) ∧
      ({} : Dev).available 1 = false ∧ (boxOf [(inst Obj.RedUnitState 3, 1)]).unitState 3 = 1 ∧ ({} : Dev).unitState 3 ≠ 1 := by decide +kernel

/-- An image is staged: no bytes beyond its header, whose digest is that of the empty string. -/
def imageOf (version least : Nat) : List Byte :=
  [0x54, 0x54, 0x46, 0x57] ++ leBytes 4 version ++ [0, 0, 0, 0] ++ [1, 0] ++ leBytes 2 least ++ List.replicate 16 0 ++
    [0xe3, 0xb0, 0xc4, 0x42, 0x98, 0xfc, 0x1c, 0x14, 0x9a, 0xfb, 0xf4, 0xc8, 0x99, 0x6f, 0xb9, 0x24, 0x27, 0xae, 0x41, 0xe4, 0x64, 0x9b, 0x93,
      0x4c, 0xa4, 0x95, 0x99, 0x1b, 0x78, 0x52, 0xb8, 0x55] ++ List.replicate 192 0

/-- Whether it is genuine is then the signature's alone, which `Config.signatureOk` leaves open. -/
theorem genuine_of_signature (bytes : Nat → Nat → List Byte) (total : Nat)
    (h1 : ((bytes 0 256).drop 0).take 4 = [0x54, 0x54, 0x46, 0x57]) (h2 : (readImage bytes total).lengthOk = true)
    (h3 : sha256 (bytes 256 (leNat (((bytes 0 256).drop 8).take 4))) = ((bytes 0 256).drop 32).take 32) :
    (readImage bytes total).genuine = Config.signatureOk (((bytes 0 256).drop 0).take 64) (((bytes 0 256).drop 64).take 64) := by
  have h2' : (readImage bytes total).genuine = ((((bytes 0 256).drop 0).take 4 == [0x54, 0x54, 0x46, 0x57]) &&
    (readImage bytes total).lengthOk && (sha256 (bytes 256 (leNat (((bytes 0 256).drop 8).take 4))) == ((bytes 0 256).drop 32).take 32) &&
    Config.signatureOk (((bytes 0 256).drop 0).take 64) (((bytes 0 256).drop 64).take 64)) := rfl
  rw [h2', h1, h2, h3]
  simp

/-- An image is staged and being verified. -/
def verifying (version least length min : Nat) : Dev :=
  { boxOf [(Obj.FwStageLength, length), (Obj.FwMinVersion, min)] with
    fw := { ({} : FwSt) with scratch := writeBytes [] 0 (imageOf version least), verifying := true, running := { ({} : ImageSt) with handover := 1 } } }

theorem witness_FirmwareIsStagedVerifiedAndArmed :
    (boxOf [(Obj.FwStageOffset, 8388608)]).rdN Obj.FwStageOffset = 8388608 ∧ ({} : Dev).rdN Obj.FwStageOffset < 8388608 ∧
      ({} : Dev).rd Obj.FwUpdateState ≤ 2 ∧ (boxOf [(Obj.FwUpdateState, 9)]).rd Obj.FwUpdateState = 9 ∧
      (boxOf [(Obj.FwUpdateState, 7)]).rd Obj.FwUpdateState = 7 ∧ (boxOf [(Obj.FwUpdateState, 3)]).rd Obj.FwUpdateState = 3 ∧
      ({} : Dev).fw.verifying = false ∧ (verifying 5 1 256 5).fw.verifying = true ∧ (verifying 5 1 255 5).stagedImage.lengthOk = false ∧
      (verifying 5 1 256 5).stagedImage.lengthOk = true ∧ (verifying 5 1 256 5).stagedImage.image.version = 5 ∧
      (verifying 5 1 256 6).stagedImage.image.version < (verifying 5 1 256 6).rdN Obj.FwMinVersion ∧
      (verifying 5 2 256 5).fw.running.handover < (verifying 5 2 256 5).stagedImage.image.handoverMin ∧
      (verifying 5 1 256 5).stagedImage.image.handoverMin ≤ (verifying 5 1 256 5).fw.running.handover ∧
      ({ verifying 5 1 256 5 with fw := { (verifying 5 1 256 5).fw with scratch := [] } } : Dev).stagedImage.genuine = false ∧
      ((readBytes (verifying 5 1 256 5).fw.scratch 0 256).drop 0).take 4 = [0x54, 0x54, 0x46, 0x57] ∧
      sha256 [] = ((readBytes (verifying 5 1 256 5).fw.scratch 0 256).drop 32).take 32 ∧
      (let d : Dev := { boxOf [(Obj.FwUpdateState, 2), (Obj.FwUpdateAt, 12), (inst Obj.RedUnitState 3, 2)] with
         turn := armable.turn, fw := { ({} : FwSt) with staged := some {} } }
       d.fw.staged ≠ none ∧ d.rd Obj.FwUpdateState = 2 ∧ d.canArm (d.rdN Obj.FwUpdateAt) = true ∧ d.unitState (d.standbyUnit 1) = 2 ∧
         d.rd (inst Obj.RedSwitchCmd 1) ≠ 1 ∧ d.rd Obj.FwFlashState ≠ 1) ∧ ({} : Dev).fw.staged = none ∧
      (boxOf [(Obj.FwUpdateState, 5)]).rd Obj.FwUpdateState = 5 ∧ ({} : Dev).rd Obj.FwUpdateState < 1 ∧
      (boxOf [(Obj.FwUpdateState, 6)]).rd Obj.FwUpdateState = 6 ∧ (boxOf [(Obj.FwFlashState, 1)]).rd Obj.FwFlashState = 1 ∧
      ({} : Dev).rd Obj.FwUpdateState ≠ 3 ∧ ({} : Dev).rd Obj.FwFlashState ≠ 1 ∧ 2 < (boxOf [(Obj.FwUpdateState, 9)]).rd Obj.FwUpdateState ∧
      (boxOf [(Obj.FwUpdateState, 8)]).rd Obj.FwUpdateState = 8 ∧ armable.canArm ((armable.wr Obj.FwUpdateAt 11).rdN Obj.FwUpdateAt) = false ∧
      (boxOf [(inst Obj.RedSwitchCmd 1, 1)]).rd (inst Obj.RedSwitchCmd 1) = 1 := by decide +kernel

/-- What an operation answers: its result, or its status. -/
def toOpt {α : Type} : Except Nat α → Sum Nat α
  | .ok a => .inr a
  | .error e => .inl e

/-- The source of a datagram: 192.168.0.9, port 12345. -/
def peer : List Byte := List.replicate 10 0 ++ [0xFF, 0xFF, 192, 168, 0, 9, 0x30, 0x39]

/-- An MDP 2 request of session 15 without a tag. -/
def request2 (op seq count : Nat) (payload : List Byte) : List Byte :=
  [0x4D, 0x44, 2] ++ leBytes 1 op ++ [15, 0] ++ leBytes 2 count ++ leBytes 4 seq ++ leBytes 2 payload.length ++ [0, 0] ++ payload

/-- An MDP 1 request of session 15 without a tag for TurnPeriod. -/
def request1 (op seq : Nat) (payload : List Byte) : List Byte :=
  [0x4D, 1] ++ leBytes 1 op ++ [15] ++ leBytes 2 seq ++ [0x00, 0x13, 0, 0] ++ leBytes 2 payload.length ++ payload

/-- The server serves, session 15 is in a state, and a request waits. -/
def asked (state version level last : Int) (bs : List Byte) : Dev :=
  let d := (boxOf [enabled .mdpSession 15, (inst Obj.MdpSessionState 15, state), (inst Obj.MdpSessionVersion 15, version),
    (inst Obj.MdpSessionLevel 15, level), (inst Obj.MdpSessionLastSeq 15, last)]).wrV (inst Obj.MdpSessionPeer 15) (.oct peer)
  { d with dict := { ({} : DictSt) with ready := true, queue := [.datagram { port := 48, mac := List.replicate 6 9, peer := peer, local_ := List.replicate 16 0, bytes := bs }] } }

/-- The request at the head of the queue. -/
def asks (d : Dev) : MdpReq × Datagram :=
  match d.dict.queue with
  | .datagram g :: _ => ((parseMdp g.bytes).getD ⟨false, 0, 0, 0, 0, 0, 0, 0, [], none, []⟩, g)
  | _ => (⟨false, 0, 0, 0, 0, 0, 0, 0, [], none, []⟩, ⟨0, [], [], [], []⟩)

/-- The request waits for a server that serves it in an open session, next in sequence. -/
def inOrder (d : Dev) : Bool :=
  let r := (asks d).1
  let e : Dev := { d with dict := { d.dict with queue := [] } }
  parseMdp (asks d).2.bytes == some r && d.serving && e.mdpHolds (asks d).2 r 2 && (e.session r.slot).tagOk r && r.seq == r.next (e.lastSeq r.slot)

theorem witness_DatagramsOpenServeAndCloseSessions :
    (let d := asked 0 2 0 0 (request2 1 0 0 (List.replicate 17 0))
     d.serving = true ∧ parseMdp (asks d).2.bytes = some (asks d).1 ∧ (asks d).1.opcode = 1 ∧ (asks d).1.payload.length = 17 ∧
       peer.take 16 ∉ d.dict.lockouts ∧ leNat ((asks d).1.payload.take 1) = 0 ∧ d.rdB Obj.MdpL0Open = true ∧
       (d.counted 2 0x08 0 1).freeSlotOf = some 15 ∧ d.mdpHolds (asks d).2 (asks d).1 2 = false ∧ (asks d).1.carried = true ∧
       d.slotOff (asks d).1 = false ∧ d.datagramsWaiting < 64 ∧
       64 ≤ ({ d with dict := { d.dict with queue := List.replicate 64 (.datagram (asks d).2) } } : Dev).datagramsWaiting) ∧
      (let d := (asked 2 2 0 0 (request2 5 1 0 [])).setSession 15 fun y => { y with recover := true }
       d.mdpHolds (asks d).2 (asks d).1 2 = true ∧ (d.session 15).tagOk (asks d).1 = true ∧ (d.session 15).recover = true ∧
         d.slotOff (asks d).1 = false ∧ (d.wr (BlockId.mk .mdpSession 15).state 0).slotOff (asks d).1 = true) ∧
      (let d := asked 2 2 0 0 (request2 0x7F 1 0 [])
       (asks d).1.carried = false ∧ d.slotOff (asks d).1 = false) ∧
      (asks (asked 0 2 0 0 (request2 1 0 0 (4 :: List.replicate 16 0)))).1.payload.length = 17 ∧ 3 < 4 ∧
      (({ asked 0 2 0 0 [] with dict := { ({} : DictSt) with lockouts := [peer.take 16] } } : Dev).dict.lockouts = [peer.take 16]) ∧
      (asked 2 2 0 0 []).freeSlotOf = none ∧ (asked 0 2 0 0 []).rdB (inst Obj.MdpKeySet 2) = false ∧
      ((asked 0 2 0 0 []).wr (inst Obj.MdpKeySet 2) 1).rdB (inst Obj.MdpKeySet 2) = true ∧
      (let d := asked 1 2 3 0 (request2 3 0 0 (List.replicate 32 0))
       (asks d).1.opcode = 3 ∧ parseMdp (asks d).2.bytes = some (asks d).1 ∧ (d.counted 2 0x08 0 1).mdpHolds (asks d).2 (asks d).1 1 = true ∧
         (asked 0 2 3 0 []).mdpHolds (asks d).2 (asks d).1 1 = false) ∧
      (asked 1 2 0 0 []).slotState 15 = 1 ∧ (asked 2 2 0 0 []).slotState 15 = 2 ∧ ({} : Dev).slotState 15 ≠ 1 ∧ ({} : Dev).dict.queue = [] ∧
      ({} : Dev).serverUp = false ∧ (asked 2 2 0 0 []).serverUp = true := by decide +kernel

/-- A proof that is right, and one that is not. -/
theorem witness_DatagramsOpenServeAndCloseSessions_proofs :
    let d := asked 1 2 3 0 []
    let y := d.session 15
    proofOf (d.levelKey 3) 0x50 15 3 y ≠ List.replicate 32 0 ∧
      (request2 3 0 0 (proofOf (d.levelKey 3) 0x50 15 3 y)).length = 16 + 32 := by decide +kernel

theorem witness_DatagramsOpenServeAndCloseSessions_inOrder :
    inOrder (asked 2 2 3 (2 ^ 32 - 1) (request2 0x10 1 1 [0x00, 0x13, 0, 0, 0, 0, 0, 0])) = true ∧
      inOrder (asked 2 2 3 0 (request2 0x11 1 1 [0x22, 0x23, 0, 0, 1, 0, 0, 0, 7, 0, 0, 0])) = true ∧
      inOrder (asked 2 2 3 0 (request2 0x12 1 1 [0x00, 0x13, 0, 0, 0, 0, 0, 0])) = true ∧
      inOrder (asked 2 2 3 0 (request2 0x20 1 0 [0x00, 0x13, 0, 0, 0, 0, 0, 0])) = true ∧
      inOrder (asked 2 2 3 0 (request2 0x21 1 0 [0, 0, 0, 0, 4, 0, 0, 0])) = true ∧
      inOrder (asked 2 2 3 0 (request2 0x22 1 0 [0x22, 0x23, 0, 0, 0, 0, 0, 0, 1, 0, 0, 0])) = true ∧
      inOrder (asked 2 2 3 0 (request2 0x23 1 0 [0, 0, 0, 0])) = true ∧ inOrder (asked 2 2 3 0 (request2 0x24 1 0 [])) = true ∧
      inOrder (asked 2 2 3 0 (request2 4 1 0 [])) = true ∧ inOrder (asked 2 2 3 0 (request2 5 1 0 [])) = true ∧
      inOrder (asked 2 2 3 0 (request2 6 1 0 [])) = true ∧ inOrder (asked 2 2 3 0 (request2 0x20 1 0 [0])) = true ∧
      inOrder (asked 2 2 3 0 (request2 0x21 1 0 [0])) = true ∧ inOrder (asked 2 2 3 0 (request2 0x22 1 0 [0])) = true ∧
      inOrder (asked 2 2 3 0 (request2 0x23 1 0 [0, 0, 0])) = true ∧ inOrder (asked 2 1 3 0 (request1 0x11 1 (List.replicate 241 0))) = true ∧ inOrder (asked 2 1 3 (2 ^ 16 - 1) (request1 0x10 1 [])) = true ∧
      inOrder (asked 2 1 3 0 (request1 0x11 1 [0, 0, 0, 0])) = true ∧ inOrder (asked 2 1 3 0 (request1 0x20 1 [])) = true := by decide +kernel

theorem witness_DatagramsOpenServeAndCloseSessions_results :
    (let d := asked 2 1 3 0 (request1 0x10 1 [])
     toOpt ((d.readObj 3 240 (asks d).1.key).2) = .inr [0x24, 0xF4, 0, 0] ∧ toOpt ((d.readObj 3 240 (objKey 0xFFFF 0)).2) ≠ .inr []) ∧
      (let d := asked 2 2 3 0 (request2 0x21 1 0 [0, 0, 0, 0, 4, 0, 0, 0])
       toOpt (d.segRead (some (.read [1, 2, 3, 4])) 0 4 1024) = .inr [1, 2, 3, 4] ∧ toOpt ((d.segReadInit 3 Obj.TurnPeriod).2) = .inr (.read [0x24, 0xF4, 0, 0], 4) ∧
         d.session 15 = {} ∧ (d.session 15).stored.find? (fun y => y.1 == 9) = none) ∧
      toOpt (segWriteInit 3 false Obj.Priority1 1) = .inr (.write Obj.Priority1 1 []) ∧
      (let d := (asked 2 2 3 5 (request2 0x24 5 0 [])).setSession 15 fun y => { y with stored := [(5, [1])], transfer := some (.read []) }
       (asks d).1.seq ≠ (asks d).1.next (d.lastSeq 15) ∧ (d.session 15).stored.find? (fun y => y.1 == 5) = some (5, [1]) ∧
         (d.session 15).transfer ≠ none) ∧
      (let d := (asked 2 2 3 0 (request2 0x24 1 0 [])).setSession 15 fun y => { y with secure := true }
       (d.session 15).tagOk (asks d).1 = false ∧ d.mdpHolds (asks d).2 (asks d).1 2 = true) := by decide +kernel

/-- A UDP datagram to the server in a frame on HP. -/
def datagramFrame (pay : List Byte) : List Byte :=
  beBytes 6 (beNat (({} : Dev).rdV Obj.MacBaseAddress).bytes) ++ [2, 0, 0, 0, 0, 9] ++ [0x08, 0x00] ++ [0x45, 0] ++ beBytes 2 (28 + pay.length) ++
    [0, 0, 0, 0, 64, 17, 0, 0, 192, 168, 0, 9, 10, 0, 0, 1] ++ [0x30, 0x39, 0x7C, 0x00] ++ beBytes 2 (8 + pay.length) ++ [0, 0] ++ pay

/-- The server is up and takes datagrams on HP. -/
def listening : Dev :=
  let d := ((boxOf [(Obj.MdpEnable, 1), (Obj.MdpPortMask, 2 ^ 48), (Obj.MdpVlan, 1), (inst Obj.PortPvid 48, 1)]).wrV
    Obj.MdpIpv4Address (.oct [10, 0, 0, 1])).wrV Obj.MacBaseAddress (.oct [0, 0, 0, 0, 0, 0])
  { d with dict := { ({} : DictSt) with ready := true } }

theorem witness_DatagramsOpenServeAndCloseSessions_frames :
    (let bs := datagramFrame (request2 5 1 0 [])
     let x := listening.parse 48 bs
     (x.ip.isSome = true) ∧ listening.mdpTaken 48 (listening.classVid 48 x).1 x = some true ∧
       (x.ip.bind fun i => udpPayload bs i) = some (request2 5 1 0 []) ∧ (x.ip.bind fun i => i.ports) = some ([0x30, 0x39], [0x7C, 0]) ∧
       parseMdp (request2 5 1 0 []) ≠ none ∧ parseMdp [] = none) ∧
      (let bs : List Byte := List.replicate 6 0xFF ++ [2, 0, 0, 0, 0, 9] ++ [0x08, 0x06] ++ [0, 1, 8, 0, 6, 4, 0, 1, 2, 0, 0, 0, 0, 9, 192, 168, 0, 9] ++
         List.replicate 6 0 ++ [10, 0, 0, 1]
       let x := listening.parse 48 bs
       listening.serverUp = true ∧ listening.mdpPortOk 48 (listening.classVid 48 x).1 = true ∧ x.ethertype = 0x0806 ∧ be bs (x.at_ + 8) 2 = 1 ∧
         slice bs (x.at_ + 26) 4 = some (listening.rdV Obj.MdpIpv4Address).bytes ∧ (listening.rdV Obj.MdpIpv4Address).bytes ≠ List.replicate 4 0) ∧
      (let bs : List Byte := [0x33, 0x33, 0xFF, 0, 0, 0] ++ [2, 0, 0, 0, 0, 9] ++ [0x86, 0xDD] ++ [0x60, 0, 0, 0, 0, 24, 58, 255] ++
         List.replicate 16 1 ++ List.replicate 16 2 ++ [135, 0, 0, 0, 0, 0, 0, 0] ++ listening.linkLocalIp
       let x := listening.parse 48 bs
       (x.ip.map fun i => (i.v6, i.proto, be bs i.l4 1)) = some (true, 58, 135) ∧
         (x.ip.bind fun i => slice bs (i.l4 + 8) 16) = some listening.linkLocalIp ∧ listening.linkLocalIp.length = 16) := by decide +kernel

/-- The server serves and an operation of mailbox 3 waits. -/
def boxAsked (b : MailboxSt) : Dev := { ({} : Dev) with dict := { ({} : DictSt) with ready := true, queue := [.mailbox 3], boxes := [(3, b)] } }

/-- A mailbox that names an object. -/
def boxFor (op k len : Nat) : MailboxSt := { ({} : MailboxSt) with op := op, index := k / 256, subindex := k % 256, length := len, total := len, busy := true }

theorem witness_MailboxesAndTheRegisterMapServeTheHost :
    let d := boxAsked (boxFor 1 Obj.TurnPeriod 4)
     let e := ({ d with dict := { d.dict with queue := [] } } : Dev).counted 2 0x08 0 1
     d.serving = true ∧ (d.box 3).done = none ∧ (d.box 3).op = 1 ∧ toOpt ((e.readObj 3 64 (d.box 3).key).2) = .inr [0x24, 0xF4, 0, 0] ∧
       toOpt ((e.readObj 3 64 (boxFor 1 0xFFFF00 0).key).2) = .inl stNoObject ∧ 64 < (boxFor 2 Obj.Priority1 65).length ∧
       (boxFor 2 Obj.Priority1 64).length ≤ 64 ∧ (match objInfo (boxFor 3 Obj.Priority1 0).key with | .ok _ => true | .error _ => false) = true ∧
       (match objInfo (boxFor 3 0xFFFF00 0).key with | .ok _ => false | .error e => e == stNoObject) = true ∧
       toOpt ((e.segReadInit 3 Obj.TurnPeriod).2) = .inr (.read [0x24, 0xF4, 0, 0], 4) ∧ toOpt ((e.segReadInit 3 0xFFFF00).2) = .inl stNoObject ∧
       toOpt (e.segRead (some (.read [1])) 0 1 64) = .inr [1] ∧ toOpt (e.segRead none 0 1 64) = .inl stSegment ∧
       toOpt (segWriteInit 3 true Obj.Priority1 1) = .inr (.write Obj.Priority1 1 []) ∧ toOpt (segWriteInit 3 true Obj.Priority1 2) = .inl stLength := by decide +kernel

theorem witness_MailboxesAndTheRegisterMapServeTheHost_boxes :
      (boxFor 8 0 0).op = 8 ∧ ({} : Dev).dict.queue = [] ∧ ({} : Dev).serving = false ∧ 1 ≤ (boxFor 1 0 0).op ∧
      (let d := boxAsked (boxFor 9 0 0)
       ¬(1 ≤ (d.box 3).op ∧ (d.box 3).op ≤ 8) ∧ d.dict.queue = [.mailbox 3] ∧ (d.box 3).done = none ∧ d.serving = true) ∧
      ({ boxFor 8 0 0 with done := some (0, [], 0, 0), notify := true } : MailboxSt).done = some (0, [], 0, 0) ∧
      (boxFor 7 0 65).length = 65 ∧ (boxFor 7 0 64).length ≤ 64 := by decide +kernel

/-- The link and the reset are over, the fixed synth is LOCKED and the dictionary server serves over both maps. -/
def mapped : Dev :=
  { (boxAsked {}).wrs [(Obj.DirectMapEnable, 1), (Obj.BenigWindowEnable, 1), (Obj.FixedSynthState, 1)] with
    boot := { ({} : BootSt) with released := true, pcie := true } }

/-- A command byte of SPI: read or write, width and count of words. -/
def spiCmd (read : Bool) (width count : Nat) : Byte := BitVec.ofNat 8 (128 * ofBool read + 32 * width + (count - 1))

theorem witness_MailboxesAndTheRegisterMapServeTheHost_accesses :
    ({} : Dev).boot.pcie = false ∧ mapped.boot.pcie = true ∧ misaligned 2 2 = true ∧ misaligned 2 0x00C = false ∧ misaligned 3 4 = true ∧
      ({} : Dev).boot.released = false ∧ mapped.boot.released = true ∧ [spiCmd true 2 1, 0, 0].length < 4 ∧ mapped.awaitsSynth = false ∧
      (mapped.wr Obj.FixedSynthState 0).awaitsSynth = true ∧
      (let frame (sdi : List Byte) := (spiFrame sdi).getD ⟨false, 0, 0, 0, []⟩
       let whole := frame ([spiCmd false 2 1, 0, 0, 0x0C] ++ [1, 2, 3, 4])
       let cut := frame ([spiCmd false 2 2, 0, 0, 0x0C] ++ [1, 2, 3, 4, 5])
       let odd := frame ([spiCmd true 2 1, 0, 0, 0x0E] ++ List.replicate 5 0)
       whole.bad 0 = false ∧ misaligned whole.width whole.addr = false ∧ whole.cut 0 = false ∧ cut.bad 0 = false ∧ cut.cut 0 = true ∧
         (Dev.performParts ⟨true, true, 2, 0x0C⟩ (cut.parts 0) { mapped with bus := {} }).bus.error = false ∧
         odd.bad 0 = false ∧ misaligned odd.width odd.addr = true ∧ (frame ([spiCmd true 3 1, 0, 0, 0] ++ List.replicate 9 0)).bad 0 = true) := by
  decide +kernel

theorem witness_MailboxesAndTheRegisterMapServeTheHost_parts :
    (let a (write : Bool) (width : Nat) : Access := ⟨false, write, width, 0⟩
     let at_ := 0x100000 + (0x2322 - 0x1000) * 256
     mapped.partError (a false 2) 0x300 = some 1 ∧ mapped.region 0x300 = none ∧ mapped.partError (a true 1) 0x00C = some 2 ∧
       mapped.region 0x00C = some .identity ∧ mapped.partError (a true 2) 0x00C = none ∧ mapped.partError (a false 2) 0x00C = none ∧
       mapped.region at_ = some .direct ∧ (directObj at_).map (·.1) = some Obj.Priority1 ∧ mapped.region 0x5FFFFC = some .direct ∧
       directObj 0x5FFFFC = none ∧ mapped.dict.ready = true ∧ ({} : Dev).dict.ready = false ∧ mapped.region 0x1100 = some (.boxCtrl 0) ∧
       mapped.region 0x10FC = some (.boxData 3) ∧ (mapped.box 0).busy = false ∧ ((boxAsked (boxFor 1 0 0)).box 3).busy = true ∧
       mapped.region 0x80FFFC = some .window ∧ mapped.region 0x308C = some (.perf 0 0x8C) ∧ mapped.region 0x180 = some .bus ∧
       mapped.region 0x200 = some .rings ∧ mapped.region 0x22FC = some .events ∧ 0x22FC = 0x2200 + 4 * (63 : Fin 64).val ∧
       (a true 2).width = 2 ∧ bits 7 0 32 = 7) ∧
      (let s := mapped.counted 2 0x08 0 1
       let at_ := 0x100000 + (0x2322 - 0x1000) * 256
       mapped.serverUp = true ∧ ({} : Dev).serverUp = false ∧
         ((directObj at_).bind fun x => wordValue x.2.ty 7) = some [7] ∧ ((directObj at_).bind fun x => wordValue x.2.ty 256) = none ∧
         toOpt (s.checkWrite 3 true Obj.Priority1 [7]) = .inr (.num 7) ∧
         toOpt ((s.wr (BlockId.mk .ptpEngine 6).state 2).checkWrite 3 true (inst Obj.PtpStepMode 6) [1]) = .inl stBlockEnabled ∧
         toOpt (s.checkWrite 3 true Obj.TurnNumber [1]) ≠ .inl stBlockEnabled ∧
         s.checkWindow (objKey 0x2322 0) [7] = some (.num 7) ∧ groupMembers (objKey 0x2322 0) = [] ∧ s.checkWindow Obj.TurnNumber [7] = none) ∧
      ({} : Dev).rdN (inst Obj.EventStatus 0) % 4096 = 0 ∧ ({} : Dev).rdN (inst Obj.EventStatus 0) % 4096 ≠ 4095 % 4096 ∧
      ((({} : Dev).setRing 7 fun g => { g with active := true }).ring 7).active = true := by decide +kernel

/-- The last word of the window is bound to an object where the dictionary sheet, which `Config.benigBinding` stands for, says so; to none where not. -/
theorem witness_MailboxesAndTheRegisterMapServeTheHost_window :
    (Config.benigBinding (mapped.rdN Obj.BenigWindowVersion) 16383 = some (objKey 0x2322 0) →
      (mapped.windowObj 0x80FFFC).map (·.1) = some (objKey 0x2322 0)) ∧
      (Config.benigBinding (mapped.rdN Obj.BenigWindowVersion) 16383 = none → mapped.windowObj 0x80FFFC = none) := by
  have h : (narrowObj (objKey 0x2322 0)).map (·.1) = some (objKey 0x2322 0) := by decide +kernel
  exact ⟨fun hb => by simp only [Dev.windowObj, Nat.reduceSub, Nat.reduceDiv, hb, Option.bind_some, h], fun hb => by
    simp only [Dev.windowObj, Nat.reduceSub, Nat.reduceDiv, hb, Option.bind_none]⟩

theorem witness_RingsAndCountersFollowTheirCommands :
    (({} : Dev).ring 4).bufUnits ≠ 0 ∧ ((({} : Dev).setRing 7 fun g => { g with bufUnits := 0 }).ring 7).bufUnits = 0 ∧
      (({} : Dev).ring 0).fetched = [] ∧ ((({} : Dev).setRing 0 fun g => { g with enable := false }).ringFrames 0) = [] ∧
      ((({} : Dev).setRing 0 fun g => { g with enable := true }).ring 0).enable = true ∧ (({} : Dev).ring 7).enable = false ∧
      (({} : Dev).ring 7).delivering = none ∧ 4 ≤ (7 : Fin 8).val ∧
      ((({} : Dev).setRing 7 fun g => { g with delivering := some (copyOf (.frame 0) false, 0) }).ring 7).delivering = some (copyOf (.frame 0) false, 0) ∧ 4096 % 4096 = (({} : Dev).ring 7).seq ∧ 4097 % 4096 ≠ (({} : Dev).ring 7).seq ∧
      ((({} : Dev).setRing 7 fun g => { g with coalescing := true }).ring 7).coalescing = true ∧ (({} : Dev).ring 7).coalescing = false ∧
      (let g := ((({} : Dev).setRing 3 fun g => { g with enable := true, active := true, tail := 1 }).until 0).ring 3
       g.enable = true ∧ g.active = true ∧ g.halted = false ∧ g.waiting ≠ 0) ∧ ((({} : Dev).until 0).ring 3).waiting = 0 ∧
      (let e := (boxOf [enabled .port 48]).until 0
       e.on .port 48 = true) ∧ (({} : Dev).until 0).on .port 48 = false ∧
      (let x : TxDesc := ⟨true, false, false, false, false, false, 0, 47, 0, 0⟩
       ¬(47 < x.port ∨ (x.direct = false ∧ (x.oneStep = true ∨ x.stamp = true ∨ x.launch = true))) ∧ 47 < ({ x with port := 48 } : TxDesc).port ∧
         9212 < 9213) ∧ 6 ∈ (({} : Dev).opens 0).turn.openItems ∧ (({} : Dev).opens 0).perf.due = [] ∧ 6 ∉ ({} : Dev).turn.openItems ∧
      (let d : Dev := { ({} : Dev).opens 0 with perf := { ({} : PerfSt) with due := [(2, [], [])], staged := [23] } }
       6 ∈ d.turn.openItems ∧ d.perf.due ≠ [] ∧ 8 * (2 : Fin 3).val + (7 : Fin 8).val ∈ d.perf.staged) ∧
      8 * (2 : Fin 3).val + (7 : Fin 8).val ∉ ({} : Dev).perf.staged ∧
      (let d : Dev := { boxOf [(inst Obj.ModeF5CounterDump 2, 1)] with perf := { ({} : PerfSt) with read := [2] } }
       2 ∈ ((d.perfCapture 2 16).1.wrV (inst Obj.PerfBankSnapshot 2) (.oct (d.perfCapture 2 16).2)).perf.read) ∧
      (let d := boxOf [(inst Obj.ModeF5CounterDump 2, 1)]
       d.rdB (inst Obj.ModeF5CounterDump 2) = true ∧ 2 ∉ ((d.perfCapture 2 16).1.wrV (inst Obj.PerfBankSnapshot 2) (.oct (d.perfCapture 2 16).2)).perf.read) ∧
      ({} : Dev).rdB (inst Obj.ModeF5CounterDump 2) = false ∧ bit (numAt ({} : Dev).perf.cfg 23) 16 = false ∧
      (let d : Dev := { ({} : Dev) with perf := { ({} : PerfSt) with cfg := [(23, 2 ^ 17 + 2 ^ 16)] } }
       bit (numAt d.perf.cfg 23) 16 = true ∧ bit (numAt d.perf.cfg 23) 17 = true ∧ d.perf.samples.length < 4096 ∧
         (1 : Int) < (d.wr Obj.PerfSampleWatermark 2).rd Obj.PerfSampleWatermark ∧ (d.wr Obj.PerfSampleWatermark 1).rd Obj.PerfSampleWatermark ≤ 1) := by decide +kernel

theorem witness_RingsAndCountersFollowTheirCommands_full :
    ({ ({} : PerfSt) with samples := List.replicate 4096 [] } : PerfSt).samples.length = 4096 := List.length_replicate ..

/-- Slot 7 runs a spool program. -/
def spooling (faults : Nat) : Dev :=
  { boxOf [(inst Obj.PerfUserEnable 2, 1)] with spool := { ({} : SpoolSt) with run := some { slot := 7, limit := 100 }, faulted := [(7, faults)] } }

theorem witness_SpoolRunsCallTheDevice :
    12 ∉ ({} : Dev).turn.openItems ∧ 12 ∈ (({} : Dev).opens 0).turn.openItems ∧ (({} : Dev).opens 0).spool.run = none ∧
      3 ∉ (({} : Dev).opens 0).unfinished ∧ 3 ∈ steering.unfinished ∧ ({} : Dev).spool.run = none ∧
      3 ≤ 768 / 256 ∧ 8 ≤ 8 % 256 ∧
      (({} : Dev).opens 0).on .spool 0 = false ∧ ((boxOf [enabled .spool 0]).opens 0).on .spool 0 = true ∧
      (spooling 0).spool.run = some { slot := 7, limit := 100 } ∧
      (let e (f : Nat) := (((((spooling f).spoolStores []).inc (inst Obj.SpoolSlotFaultCount 7)).wr (inst Obj.SpoolSlotFaultCause 7) (4 : Nat)).wr
         (inst Obj.SpoolSlotFaultPc 7) (0 % 2 ^ 32 : Nat)).spoolEnds { slot := 7, limit := 100 } 5 2
       numAt (e 0).spool.faulted 7 < (e 0).rdN Obj.SpoolFaultLimit ∧ (e 9).rdN Obj.SpoolFaultLimit ≤ numAt (e 9).spool.faulted 7) ∧
      bufferOk 262128 16 = true ∧ bufferOk 262132 16 = false ∧ bufferOk 2 16 = false ∧ 64 < 65 ∧ bufferOk (262144 - 68) (4 + 64) = true ∧
      ((spooling 0).spool.requests.filter fun y => y.slot == 7).length < 4 ∧
      (let x : SpoolReq := { slot := 7, key := 0, buffer := 0, max := 0, value := none }
       4 ≤ (([x, x, x, x].filter fun y => y.slot == 7).length)) ∧
      (spooling 0).rdB (inst Obj.PerfUserEnable 2) = true ∧ ({} : Dev).rdB (inst Obj.PerfUserEnable 2) = false ∧ bufferOk (262144 - 8) 8 = true ∧
      56 < 57 ∧ bufferOk (262144 - 56) 56 = true ∧ (spooling 0).spool.log.length < 1024 := by decide +kernel

theorem witness_SpoolRunsCallTheDevice_full :
    1024 ≤ ({ ({} : SpoolSt) with log := List.replicate 1024 [] } : SpoolSt).log.length := by rw [List.length_replicate]

/-- The reset has ended, the fixed synth is LOCKED and the device has a fault phase. -/
def released (phase : Int) : Dev :=
  { boxOf [(Obj.FixedSynthState, 1), (Obj.DeviceFaultPhase, phase)] with boot := { ({} : BootSt) with released := true, held := [7] } }

theorem witness_ResetsFaultsAndTheEnvironment :
    ({} : Dev).boot.released = false ∧ (released 0).boot.released = true ∧ (released 0).rd Obj.FixedSynthState = 1 ∧
      bit ((released 0).rdN Obj.BootStraps) 2 = false ∧ bit (((released 0).wr Obj.BootStraps 4).rdN Obj.BootStraps) 2 = true ∧
      ({} : Dev).rd Obj.FixedSynthState ≠ 1 ∧ (released 0).boot.loaded = false ∧ (released 0).boot.refused = false ∧
      bits ((released 0).rdN Obj.BootStraps) 0 2 = 0 ∧ (released 0).stopped = false ∧ (released 1).stopped = true ∧
      ({ released 0 with boot := { ({} : BootSt) with loaded := true } } : Dev).dict.ready = false ∧ ({} : Dev).dict.ready = false ∧
      listening.dict.ready = true ∧ 1 ≤ (9 : Fin 10).val ∧ (released 1).rd Obj.DeviceFaultPhase = 1 ∧
      (∀ c ∈ (released 1).boot.held, (released 1).conditionHolds c = true) ∧
      (((released 1).wr (inst Obj.SupplyState 7) 2).conditionHolds 7 = false) ∧ (released 3).rd Obj.DeviceFaultPhase = 3 ∧
      ({} : Dev).boot.tempSeen = false ∧ ({ ({} : BootSt) with refused := true } : BootSt).refused = true ∧
      bits ((boxOf [(Obj.BootStraps, 1)]).rdN Obj.BootStraps) 0 2 = 1 ∧ bits ((boxOf [(Obj.BootStraps, 2)]).rdN Obj.BootStraps) 0 2 = 2 ∧
      (let d : Dev := {}
       let e := (((d.wr (inst Obj.DieTemperature 0) 0).wr (inst Obj.DieTemperature 1) 0).wr (inst Obj.DieTemperature 2) 0).wr (inst Obj.DieTemperature 3) 0
       let f := ({ e.wr Obj.DieTemperaturePeak 0 with boot := { e.boot with tempSeen := true } } : Dev).calTemps
       f.rd Obj.ThermalState = 0 ∧ 0 < f.rd Obj.ThermalWarnLimit) ∧
      (let sampled (st t : Int) : Dev :=
         let e := (boxOf [(Obj.ThermalState, st)]).wrs ((List.replicate 4 t).zipIdx.map fun x => (inst Obj.DieTemperature x.2, x.1))
         ({ e.wr Obj.DieTemperaturePeak t with boot := { e.boot with tempSeen := true } } : Dev).calTemps
       let warn := (sampled 0 1250).rd Obj.ThermalWarnLimit
       (sampled 0 1250).rd Obj.ThermalState = 0 ∧ warn ≤ 1250 ∧ (sampled 1 0).rd Obj.ThermalState = 1 ∧ 0 ≤ warn - 50 ∧
         (sampled 1 (warn - 49)).rd Obj.ThermalState = 1 ∧ warn - 50 < warn - 49 ∧ (sampled 2 949).rd Obj.ThermalState = 2 ∧
         (sampled 2 950).rd Obj.ThermalState ≠ 1) ∧
      (let f (mv : List Nat) (l : Nat) := ({} : Dev).forEach (fun r f => railSample (mv.getD r 0 % 65536) (bit l r) r f) (List.range 8)
       let fails (g : Dev) : Bool := (List.range 8).any fun r => ({} : Dev).rd (inst Obj.SupplyState r) != 2 && g.rd (inst Obj.SupplyState r) == 2
       fails (f (List.replicate 8 0) 255) = true ∧
         fails (f ((List.range 8).map fun r => ({} : Dev).rdN (inst Obj.SupplyVoltage r)) 0) = false) ∧
      (let d := boxOf [enabled .refIn 3, (inst Obj.RefInSwapCorrect 3, 1)]
       pinKey 0 3 = some (inst Obj.RefInPinStatus 3) ∧ pinKey 0 4 = none ∧ pinStatusOk 0 4 = true ∧ d.rd (inst Obj.RefInPinStatus 3) ≠ 4 ∧
         d.rdB (inst Obj.RefInSwapCorrect 3) = true ∧ d.on .refIn 3 = true ∧ pinStatusOk 0 1 = true ∧ pinStatusOk 0 6 = false ∧
         limitedOut 3 15 = some 23 ∧ (pinKey 3 15).isSome = true ∧ pinStatusOk 3 2 = true ∧ limitedOut 2 7 = some 7) ∧
      ({ ({} : BootSt) with limited := [23] } : BootSt).limited = [23] ∧
      (3 : Fin 16).val < 4 ∧ ({} : Dev).rd (inst Obj.RefInPinStatus 3) ≠ 1 ∧ 4 ≤ (4 : Fin 16).val ∧ (23 : Nat) ∉ ({} : Dev).boot.limited ∧
      ({ ({} : BootSt) with limited := [7] } : BootSt).limited = [7] := by decide +kernel

theorem witness_ResetsFaultsAndTheEnvironment_images :
    (let x := imageOf 5 1
     (readImage (fun o n => (x.drop o).take n) 8388608).lengthOk = true ∧ (readImage (fun o n => (x.drop o).take n) 8388608).image.version = 5 ∧
       (x.drop 256).take 0 = [] ∧ sha256 [] = ((x.take 256).drop 32).take 32 ∧ (x.take 256).take 4 = [0x54, 0x54, 0x46, 0x57]) ∧
      (released 0).rdN Obj.FwMinVersion ≤ 5 ∧ (bootChoice none none).2 = 0 := by decide +kernel

/-! ## Single commands and operations against the spec's worked examples -/

/-- Seconds with nine decimals, in 2^-16 ns. -/
def atNs (ns : Int) : Int := ns * nsT

/-- The worked example of chapter 02: arming for Turn 691,300,000 closes when Turn 691,299,999 starts. -/
theorem test_arming_closes :
    ({ ({} : Dev) with turn := { ({} : TurnSt) with last := some 691299998 } } : Dev).canArm 691300000 = true ∧
      ({ ({} : Dev) with turn := { ({} : TurnSt) with last := some 691299999 } } : Dev).canArm 691300000 = false := by decide +kernel

/-- The worked example of chapter 02: the boundary before and after the change to 100 us. -/
theorem test_change_of_period :
    ({} : Dev).boundaryTime 691300000 = atNs 86412500000000 ∧
      boundaryOf 50000 (atNs 86412500000000) 691300000 691300001 = atNs 86412500100000 ∧
      boundaryOf 50000 (atNs 86412500000000) 691300000 691305000 = atNs 86413000000000 := by decide +kernel

/-- The worked example of chapter 03: the first Turn after the initial step. -/
theorem test_first_turn_after_a_step :
    ({} : Dev).boundaryTime 100002 = atNs 12500250000 ∧ firstAtOf 62500 0 0 (atNs 1734520427550373456) = 13876163420403 ∧
      ({} : Dev).boundaryTime 13876163420403 = atNs 1734520427550375000 := by decide +kernel

/-- The worked example of chapter 07: bits 0 and 11 of the mask are CLKOUT0, on AL0, and PULSE3, on AL2. -/
theorem test_realign_mask : 0x801 = 2 ^ 0 + 2 ^ (8 + 3) ∧ lineOf 0 = 0 ∧ lineOf (8 + 3) = 2 ∧ lineOf (8 + 8) = 3 ∧ lineOf 4 = 1 := by decide

/-- The worked example of chapter 09, with its picoseconds as units of 2^-16 ns: e_r 214 and e_t 158. -/
theorem test_port_errors :
    let r : PortRun := portRun
    let d := (calibrating 0).wrs [(Obj.CalPortPhase, 3), (Obj.CalFibreDelayOut, 24512), (Obj.CalFibreDelayIn, 24506)]
    let d := (d.setRefIn 1 fun g => { g with calPulses := some [0, secT, 2 * secT] }).setLink 47 fun k =>
      { k with cal := some { syncs := [(secT, 24720, 0)], rts := [49390] } }
    let e := after .calMeasuringPhaseComplete { d with cal := { ({} : CalSt) with port := some r } }
    e.rd Obj.CalPortErrRx = 214 ∧ e.rd Obj.CalPortErrTx = 158 := by decide +kernel

/-- The example of R369 and R366: 6 cells for queue 6 of P3, which holds 3,000, with 70,000 and with 81,500 cells shared. -/
theorem test_admission :
    let d (used : Int) : Dev := { boxOf [(queueObj Obj.QueueFill 3 6, 3000)] with buf := { ({} : BufSt) with fastSharedUsed := used } }
    (d 70000).fastSharedFree = 13968 ∧ (d 81500).fastSharedFree = 2468 ∧
      toOpt ((d 70000).admitCopy 3 6 false 6 none) = .inr (.fastShared, 0, 0) ∧ toOpt ((d 81500).admitCopy 3 6 false 6 none) = .inl 2 := by decide +kernel

/-- The worked example of chapter 13: 100 quiet windows of a 4-lane set name {L12, L13}; 24 Gb/s is not quiet for two lanes. -/
theorem test_thinning :
    let d (set : Int) (low : Nat) : Dev := { boxOf [(inst Obj.QuadMode 3, 3), (inst Obj.PortLinkUp 12, 1), (inst Obj.NqActiveTxSet 3, set)] with
      line := { ({} : LineSt) with nqs := [(3, { ({} : NqSt) with low := low, good := 15 })] } }
    ((after (.nqThinWindow 3 1000000) (d 15 99)).nq 3).txNext = some (3, false) ∧
      ((after (.nqThinWindow 3 1000000) (d 15 98)).nq 3).txNext = none ∧ ((after (.nqThinWindow 3 1000000) (d 15 98)).nq 3).low = 99 := by
  decide +kernel

/-- The worked example of chapter 16: the latch of EV29 from SEQ 0x011. -/
theorem test_event_latch : latchRaise 0x11 = 0x80010012 ∧ latchRaise 0x80010012 = 0x80020013 := by decide

/-- The worked example of chapter 16: a late acknowledgement has no effect, and the right one clears. -/
theorem test_event_acknowledgement :
    (after (.evAckWrite 29 0x012) (boxOf [(inst Obj.EventStatus 29, 0x80020013)])).rd (inst Obj.EventStatus 29) = 0x80020013 ∧
      (after (.evAckWrite 29 0x013) (boxOf [(inst Obj.EventStatus 29, 0x80020013)])).rd (inst Obj.EventStatus 29) = 0x13 := by decide +kernel

/-- The worked example of chapter 16: where PathStepCount of P14 and of P15 stand in the direct map. -/
theorem test_direct_map_address :
    (directObj 0x24253C).map (·.1) = some (inst Obj.PathStepCount 14) ∧ (directObj 0x242540).map (·.1) = some (inst Obj.PathStepCount 15) := by
  decide +kernel

/-- The worked example of chapter 17: a budget of 60,000 is applied unchanged; the limit is 121,135. -/
theorem test_spool_budget :
    (boxOf [(Obj.SpoolTurnBudget, 60000)]).spoolBudget = 60000 ∧ (boxOf [(Obj.SpoolTurnBudget, 200000)]).spoolBudget = 121135 := by decide +kernel

/-- The worked example of chapter 18: the Plinth stops. -/
theorem test_plinth_loss :
    let e := after .plinthLoss ((synths 1 1).wr Obj.TimeValid 1)
    e.rd Obj.DeviceFaultPhase = 1 ∧ e.rdB Obj.TimeValid = false ∧ e.rd Obj.FixedSynthState ≠ 1 ∧ e.rd Obj.SteeredSynthState ≠ 1 ∧
      [24, 25, 32, 33, 63].all (fun n => e.rdN (inst Obj.EventStatus n) / 2 ^ 31 == 1) = true := by decide +kernel

/-- The worked example of chapter 15: one request disables the engine of P6 and writes PtpStepMode, which its block still owns. -/
theorem test_blocks_own_their_objects :
    let d := boxOf [enabled .ptpEngine 6]
    toOpt (d.checkWrite 2 false (inst Obj.PtpStepMode 6) [1]) = .inl stBlockEnabled ∧
      toOpt (d.checkWrite 2 false 0x230507 [2]) = .inr (.num 2) ∧ 0x230A07 = inst Obj.PtpStepMode 6 ∧
      toOpt (({} : Dev).checkWrite 2 false (inst Obj.PtpStepMode 6) [1]) = .inr (.num 1) := by decide +kernel

/-- FIPS 180-4: SHA-256 of "abc", by its first and last words. -/
theorem test_sha256 :
    (sha256 [0x61, 0x62, 0x63]).take 4 = [0xba, 0x78, 0x16, 0xbf] ∧ (sha256 [0x61, 0x62, 0x63]).drop 28 = [0xf2, 0x00, 0x15, 0xad] := by
  decide +kernel

/-- The check value of the CRC-32 that the FCS (R415) and the boot record (R591) use. -/
theorem test_crc32 : crc32 0xFFFFFFFF [0x31, 0x32, 0x33, 0x34, 0x35, 0x36, 0x37, 0x38, 0x39] = 0xCBF43926 := by decide +kernel

/-- No word spells a command: the table gives no bits, and nothing is put into the queue. -/
theorem test_no_words : decodeTableWord 8 0 = none ∧ State.reset.withFetchWord 8 0 = State.reset := by decide +kernel

/-- A step takes the oldest command of two. -/
theorem test_first_in_first_out :
    (match step ⟨{}, [.resetRelease 5, .resetRelease 3]⟩ with
      | .next t => t.dev.rd Obj.BootStraps == 5 && t.pending == [.resetRelease 3]
      | _ => false) = true := by decide +kernel

end Sys2Proof.Tests
end

section
/-! PROOFS. Blocks (R13 to R33): the two checks of a command, readiness, faults, and the deadlines of the host. -/

namespace Sys2Proof.Machine

/-! ## The first check of a block command (R15, R19, R22) -/

/-- The first check of the command `v` to a block: 1 enables, and has no effect on a block ENABLING or ENABLED; any other disables. -/
def Dev.passesFirstCheck (d : Dev) (b : BlockId) (v : Nat) : Bool :=
  if v = 1 then d.blk b.kind b.n == 1 || d.blk b.kind b.n == 2 || d.mayEnable b else d.mayDisable b

/-- A block command that is held for the next boundary. -/
def Dev.holdsCmd (d : Dev) (b : BlockId) (v : Nat) : Dev :=
  { d.wr b.ctrl v with block := { d.block with cmds := setNum d.block.cmds b.ctrl v } }

theorem blockCmd_eq (d : Dev) (b : BlockId) (v : Nat) (hb : b.ok = true) :
    blockCmd b v d = if d.passesFirstCheck b v = true then d.holdsCmd b v else d.wr b.ctrl 0x80 := by
  unfold blockCmd Dev.passesFirstCheck Dev.holdsCmd
  by_cases hv : v = 1
  · simp [hb, hv, or_assoc]
  · simp [hb, hv]

theorem passesFirstCheck_enable_iff (d : Dev) (b : BlockId) :
    d.passesFirstCheck b 1 = true ↔ d.mayEnable b = true ∨ d.blk b.kind b.n = 1 ∨ d.blk b.kind b.n = 2 := by
  simp only [Dev.passesFirstCheck, if_true, Bool.or_eq_true, beq_iff_eq]
  exact or_comm

theorem mayDisable_iff (d : Dev) (b : BlockId) :
    d.mayDisable b = true ↔ ∀ u, unitOf b = some u → d.unitState u ≠ 3 := by
  unfold Dev.mayDisable
  cases unitOf b with
  | none => simp
  | some u => simp

theorem passesFirstCheck_disable_iff (d : Dev) (b : BlockId) :
    d.passesFirstCheck b 2 = true ↔ ∀ u, unitOf b = some u → d.unitState u ≠ 3 := by
  rw [← mayDisable_iff]
  rfl

theorem exec_blockEnableCmd (d : Dev) (q : List Instr) (b : BlockId) :
    exec (.blockEnableCmd b) ⟨d, q⟩ = .next ⟨blockCmd b 1 d, q⟩ := rfl

theorem exec_blockDisableCmd (d : Dev) (q : List Instr) (b : BlockId) :
    exec (.blockDisableCmd b) ⟨d, q⟩ = .next ⟨blockCmd b 2 d, q⟩ := rfl

/-- Settles O19: both commands are one first check, which holds the command for the boundary or marks it refused. -/
theorem blockCommandsAreCheckedWhenWritten : Obligations.BlockCommandsAreCheckedWhenWritten := by
  intro d q b hb
  simp only [exec_blockEnableCmd, exec_blockDisableCmd, blockCmd_eq d b _ hb]
  refine ⟨fun h => ?_, fun hm h1 h2 => ?_, fun h => ?_, fun u hu h3 => ?_⟩
  · rw [if_pos ((passesFirstCheck_enable_iff d b).2 h)]
    rfl
  · rw [if_neg]
    simp [passesFirstCheck_enable_iff, hm, h1, h2]
  · rw [if_pos ((passesFirstCheck_disable_iff d b).2 h)]
    rfl
  · rw [if_neg]
    exact fun h => (passesFirstCheck_disable_iff d b).1 h u hu h3

/-! ## Readiness (R18, R20, R21, R25) -/

@[simp] theorem blk_wr_state (d : Dev) (b : BlockId) (st : Int) : (d.wr b.state st).blk b.kind b.n = st :=
  rd_wr_same d b.state st

/-- What a block does on becoming ENABLED: it starts, or resumes after a restart. -/
def Dev.blockEnters (d : Dev) (b : BlockId) : Dev :=
  let e : Dev := { d.wr b.state 2 with block := { d.block with resumed := d.block.resumed.filter (· != b.state) } }
  if d.block.resumed.contains b.state = true then e.blockResumes b else e.blockStarts b

theorem blockReady_enters (d : Dev) (b : BlockId) (hb : b.ok = true) (hu : unitOf b = none) (h1 : d.blk b.kind b.n = 1)
    (hr : d.required b = true) (hs : d.stopped = false) (hl : b.kind = .lane → d.laneReady b.n = true) :
    blockReady b d = d.blockEnters b := by
  have hmine : b.kind ≠ .lane ∨ d.laneReady b.n = true := not_or_of_imp hl
  simp [blockReady, hb, hu, h1, hr, hs, hmine, Dev.blockEnters, Dev.setBlk]

theorem blockReady_idle (d : Dev) (b : BlockId) (h1 : d.blk b.kind b.n ≠ 1) : blockReady b d = d := by
  simp [blockReady, h1]

theorem readinessExpiry_unit (d : Dev) (b : BlockId) (u : Nat) (hb : b.ok = true) (hu : unitOf b = some u)
    (h1 : d.blk b.kind b.n = 1) (hs : d.stopped = false) : readinessExpiry b d = d.outOfService u 5 := by
  simp [readinessExpiry, hb, hu, h1, hs]

theorem readinessExpiry_faults (d : Dev) (b : BlockId) (hb : b.ok = true) (hu : unitOf b = none)
    (h1 : d.blk b.kind b.n = 1) (hr : d.required b = true) (hs : d.stopped = false) :
    readinessExpiry b d = (d.countFault b 0).blockLeaves b 4 := by
  simp [readinessExpiry, hb, hu, h1, hs, hr, Dev.when]

theorem readinessExpiry_idle (d : Dev) (b : BlockId) (h1 : d.blk b.kind b.n ≠ 1) : readinessExpiry b d = d := by
  simp [readinessExpiry, h1]

theorem exec_blockReady (d : Dev) (q : List Instr) (b : BlockId) :
    exec (.blockReady b) ⟨d, q⟩ = .next ⟨blockReady b d, q⟩ := rfl

theorem exec_readinessLimitExpiry (d : Dev) (q : List Instr) (b : BlockId) :
    exec (.readinessLimitExpiry b) ⟨d, q⟩ = .next ⟨readinessExpiry b d, q⟩ := rfl

/-- Settles O20: by whether the block is a unit of a pair, and by its state. -/
theorem blocksLeaveEnabling : Obligations.BlocksLeaveEnabling := by
  constructor
  · intro d q b u hb hu h1 hs
    rw [exec_readinessLimitExpiry, readinessExpiry_unit d b u hb hu h1 hs]
  · intro d q b hb hu
    refine ⟨fun h1 hr hs hl => ⟨?_, blk_wr_state d b 2⟩, fun h1 hr hs => ?_, fun h1 => ⟨?_, ?_⟩⟩
    · rw [exec_blockReady, blockReady_enters d b hb hu h1 hr hs hl]
      rfl
    · rw [exec_readinessLimitExpiry, readinessExpiry_faults d b hb hu h1 hr hs]
    · rw [exec_blockReady, blockReady_idle d b h1]
    · rw [exec_readinessLimitExpiry, readinessExpiry_idle d b h1]

/-! ## Faults (R18, R23) -/

theorem countFault_counts (d : Dev) (b : BlockId) (cause : Nat) :
    numAt (d.countFault b cause).block.faults b.state = (numAt d.block.faults b.state + 1) % 2 ^ 32 :=
  sparse_get_set_same _ _ _ _

/-- Counting a fault leaves the state of every block as it is: no object changes. -/
@[simp] theorem blk_countFault (d : Dev) (b : BlockId) (cause : Nat) (k : BlockKind) (n : Nat) :
    (d.countFault b cause).blk k n = d.blk k n := rfl

theorem blockFault_disabling (d : Dev) (b : BlockId) (cause : Nat) (hb : b.ok = true) (h3 : d.blk b.kind b.n = 3) :
    blockFault b cause d = d.countFault b cause := by
  simp [blockFault, hb, h3]

theorem blockFault_faults (d : Dev) (b : BlockId) (cause : Nat) (hb : b.ok = true) (hu : unitOf b = none)
    (h : d.blk b.kind b.n = 2 ∨ d.blk b.kind b.n = 1) : blockFault b cause d = (d.countFault b cause).blockLeaves b 4 := by
  simp [blockFault, hb, hu, h.symm]

theorem disablingComplete_completes (d : Dev) (b : BlockId) (hb : b.ok = true) (h3 : d.blk b.kind b.n = 3)
    (hr : b.kind ≠ .spool ∨ d.spool.requests = []) : disablingComplete b d = d.wr b.state 0 := by
  simp [disablingComplete, hb, h3, hr, Dev.setBlk]

theorem exec_blockFault (d : Dev) (q : List Instr) (b : BlockId) (cause : Nat) :
    exec (.blockFault b cause) ⟨d, q⟩ = .next ⟨blockFault b cause d, q⟩ := rfl

theorem exec_disablingComplete (d : Dev) (q : List Instr) (b : BlockId) :
    exec (.disablingComplete b) ⟨d, q⟩ = .next ⟨disablingComplete b d, q⟩ := rfl

/-- Settles O21: of a block DISABLING a fault is `countFault` alone, after which DISABLING_COMPLETE finds it DISABLING still. -/
theorem faultWhileDisablingIsOnlyCounted : Obligations.FaultWhileDisablingIsOnlyCounted := by
  intro d q b cause hb
  constructor
  · intro h3
    have he : (d.countFault b cause).blk b.kind b.n = 3 := by rw [blk_countFault, h3]
    refine ⟨d.countFault b cause, ?_, rfl, he, countFault_counts d b cause, rfl, fun hr => ?_, blk_wr_state _ b 0⟩
    · rw [exec_blockFault, blockFault_disabling d b cause hb h3]
    · rw [exec_disablingComplete, disablingComplete_completes _ b hb he hr]
  · intro hu h
    rw [exec_blockFault, blockFault_faults d b cause hb hu h]

/-! ## Missed deadlines of the host (R31, R33, R49) -/

theorem hostDeadlineMiss_awaited (d : Dev) (f : HostFn) (h : d.fnAwaits f = true) :
    hostDeadlineMiss f d = (d.overrun (fnItem f) 3 (d.rdN Obj.TurnNumber)).fallback f := by
  simp [hostDeadlineMiss, h]

/-- A bank whose counters the host has read in time begins its next period. -/
theorem hostDeadlineMiss_dumpRead (d : Dev) (b : Fin 3) (h : d.fnAwaits (.f5 b) = false) :
    hostDeadlineMiss (.f5 b) d = { d with perf := { d.perf with read := d.perf.read.filter (· != b.val) } } := by
  simp [hostDeadlineMiss, h]

theorem hostDeadlineMiss_idle (d : Dev) (f : HostFn) (h : d.fnAwaits f = false) (hf : ∀ b, f ≠ .f5 b) :
    hostDeadlineMiss f d = d := by
  cases f with
  | f5 b => exact absurd rfl (hf b)
  | _ => simp [hostDeadlineMiss, h]

theorem exec_hostDeadlineMiss (d : Dev) (q : List Instr) (f : HostFn) :
    exec (.hostDeadlineMiss f) ⟨d, q⟩ = .next ⟨hostDeadlineMiss f d, q⟩ := rfl

/-- Settles O22: by whether the decision is awaited, and if not by whether the function is the counter dump. -/
theorem missedDeadlinesFallBack : Obligations.MissedDeadlinesFallBack := by
  intro d q f
  simp only [exec_hostDeadlineMiss]
  refine ⟨fun h => ?_, fun h hf => ?_, ?_, ?_, rfl, fun _ => rfl⟩
  · rw [hostDeadlineMiss_awaited d f h]
  · rw [hostDeadlineMiss_idle d f h hf]
  · rintro b rfl h
    rw [hostDeadlineMiss_dumpRead d b h]
  · cases f <;> rfl

end Sys2Proof.Machine
end

section
/-! PROOFS. MDP (R503 to R521): reception, the head of the queue, OPEN and PROVE, the requests of an open session, timers and
address replies. -/

namespace Sys2Proof.Machine

/-! ## Reception of a datagram (R503, R506, R509) -/

/-- A frame is a datagram to the device that its server takes, by port, VLAN and address. -/
def Dev.takesDatagram (d : Dev) (p : Nat) (bs : List Byte) : Prop :=
  d.serverUp = true ∧ d.mdpTaken p (d.classVid p (d.parse p bs)).1 (d.parse p bs) = some true

theorem mdpReceive_noIp (d : Dev) (p : Nat) (bs : List Byte) (h : (d.parse p bs).ip = none) : mdpReceive p bs d = d := by
  simp [mdpReceive, h]

theorem mdpReceive_notTaken (d : Dev) (p : Nat) (bs : List Byte) (h : ¬d.takesDatagram p bs) : mdpReceive p bs d = d := by
  have hn : (d.serverUp && d.mdpTaken p (d.classVid p (d.parse p bs)).1 (d.parse p bs) == some true) = false := by
    simpa [Dev.takesDatagram] using h
  cases hi : (d.parse p bs).ip with
  | none => exact mdpReceive_noIp d p bs hi
  | some i => simp [mdpReceive, hi, hn]

theorem mdpReceive_noUdp (d : Dev) (p : Nat) (bs : List Byte) (i : IpInfo) (hi : (d.parse p bs).ip = some i)
    (h : d.takesDatagram p bs) (hu : udpPayload bs i = none ∨ i.ports = none) :
    mdpReceive p bs d = (d.counted 2 0x09 0 1).mdpDiscard := by
  obtain ⟨hup, htaken⟩ := h
  obtain hu | hp := hu
  · simp [mdpReceive, hi, hup, htaken, hu]
  · simp [mdpReceive, hi, hup, htaken, hp]

theorem mdpReceive_malformed (d : Dev) (p : Nat) (bs : List Byte) (i : IpInfo) (hi : (d.parse p bs).ip = some i)
    (h : d.takesDatagram p bs) (pay sp dp : List Byte) (hu : udpPayload bs i = some pay) (hp : i.ports = some (sp, dp))
    (hm : parseMdp pay = none) : mdpReceive p bs d = (d.counted 2 0x09 0 1).mdpDiscard := by
  obtain ⟨hup, htaken⟩ := h
  simp [mdpReceive, hi, hup, htaken, hu, hp, hm]

theorem mdpReceive_wellFormed (d : Dev) (p : Nat) (bs : List Byte) (i : IpInfo) (hi : (d.parse p bs).ip = some i)
    (h : d.takesDatagram p bs) (pay sp dp : List Byte) (hu : udpPayload bs i = some pay) (hp : i.ports = some (sp, dp))
    (m : MdpReq) (hm : parseMdp pay = some m) : mdpReceive p bs d = (d.counted 2 0x09 0 1).mdpAccept
      { port := p, mac := (d.parse p bs).sa, peer := peerOf i sp, local_ := i.da, bytes := pay } m := by
  obtain ⟨hup, htaken⟩ := h
  simp [mdpReceive, hi, hup, htaken, hu, hp, hm]

/-! ## Acceptance (R503, R511, R522) -/

section Acceptance

variable (d : Dev) (g : Datagram) (r : MdpReq)

/-- The request belongs to an open session of this peer and carries its tag. -/
def Dev.knows (d : Dev) (g : Datagram) (r : MdpReq) : Prop := d.mdpHolds g r 2 = true ∧ (d.session r.slot).tagOk r = true

theorem mdpAccept_off (h : r.opcode ≠ 1 ∧ d.slotOff r = true) : d.mdpAccept g r = d.mdpDiscard := by
  simp [Dev.mdpAccept, h]

/-- The first datagram of a session after a restart is told so, once. -/
theorem mdpAccept_recovered (h : ¬(r.opcode ≠ 1 ∧ d.slotOff r = true)) (hk : d.knows g r)
    (hr : (d.session r.slot).recover = true) :
    (let again := ((d.setSession r.slot fun y => { y with recover := false }).inc Obj.MdpRecoveredCount).sessionEvent 6
     d.mdpAccept g r =
      again.mdpSend g (r.response (d.session r.slot).key r.opcode r.slot stRecovered (again.lastSeq r.slot) [])) := by
  obtain ⟨hh, ht⟩ := hk
  have hoff : (r.opcode != 1 && d.slotOff r) = false := by simpa using h
  simp [Dev.mdpAccept, hoff, hh, ht, hr]

variable (h : ¬(r.opcode ≠ 1 ∧ d.slotOff r = true)) (hk : ¬(d.knows g r ∧ (d.session r.slot).recover = true))

include h hk

/-- A request that is neither discarded for its slot nor the first after a restart: by its opcode and the room in the queue. -/
theorem mdpAccept_else : d.mdpAccept g r =
    if r.carried = false then d.mdpSend g (r.response
      (if d.mdpHolds g r 2 = true ∧ (d.session r.slot).tagOk r = true then (d.session r.slot).key else none)
      r.opcode r.slot stUnsupported r.seq [])
    else if 64 ≤ d.datagramsWaiting then d.mdpDiscard
    else { d with dict := { d.dict with queue := d.dict.queue ++ [.datagram g] } } := by
  have hoff : (r.opcode != 1 && d.slotOff r) = false := by simpa using h
  have hrec : (d.mdpHolds g r 2 && (d.session r.slot).tagOk r && (d.session r.slot).recover) = false := by
    simpa [Dev.knows] using hk
  simp [Dev.mdpAccept, hoff, hrec]

end Acceptance

/-! ## The head of the queue (R503) -/

/-- A command of the server that executes the datagram at the head of the queue, where it is of the opcode, by `f`. -/
def serves (c : Instr) (op : Nat) (f : Datagram → MdpReq → Dev → Dev) : Prop :=
  ∀ (d : Dev) (q : List Instr), exec c ⟨d, q⟩ = .next ⟨d.mdpHead op f, q⟩

theorem mdpHead_unserved (d : Dev) (op : Nat) (f : Datagram → MdpReq → Dev → Dev)
    (h : ∀ g rest r, d.dict.queue = .datagram g :: rest → parseMdp g.bytes = some r → r.opcode = op → d.serving = false) :
    d.mdpHead op f = d := by
  unfold Dev.mdpHead
  split
  · next g rest hq =>
    split
    · next r hr =>
      have hs : (d.serving && r.opcode == op) = false := by
        by_cases ho : r.opcode = op
        · simp [h g rest r hq hr ho]
        · simp [ho]
      simp [Dev.when, hs]
    · rfl
  · rfl

theorem mdpOpen_serves : serves .mdpOpen 0x01 mdpOpen := fun _ _ => rfl
theorem mdpProve_serves : serves .mdpProve 0x03 mdpProve := fun _ _ => rfl
theorem mdpClose_serves : serves .mdpClose 0x04 mdpClose := fun _ _ => rfl
theorem mdpKeepalive_serves : serves .mdpKeepalive 0x05 mdpKeepalive := fun _ _ => rfl
theorem mdpStatus_serves : serves .mdpStatus 0x06 mdpStatus := fun _ _ => rfl
theorem mdpRead_serves : serves .mdpRead 0x10 mdpRead := fun _ _ => rfl
theorem mdpWrite_serves : serves .mdpWrite 0x11 mdpWrite := fun _ _ => rfl
theorem mdpDescribe_serves : serves .mdpDescribe 0x12 mdpDescribe := fun _ _ => rfl
theorem mdpSegReadInit_serves : serves .mdpSegReadInit 0x20 mdpSegReadInit := fun _ _ => rfl
theorem mdpSegRead_serves : serves .mdpSegRead 0x21 mdpSegRead := fun _ _ => rfl
theorem mdpSegWriteInit_serves : serves .mdpSegWriteInit 0x22 mdpSegWriteInit := fun _ _ => rfl
theorem mdpSegWrite_serves : serves .mdpSegWrite 0x23 mdpSegWrite := fun _ _ => rfl
theorem mdpSegAbort_serves : serves .mdpSegAbort 0x24 mdpSegAbort := fun _ _ => rfl

/-- A datagram that the server serves stands at the head of the queue: `e` is the block without it. -/
structure Dev.headIs (d : Dev) (g : Datagram) (r : MdpReq) (e : Dev) : Prop where
  serving : d.serving = true
  parsed : parseMdp g.bytes = some r
  head : ∃ rest, d.dict.queue = .datagram g :: rest ∧ e = { d with dict := { d.dict with queue := rest } }

/-- The datagram at the head executes under its opcode and leaves the queue. -/
theorem Dev.headIs.exec_eq {d e e' : Dev} {g : Datagram} {r : MdpReq} (h : d.headIs g r e) {c : Instr} {op : Nat}
    {f : Datagram → MdpReq → Dev → Dev} (hc : serves c op f) (ho : r.opcode = op) (hf : f g r e = e') (q : List Instr) :
    exec c ⟨d, q⟩ = .next ⟨e', q⟩ := by
  obtain ⟨hs, hp, rest, hq, rfl⟩ := h
  subst ho hf
  rw [hc d q, Dev.mdpHead_eq d g r rest f hq hp hs]

/-! ## OPEN (R514 to R516) -/

/-- The level an OPEN is for: that of its payload, and 1 for 0 where level 0 is closed. -/
def Dev.openLevel (d : Dev) (r : MdpReq) : Nat :=
  if leNat (r.payload.take 1) = 0 ∧ d.rdB Obj.MdpL0Open = false then 1 else leNat (r.payload.take 1)

/-- What OPEN does with the free slot it takes: at level 0 the session is open, else a challenge goes out. -/
def Dev.opensAt (c : Dev) (g : Datagram) (r : MdpReq) (lv m : Nat) : Dev :=
  if lv = 0 then ((c.slotTaken g r.v2 m 0 { port := g.port }).slotOpens m).mdpSend g (r.response none 0x01 m stOk 0 [])
  else (c.drawn.slotTaken g r.v2 m lv
    { port := g.port, secure := true, nc := r.payload.drop 1, nd := leBytes 16 (toField 128 c.free) }).mdpSend g
      (r.response none 0x02 m stOk 0 (leBytes 16 (toField 128 c.free)))

/-- The checks of OPEN in their order, after the operation is counted. -/
theorem mdpOpen_eq (g : Datagram) (r : MdpReq) (d : Dev) : mdpOpen g r d =
    (let c := d.counted 2 0x08 0 1
     let lv := c.openLevel r
     if g.peer.take 16 ∈ c.dict.lockouts then c.mdpAnswer g r stLockedOut 0
     else if r.payload.length ≠ 17 then c.mdpAnswer g r stLength 0
     else if 3 < lv then c.mdpAnswer g r stValue 0
     else if lv ≠ 0 ∧ c.rdB (inst Obj.MdpKeySet (lv - 1)) = false then c.mdpAnswer g r stAuth 0
     else c.freeSlotOf.elim (c.mdpAnswer g r stSessionsFull 0) (c.opensAt g r lv)) := by
  simp only [mdpOpen, Dev.openLevel, List.contains_iff_mem, bne_iff_ne, Bool.and_eq_true, beq_iff_eq, Bool.not_eq_true']
  cases (d.counted 2 0x08 0 1).freeSlotOf <;> rfl

section Open

variable {g : Datagram} {r : MdpReq} {d : Dev}

theorem mdpOpen_lockedOut (h : g.peer.take 16 ∈ (d.counted 2 0x08 0 1).dict.lockouts) :
    mdpOpen g r d = (d.counted 2 0x08 0 1).mdpAnswer g r stLockedOut 0 := by
  simp only [mdpOpen_eq, if_pos h]

variable (h : g.peer.take 16 ∉ (d.counted 2 0x08 0 1).dict.lockouts)

include h

theorem mdpOpen_length (hl : r.payload.length ≠ 17) : mdpOpen g r d = (d.counted 2 0x08 0 1).mdpAnswer g r stLength 0 := by
  simp only [mdpOpen_eq, if_neg h, if_pos hl]

variable (hl : r.payload.length = 17)

include hl

theorem mdpOpen_value (hv : 3 < (d.counted 2 0x08 0 1).openLevel r) :
    mdpOpen g r d = (d.counted 2 0x08 0 1).mdpAnswer g r stValue 0 := by
  simp only [mdpOpen_eq, if_neg h, if_neg (not_not.2 hl), if_pos hv]

theorem mdpOpen_auth (h0 : (d.counted 2 0x08 0 1).openLevel r ≠ 0) (h3 : (d.counted 2 0x08 0 1).openLevel r ≤ 3)
    (hk : (d.counted 2 0x08 0 1).rdB (inst Obj.MdpKeySet ((d.counted 2 0x08 0 1).openLevel r - 1)) = false) :
    mdpOpen g r d = (d.counted 2 0x08 0 1).mdpAnswer g r stAuth 0 := by
  simp only [mdpOpen_eq, if_neg h, if_neg (not_not.2 hl), if_neg (not_lt.2 h3), if_pos (And.intro h0 hk)]

/-- An OPEN that meets no check takes the lowest free slot, if there is one. -/
theorem mdpOpen_checked (h3 : (d.counted 2 0x08 0 1).openLevel r ≤ 3)
    (hk : (d.counted 2 0x08 0 1).openLevel r ≠ 0 →
      (d.counted 2 0x08 0 1).rdB (inst Obj.MdpKeySet ((d.counted 2 0x08 0 1).openLevel r - 1)) = true) :
    mdpOpen g r d = (d.counted 2 0x08 0 1).freeSlotOf.elim ((d.counted 2 0x08 0 1).mdpAnswer g r stSessionsFull 0)
      ((d.counted 2 0x08 0 1).opensAt g r ((d.counted 2 0x08 0 1).openLevel r)) := by
  have hk' : ¬((d.counted 2 0x08 0 1).openLevel r ≠ 0 ∧
      (d.counted 2 0x08 0 1).rdB (inst Obj.MdpKeySet ((d.counted 2 0x08 0 1).openLevel r - 1)) = false) := by
    rintro ⟨h0, hk0⟩
    exact Bool.false_ne_true (hk0.symm.trans (hk h0))
  simp only [mdpOpen_eq, if_neg h, if_neg (not_not.2 hl), if_neg (not_lt.2 h3), if_neg hk']

theorem mdpOpen_full (h0 : (d.counted 2 0x08 0 1).openLevel r = 0) (hm : (d.counted 2 0x08 0 1).freeSlotOf = none) :
    mdpOpen g r d = (d.counted 2 0x08 0 1).mdpAnswer g r stSessionsFull 0 := by
  rw [mdpOpen_checked h hl (by omega) (absurd h0), hm, Option.elim_none]

theorem mdpOpen_open {m : Nat} (h0 : (d.counted 2 0x08 0 1).openLevel r = 0)
    (hm : (d.counted 2 0x08 0 1).freeSlotOf = some m) :
    mdpOpen g r d = (((d.counted 2 0x08 0 1).slotTaken g r.v2 m 0 { port := g.port }).slotOpens m).mdpSend g
      (r.response none 0x01 m stOk 0 []) := by
  rw [mdpOpen_checked h hl (by omega) (absurd h0), hm, Option.elim_some, Dev.opensAt, if_pos h0]

theorem mdpOpen_challenge {m : Nat} (h0 : (d.counted 2 0x08 0 1).openLevel r ≠ 0)
    (h3 : (d.counted 2 0x08 0 1).openLevel r ≤ 3)
    (hk : (d.counted 2 0x08 0 1).rdB (inst Obj.MdpKeySet ((d.counted 2 0x08 0 1).openLevel r - 1)) = true)
    (hm : (d.counted 2 0x08 0 1).freeSlotOf = some m) : mdpOpen g r d = (let c := d.counted 2 0x08 0 1
      (c.drawn.slotTaken g r.v2 m (c.openLevel r)
        { port := g.port, secure := true, nc := r.payload.drop 1, nd := leBytes 16 (toField 128 c.free) }).mdpSend g
          (r.response none 0x02 m stOk 0 (leBytes 16 (toField 128 c.free)))) := by
  rw [mdpOpen_checked h hl h3 fun _ => hk, hm, Option.elim_some, Dev.opensAt, if_neg h0]

end Open

/-! ## PROVE (R515, R516) -/

theorem mdpProve_off (g : Datagram) (r : MdpReq) (d : Dev) (h : (d.counted 2 0x08 0 1).slotOff r = true) :
    mdpProve g r d = (d.counted 2 0x08 0 1).mdpDiscard := by
  simp [mdpProve, h]

theorem mdpProve_noSession (g : Datagram) (r : MdpReq) (d : Dev) (h : (d.counted 2 0x08 0 1).slotOff r = false)
    (hh : (d.counted 2 0x08 0 1).mdpHolds g r 1 = false) :
    mdpProve g r d = (d.counted 2 0x08 0 1).mdpAnswer g r stNoSession r.seq := by
  simp [mdpProve, h, hh]

/-- A PROVE to a slot that awaits it: its proof decides. -/
theorem mdpProve_awaited (g : Datagram) (r : MdpReq) (d : Dev) (h : (d.counted 2 0x08 0 1).slotOff r = false)
    (hh : (d.counted 2 0x08 0 1).mdpHolds g r 1 = true) :
    mdpProve g r d = (let c := d.counted 2 0x08 0 1
      let y := c.session r.slot
      let lv := c.rdN (inst Obj.MdpSessionLevel r.slot)
      if r.payload = proofOf (c.levelKey lv) 0x50 r.slot lv y then
        ((c.setSession r.slot fun z =>
          { z with ks := hmac (c.levelKey lv) ([0x4D, 0x44, 0x50, 0x2D, 0x53] ++ y.nc ++ y.nd) }).slotOpens r.slot).mdpSend g
            (r.response none r.opcode r.slot stOk r.seq (proofOf (c.levelKey lv) 0x44 r.slot lv y))
      else (c.proofFailed r.slot (g.peer.take 16)).mdpAnswer g r stAuth r.seq) := by
  simp only [mdpProve, h, hh, Bool.not_true, Bool.false_eq_true, if_false, beq_iff_eq]

/-! ## Requests of an open session (R512, R515, R519) -/

section InSession

variable (d : Dev) (g : Datagram) (r : MdpReq) (f : SessionSt → Dev → Dev)

/-- The request is of an open session: its slot is ENABLED, this peer holds it, and the tag is right. -/
structure Dev.inSession (d : Dev) (g : Datagram) (r : MdpReq) : Prop where
  enabled : d.slotOff r = false
  held : d.mdpHolds g r 2 = true
  tagged : (d.session r.slot).tagOk r = true

theorem mdpInSession_off (h : d.slotOff r = true) : d.mdpInSession g r f = d.mdpDiscard := by
  simp [Dev.mdpInSession, h]

theorem mdpInSession_noSession (h : d.slotOff r = false) (hh : d.mdpHolds g r 2 = false) :
    d.mdpInSession g r f = d.mdpAnswer g r stNoSession r.seq := by
  simp [Dev.mdpInSession, h, hh]

theorem mdpInSession_untagged (h : d.slotOff r = false) (hh : d.mdpHolds g r 2 = true)
    (ht : (d.session r.slot).tagOk r = false) : d.mdpInSession g r f = d.mdpAnswer g r stAuth r.seq := by
  simp [Dev.mdpInSession, h, hh, ht]

theorem mdpInSession_open (h : d.inSession g r) : d.mdpInSession g r f = f (d.session r.slot) d := by
  simp [Dev.mdpInSession, h.enabled, h.held, h.tagged]

end InSession

/-- The end of a sequenced request that left the block `f`: a session still open keeps the response, which goes out. -/
def Dev.mdpDone (e : Dev) (g : Datagram) (r : MdpReq) (f : Dev) (st : Nat) (bs : List Byte) : Dev :=
  let w := r.response (e.session r.slot).key r.opcode r.slot st r.seq bs
  (f.when (f.slotState r.slot == 2) fun h =>
    (h.wr (inst Obj.MdpSessionLastSeq r.slot) r.seq).setSession r.slot fun y =>
      { y with stored := ((r.seq, w) :: y.stored).take 16 }).mdpSend g w

section Sequenced

variable {d : Dev} {g : Datagram} {r : MdpReq} (f : Nat → SessionSt → Dev → Dev × Nat × List Byte) (h : d.inSession g r)

include h

/-- The request with the next number executes, once counted, and its response is stored and sent. -/
theorem mdpSequenced_next (hn : r.seq = r.next (d.lastSeq r.slot)) {e : Dev} {st : Nat} {bs : List Byte}
    (hf : f (d.rdN (inst Obj.MdpSessionLevel r.slot)) (d.session r.slot) (d.counted 2 0x08 0 1) = (e, st, bs)) :
    d.mdpSequenced g r f = d.mdpDone g r e st bs := by
  rw [Dev.mdpSequenced, mdpInSession_open d g r _ h]
  simp [← hn, hf, Dev.mdpDone]

theorem mdpSequenced_stored (hn : r.seq ≠ r.next (d.lastSeq r.slot)) {k : Nat} {bs : List Byte}
    (hb : (d.session r.slot).stored.find? (fun y => y.1 == r.seq) = some (k, bs)) :
    d.mdpSequenced g r f = d.mdpSend g bs := by
  rw [Dev.mdpSequenced, mdpInSession_open d g r _ h]
  simp [hn, hb]

theorem mdpSequenced_unknown (hn : r.seq ≠ r.next (d.lastSeq r.slot))
    (hb : (d.session r.slot).stored.find? (fun y => y.1 == r.seq) = none) : d.mdpSequenced g r f =
      d.mdpSend g (r.response (d.session r.slot).key r.opcode r.slot stSequence (d.lastSeq r.slot) []) := by
  rw [Dev.mdpSequenced, mdpInSession_open d g r _ h]
  simp [hn, hb]

end Sequenced

/-- A command of requests of open sessions. -/
def needsSession (c : Instr) (op : Nat) : Prop :=
  ∃ body : Datagram → MdpReq → SessionSt → Dev → Dev, serves c op fun g r d => d.mdpInSession g r (body g r)

/-- A command of sequenced requests. -/
def sequenced (c : Instr) (op : Nat) : Prop :=
  ∃ body : MdpReq → Nat → SessionSt → Dev → Dev × Nat × List Byte, serves c op fun g r d => d.mdpSequenced g r (body r)

/-- The opcodes of open sessions with their commands (R511). -/
def sessionCmds : List (Nat × Instr) :=
  [(0x05, .mdpKeepalive), (0x06, .mdpStatus), (0x10, .mdpRead), (0x11, .mdpWrite), (0x12, .mdpDescribe), (0x20, .mdpSegReadInit),
    (0x21, .mdpSegRead), (0x22, .mdpSegWriteInit), (0x23, .mdpSegWrite), (0x24, .mdpSegAbort), (0x04, .mdpClose)]

/-- KEEPALIVE and STATUS need a session alone; every other request of an open session is sequenced. -/
theorem keepalive_or_status_or_sequenced : ∀ o ∈ sessionCmds,
    o = (0x05, .mdpKeepalive) ∨ o = (0x06, .mdpStatus) ∨ sequenced o.2 o.1 := by
  simp only [sessionCmds, List.forall_mem_cons, List.not_mem_nil, false_imp_iff, implies_true, and_true]
  exact ⟨.inl trivial, .inr (.inl trivial), .inr (.inr ⟨_, mdpRead_serves⟩), .inr (.inr ⟨_, mdpWrite_serves⟩),
    .inr (.inr ⟨_, mdpDescribe_serves⟩), .inr (.inr ⟨_, mdpSegReadInit_serves⟩), .inr (.inr ⟨_, mdpSegRead_serves⟩),
    .inr (.inr ⟨_, mdpSegWriteInit_serves⟩), .inr (.inr ⟨_, mdpSegWrite_serves⟩), .inr (.inr ⟨_, mdpSegAbort_serves⟩),
    .inr (.inr ⟨_, mdpClose_serves⟩)⟩

theorem sequenced_of_sessionCmds {o : Nat × Instr} (ho : o ∈ sessionCmds) (h5 : o.1 ≠ 0x05) (h6 : o.1 ≠ 0x06) :
    sequenced o.2 o.1 := by
  obtain rfl | rfl | h := keepalive_or_status_or_sequenced o ho
  · exact absurd rfl h5
  · exact absurd rfl h6
  · exact h

theorem needsSession_of_sessionCmds {o : Nat × Instr} (ho : o ∈ sessionCmds) : needsSession o.2 o.1 := by
  obtain rfl | rfl | ⟨body, hc⟩ := keepalive_or_status_or_sequenced o ho
  · exact ⟨_, mdpKeepalive_serves⟩
  · exact ⟨_, mdpStatus_serves⟩
  · exact ⟨_, hc⟩

/-- The opcodes of the server with their commands (R511). -/
def servedCmds : List (Nat × Instr) :=
  [(0x01, .mdpOpen), (0x03, .mdpProve), (0x04, .mdpClose), (0x05, .mdpKeepalive), (0x06, .mdpStatus), (0x10, .mdpRead),
    (0x11, .mdpWrite), (0x12, .mdpDescribe), (0x20, .mdpSegReadInit), (0x21, .mdpSegRead), (0x22, .mdpSegWriteInit),
    (0x23, .mdpSegWrite), (0x24, .mdpSegAbort)]

theorem serves_of_servedCmds : ∀ o ∈ servedCmds, ∃ f, serves o.2 o.1 f := by
  simp only [servedCmds, List.forall_mem_cons, List.not_mem_nil, false_imp_iff, implies_true, and_true]
  exact ⟨⟨_, mdpOpen_serves⟩, ⟨_, mdpProve_serves⟩, ⟨_, mdpClose_serves⟩, ⟨_, mdpKeepalive_serves⟩, ⟨_, mdpStatus_serves⟩,
    ⟨_, mdpRead_serves⟩, ⟨_, mdpWrite_serves⟩, ⟨_, mdpDescribe_serves⟩, ⟨_, mdpSegReadInit_serves⟩, ⟨_, mdpSegRead_serves⟩,
    ⟨_, mdpSegWriteInit_serves⟩, ⟨_, mdpSegWrite_serves⟩, ⟨_, mdpSegAbort_serves⟩⟩

/-! ## The operations (R502, R503, R510, R518, R520, R521) -/

section Operations

variable {e : Dev} {g : Datagram} {r : MdpReq} (h : e.inSession g r)

include h

theorem mdpKeepalive_inSession : mdpKeepalive g r e =
    (e.counted 2 0x08 0 1).mdpSend g (r.response (e.session r.slot).key r.opcode r.slot stOk r.seq []) :=
  mdpInSession_open e g r _ h

theorem mdpStatus_inSession : mdpStatus g r e =
    (e.counted 2 0x08 0 1).mdpSend g (r.response (e.session r.slot).key r.opcode r.slot stOk (e.lastSeq r.slot) []) :=
  mdpInSession_open e g r _ h

variable (hn : r.seq = r.next (e.lastSeq r.slot))

include hn

theorem mdpRead_records (hv : r.v2 = true) : mdpRead g r e =
    (let y := readOps (e.rdN (inst Obj.MdpSessionLevel r.slot)) (bit r.flags 2) r.ops 1280 false (e.counted 2 0x08 0 1)
     e.mdpDone g r y.1 stOk y.2) :=
  mdpSequenced_next _ h hn (by simp [hv])

theorem mdpRead_value (hv : r.v2 = false) {f : Dev} {bs : List Byte}
    (hr : (e.counted 2 0x08 0 1).readObj (e.rdN (inst Obj.MdpSessionLevel r.slot)) 240 r.key = (f, .ok bs)) :
    mdpRead g r e = e.mdpDone g r f stOk bs :=
  mdpSequenced_next _ h hn (by simp [hv, hr])

theorem mdpRead_error (hv : r.v2 = false) {f : Dev} {st : Nat}
    (hr : (e.counted 2 0x08 0 1).readObj (e.rdN (inst Obj.MdpSessionLevel r.slot)) 240 r.key = (f, .error st)) :
    mdpRead g r e = e.mdpDone g r f st [] :=
  mdpSequenced_next _ h hn (by simp [hv, hr])

theorem mdpWrite_records (hv : r.v2 = true) : mdpWrite g r e =
    (let c := e.counted 2 0x08 0 1
     let y := commitOps (bit r.flags 2)
      (checkOps (e.rdN (inst Obj.MdpSessionLevel r.slot)) (bit r.flags 2) c r.ops false) false c
     e.mdpDone g r y.1 stOk y.2) :=
  mdpSequenced_next _ h hn (by simp [hv])

theorem mdpWrite_value (hv : r.v2 = false) (hl : r.payload.length ≤ 240) {f : Dev} {st : Nat}
    (hw : (e.counted 2 0x08 0 1).writeObj (e.rdN (inst Obj.MdpSessionLevel r.slot)) false 5 r.key r.payload = (f, st)) :
    mdpWrite g r e = e.mdpDone g r f st [] :=
  mdpSequenced_next _ h hn (by simp [hv, not_lt.2 hl, hw])

theorem mdpWrite_tooLarge (hv : r.v2 = false) (hl : 240 < r.payload.length) :
    mdpWrite g r e = e.mdpDone g r (e.counted 2 0x08 0 1) stTooLarge [] :=
  mdpSequenced_next _ h hn (by simp [hv, hl])

theorem mdpDescribe_records :
    mdpDescribe g r e = e.mdpDone g r (e.counted 2 0x08 0 1) stOk (describeOps (bit r.flags 2) r.ops false) :=
  mdpSequenced_next _ h hn rfl

theorem mdpSegReadInit_ok (hl : r.v2 = false ∨ r.payload.length = 8) {f : Dev} {t : Transfer} {k : Nat}
    (hi : ((e.counted 2 0x08 0 1).setTransfer r.slot none).segReadInit (e.rdN (inst Obj.MdpSessionLevel r.slot)) r.segKey =
      (f, .ok (t, k))) :
    mdpSegReadInit g r e = e.mdpDone g r (f.setTransfer r.slot (some t)) stOk (leBytes 4 k) :=
  mdpSequenced_next _ h hn (by
    obtain hv | hl := hl
    · simp [hv, hi]
    · simp [hl, hi])

theorem mdpSegReadInit_error (hl : r.v2 = false ∨ r.payload.length = 8) {f : Dev} {st : Nat}
    (hi : ((e.counted 2 0x08 0 1).setTransfer r.slot none).segReadInit (e.rdN (inst Obj.MdpSessionLevel r.slot)) r.segKey =
      (f, .error st)) :
    mdpSegReadInit g r e = e.mdpDone g r f st [] :=
  mdpSequenced_next _ h hn (by
    obtain hv | hl := hl
    · simp [hv, hi]
    · simp [hl, hi])

theorem mdpSegReadInit_length (hv : r.v2 = true) (hl : r.payload.length ≠ 8) :
    mdpSegReadInit g r e = e.mdpDone g r ((e.counted 2 0x08 0 1).setTransfer r.slot none) stLength [] :=
  mdpSequenced_next _ h hn (by simp [hv, hl])

theorem mdpSegRead_ok (hl : r.payload.length = 8) {bs : List Byte}
    (hr : (e.counted 2 0x08 0 1).segRead (e.session r.slot).transfer (leNat (r.payload.take 4))
      (leNat ((r.payload.drop 4).take 2)) (if r.v2 then 1024 else 240) = .ok bs) :
    mdpSegRead g r e = e.mdpDone g r (e.counted 2 0x08 0 1) stOk bs :=
  mdpSequenced_next _ h hn (by simp [hl, hr])

theorem mdpSegRead_error (hl : r.payload.length = 8) {st : Nat}
    (hr : (e.counted 2 0x08 0 1).segRead (e.session r.slot).transfer (leNat (r.payload.take 4))
      (leNat ((r.payload.drop 4).take 2)) (if r.v2 then 1024 else 240) = .error st) :
    mdpSegRead g r e = e.mdpDone g r (e.counted 2 0x08 0 1) st [] :=
  mdpSequenced_next _ h hn (by simp [hl, hr])

theorem mdpSegRead_length (hl : r.payload.length ≠ 8) :
    mdpSegRead g r e = e.mdpDone g r (e.counted 2 0x08 0 1) stLength [] :=
  mdpSequenced_next _ h hn (by simp [hl])

theorem mdpSegWriteInit_ok (hl : r.payload.length = 12) {t : Transfer}
    (hi : segWriteInit (e.rdN (inst Obj.MdpSessionLevel r.slot)) false r.segKey (leNat (r.payload.drop 8)) = .ok t) :
    mdpSegWriteInit g r e = e.mdpDone g r (((e.counted 2 0x08 0 1).setTransfer r.slot none).setTransfer r.slot (some t)) stOk
      (leBytes 4 (leNat (r.payload.drop 8))) :=
  mdpSequenced_next _ h hn (by simp [hl, hi])

theorem mdpSegWriteInit_error (hl : r.payload.length = 12) {st : Nat}
    (hi : segWriteInit (e.rdN (inst Obj.MdpSessionLevel r.slot)) false r.segKey (leNat (r.payload.drop 8)) = .error st) :
    mdpSegWriteInit g r e = e.mdpDone g r ((e.counted 2 0x08 0 1).setTransfer r.slot none) st [] :=
  mdpSequenced_next _ h hn (by simp [hl, hi])

theorem mdpSegWriteInit_length (hl : r.payload.length ≠ 12) :
    mdpSegWriteInit g r e = e.mdpDone g r ((e.counted 2 0x08 0 1).setTransfer r.slot none) stLength [] :=
  mdpSequenced_next _ h hn (by simp [hl])

theorem mdpSegWrite_data (hl : 4 ≤ r.payload.length) {f : Dev} {t : Option Transfer} {st : Nat}
    (hw : (e.counted 2 0x08 0 1).segWrite (e.rdN (inst Obj.MdpSessionLevel r.slot)) false 5 (e.session r.slot).transfer
      (leNat (r.payload.take 4)) 1280 (r.payload.drop 4) = (f, t, st)) :
    mdpSegWrite g r e = e.mdpDone g r (if f.slotState r.slot = 2 then f.setTransfer r.slot t else f) st [] :=
  mdpSequenced_next _ h hn (by simp [not_lt.2 hl, hw, Dev.when])

theorem mdpSegWrite_length (hl : r.payload.length < 4) :
    mdpSegWrite g r e = e.mdpDone g r (e.counted 2 0x08 0 1) stLength [] :=
  mdpSequenced_next _ h hn (by simp [hl])

theorem mdpSegAbort_ok (ht : (e.session r.slot).transfer ≠ none) :
    mdpSegAbort g r e = e.mdpDone g r ((e.counted 2 0x08 0 1).setTransfer r.slot none) stOk [] :=
  mdpSequenced_next _ h hn (by simp [Option.isSome_iff_ne_none.2 ht])

theorem mdpSegAbort_none (ht : (e.session r.slot).transfer = none) :
    mdpSegAbort g r e = e.mdpDone g r (e.counted 2 0x08 0 1) stSegment [] :=
  mdpSequenced_next _ h hn (by simp [ht])

theorem mdpClose_closes : mdpClose g r e = e.mdpDone g r ((e.counted 2 0x08 0 1).closeSession 2 r.slot) stOk [] :=
  mdpSequenced_next _ h hn rfl

end Operations

/-! ## Timers (R514, R518) -/

theorem proveTimeout_awaiting (d : Dev) (n : Nat) (h : d.slotState n = 1) : proveTimeout n d = d.freeSlot n := by
  simp [proveTimeout, Dev.when, h]

theorem proveTimeout_idle (d : Dev) (n : Nat) (h : d.slotState n ≠ 1) : proveTimeout n d = d := by
  simp [proveTimeout, Dev.when, h]

theorem sessionTimeout_open (d : Dev) (n : Nat) (h : d.slotState n = 2) :
    sessionTimeout n d = (d.freeSlot n).sessionEvent 3 := by
  simp [sessionTimeout, Dev.when, Dev.closeSession, h]

theorem sessionTimeout_idle (d : Dev) (n : Nat) (h : d.slotState n ≠ 2) : sessionTimeout n d = d := by
  simp [sessionTimeout, Dev.when, h]

/-! ## Address replies (R507) -/

section AddressReplies

variable (d : Dev) (p : Nat) (bs : List Byte)

/-- MDP is served on the port and the VLAN of a frame. -/
def Dev.servesFrame (d : Dev) (p : Nat) (bs : List Byte) : Prop :=
  d.serverUp = true ∧ d.mdpPortOk p (d.classVid p (d.parse p bs)).1 = true

/-- A frame is an ARP request for MdpIpv4Address. -/
def Dev.arpAsks (d : Dev) (p : Nat) (bs : List Byte) : Prop :=
  let x := d.parse p bs
  let mine := (d.rdV Obj.MdpIpv4Address).bytes
  x.ethertype = 0x0806 ∧ be bs (x.at_ + 8) 2 = 1 ∧ mine ≠ List.replicate 4 0 ∧ slice bs (x.at_ + 26) 4 = some mine

theorem arpRequest_answered (ha : d.arpAsks p bs) (hh : d.servesFrame p bs) : arpRequest p bs d =
    (let x := d.parse p bs
     d.sendEngine p (.reply ((bs.drop (x.at_ + 10)).take 6 ++ d.portMac p ++ d.replyTag p ++ beBytes 2 0x0806 ++
      [0, 1, 8, 0, 6, 4, 0, 2] ++ d.portMac p ++ (d.rdV Obj.MdpIpv4Address).bytes ++ (bs.drop (x.at_ + 10)).take 10))) := by
  obtain ⟨ht, hop, hne, htarget⟩ := ha
  obtain ⟨hup, hport⟩ := hh
  simp only [arpRequest, Dev.when]
  rw [if_pos]
  simpa [ht, hop, htarget, hup, hport] using hne

theorem arpRequest_idle (h : ¬(d.arpAsks p bs ∧ d.servesFrame p bs)) : arpRequest p bs d = d := by
  have hn : ¬((d.serverUp = true ∧ d.arpAsks p bs) ∧ d.mdpPortOk p (d.classVid p (d.parse p bs)).1 = true) :=
    fun ⟨⟨hup, ha⟩, hport⟩ => h ⟨ha, hup, hport⟩
  simp only [Dev.arpAsks] at hn
  unfold arpRequest Dev.when
  rw [if_neg]
  simpa [and_assoc] using hn

theorem neighbourSolicitation_noIp (h : (d.parse p bs).ip = none) : neighbourSolicitation p bs d = d := by
  simp [neighbourSolicitation, h]

variable (i : IpInfo)

/-- The address a neighbour solicitation asks for. -/
def solicited (bs : List Byte) (i : IpInfo) : List Byte := (slice bs (i.l4 + 8) 16).getD []

/-- A packet is a neighbour solicitation for one of the two IPv6 addresses. -/
def Dev.solicits (d : Dev) (bs : List Byte) (i : IpInfo) : Prop :=
  i.v6 = true ∧ i.proto = 58 ∧ be bs i.l4 1 = 135 ∧ (solicited bs i).length = 16 ∧
    (solicited bs i = (d.rdV Obj.MdpIpv6Address).bytes ∨ solicited bs i = d.linkLocalIp)

/-- The frame that answers a neighbour solicitation. -/
def Dev.advertisement (d : Dev) (p : Nat) (bs : List Byte) (i : IpInfo) : List Byte :=
  let target := solicited bs i
  let named := i.sa ≠ List.replicate 16 0
  let dst := if named then i.sa else [0xFF, 0x02] ++ List.replicate 13 0 ++ [1]
  let head (sum : Nat) : List Byte :=
    [136, 0] ++ beBytes 2 sum ++ [if named then 0x60 else 0x20, 0, 0, 0] ++ target ++ [2, 1] ++ d.portMac p
  let sum := inetSum (target ++ dst ++ beBytes 4 32 ++ beBytes 4 58 ++ head 0)
  (if named then (d.parse p bs).sa else [0x33, 0x33, 0, 0, 0, 1]) ++ d.portMac p ++ d.replyTag p ++ beBytes 2 0x86DD ++
    beBytes 4 0x60000000 ++ beBytes 2 32 ++ [58, 255] ++ target ++ dst ++ head sum

theorem neighbourSolicitation_answered (hi : (d.parse p bs).ip = some i) (ha : d.solicits bs i) (hh : d.servesFrame p bs) :
    neighbourSolicitation p bs d = d.sendEngine p (.reply (d.advertisement p bs i)) := by
  obtain ⟨hv6, hproto, htype, hlen, hmine⟩ := ha
  obtain ⟨hup, hport⟩ := hh
  unfold solicited at hlen hmine
  simp [neighbourSolicitation, Dev.when, hi, hv6, hproto, htype, hlen, hmine, hup, hport, Dev.advertisement, solicited]

theorem neighbourSolicitation_idle (hi : (d.parse p bs).ip = some i) (h : ¬(d.solicits bs i ∧ d.servesFrame p bs)) :
    neighbourSolicitation p bs d = d := by
  have hn : ¬((d.serverUp = true ∧ d.solicits bs i) ∧ d.mdpPortOk p (d.classVid p (d.parse p bs)).1 = true) :=
    fun ⟨⟨hup, ha⟩, hport⟩ => h ⟨ha, hup, hport⟩
  simp only [Dev.solicits, solicited] at hn
  simp only [neighbourSolicitation, hi, Dev.when]
  rw [if_neg]
  simpa [and_assoc] using hn

end AddressReplies

/-! ## The commands without a queue -/

theorem exec_mdpDatagramRx (d : Dev) (q : List Instr) (p : PortHp) (bs : List Byte) :
    exec (.mdpDatagramRx p bs) ⟨d, q⟩ = .next ⟨mdpReceive p bs d, q⟩ := rfl

theorem exec_arpRequestRx (d : Dev) (q : List Instr) (p : PortHp) (bs : List Byte) :
    exec (.arpRequestRx p bs) ⟨d, q⟩ = .next ⟨arpRequest p bs d, q⟩ := rfl

theorem exec_neighbourSolicitationRx (d : Dev) (q : List Instr) (p : PortHp) (bs : List Byte) :
    exec (.neighbourSolicitationRx p bs) ⟨d, q⟩ = .next ⟨neighbourSolicitation p bs d, q⟩ := rfl

theorem exec_proveWaitTimeout (d : Dev) (q : List Instr) (s : Fin 16) :
    exec (.proveWaitTimeout s) ⟨d, q⟩ = .next ⟨proveTimeout s d, q⟩ := rfl

theorem exec_mdpSessionTimeout (d : Dev) (q : List Instr) (s : Fin 16) :
    exec (.mdpSessionTimeout s) ⟨d, q⟩ = .next ⟨sessionTimeout s d, q⟩ := rfl

theorem exec_mdpKeyWrite (d : Dev) (q : List Instr) (v : Fin 3) (key : List Byte) :
    exec (.mdpKeyWrite v key) ⟨d, q⟩ = .next ⟨d.when (key.length == 32) (keyWrite (v + 1) key), q⟩ := rfl

/-! ## The statement -/

/-- Settles O55: a datagram's reception, the request at the head under each opcode, the commands of the server that find none,
the timers, the keys and the address replies, each by the lemma of its case. -/
theorem datagramsOpenServeAndCloseSessions : Obligations.DatagramsOpenServeAndCloseSessions := by
  intro d q g r rest
  refine ⟨fun p bs => ?_, ?_, ?_, ?_, fun s => ?_, fun a => rfl, fun v key => ?_, fun p bs => ?_⟩
  · -- reception
    rw [exec_mdpDatagramRx]
    refine ⟨?_, fun i hi ht => ⟨fun hu => ?_, fun pay sp dp hu hp => ⟨fun hm => ?_, fun m hm => ?_⟩⟩⟩
    · rintro (hi | ht)
      · rw [mdpReceive_noIp d p bs hi]
      · rw [mdpReceive_notTaken d p bs ht]
    · rw [mdpReceive_noUdp d p bs i hi ht hu]
    · rw [mdpReceive_malformed d p bs i hi ht pay sp dp hu hp hm]
    · rw [mdpReceive_wellFormed d p bs i hi ht pay sp dp hu hp m hm]
  · -- acceptance
    refine ⟨mdpAccept_off d g r, mdpAccept_recovered d g r, fun h hk hc => ?_, fun h hk hc hf => ?_, fun h hk hc hf => ?_⟩
    · rw [mdpAccept_else d g r h hk, if_pos hc]
    · rw [mdpAccept_else d g r h hk, if_neg (by simp [hc]), if_pos hf]
    · rw [mdpAccept_else d g r h hk, if_neg (by simp [hc]), if_neg hf]
  · -- the request at the head of the queue
    intro hq hp hs e c n x level w done
    have hd : d.headIs g r e := ⟨hs, hp, rest, hq, rfl⟩
    refine ⟨fun ho => ?_, fun ho => ?_, fun o ho hop => ?_, fun hoff hh ht => ?_⟩
    · -- OPEN
      intro want lv
      refine ⟨fun hl => ?_, fun hl hn => ?_, fun hl hn => ⟨fun hv => ?_, fun h0 h3 hk => ?_, fun h0 hm => ?_,
        fun m h0 hm => ?_, fun m h0 h3 hk hm => ?_⟩⟩
      · exact hd.exec_eq mdpOpen_serves ho (mdpOpen_lockedOut hl) q
      · exact hd.exec_eq mdpOpen_serves ho (mdpOpen_length hl hn) q
      · exact hd.exec_eq mdpOpen_serves ho (mdpOpen_value hl hn hv) q
      · exact hd.exec_eq mdpOpen_serves ho (mdpOpen_auth hl hn h0 h3 hk) q
      · exact hd.exec_eq mdpOpen_serves ho (mdpOpen_full hl hn h0 hm) q
      · exact hd.exec_eq mdpOpen_serves ho (mdpOpen_open hl hn h0 hm) q
      · exact hd.exec_eq mdpOpen_serves ho (mdpOpen_challenge hl hn h0 h3 hk hm) q
    · -- PROVE
      refine ⟨fun h => ?_, fun h hh => ?_, fun h hh => ⟨fun hy => ?_, fun hy => ?_⟩⟩
      · exact hd.exec_eq mdpProve_serves ho (mdpProve_off g r e h) q
      · exact hd.exec_eq mdpProve_serves ho (mdpProve_noSession g r e h hh) q
      · exact hd.exec_eq mdpProve_serves ho ((mdpProve_awaited g r e h hh).trans (if_pos hy)) q
      · exact hd.exec_eq mdpProve_serves ho ((mdpProve_awaited g r e h hh).trans (if_neg hy)) q
    · -- the checks of a request of an open session, and of its number
      obtain ⟨body, hc⟩ := needsSession_of_sessionCmds ho
      refine ⟨fun h => ?_, fun h hh => ?_, fun h hh ht => ?_, fun h hh ht h5 h6 hn => ?_⟩
      · exact hd.exec_eq hc hop (mdpInSession_off e g r _ h) q
      · exact hd.exec_eq hc hop (mdpInSession_noSession e g r _ h hh) q
      · exact hd.exec_eq hc hop (mdpInSession_untagged e g r _ h hh ht) q
      · obtain ⟨body, hc⟩ := sequenced_of_sessionCmds ho h5 h6
        refine ⟨fun k bs hb => ?_, fun hb => ?_⟩
        · exact hd.exec_eq hc hop (mdpSequenced_stored _ ⟨h, hh, ht⟩ hn hb) q
        · exact hd.exec_eq hc hop (mdpSequenced_unknown _ ⟨h, hh, ht⟩ hn hb) q
    · -- the operations
      have h : e.inSession g r := ⟨hoff, hh, ht⟩
      refine ⟨fun ho => ?_, fun ho => ?_, fun hn => ⟨fun ho hv => ?_, fun f bs ho hv hr => ?_, fun f st ho hv hr => ?_,
        fun ho hv => ?_, fun f st ho hv hl hw => ?_, fun ho hv hl => ?_, fun ho => ?_, fun f t k ho hl hi => ?_,
        fun f st ho hl hi => ?_, fun ho hv hl => ?_, fun bs ho hl hr => ?_, fun st ho hl hr => ?_, fun ho hl => ?_,
        fun t ho hl hi => ?_, fun st ho hl hi => ?_, fun ho hl => ?_, fun f t st ho hl hw => ?_, fun ho hl => ?_,
        fun ho ht => ?_, fun ho ht => ?_, fun ho => ?_⟩⟩
      · exact hd.exec_eq mdpKeepalive_serves ho (mdpKeepalive_inSession h) q
      · exact hd.exec_eq mdpStatus_serves ho (mdpStatus_inSession h) q
      · exact hd.exec_eq mdpRead_serves ho (mdpRead_records h hn hv) q
      · exact hd.exec_eq mdpRead_serves ho (mdpRead_value h hn hv hr) q
      · exact hd.exec_eq mdpRead_serves ho (mdpRead_error h hn hv hr) q
      · exact hd.exec_eq mdpWrite_serves ho (mdpWrite_records h hn hv) q
      · exact hd.exec_eq mdpWrite_serves ho (mdpWrite_value h hn hv hl hw) q
      · exact hd.exec_eq mdpWrite_serves ho (mdpWrite_tooLarge h hn hv hl) q
      · exact hd.exec_eq mdpDescribe_serves ho (mdpDescribe_records h hn) q
      · exact hd.exec_eq mdpSegReadInit_serves ho (mdpSegReadInit_ok h hn hl hi) q
      · exact hd.exec_eq mdpSegReadInit_serves ho (mdpSegReadInit_error h hn hl hi) q
      · exact hd.exec_eq mdpSegReadInit_serves ho (mdpSegReadInit_length h hn hv hl) q
      · exact hd.exec_eq mdpSegRead_serves ho (mdpSegRead_ok h hn hl hr) q
      · exact hd.exec_eq mdpSegRead_serves ho (mdpSegRead_error h hn hl hr) q
      · exact hd.exec_eq mdpSegRead_serves ho (mdpSegRead_length h hn hl) q
      · exact hd.exec_eq mdpSegWriteInit_serves ho (mdpSegWriteInit_ok h hn hl hi) q
      · exact hd.exec_eq mdpSegWriteInit_serves ho (mdpSegWriteInit_error h hn hl hi) q
      · exact hd.exec_eq mdpSegWriteInit_serves ho (mdpSegWriteInit_length h hn hl) q
      · exact hd.exec_eq mdpSegWrite_serves ho (mdpSegWrite_data h hn hl hw) q
      · exact hd.exec_eq mdpSegWrite_serves ho (mdpSegWrite_length h hn hl) q
      · exact hd.exec_eq mdpSegAbort_serves ho (mdpSegAbort_ok h hn ht) q
      · exact hd.exec_eq mdpSegAbort_serves ho (mdpSegAbort_none h hn ht) q
      · exact hd.exec_eq mdpClose_serves ho (mdpClose_closes h hn) q
  · -- a command that finds no request of its opcode
    intro o ho h
    obtain ⟨f, hf⟩ := serves_of_servedCmds o ho
    rw [hf d q, mdpHead_unserved d o.1 f h]
  · -- timers
    simp only [exec_proveWaitTimeout, exec_mdpSessionTimeout]
    refine ⟨fun h => ?_, fun h => ?_, fun h => ?_, fun h => ?_⟩
    · rw [proveTimeout_awaiting d s h]
    · rw [proveTimeout_idle d s h]
    · rw [sessionTimeout_open d s h]
    · rw [sessionTimeout_idle d s h]
  · -- keys
    rw [exec_mdpKeyWrite]
    exact ⟨fun h => by simp [Dev.when, h], fun h => by simp [Dev.when, h]⟩
  · -- address replies
    simp only [exec_arpRequestRx, exec_neighbourSolicitationRx]
    refine ⟨fun ha hh => ?_, fun h => ?_, fun hi => ?_, fun i hi => ⟨fun ha hh => ?_, fun h => ?_⟩⟩
    · rw [arpRequest_answered d p bs ha hh]
    · rw [arpRequest_idle d p bs h]
    · rw [neighbourSolicitation_noIp d p bs hi]
    · rw [neighbourSolicitation_answered d p bs i hi ha hh]
      rfl
    · rw [neighbourSolicitation_idle d p bs i hi h]

end Sys2Proof.Machine
end

section
/-! PROOFS. The invariant of every step (R39, R499): sound stores, ordered Turns, and Turn numbers that rise. -/

namespace Sys2Proof.Machine

/-- What every step is held to: of a block with sound stores and ordered Turns, what was so as the step began. -/
theorem kept_here (d : Dev) (hs : d.sound) (ho : d.ordered) : d.kept ⟨d.mark, none⟩ :=
  ⟨hs, ho, .inl ⟨le_rfl, le_rfl, .inl rfl⟩, fun _ e => nomatch e⟩

/-- Every command keeps it: one arm for each, as in `exec`. -/
theorem exec_kept (c : Instr) (s t : State) (h : s.dev.kept ⟨s.dev.mark, none⟩) (e : exec c s = .next t) :
    t.dev.kept ⟨s.dev.mark, none⟩ :=
  match c with
  | .turnBoundary _ _ => execTurnBoundary_kept _ _ s t h rfl e
  | .whorlReadingDelivery _ => execWhorlReadingDelivery_kept _ s t h e
  | .linkTimingUpdate => execLinkTimingUpdate_kept s t h e
  | .servoUpdate => execServoUpdate_kept s t h e
  | .referenceSelection => execReferenceSelection_kept s t h e
  | .eventEvaluation => execEventEvaluation_kept s t h e
  | .counterDump => execCounterDump_kept s t h e
  | .calibrationStep => execCalibrationStep_kept s t h e
  | .laneEqualisationAdaptation _ => execLaneEqualisationAdaptation_kept _ s t h e
  | .addressLearning => execAddressLearning_kept s t h e
  | .reelTriggerEvaluation => execReelTriggerEvaluation_kept s t h e
  | .heartbeatAndComparison _ _ => execHeartbeatAndComparison_kept _ _ s t h e
  | .spoolPrograms _ _ => execSpoolPrograms_kept _ _ s t h e
  | .workItemOverrun _ _ => execWorkItemOverrun_kept _ _ s t h e
  | .spoolBudgetStop _ => execSpoolBudgetStop_kept _ s t h e
  | .turnChangeContinuous => execTurnChangeContinuous_kept s t h e
  | .turnReanchor => execTurnReanchor_kept s t h e
  | .turnChangeCancel => execTurnChangeCancel_kept s t h e
  | .gapHeartbeat _ _ => execGapHeartbeat_kept _ _ s t h e
  | .overrunClear _ => execOverrunClear_kept _ s t h e
  | .blockEnableCmd _ => execBlockEnableCmd_kept _ s t h e
  | .blockDisableCmd _ => execBlockDisableCmd_kept _ s t h e
  | .blockReady _ => execBlockReady_kept _ s t h e
  | .readinessLimitExpiry _ => execReadinessLimitExpiry_kept _ s t h e
  | .disablingComplete _ => execDisablingComplete_kept _ s t h e
  | .blockFault _ _ => execBlockFault_kept _ _ s t h e
  | .hostDeadlineMiss _ => execHostDeadlineMiss_kept _ s t h e
  | .hostNcoPhaseWrite _ => execHostNcoPhaseWrite_kept _ s t h e
  | .hostServoStateWrite _ => execHostServoStateWrite_kept _ s t h e
  | .timeStepRelative => execTimeStepRelative_kept s t h e
  | .timeSetAbsolute => execTimeSetAbsolute_kept s t h e
  | .timeStepCancel => execTimeStepCancel_kept s t h e
  | .timeSnapshotCmd => execTimeSnapshotCmd_kept s t h e
  | .timeSnapshotCapture => execTimeSnapshotCapture_kept s t h e
  | .syncRx _ _ _ _ _ _ _ => execSyncRx_kept _ _ _ _ _ _ _ s t h e
  | .followUpRx _ _ _ _ _ => execFollowUpRx_kept _ _ _ _ _ s t h e
  | .delayReqRx _ _ _ _ _ => execDelayReqRx_kept _ _ _ _ _ s t h e
  | .delayRespRx _ _ _ _ => execDelayRespRx_kept _ _ _ _ s t h e
  | .pdelayReqRx _ _ _ _ _ _ => execPdelayReqRx_kept _ _ _ _ _ _ s t h e
  | .pdelayRespRx _ _ _ _ _ _ => execPdelayRespRx_kept _ _ _ _ _ _ s t h e
  | .pdelayRespFollowUpRx _ _ _ _ => execPdelayRespFollowUpRx_kept _ _ _ _ s t h e
  | .announceRx _ _ _ => execAnnounceRx_kept _ _ _ s t h e
  | .signalingRx _ _ => execSignalingRx_kept _ _ s t h e
  | .ptpManagementRx _ _ _ => execPtpManagementRx_kept _ _ _ s t h e
  | .syncTx _ => execSyncTx_kept _ s t h e
  | .delayReqTx _ => execDelayReqTx_kept _ s t h e
  | .delayRespTx _ => execDelayRespTx_kept _ s t h e
  | .pdelayRespTx _ => execPdelayRespTx_kept _ s t h e
  | .announceTx _ => execAnnounceTx_kept _ s t h e
  | .l1SyncTx _ => execL1SyncTx_kept _ s t h e
  | .announceReceiptTimeout _ => execAnnounceReceiptTimeout_kept _ s t h e
  | .syncReceiptLoss _ => execSyncReceiptLoss_kept _ s t h e
  | .esmcPduRx _ _ _ => execEsmcPduRx_kept _ _ _ s t h e
  | .esmcInformationTx _ => execEsmcInformationTx_kept _ s t h e
  | .esmcEventTx _ => execEsmcEventTx_kept _ s t h e
  | .esmcRxTimeout _ => execEsmcRxTimeout_kept _ s t h e
  | .hostLinkRecordCmd _ => execHostLinkRecordCmd_kept _ s t h e
  | .plyRelockWindowExpiry _ => execPlyRelockWindowExpiry_kept _ s t h e
  | .relockSyncPairTx _ => execRelockSyncPairTx_kept _ s t h e
  | .plySyncPairTimeout _ => execPlySyncPairTimeout_kept _ s t h e
  | .pathStepDecisionSplit _ => execPathStepDecisionSplit_kept _ s t h e
  | .pathStepDecisionReplace _ => execPathStepDecisionReplace_kept _ s t h e
  | .pathStepAutoDecision _ => execPathStepAutoDecision_kept _ s t h e
  | .refinEdgeStamp _ _ => execRefinEdgeStamp_kept _ _ s t h e
  | .refinLabelApply _ => execRefinLabelApply_kept _ s t h e
  | .refinLabelClear _ => execRefinLabelClear_kept _ s t h e
  | .hostRefCmd => execHostRefCmd_kept s t h e
  | .refinPresenceTimeout _ => execRefinPresenceTimeout_kept _ s t h e
  | .hostRefIntervalExpiry => execHostRefIntervalExpiry_kept s t h e
  | .freqMonitorReport _ _ => execFreqMonitorReport_kept _ _ s t h e
  | .qualifyTimeElapsed _ => execQualifyTimeElapsed_kept _ s t h e
  | .refHoldOffExpiry _ => execRefHoldOffExpiry_kept _ s t h e
  | .switchSettleComplete => execSwitchSettleComplete_kept s t h e
  | .switchTimeout => execSwitchTimeout_kept s t h e
  | .waitToRestoreExpiry _ => execWaitToRestoreExpiry_kept _ s t h e
  | .hostRefSelectCmd => execHostRefSelectCmd_kept s t h e
  | .holdoverBin => execHoldoverBin_kept s t h e
  | .holdoverEstimateUpdate => execHoldoverEstimateUpdate_kept s t h e
  | .steeredSynthLoss => execSteeredSynthLoss_kept s t h e
  | .steeredSynthLock => execSteeredSynthLock_kept s t h e
  | .fixedSynthLoss => execFixedSynthLoss_kept s t h e
  | .plinthLoss => execPlinthLoss_kept s t h e
  | .plinthReturn => execPlinthReturn_kept s t h e
  | .bothSynthsUnlocked => execBothSynthsUnlocked_kept s t h e
  | .alignmentLineLock _ _ _ => execAlignmentLineLock_kept _ _ _ s t h e
  | .alignmentLineLockLoss _ => execAlignmentLineLockLoss_kept _ s t h e
  | .outputRealignArm => execOutputRealignArm_kept s t h e
  | .outputRealignCancel => execOutputRealignCancel_kept s t h e
  | .pulseRisingEdge _ _ => execPulseRisingEdge_kept _ _ s t h e
  | .pulseFallingEdge _ => execPulseFallingEdge_kept _ s t h e
  | .evinEdge _ _ _ _ _ => execEvinEdge_kept _ _ _ _ _ s t h e
  | .mrefStampConversion _ _ _ _ => execMrefStampConversion_kept _ _ _ _ s t h e
  | .measurementTimeout _ => execMeasurementTimeout_kept _ s t h e
  | .evinPinFault _ _ => execEvinPinFault_kept _ _ s t h e
  | .evinSwapCheck _ _ _ => execEvinSwapCheck_kept _ _ _ s t h e
  | .mrefPresent _ => execMrefPresent_kept _ s t h e
  | .mrefAbsent => execMrefAbsent_kept s t h e
  | .freqGateOne _ => execFreqGateOne_kept _ s t h e
  | .freqGateContinuous _ => execFreqGateContinuous_kept _ s t h e
  | .freqGateStop _ => execFreqGateStop_kept _ s t h e
  | .freqGateClose _ => execFreqGateClose_kept _ s t h e
  | .evinStampRead _ => execEvinStampRead_kept _ s t h e
  | .evinResultHeaderRead _ => execEvinResultHeaderRead_kept _ s t h e
  | .calBinRunCmd => execCalBinRunCmd_kept s t h e
  | .calPortRunCmd => execCalPortRunCmd_kept s t h e
  | .calRunAbort => execCalRunAbort_kept s t h e
  | .histogramComplete _ _ _ => execHistogramComplete_kept _ _ _ s t h e
  | .calCollectLimitExpiry _ => execCalCollectLimitExpiry_kept _ s t h e
  | .calPortNextCmd => execCalPortNextCmd_kept s t h e
  | .calLoopPhaseComplete => execCalLoopPhaseComplete_kept s t h e
  | .calMeasuringPhaseComplete => execCalMeasuringPhaseComplete_kept s t h e
  | .temperatureTrigger => execTemperatureTrigger_kept s t h e
  | .calStepCollectSignal => execCalStepCollectSignal_kept s t h e
  | .calStepCollectDither => execCalStepCollectDither_kept s t h e
  | .calStepEvaluate => execCalStepEvaluate_kept s t h e
  | .calStepCommitTable => execCalStepCommitTable_kept s t h e
  | .calStepDiscard => execCalStepDiscard_kept s t h e
  | .calStepTrim => execCalStepTrim_kept s t h e
  | .calStepPortLoop => execCalStepPortLoop_kept s t h e
  | .calStepPortMeasure => execCalStepPortMeasure_kept s t h e
  | .calStepCommitPort => execCalStepCommitPort_kept s t h e
  | .frameRxStart _ _ _ _ => execFrameRxStart_kept _ _ _ _ s t h e
  | .pipelineEntry _ => execPipelineEntry_kept _ s t h e
  | .replication _ _ => execReplication_kept _ _ s t h e
  | .oversizeTruncation _ => execOversizeTruncation_kept _ s t h e
  | .frameRxEnd _ => execFrameRxEnd_kept _ s t h e
  | .cutThroughStart _ _ _ _ => execCutThroughStart_kept _ _ _ _ s t h e
  | .learnQueueRead => execLearnQueueRead_kept s t h e
  | .macAgeingVisit => execMacAgeingVisit_kept s t h e
  | .tableOpRead => execTableOpRead_kept s t h e
  | .tableOpWrite => execTableOpWrite_kept s t h e
  | .tableOpInsert => execTableOpInsert_kept s t h e
  | .tableOpDelete => execTableOpDelete_kept s t h e
  | .tableOpSearch => execTableOpSearch_kept s t h e
  | .tableOpFlush => execTableOpFlush_kept s t h e
  | .tableOpComplete => execTableOpComplete_kept s t h e
  | .hpRxDelivery _ _ => execHpRxDelivery_kept _ _ s t h e
  | .transmitSelection _ _ _ _ => execTransmitSelection_kept _ _ _ _ s t h e
  | .frameTxEnd _ _ => execFrameTxEnd_kept _ _ s t h e
  | .gateEntryStart _ _ => execGateEntryStart_kept _ _ s t h e
  | .launchTimeReached p x => execLaunchTimeReached_kept p x s t h e
  | .gateOpReadArmature => execGateOpReadArmature_kept s t h e
  | .gateOpReadMaquette => execGateOpReadMaquette_kept s t h e
  | .gateOpWriteMaquette => execGateOpWriteMaquette_kept s t h e
  | .maquetteStreamRead => execMaquetteStreamRead_kept s t h e
  | .maquetteStreamWrite => execMaquetteStreamWrite_kept s t h e
  | .maquetteCopy => execMaquetteCopy_kept s t h e
  | .maquetteCopyComplete => execMaquetteCopyComplete_kept s t h e
  | .maquetteSwapArm => execMaquetteSwapArm_kept s t h e
  | .maquetteSwapCancel => execMaquetteSwapCancel_kept s t h e
  | .pauseFrameRx _ _ => execPauseFrameRx_kept _ _ s t h e
  | .pfcFrameRx _ _ _ => execPfcFrameRx_kept _ _ _ s t h e
  | .pauseTimerExpiry _ _ => execPauseTimerExpiry_kept _ _ s t h e
  | .xoffRepeat _ _ => execXoffRepeat_kept _ _ s t h e
  | .pauseFrameTx _ _ => execPauseFrameTx_kept _ _ s t h e
  | .reelStart => execReelStart_kept s t h e
  | .reelStop => execReelStop_kept s t h e
  | .reelResume => execReelResume_kept s t h e
  | .reelTriggerCmd => execReelTriggerCmd_kept s t h e
  | .reelRead => execReelRead_kept s t h e
  | .statSnapshot _ => execStatSnapshot_kept _ s t h e
  | .statPeek _ => execStatPeek_kept _ s t h e
  | .signalDetect _ => execSignalDetect_kept _ s t h e
  | .lossOfSignal _ => execLossOfSignal_kept _ s t h e
  | .signalHoldElapsed _ => execSignalHoldElapsed_kept _ s t h e
  | .cdrLock _ => execCdrLock_kept _ s t h e
  | .cdrLockLoss _ => execCdrLockLoss_kept _ s t h e
  | .adaptationConverged _ _ => execAdaptationConverged_kept _ _ s t h e
  | .alignmentFound _ _ _ _ _ => execAlignmentFound_kept _ _ _ _ _ s t h e
  | .alignHuntTimeout _ => execAlignHuntTimeout_kept _ s t h e
  | .alignmentLoss _ _ => execAlignmentLoss_kept _ _ s t h e
  | .highBerOnset _ _ => execHighBerOnset_kept _ _ s t h e
  | .lanePllLock _ _ => execLanePllLock_kept _ _ s t h e
  | .lanePllLockLoss _ _ => execLanePllLockLoss_kept _ _ s t h e
  | .portLinkUp _ _ _ => execPortLinkUp_kept _ _ _ s t h e
  | .portLinkDown _ => execPortLinkDown_kept _ s t h e
  | .laneHostCoeffCmd _ => execLaneHostCoeffCmd_kept _ s t h e
  | .loopbackBeaconTx _ => execLoopbackBeaconTx_kept _ s t h e
  | .loopbackBeaconRx _ _ => execLoopbackBeaconRx_kept _ _ s t h e
  | .loopCheckHoldExpiry _ => execLoopCheckHoldExpiry_kept _ s t h e
  | .loopbackClear _ => execLoopbackClear_kept _ s t h e
  | .ptClearCmd _ => execPtClearCmd_kept _ s t h e
  | .ptInjectCmd _ => execPtInjectCmd_kept _ s t h e
  | .ptCheckerLock _ _ _ => execPtCheckerLock_kept _ _ _ s t h e
  | .ptCheckerLockLoss _ _ _ => execPtCheckerLockLoss_kept _ _ _ s t h e
  | .laneTxSleep _ => execLaneTxSleep_kept _ s t h e
  | .laneTxWake _ => execLaneTxWake_kept _ s t h e
  | .laneRxSleep _ => execLaneRxSleep_kept _ s t h e
  | .laneRxWake _ => execLaneRxWake_kept _ s t h e
  | .nqThinWindow _ _ => execNqThinWindow_kept _ _ s t h e
  | .nqLaneSetBlockRx n tx at_ good ack seq => execNqLaneSetBlockRx_kept n tx at_ good ack seq s t h e
  | .nqTxAtMarker _ _ => execNqTxAtMarker_kept _ _ s t h e
  | .nqLaneLoss _ _ _ => execNqLaneLoss_kept _ _ _ s t h e
  | .nqMarkerLockLoss _ _ => execNqMarkerLockLoss_kept _ _ s t h e
  | .nqRestoreHoldExpiry _ _ => execNqRestoreHoldExpiry_kept _ _ s t h e
  | .checkerError _ => execCheckerError_kept _ s t h e
  | .selfTestCycleComplete _ _ _ _ => execSelfTestCycleComplete_kept _ _ _ _ s t h e
  | .isolatedSelfTestComplete _ _ => execIsolatedSelfTestComplete_kept _ _ s t h e
  | .redReturnCmd _ => execRedReturnCmd_kept _ s t h e
  | .redSwitchCmd _ => execRedSwitchCmd_kept _ s t h e
  | .revertHoldExpiry _ => execRevertHoldExpiry_kept _ s t h e
  | .coreRegisterLoad _ => execCoreRegisterLoad_kept _ s t h e
  | .fwStageDataWrite _ => execFwStageDataWrite_kept _ s t h e
  | .fwVerify => execFwVerify_kept s t h e
  | .fwVerifyComplete => execFwVerifyComplete_kept s t h e
  | .fwArm => execFwArm_kept s t h e
  | .fwCancel => execFwCancel_kept s t h e
  | .fwWriteFlash => execFwWriteFlash_kept s t h e
  | .fwStandbyLoaded _ => execFwStandbyLoaded_kept _ s t h e
  | .fwFlashWriteComplete _ => execFwFlashWriteComplete_kept _ s t h e
  | .mdpDatagramRx _ _ => execMdpDatagramRx_kept _ _ s t h e
  | .mdpOpen => execMdpOpen_kept s t h e
  | .mdpProve => execMdpProve_kept s t h e
  | .mdpClose => execMdpClose_kept s t h e
  | .mdpKeepalive => execMdpKeepalive_kept s t h e
  | .mdpStatus => execMdpStatus_kept s t h e
  | .mdpRead => execMdpRead_kept s t h e
  | .mdpWrite => execMdpWrite_kept s t h e
  | .mdpDescribe => execMdpDescribe_kept s t h e
  | .mdpSegReadInit => execMdpSegReadInit_kept s t h e
  | .mdpSegRead => execMdpSegRead_kept s t h e
  | .mdpSegWriteInit => execMdpSegWriteInit_kept s t h e
  | .mdpSegWrite => execMdpSegWrite_kept s t h e
  | .mdpSegAbort => execMdpSegAbort_kept s t h e
  | .arpRequestRx _ _ => execArpRequestRx_kept _ _ s t h e
  | .neighbourSolicitationRx _ _ => execNeighbourSolicitationRx_kept _ _ s t h e
  | .proveWaitTimeout _ => execProveWaitTimeout_kept _ s t h e
  | .mdpSessionTimeout _ => execMdpSessionTimeout_kept _ s t h e
  | .authLockoutExpiry _ => execAuthLockoutExpiry_kept _ s t h e
  | .mdpKeyWrite _ _ => execMdpKeyWrite_kept _ _ s t h e
  | .mbRead _ => execMbRead_kept _ s t h e
  | .mbWrite _ => execMbWrite_kept _ s t h e
  | .mbDescribe _ => execMbDescribe_kept _ s t h e
  | .mbSegReadInit _ => execMbSegReadInit_kept _ s t h e
  | .mbSegRead _ => execMbSegRead_kept _ s t h e
  | .mbSegWriteInit _ => execMbSegWriteInit_kept _ s t h e
  | .mbSegWrite _ => execMbSegWrite_kept _ s t h e
  | .mbSegAbort _ => execMbSegAbort_kept _ s t h e
  | .mbOperationComplete _ => execMbOperationComplete_kept _ s t h e
  | .directMapWrite _ _ => execDirectMapWrite_kept _ _ s t h e
  | .benigWindowWrite _ _ _ => execBenigWindowWrite_kept _ _ _ s t h e
  | .registerWrite _ _ => execRegisterWrite_kept _ _ s t h e
  | .evAckWrite _ _ => execEvAckWrite_kept _ _ s t h e
  | .ringTailWrite _ _ => execRingTailWrite_kept _ _ s t h e
  | .ringEnable _ => execRingEnable_kept _ s t h e
  | .ringDisable _ => execRingDisable_kept _ s t h e
  | .ringDisableComplete _ => execRingDisableComplete_kept _ s t h e
  | .txDescriptorFetch _ _ _ _ _ => execTxDescriptorFetch_kept _ _ _ _ _ s t h e
  | .ringAttentionAck _ _ => execRingAttentionAck_kept _ _ s t h e
  | .attentionCoalesceExpiry _ => execAttentionCoalesceExpiry_kept _ s t h e
  | .perfBankSnap _ => execPerfBankSnap_kept _ s t h e
  | .perfCounterConfigWrite _ _ _ => execPerfCounterConfigWrite_kept _ _ _ s t h e
  | .perfBankSnapshotRead _ => execPerfBankSnapshotRead_kept _ s t h e
  | .perfBankPeek _ => execPerfBankPeek_kept _ s t h e
  | .samplingInterrupt _ _ _ _ _ => execSamplingInterrupt_kept _ _ _ _ _ s t h e
  | .perfSampleRead => execPerfSampleRead_kept s t h e
  | .sysDone _ _ => execSysDone_kept _ _ s t h e
  | .sysTime _ _ _ => execSysTime_kept _ _ _ s t h e
  | .sysRead _ _ _ _ _ => execSysRead_kept _ _ _ _ _ s t h e
  | .sysWrite _ _ _ _ _ => execSysWrite_kept _ _ _ _ _ s t h e
  | .sysPerf _ _ _ _ => execSysPerf_kept _ _ _ _ s t h e
  | .sysBudget _ _ => execSysBudget_kept _ _ s t h e
  | .sysLog _ _ _ _ => execSysLog_kept _ _ _ _ s t h e
  | .spoolLogRead => execSpoolLogRead_kept s t h e
  | .powerOnReset => execPowerOnReset_kept s t h e
  | .resetNAssert => execResetNAssert_kept s t h e
  | .supplyReset => execSupplyReset_kept s t h e
  | .deviceResetCmd => execDeviceResetCmd_kept s t h e
  | .resetRelease _ => execResetRelease_kept _ s t h ⟨le_rfl, le_rfl, .inl rfl⟩ e
  | .perstAssert => execPerstAssert_kept s t h e
  | .pcieLinkTraining => execPcieLinkTraining_kept s t h e
  | .bootImageReadComplete _ _ _ _ => execBootImageReadComplete_kept _ _ _ _ s t h e
  | .serverReady => execServerReady_kept s t h e
  | .standbyReturnAtBoot => execStandbyReturnAtBoot_kept s t h e
  | .deviceLevelFault _ _ => execDeviceLevelFault_kept _ _ s t h e
  | .deviceRestart _ => execDeviceRestart_kept _ s t h rfl e
  | .deviceRestartCmd => execDeviceRestartCmd_kept s t h e
  | .configLostAck => execConfigLostAck_kept s t h e
  | .thermalSample _ _ => execThermalSample_kept _ _ s t h e
  | .supplySample _ _ => execSupplySample_kept _ _ s t h e
  | .pinFaultDetect _ _ _ => execPinFaultDetect_kept _ _ _ s t h e
  | .shortRetry _ _ => execShortRetry_kept _ _ s t h e
  | .dramEccError _ _ _ => execDramEccError_kept _ _ _ s t h e
  | .dramScrub _ _ => execDramScrub_kept _ _ s t h e
  | .fixedSynthLock => execFixedSynthLock_kept s t h e
  | .localRegisterRead _ => execLocalRegisterRead_kept _ s t h e
  | .deepStoreTrainingComplete _ => execDeepStoreTrainingComplete_kept _ s t h e
  | .fecUncorrectableCodeword _ _ => execFecUncorrectableCodeword_kept _ _ s t h e
  | .preMasterQualificationTimeout _ => execPreMasterQualificationTimeout_kept _ s t h e

theorem step_kept (s t : State) (hs : s.dev.sound) (ho : s.dev.ordered) (e : step s = .next t) :
    t.dev.kept ⟨s.dev.mark, none⟩ := by
  have h := kept_here s.dev hs ho
  unfold step at e
  split at e
  · cases e
    exact idle_kept s.dev h
  · next c rest _ => exact exec_kept c ⟨s.dev, rest⟩ t h e

/-- Settles O5: of what every step keeps (`step_kept`), the two parts it names. -/
theorem everyStepKeepsStoresAndTurnOrder : Obligations.EveryStepKeepsStoresAndTurnOrder := by
  intro s t hs ho e
  obtain ⟨hsound, hordered, -, -⟩ := step_kept s t hs ho e
  exact ⟨hsound, hordered⟩

/-- Settles O6: a block that is out of reset has had none since the step began, so that the marks of `Dev.since` hold. -/
theorem turnNumbersIncreaseStrictly : Obligations.TurnNumbersIncreaseStrictly := by
  intro s t hs ho e hr
  obtain ⟨-, -, hsince, -⟩ := step_kept s t hs ho e
  obtain ⟨-, hle, hlt⟩ := hsince.resolve_right (by simp [hr])
  exact ⟨hle, hlt.resolve_left⟩

end Sys2Proof.Machine
end

section
/-! PROOFS. Reset and the numbering of Turns (R36, R37, R58, R91, R561). -/

namespace Sys2Proof.Machine

/-! ## Reset -/

theorem reset_sound : State.reset.dev.sound := ⟨rfl, rfl, rfl⟩

theorem reset_ordered : State.reset.dev.ordered := Nat.le_refl 0

/-- Settles O4: nothing is written, and no Turn has started. -/
theorem resetStateIsSoundAndOrdered : Obligations.ResetStateIsSoundAndOrdered :=
  ⟨reset_sound, reset_ordered⟩

/-- At reset the source `n` has raised nothing and is disabled, but for EV63, and goes to no pin. -/
theorem reset_event : ∀ n < 64, State.reset.dev.rdN (inst Obj.EventStatus n) = 0 ∧ State.reset.dev.rd (inst Obj.EventRoute n) = 0 ∧
    State.reset.dev.rdB (inst Obj.EventEnable n) = (n == 63) := by
  decide +kernel

theorem reset_period : State.reset.dev.rdN Obj.TurnPeriod = 62500 := by decide +kernel
theorem reset_anchorTime : State.reset.dev.rd Obj.TurnAnchorTime = 0 := by decide +kernel
theorem reset_anchorNumber : State.reset.dev.rdN Obj.TurnAnchorNumber = 0 := by decide +kernel

theorem reset_boundaryTime (n : Nat) : State.reset.dev.boundaryTime n = n * 62500 * (2 * nsT) := by
  simp [Dev.boundaryTime, boundaryOf, reset_period, reset_anchorTime, reset_anchorNumber]

theorem reset_spindles : State.reset.dev.rd (inst Obj.SpindleState 0) = 0 ∧ State.reset.dev.rd (inst Obj.SpindleState 1) = 0 ∧
    State.reset.dev.rdB Obj.TimeValid = false := by
  decide +kernel

/-- Settles O3: every part is the default of its object or field. -/
theorem resetLeavesTheBlockWaiting : Obligations.ResetLeavesTheBlockWaiting := by
  obtain ⟨hA, hB, hValid⟩ := reset_spindles
  exact ⟨rfl, rfl, rfl, rfl, reset_event, hA, hB, hValid, reset_period, reset_anchorTime, reset_anchorNumber,
    reset_boundaryTime⟩

/-! ## The numbering of Turns (R37, R58) -/

theorem turnLength_pos {p : Nat} (hp : 0 < p) : (0 : Int) < p * (2 * nsT) := by
  have : (0 : Int) < nsT := by decide
  positivity

/-- Consecutive boundaries lie one period of `2 p` ns apart. -/
theorem boundaryOf_succ (p : Nat) (ta : Int) (na n : Nat) :
    boundaryOf p ta na (n + 1) = boundaryOf p ta na n + p * (2 * nsT) := by
  simp only [boundaryOf]
  push_cast
  ring

theorem boundaryOf_anchor (p : Nat) (ta : Int) (na : Nat) : boundaryOf p ta na na = ta := by
  simp [boundaryOf]

/-- `ceilDiv` rounds up: the multiple it names is the first not below the number. -/
theorem ceilDiv_bounds (x : Int) {k : Int} (hk : 0 < k) : x ≤ ceilDiv x k * k ∧ ceilDiv x k * k < x + k := by
  have hle := Int.ediv_mul_le (-x) hk.ne'
  have hlt := Int.lt_ediv_add_one_mul_self (-x) hk
  rw [add_mul, one_mul] at hlt
  simp only [ceilDiv, neg_mul]
  omega

theorem ceilDiv_nonneg {x k : Int} (hx : 0 ≤ x) (hk : 0 < k) : 0 ≤ ceilDiv x k :=
  Int.neg_nonneg_of_nonpos (Int.ediv_nonpos_of_nonpos_of_neg (by omega) hk)

/-- From the anchor on, the first Turn at or after a time starts as many periods after the anchor as `ceilDiv` counts. -/
theorem boundaryOf_firstAtOf (p : Nat) (ta : Int) (na : Nat) (t : Int) (hp : 0 < p) (ht : ta ≤ t) :
    boundaryOf p ta na (firstAtOf p ta na t) = ta + ceilDiv (t - ta) (p * (2 * nsT)) * (p * (2 * nsT)) := by
  have hq : 0 ≤ ceilDiv (t - ta) (p * (2 * nsT)) := ceilDiv_nonneg (by omega) (turnLength_pos hp)
  simp only [boundaryOf, firstAtOf]
  push_cast
  rw [Int.toNat_of_nonneg hq]
  ring

/-- Settles O17: by the rounding of `ceilDiv`. -/
theorem boundariesAreEvenlySpaced : Obligations.BoundariesAreEvenlySpaced := by
  intro p ta na n t hp
  refine ⟨boundaryOf_succ p ta na n, boundaryOf_anchor p ta na, fun ht => ?_⟩
  obtain ⟨hle, hlt⟩ := ceilDiv_bounds (t - ta) (turnLength_pos hp)
  rw [boundaryOf_firstAtOf p ta na t hp ht]
  omega

end Sys2Proof.Machine
end

section
/-! PROOFS. Work items (R43, R46 to R49, R59): when one starts, what is unfinished, events, overruns, heartbeats, and items 1, 2, 4. -/

namespace Sys2Proof.Machine

/-! ## The frame of a work item (R43, R46) -/

theorem mem_unfinished_iff (d : Dev) (i : Nat) : i ∈ d.unfinished ↔ i ∈ d.turn.openItems ∧ d.itemActive i = true :=
  List.mem_filter

theorem itemStarts_iff (d : Dev) (i : Nat) :
    d.itemStarts i = true ↔ i ∈ d.turn.openItems ∧ ∀ j ∈ startsAfter i, j ∉ d.unfinished := by
  simp [Dev.itemStarts]

/-- An item that depends on no other starts while it is open. -/
theorem itemStarts_free_iff {i : Nat} (hi : startsAfter i = []) (d : Dev) : d.itemStarts i = true ↔ i ∈ d.turn.openItems := by
  simp [itemStarts_iff, hi]

theorem workItem_starts {d : Dev} {i : Nat} (f : Dev → Dev) (h : d.itemStarts i = true) :
    d.workItem i f = (f d).closeItem i := if_pos h

theorem workItem_idle {d : Dev} {i : Nat} (f : Dev → Dev) (h : d.itemStarts i = false) : d.workItem i f = d := by
  simp [Dev.workItem, h]

theorem workItem_open {d : Dev} {i : Nat} (f : Dev → Dev) (hi : startsAfter i = []) (h : i ∈ d.turn.openItems) :
    d.workItem i f = (f d).closeItem i :=
  workItem_starts f ((itemStarts_free_iff hi d).2 h)

theorem workItem_closed {d : Dev} {i : Nat} (f : Dev → Dev) (h : i ∉ d.turn.openItems) : d.workItem i f = d :=
  workItem_idle f (Bool.eq_false_iff.2 fun hs => h ((itemStarts_iff d i).1 hs).1)

/-! ## Events (R47, R557, R560) -/

section Raise

variable (d : Dev) (n : Nat)

theorem rdN_raise_status :
    (d.raise n).rdN (inst Obj.EventStatus n) = latchRaise (d.rdN (inst Obj.EventStatus n)) := by
  change Dev.rdN (Dev.wr (Dev.inc _ _) _ _) _ = _
  rw [rdN_wr_other _ _ _ _ (by simp), Dev.inc, Dev.add32, rdN_wr_other _ _ _ _ (by simp), rdN_wr_same, Int.toNat_natCast]

theorem rdN_raise_total :
    (d.raise n).rdN (inst Obj.EventRaiseTotal n) = (d.rdN (inst Obj.EventRaiseTotal n) + 1) % 2 ^ 32 := by
  change Dev.rdN (Dev.wr (Dev.inc _ _) _ _) _ = _
  rw [rdN_wr_other _ _ _ _ (by simp), Dev.inc, Dev.add32, rdN_wr_same, Int.toNat_natCast,
    rdN_wr_other _ _ _ _ (by simp)]

theorem rd_raise_lastTurn : (d.raise n).rd (inst Obj.EventLastRaiseTurn n) = d.rd Obj.TurnNumber :=
  rd_wr_same _ _ _

/-- Raising a source writes three objects and no other. -/
theorem rdV_raise_other (k : Nat) (h1 : k ≠ inst Obj.EventStatus n) (h2 : k ≠ inst Obj.EventRaiseTotal n)
    (h3 : k ≠ inst Obj.EventLastRaiseTurn n) : (d.raise n).rdV k = d.rdV k := by
  change Dev.rdV (Dev.wr (Dev.inc _ _) _ _) _ = _
  rw [rdV_wr_other _ _ _ _ h3.symm, Dev.inc, Dev.add32, rdV_wr_other _ _ _ _ h2.symm, rdV_wr_other _ _ _ _ h1.symm]

end Raise

theorem exec_eventEvaluation (d : Dev) (q : List Instr) :
    exec .eventEvaluation ⟨d, q⟩ = .next ⟨eventEvaluation d, q⟩ := rfl

/-- Work item 5 raises what is recorded, in order, then EV18 as often as it is owed. -/
theorem eventEvaluation_open (d : Dev) (h : 5 ∈ d.turn.openItems) :
    eventEvaluation d = ((d.turnEvents ++ List.replicate d.turn.owed 18).foldl (fun (e : Dev) n => e.raise n)
      { d with turnEvents := [], turn := { d.turn with owed := 0 } }).closeItem 5 := by
  rw [eventEvaluation, workItem_open _ rfl h, Dev.forEach_eq_foldl]

/-- EV18 becomes owed at the first overrun of a Turn. -/
theorem owesEvent_first {d : Dev} (h : d.turn.owedAt ≠ some d.turn.started) :
    d.owesEvent = { d with turn := { d.turn with owed := d.turn.owed + 1, owedAt := some d.turn.started } } := by
  simp [Dev.owesEvent, h]

theorem owesEvent_again {d : Dev} (h : d.turn.owedAt = some d.turn.started) : d.owesEvent = d := by
  simp [Dev.owesEvent, h]

/-- Settles O11: one raise, then item 5 as a fold of raises, and EV18 owed once for a Turn. -/
theorem instantAndTurnEventsAreRaised : Obligations.InstantAndTurnEventsAreRaised := by
  refine ⟨fun d n _ => ?_, fun d q h => ?_, fun d h => ?_, fun d q h => ?_⟩
  · exact ⟨rdN_raise_status d n, rdN_raise_total d n, rd_raise_lastTurn d n, rdV_raise_other d n, rfl, rfl, rfl⟩
  · rw [exec_eventEvaluation, eventEvaluation_open d h]
  · rw [owesEvent_first h]
    exact ⟨rfl, owesEvent_again rfl⟩
  · rw [exec_eventEvaluation, eventEvaluation, workItem_closed _ h]

/-! ## Overruns (R46 to R48, R61) -/

theorem exec_workItemOverrun (d : Dev) (q : List Instr) (i : Fin 13) (o : OverrunObs) :
    exec (.workItemOverrun i o) ⟨d, q⟩ = .next ⟨itemOverrun i o.atBoundary o.spindles o.cores d, q⟩ := rfl

theorem exec_overrunClear (d : Dev) (q : List Instr) (i : Fin 13) :
    exec (.overrunClear i) ⟨d, q⟩ = .next ⟨overrunClear i d, q⟩ := rfl

theorem itemOverrun_unfinished {d : Dev} {i : Nat} (late : Bool) (x y : PairObs) (h : i ∈ d.unfinished) :
    itemOverrun i late x y d = d.abandons i (if late then 2 else 1) x y := by
  simp [itemOverrun, h]

theorem itemOverrun_idle {d : Dev} {i : Nat} (late : Bool) (x y : PairObs) (h : i ∉ d.unfinished) :
    itemOverrun i late x y d = d := by
  simp [itemOverrun, h]

/-- For these items the table of R48 asks for nothing beyond the record. -/
theorem abandoned_plain (d : Dev) (i : Nat) (x y : PairObs) (hi : i ∈ [1, 2, 4, 5, 8, 9, 10]) : d.abandoned i x y = d := by
  simp only [List.mem_cons, List.not_mem_nil, or_false] at hi
  rcases hi with rfl | rfl | rfl | rfl | rfl | rfl | rfl <;> rfl

section Clear

variable (d : Dev) (i : Nat)

theorem rd_overrunClear_count : (overrunClear i d).rd (inst Obj.OverrunCount i) = 0 := by
  simp only [overrunClear, Dev.wrs]
  rw [rd_wr_other _ _ _ _ (by simp), rd_wr_other _ _ _ _ (by simp), rd_wr_same]

theorem rd_overrunClear_lastTurn : (overrunClear i d).rd (inst Obj.OverrunLastTurn i) = 0 := by
  simp only [overrunClear, Dev.wrs]
  rw [rd_wr_other _ _ _ _ (by simp), rd_wr_same]

theorem rd_overrunClear_cause : (overrunClear i d).rd (inst Obj.OverrunCause i) = 0 := rd_wr_same _ _ _

theorem rdV_overrunClear_other (k : Nat) (h1 : k ≠ inst Obj.OverrunCount i) (h2 : k ≠ inst Obj.OverrunLastTurn i)
    (h3 : k ≠ inst Obj.OverrunCause i) : (overrunClear i d).rdV k = d.rdV k := by
  simp only [overrunClear, Dev.wrs]
  rw [rdV_wr_other _ _ _ _ h3.symm, rdV_wr_other _ _ _ _ h2.symm, rdV_wr_other _ _ _ _ h1.symm]

end Clear

/-- Settles O18: by whether the item is unfinished; the record is that of `Dev.overrun`. -/
theorem overrunsAreRecordedAndCleared : Obligations.OverrunsAreRecordedAndCleared := by
  refine ⟨fun d q i late x y h => ?_, fun d q i late x y h => ?_, abandoned_plain, mem_unfinished_iff, fun d q i => ?_⟩
  · rw [exec_workItemOverrun, itemOverrun_unfinished late x y h]
    rfl
  · rw [exec_workItemOverrun, itemOverrun_idle late x y h]
  · exact ⟨overrunClear i d, exec_overrunClear d q i, rd_overrunClear_count d i, rd_overrunClear_lastTurn d i,
      rd_overrunClear_cause d i, rdV_overrunClear_other d i, rfl⟩

/-! ## Heartbeats (R59, R470, R475, R476) -/

theorem exec_heartbeatAndComparison (d : Dev) (q : List Instr) (x y : PairObs) :
    exec (.heartbeatAndComparison x y) ⟨d, q⟩ = .next ⟨heartbeat x y d, q⟩ := rfl

theorem exec_gapHeartbeat (d : Dev) (q : List Instr) (x y : PairObs) :
    exec (.gapHeartbeat x y) ⟨d, q⟩ = .next ⟨gapHeartbeat x y d, q⟩ := rfl

theorem heartbeat_open {d : Dev} (x y : PairObs) (h : 11 ∈ d.turn.openItems) :
    heartbeat x y d = faultOf ((d.closeItem 11).arbitrateAll x y true) := by
  simp [heartbeat, h]

theorem heartbeat_closed {d : Dev} (x y : PairObs) (h : 11 ∉ d.turn.openItems) : heartbeat x y d = d := by
  simp [heartbeat, h]

theorem gapHeartbeat_gap {d : Dev} (x y : PairObs) (hg : d.turn.gap = true) (hs : d.stopped = false) :
    gapHeartbeat x y d =
      faultOf (((d.pairAct 0 (d.rdN Obj.TurnNumber)).1.pairAct 1 (d.rdN Obj.TurnNumber)).1.arbitrateAll x y false) := by
  simp [gapHeartbeat, hg, hs]

theorem gapHeartbeat_noGap {d : Dev} (x y : PairObs) (hg : d.turn.gap = false) : gapHeartbeat x y d = d := by
  simp [gapHeartbeat, hg]

/-- Settles O23: by whether item 11 is open, and by whether a gap runs. -/
theorem heartbeatsAndGaps : Obligations.HeartbeatsAndGaps := by
  intro d q x y
  simp only [exec_heartbeatAndComparison, exec_gapHeartbeat]
  refine ⟨fun h => ?_, fun h => ?_, fun hg hs => ?_, fun hg => ?_, fun _ => rfl, fun _ _ _ => rfl⟩
  · rw [heartbeat_open x y h]
  · rw [heartbeat_closed x y h]
  · rw [gapHeartbeat_gap x y hg hs]
  · rw [gapHeartbeat_noGap x y hg]

/-! ## Items 1, 2 and 4 (R125, R193, R202, R206) -/

theorem exec_whorlReadingDelivery (d : Dev) (q : List Instr) (rs : List (Nat × Int × Nat)) :
    exec (.whorlReadingDelivery rs) ⟨d, q⟩ = .next ⟨whorlReadings rs d, q⟩ := rfl

theorem exec_linkTimingUpdate (d : Dev) (q : List Instr) :
    exec .linkTimingUpdate ⟨d, q⟩ = .next ⟨linkTimingUpdate d, q⟩ := rfl

theorem exec_referenceSelection (d : Dev) (q : List Instr) :
    exec .referenceSelection ⟨d, q⟩ = .next ⟨referenceSelection d, q⟩ := rfl

/-- Every candidate is refreshed and measured. -/
def Dev.candsMeasured (d : Dev) : Dev := d.forEach (fun k e => waitKept k (takeMeasurement k (refreshCand k e))) (List.range 101)

/-- The loss of a selected reference that is no longer eligible is noted; that of one which is ends (R202). -/
def Dev.lossNoted (d : Dev) : Dev :=
  match d.selected with
  | some c => if d.refEligible c then { d with ref := { d.ref with lossAt := none } } else d.noteLoss
  | none => d

/-- What work item 4 does once every candidate is measured: the selector chooses, or a loss is noted (R193, R202). -/
def Dev.choosesReference (e : Dev) : Dev :=
  if !e.on .refSelector 0 then e.strays false
  else if e.rdB Obj.ModeF2RefSelector then e.strays true
  else { e.lossNoted with ref := { e.lossNoted.ref with next := e.lossNoted.selects, strayed := false, asked := none } }

theorem referenceSelection_eq (d : Dev) :
    referenceSelection d = d.workItem 4 fun d => d.candsMeasured.choosesReference.initialStep.hostSet := by
  refine congrArg (d.workItem 4) (funext fun d => ?_)
  extract_lets ks e
  change _ = e.choosesReference.initialStep.hostSet
  clear_value e
  rfl

theorem choosesReference_decides {e : Dev} (hon : e.on .refSelector 0 = true) (hm : e.rdB Obj.ModeF2RefSelector = false) :
    e.choosesReference =
      { e.lossNoted with ref := { e.lossNoted.ref with next := e.lossNoted.selects, strayed := false, asked := none } } := by
  simp [Dev.choosesReference, hon, hm]

theorem choosesReference_host {e : Dev} (hon : e.on .refSelector 0 = true) (hm : e.rdB Obj.ModeF2RefSelector = true) :
    e.choosesReference = e.strays true := by
  simp [Dev.choosesReference, hon, hm]

theorem choosesReference_off {e : Dev} (hon : e.on .refSelector 0 = false) : e.choosesReference = e.strays false := by
  simp [Dev.choosesReference, hon]

/-- Settles O26: each of the three is the frame of a work item around what it does. -/
theorem workItemsRunOnceInTheirTurn : Obligations.WorkItemsRunOnceInTheirTurn := by
  refine ⟨itemStarts_iff, rfl, rfl, rfl, rfl, fun d q => ?_⟩
  simp only [exec_whorlReadingDelivery, exec_linkTimingUpdate, exec_referenceSelection, referenceSelection_eq]
  refine ⟨fun rs h => ?_, fun h => ?_, fun h => ⟨fun hon hm => ?_, fun hon hm => ?_, fun hon => ?_⟩, fun rs h => ?_, fun h => ?_,
    fun h => ?_⟩
  · rw [whorlReadings, workItem_starts _ h]
    simp only [Bool.and_eq_true, decide_eq_true_eq, and_assoc]
    rfl
  · rw [linkTimingUpdate, workItem_starts _ h]
  · rw [workItem_starts _ h, Dev.candsMeasured, choosesReference_decides hon hm]
    generalize d.forEach _ _ = e
    rfl
  · rw [workItem_starts _ h, Dev.candsMeasured, choosesReference_host hon hm]
  · rw [workItem_starts _ h, Dev.candsMeasured, choosesReference_off hon]
  · rw [whorlReadings, workItem_idle _ h]
  · rw [linkTimingUpdate, workItem_idle _ h]
  · rw [workItem_idle _ h]

end Sys2Proof.Machine
end

section
/-! PROOFS. The Turn change queue (R51 to R56, R80) and the boundary of a Turn (R37, R42, R43, R53, R58). -/

namespace Sys2Proof.Machine

/-! ## Turn parameter changes -/

theorem exec_turnChangeContinuous (d : Dev) (q : List Instr) : exec .turnChangeContinuous ⟨d, q⟩ = .next ⟨armPeriod d, q⟩ := rfl

theorem exec_turnReanchor (d : Dev) (q : List Instr) : exec .turnReanchor ⟨d, q⟩ = .next ⟨armReanchor d, q⟩ := rfl

theorem exec_turnChangeCancel (d : Dev) (q : List Instr) : exec .turnChangeCancel ⟨d, q⟩ = .next ⟨cancelParam d, q⟩ := rfl

/-- A Turn parameter change for Turn TurnChangeAt passes the checks of both kinds: arming is open, and neither another parameter
change nor a step for that Turn waits (R51, R52, R54, R80). -/
def Dev.paramFits (d : Dev) : Prop :=
  d.canArm (d.rdN Obj.TurnChangeAt) = true ∧ d.turn.queue.any Change.isParam = false ∧
    d.turn.queue.any (fun c => c.isStep && c.turn == d.rdN Obj.TurnChangeAt) = false

/-- The re-anchor that is staged gives its first boundary a number below that of the Turn it is for (R55). -/
def Dev.reanchorFallsBack (d : Dev) : Prop :=
  firstAtOf (d.rdN Obj.TurnStagedPeriod) (d.rd Obj.TurnStagedAnchorTime) (d.rdN Obj.TurnStagedAnchorNumber)
    (d.boundaryTime (d.rdN Obj.TurnChangeAt)) < d.rdN Obj.TurnChangeAt

theorem armParam_arms {d : Dev} {k : ChangeKind} (h : d.paramFits) :
    armParam k true d = (d.arm (d.rdN Obj.TurnChangeAt) k).wr Obj.TurnChangeCmd 1 := by
  obtain ⟨harm, hparam, hstep⟩ := h
  simp only [armParam, harm, hparam, hstep]
  rfl

theorem armParam_refused {d : Dev} {k : ChangeKind} {ok : Bool} (h : ¬d.paramFits ∨ ok = false) :
    armParam k ok d = d.wr Obj.TurnChangeCmd 0x80 := by
  refine if_neg fun hc => ?_
  simp only [Bool.and_eq_true, Bool.not_eq_true'] at hc
  obtain ⟨⟨⟨harm, hparam⟩, hstep⟩, hok⟩ := hc
  exact h.elim (fun hn => hn ⟨harm, hparam, hstep⟩) (fun hf => by simp [hf] at hok)

theorem armReanchor_arms {d : Dev} (h : d.paramFits) (hf : ¬d.reanchorFallsBack) :
    armReanchor d = (d.arm (d.rdN Obj.TurnChangeAt) (.reanchor (d.rdN Obj.TurnStagedPeriod) (d.rd Obj.TurnStagedAnchorTime)
      (d.rdN Obj.TurnStagedAnchorNumber))).wr Obj.TurnChangeCmd 1 := by
  rw [armReanchor, decide_eq_true (not_lt.1 hf), armParam_arms h]

theorem armReanchor_refused {d : Dev} (h : ¬d.paramFits ∨ d.reanchorFallsBack) :
    armReanchor d = d.wr Obj.TurnChangeCmd 0x80 :=
  armParam_refused (h.imp_right fun hf => decide_eq_false (not_le.2 hf))

theorem not_paramFits {d : Dev} (h : d.canArm (d.rdN Obj.TurnChangeAt) = false ∨ d.turn.queue.any Change.isParam = true) :
    ¬d.paramFits := by
  rintro ⟨harm, hparam, -⟩
  rcases h with h | h
  · simp [harm] at h
  · simp [hparam] at h

/-- Settles O12: by whether the change fits (`Dev.paramFits`), and of a re-anchor by where its first boundary numbers. -/
theorem turnChangesAreArmedOrRefused : Obligations.TurnChangesAreArmedOrRefused := by
  intro d q
  simp only [exec_turnChangeContinuous, exec_turnReanchor, exec_turnChangeCancel]
  refine ⟨fun harm hparam hstep => ?_, fun h => ?_, rfl⟩
  · have hfits : d.paramFits := ⟨harm, by simp [List.any_eq_not_all_not, hparam], by simp only [List.any_eq_not_all_not, hstep, Bool.not_true]⟩
    refine ⟨?_, fun hf => ?_, fun hf => ?_⟩
    · rw [armPeriod, armParam_arms hfits]
      rfl
    · rw [armReanchor_arms hfits (not_lt.2 hf)]
      rfl
    · rw [armReanchor_refused (.inr hf)]
  · rw [armPeriod, armParam_refused (.inl (not_paramFits h)), armReanchor_refused (.inl (not_paramFits h))]
    exact ⟨rfl, rfl⟩

/-! ## The boundary -/

theorem exec_turnBoundary (d : Dev) (q : List Instr) (cclk : Nat) (cs : List PerfCount) :
    exec (.turnBoundary cclk cs) ⟨d, q⟩ = .next ⟨turnBoundary cclk cs d, q⟩ := rfl

/-- Time has reached the boundary, and the Turn in progress, if one runs, has ended (R37, R42). -/
def Dev.atBoundary (d : Dev) (cclk : Nat) (cs : List PerfCount) : Dev :=
  (d.reachBoundary cclk cs).when d.turn.running fun e => e.turnEnds cclk

/-- The changes due at the next boundary, made. -/
def Dev.changesDue (e : Dev) : Dev × Option Nat := Dev.boundaryChanges (e.turn.queue.length + 1) e.turn.next e

/-- With no change due, the next Turn starts as the numbering says. -/
theorem changesDue_none {e : Dev} (h : e.nextChange e.turn.next = none) : e.changesDue = (e, some e.turn.next) := by
  simp [Dev.changesDue, Dev.boundaryChanges, h]

/-- The Turn opened is the one TurnNumber shows; TurnLastDiscontinuity is another object. -/
theorem rd_opens_turnNumber (d : Dev) (m : Nat) : (d.opens m).rd Obj.TurnNumber = m := by
  change ((d.wr Obj.TurnNumber m).when d.turn.gap (·.wr Obj.TurnLastDiscontinuity m)).rd Obj.TurnNumber = m
  cases d.turn.gap
  · exact rd_wr_same d _ _
  · exact (rd_wr_other _ _ _ _ (by decide)).trans (rd_wr_same d _ _)

section Boundary

variable {d f : Dev} {cclk : Nat} {cs : List PerfCount}

theorem turnBoundary_idle (h : d.counting = false ∨ d.rd Obj.DeviceFaultPhase = 1 ∨ d.rd Obj.DeviceFaultPhase = 3) :
    turnBoundary cclk cs d = d := by
  refine if_pos ?_
  rcases h with h | h | h <;> simp [h]

variable (hc : d.counting = true) (hp : d.rd Obj.DeviceFaultPhase = 0 ∨ d.rd Obj.DeviceFaultPhase = 2)
include hc hp

/-- The counters count and no device-level fault stops the block: the boundary is not refused (log entry 10). -/
theorem boundary_comes : ¬(!d.counting || !(d.rd Obj.DeviceFaultPhase == 0 || d.rd Obj.DeviceFaultPhase == 2)) = true := by
  simpa [hc] using or_iff_not_imp_left.1 hp

theorem turnBoundary_starts {m : Nat} (h : (d.atBoundary cclk cs).changesDue = (f, some m)) :
    turnBoundary cclk cs d = (f.cutItems 2).turnStarts m := by
  rw [Dev.changesDue, Dev.atBoundary] at h
  simp only [turnBoundary, boundary_comes hc hp, h]
  rfl

theorem turnBoundary_gap (h : (d.atBoundary cclk cs).changesDue = (f, none)) :
    turnBoundary cclk cs d = ({ f with turn := { f.turn with upMark := f.time.uptime } } : Dev).showAllGates f.now := by
  rw [Dev.changesDue, Dev.atBoundary] at h
  simp only [turnBoundary, boundary_comes hc hp, h]
  rfl

end Boundary

/-- Settles O16: by what the changes due leave (log entries 10 to 12 are the model's reading of the order at a boundary). -/
theorem boundaryStartsTheNextTurn : Obligations.BoundaryStartsTheNextTurn := by
  intro d q cclk cs
  simp only [exec_turnBoundary]
  refine ⟨fun hc hp => ⟨fun h => ?_, fun f m h => ?_, fun f h => ?_⟩, fun h => ?_, fun m => ⟨?_, rfl, rfl, rfl, rfl⟩⟩
  · rw [turnBoundary_starts hc hp (changesDue_none h)]
    rfl
  · rw [turnBoundary_starts hc hp h]
  · rw [turnBoundary_gap hc hp h]
  · rw [turnBoundary_idle h]
  · exact rd_opens_turnNumber d m

end Sys2Proof.Machine
end

section
/-! PROOFS. Receive lanes (R433 to R441): one lemma for each state a command acts in, and work item 8. -/

namespace Sys2Proof.Machine

section Lane

variable (d : Dev) (q : List Instr) (l : Lane)

theorem exec_signalDetect : exec (.signalDetect l) ⟨d, q⟩ = .next ⟨signalDetect l d, q⟩ := rfl
theorem exec_lossOfSignal : exec (.lossOfSignal l) ⟨d, q⟩ = .next ⟨lossOfSignal l d, q⟩ := rfl
theorem exec_signalHoldElapsed : exec (.signalHoldElapsed l) ⟨d, q⟩ = .next ⟨signalHold l d, q⟩ := rfl
theorem exec_cdrLock : exec (.cdrLock l) ⟨d, q⟩ = .next ⟨cdrLock l d, q⟩ := rfl
theorem exec_cdrLockLoss : exec (.cdrLockLoss l) ⟨d, q⟩ = .next ⟨cdrLockLoss l d, q⟩ := rfl
theorem exec_adaptationConverged (bs : List Byte) :
    exec (.adaptationConverged l bs) ⟨d, q⟩ = .next ⟨adaptationConverged l bs d, q⟩ := rfl
theorem exec_alignmentFound (slip box pos : Nat) (inv : Bool) :
    exec (.alignmentFound l slip box pos inv) ⟨d, q⟩ = .next ⟨alignmentFound l slip box pos inv d, q⟩ := rfl
theorem exec_alignHuntTimeout : exec (.alignHuntTimeout l) ⟨d, q⟩ = .next ⟨alignHuntTimeout l d, q⟩ := rfl
theorem exec_alignmentLoss (n : Nat) : exec (.alignmentLoss l n) ⟨d, q⟩ = .next ⟨laneAlignLoss l n d, q⟩ := rfl
theorem exec_highBerOnset (n : Nat) : exec (.highBerOnset l n) ⟨d, q⟩ = .next ⟨highBer l n d, q⟩ := rfl
theorem exec_laneEqualisationAdaptation (moves : List (Lane × List Int)) :
    exec (.laneEqualisationAdaptation moves) ⟨d, q⟩ = .next ⟨laneAdaptation (moves.map fun m => (m.1.val, m.2)) d, q⟩ := rfl

end Lane

section Receive

variable {d : Dev} {l : Nat}

/-! ## Signal (R433, R434) -/

theorem signalDetect_off (h : d.on .lane l = false) : signalDetect l d = d := by
  simp [signalDetect, h]

theorem signalDetect_on (h : d.on .lane l = true) :
    signalDetect l d = if (d.wr (inst Obj.LaneSignalDetect l) 1).rxState l = 6 ∧
        (d.wr (inst Obj.LaneSignalDetect l) 1).isNq ((d.wr (inst Obj.LaneSignalDetect l) 1).portOfLane l) = true
      then (d.wr (inst Obj.LaneSignalDetect l) 1).rxTo l 2 else d.wr (inst Obj.LaneSignalDetect l) 1 := by
  simp [signalDetect, h, Dev.when]

theorem lossOfSignal_eq : lossOfSignal l d =
    if 2 ≤ (d.wr (inst Obj.LaneSignalDetect l) 0).rxState l ∧ (d.wr (inst Obj.LaneSignalDetect l) 0).rxState l ≠ 6
      then (d.wr (inst Obj.LaneSignalDetect l) 0).rxTo l 1 else d.wr (inst Obj.LaneSignalDetect l) 0 := by
  simp [lossOfSignal, Dev.when]

theorem signalHold_eq : signalHold l d =
    if d.rxState l = 1 ∧ d.rdB (inst Obj.LaneSignalDetect l) = true ∧ d.laneClocked l = true ∧ d.stopped = false
      then d.rxTo l 2 else d := by
  simp [signalHold, Dev.when, and_assoc]

/-! ## Lock and adaptation (R434, R437, R438) -/

theorem cdrLock_eq : cdrLock l d = if d.rxState l = 2 then d.rxTo l (if (d.lane l).fromSleep then 4 else 3) else d := by
  simp [cdrLock, Dev.when]

theorem cdrLockLoss_eq : cdrLockLoss l d = if d.rxState l = 5 then d.rxTo l 2 else d := by
  simp [cdrLockLoss, Dev.when]

theorem adaptationConverged_eq (bs : List Byte) : adaptationConverged l bs d =
    if d.rxState l = 3 then (if d.adapts l = true ∧ coeffsOk bs = true then d.setCoeffs l bs 0 else d).rxTo l 4 else d := by
  simp [adaptationConverged, Dev.when]

/-! ## Alignment and its losses (R434, R435, R441) -/

theorem alignmentFound_eq (slip box pos : Nat) (inv : Bool) : alignmentFound l slip box pos inv d =
    if d.rxState l = 4 then
      if inv = true ∧ d.rdB (inst Obj.LaneRxPolarityAuto l) = true then d.invertRx l else d.laneLocks l slip box pos
    else d := by
  simp [alignmentFound]

theorem alignHuntTimeout_eq : alignHuntTimeout l d =
    if d.rxState l = 4 then
      if d.rdB (inst Obj.LaneRxPolarityAuto l) = true then (d.rxTo l 2).invertRx l else d.rxTo l 2
    else d := by
  simp [alignHuntTimeout, Dev.when]

theorem laneAlignLoss_eq (n : Nat) : laneAlignLoss l n d =
    if d.rxState l = 5 then (d.add32 (inst Obj.LaneBlockErrorCount l) n).rxTo l 4 else d := by
  simp [laneAlignLoss, Dev.when]

theorem highBer_eq (n : Nat) : highBer l n d =
    if d.rxState l = 5 ∧ d.rateCode l ≠ some 0 then
      (((d.add32 (inst Obj.LaneBlockErrorCount l) n).inc (inst Obj.LaneHiBerCount l)).quadEvent (l / 4) 4 l).linkDown (d.portOfLane l)
    else d := by
  simp [highBer, Dev.when]

/-! ## Work item 8 (R44, R438) -/

theorem length_coeffsMoved (bs : List Byte) (moves : List Int) : (coeffsMoved bs moves).length = 16 := by
  simp [coeffsMoved]

/-- One lane of work item 8: a LOCKED lane in hardware mode keeps the set it moved to for the boundary. -/
def Dev.adaptsLane (e : Dev) (m : Nat × List Int) : Dev :=
  if e.rxState m.1 = 5 ∧ e.adapts m.1 = true then
    e.setLane m.1 fun x => { x with adapted := some (coeffsMoved (e.coeffs m.1) m.2) }
  else e

theorem laneAdaptation_eq (moves : List (Nat × List Int)) (d : Dev) :
    laneAdaptation moves d = d.workItem 8 fun d => moves.foldl Dev.adaptsLane d := by
  simp only [laneAdaptation, Bool.and_eq_true, beq_iff_eq]
  rfl

/-- At the boundary the set a LOCKED lane moved to comes into force where neither a host set nor the preset waits. -/
theorem coeffsAtBoundary_adapted {bs : List Byte} (h5 : d.rxState l = 5) (ha : d.adapts l = true)
    (hbs : (d.lane l).adapted = some bs) (hh : (d.lane l).hostSet = none) (hp : (d.lane l).preset = false) :
    coeffsAtBoundary l d = (d.setLane l fun x => { x with hostSet := none, preset := false, adapted := none }).setCoeffs l bs 0 := by
  have hkept : ∀ f, ((d.setLane l f).rxState l == 5 && (d.setLane l f).adapts l) = true := fun f =>
    Bool.and_eq_true_iff.2 ⟨beq_iff_eq.2 h5, ha⟩
  simp [coeffsAtBoundary, hbs, hh, hp, Dev.when, hkept]

end Receive

/-- Settles O50: of each command by the one state of the receiver it acts in, of item 8 by whether it is open (log entries 24 and
48 are the model's readings). -/
theorem receiveLanesFollowTheirStates : Obligations.ReceiveLanesFollowTheirStates := by
  intro d q l
  simp only [exec_signalDetect, exec_lossOfSignal, exec_signalHoldElapsed, exec_cdrLock, exec_cdrLockLoss,
    exec_adaptationConverged, exec_alignmentFound, exec_alignHuntTimeout, exec_alignmentLoss, exec_highBerOnset,
    exec_laneEqualisationAdaptation]
  exact ⟨
    fun h => by rw [signalDetect_off h],
    fun h => ⟨fun hw => by rw [signalDetect_on h, if_pos hw], fun hw => by rw [signalDetect_on h, if_neg hw]⟩,
    ⟨fun h2 h6 => by rw [lossOfSignal_eq, if_pos ⟨h2, h6⟩],
      fun h => by rw [lossOfSignal_eq, if_neg fun ⟨h2, h6⟩ => h.elim (not_lt.2 h2) h6]⟩,
    fun h1 hs hc hd => by rw [signalHold_eq, if_pos ⟨h1, hs, hc, hd⟩],
    fun h => by rw [signalHold_eq, if_neg fun ⟨h1, hs, hc, hd⟩ => by simp [h1, hs, hc, hd] at h],
    fun h => by rw [cdrLock_eq, if_pos h],
    fun h => by rw [cdrLock_eq, if_neg h],
    fun h => by rw [cdrLockLoss_eq, if_pos h],
    fun h => by rw [cdrLockLoss_eq, if_neg h],
    fun bs => ⟨fun h ha hok => by rw [adaptationConverged_eq, if_pos h, if_pos ⟨ha, hok⟩],
      fun h hn => by rw [adaptationConverged_eq, if_pos h, if_neg fun ⟨ha, hok⟩ => by simp [ha, hok] at hn],
      fun h => by rw [adaptationConverged_eq, if_neg h]⟩,
    fun slip box pos inv => ⟨fun h hn => by rw [alignmentFound_eq, if_pos h, if_neg fun ⟨hi, hp⟩ => by simp [hi, hp] at hn],
      fun h hi hp => by rw [alignmentFound_eq, if_pos h, if_pos ⟨hi, hp⟩],
      fun h => by rw [alignmentFound_eq, if_neg h]⟩,
    fun h hp => by rw [alignHuntTimeout_eq, if_pos h, if_neg (by simp [hp])],
    fun h hp => by rw [alignHuntTimeout_eq, if_pos h, if_pos hp],
    fun h => by rw [alignHuntTimeout_eq, if_neg h],
    fun n => ⟨fun h => by rw [laneAlignLoss_eq, if_pos h],
      fun h => by rw [laneAlignLoss_eq, if_neg h],
      fun h hr => by rw [highBer_eq, if_pos ⟨h, hr⟩],
      fun h => by rw [highBer_eq, if_neg fun ⟨h5, hr⟩ => h.elim (· h5) hr]⟩,
    fun bs => length_coeffsMoved bs [],
    fun moves => ⟨fun h => by rw [laneAdaptation_eq, workItem_open _ rfl h, List.foldl_map]; rfl,
      fun h => by rw [laneAdaptation_eq, workItem_closed _ h]⟩,
    fun h5 ha bs => coeffsAtBoundary_adapted h5 ha⟩

end Sys2Proof.Machine
end

section
/-! PROOFS. The time base (R70, R78 to R94): uptime, one cycle of the clocks, steps of time and the snapshot. -/

namespace Sys2Proof.Machine

/-! ## Uptime (R91) -/

/-- Settles O7: of what every step keeps (`step_kept`), the mark of the uptime. -/
theorem uptimeNeverGoesBack : Obligations.UptimeNeverGoesBack := by
  intro s t hs ho e
  obtain ⟨-, -, hsince, -⟩ := step_kept s t hs ho e
  exact hsince.imp_left fun ⟨hup, _, _⟩ => hup

/-! ## One cycle of the clocks (R70, R91, log entry 4) -/

section Keeps

variable {α : Type} (P : Dev → α)

/-- What each doing for a number of a list keeps, doing it for all of them keeps. -/
theorem forEach_keeps {f : Nat → Dev → Dev} {l : List Nat} (h : ∀ n ∈ l, ∀ e, P (f n e) = P e) (d : Dev) :
    P (d.forEach f l) = P d := by
  induction l generalizing d with
  | nil => rfl
  | cons n rest ih => exact (ih (fun m hm => h m (List.mem_cons_of_mem n hm)) (f n d)).trans (h n List.mem_cons_self d)

theorem when_keeps {f : Dev → Dev} (c : Bool) (h : ∀ e, P (f e) = P e) (d : Dev) : P (d.when c f) = P d := by
  cases c
  · rfl
  · exact h d

end Keeps

/-- The block without what cycles of the clocks change beside UptimeNs: the counters of the spindles, the performance counters and
the phase accumulated (R70, R186, R566). -/
def Dev.offClock (d : Dev) : Dev :=
  { d with perf := {}, ref := { d.ref with ncoPhase := 0 }, time := { d.time with spindles := [] } }

theorem offClock_perfCounter (b event i n k : Nat) (d : Dev) : (perfCounter b event i n k d).offClock = d.offClock := by
  unfold perfCounter
  extract_lets c v w e
  split
  · calc _ = e.offClock := rfl
      _ = d.offClock := when_keeps Dev.offClock _ (by intro; rfl) d
  · rfl

theorem offClock_counted (d : Dev) (b event i n : Nat) : (d.counted b event i n).offClock = d.offClock := by
  unfold Dev.counted
  split
  · exact forEach_keeps Dev.offClock (fun k _ => offClock_perfCounter b event i n k) d
  · rfl

theorem offClock_advance (d : Dev) (n : Nat) : (d.advance n).offClock = d.offClock := by
  unfold Dev.advance
  split
  · extract_lets incs bump cycle _ _ e f
    have hbump (u i : Nat) (g : Dev) : (bump u i g).offClock = g.offClock := when_keeps Dev.offClock _ (by intro; rfl) g
    calc (bump 1 incs.2 (bump 0 incs.1 f)).offClock
      _ = f.offClock := by rw [hbump, hbump]
      _ = e.offClock := when_keeps Dev.offClock _ (fun g => offClock_counted g 1 0x09 0 n) e
      _ = d.offClock := rfl
  · rfl

/-- The uptime grows by the time that passes, kept to 2^-48 ns (R91). -/
theorem ages_uptime (d : Dev) (t : Nat) :
    (d.ages t).time.uptime * 2 ^ 48 + (d.ages t).time.upRest = d.time.uptime * 2 ^ 48 + d.time.upRest + t := by
  simp only [Dev.ages]
  omega

theorem ages_upRest_lt (d : Dev) (t : Nat) : (d.ages t).time.upRest < 2 ^ 48 := Nat.mod_lt _ (by decide)

/-- The length of one cycle: of the steered synth by the word in force, else that of the clock that advances the counters (R69, R70,
R220). -/
theorem lasts_one (d : Dev) : d.lasts 1 =
    if d.time.tclkSteered = true then 2 ^ 97 / (2 ^ 48 + d.rd (inst Obj.NcoWord d.active)).toNat
    else if d.time.perPlinth = true then 40 * 2 ^ 48 else 2 * 2 ^ 48 := by
  unfold Dev.lasts Dev.cycleNs
  cases d.time.tclkSteered <;> cases d.time.perPlinth <;> simp

theorem step_empty (d : Dev) : step ⟨d, []⟩ = .next ⟨idle d, []⟩ := rfl

theorem idle_unreleased {d : Dev} (h : d.boot.released = false) : idle d = d := by simp [idle, Dev.when, h]

theorem idle_released {d : Dev} (h : d.boot.released = true) : idle d = (d.advance 1).ages (d.lasts 1) := by
  simp [idle, Dev.when, h, Dev.pass]

/-- Settles O2: a cycle changes what `Dev.offClock` leaves out (`offClock_advance`), and the uptime by its length (`lasts_one`). -/
theorem idleStepIsOneClockCycle : Obligations.IdleStepIsOneClockCycle := by
  intro d
  refine ⟨fun h => by rw [step_empty, idle_unreleased h], fun h => ⟨idle d, step_empty d, ?_⟩⟩
  have hoff : (d.advance 1).offClock = d.offClock := offClock_advance d 1
  have hup : (d.advance 1).time.uptime = d.time.uptime := congrArg (·.time.uptime) hoff
  have hrest : (d.advance 1).time.upRest = d.time.upRest := congrArg (·.time.upRest) hoff
  have hobjs : (d.advance 1).objs = d.objs := congrArg (·.objs) hoff
  have hregs : (d.advance 1).regs = d.regs := congrArg (·.regs) hoff
  have hturn : (d.advance 1).turn = d.turn := congrArg (·.turn) hoff
  rw [idle_released h, ages_uptime, lasts_one, hup, hrest]
  exact ⟨rfl, ages_upRest_lt _ _, fun k => rdV_of_objs _ _ hobjs k, hregs, hturn⟩

/-! ## A parameter change meets a pending step (R80) -/

theorem not_paramFits_of_step {d : Dev}
    (h : d.turn.queue.any (fun c => c.isStep && c.turn == d.rdN Obj.TurnChangeAt) = true) : ¬d.paramFits := by
  rintro ⟨-, -, hstep⟩
  simp [hstep] at h

/-- Settles O13: with a step pending for its Turn a parameter change does not fit (`Dev.paramFits`). -/
theorem parameterChangeMeetsAPendingStep : Obligations.ParameterChangeMeetsAPendingStep := by
  intro d q h
  have hfits := not_paramFits_of_step h
  rw [exec_turnChangeContinuous, exec_turnReanchor, armPeriod, armParam_refused (.inl hfits), armReanchor_refused (.inl hfits)]
  exact ⟨rfl, rfl⟩

/-! ## Steps of time (R78, R79, R89) -/

theorem exec_timeStepRelative (d : Dev) (q : List Instr) : exec .timeStepRelative ⟨d, q⟩ = .next ⟨armStepRel d, q⟩ := rfl

theorem exec_timeSetAbsolute (d : Dev) (q : List Instr) : exec .timeSetAbsolute ⟨d, q⟩ = .next ⟨armStepAbs d, q⟩ := rfl

theorem exec_timeStepCancel (d : Dev) (q : List Instr) : exec .timeStepCancel ⟨d, q⟩ = .next ⟨cancelStep d, q⟩ := rfl

/-- The initial step is a step. -/
theorem isInitialStep_false_of_isStep_false {c : Change} (h : c.isStep = false) : c.isInitialStep = false := by
  obtain ⟨n, kind⟩ := c
  cases kind with
  | stepOwn v source i => exact Bool.noConfusion h
  | _ => rfl

theorem disarm_eq_self {d : Dev} {p : Change → Bool} (h : ∀ c ∈ d.turn.queue, p c = false) : d.disarm p = d := by
  have hkeep : d.turn.queue.filter (fun c => !p c) = d.turn.queue := List.filter_eq_self.2 fun c hc => by simp [h c hc]
  rw [Dev.disarm, hkeep]

/-- A step of time for Turn TimeStepAt finds arming open, and in the queue neither a step nor a parameter change for that Turn (R51,
R52, R79, R80). -/
structure Dev.stepFits (d : Dev) : Prop where
  arms : d.canArm (d.rdN Obj.TimeStepAt) = true
  noStep : ∀ c ∈ d.turn.queue, c.isStep = false
  noParam : ∀ c ∈ d.turn.queue, (c.isParam && c.turn == d.rdN Obj.TimeStepAt) = false

theorem stepFits_of_all {d : Dev} (harm : d.canArm (d.rdN Obj.TimeStepAt) = true)
    (hall : d.turn.queue.all (fun c => !c.isStep && !(c.isParam && c.turn == d.rdN Obj.TimeStepAt)) = true) : d.stepFits := by
  have hboth : ∀ c ∈ d.turn.queue, c.isStep = false ∧ (c.isParam && c.turn == d.rdN Obj.TimeStepAt) = false := fun c hc => by
    simpa only [Bool.and_eq_true, Bool.not_eq_true'] using List.all_eq_true.1 hall c hc
  exact ⟨harm, fun c hc => (hboth c hc).1, fun c hc => (hboth c hc).2⟩

theorem armStep_arms {d : Dev} {k : ChangeKind} {result : Int} (h : d.stepFits) (h0 : 0 ≤ result) (hm : result ≤ maxT) :
    armStep k result true d = (d.arm (d.rdN Obj.TimeStepAt) k).wr Obj.TimeStepCmd 1 := by
  have hinit : d.disarm Change.isInitialStep = d :=
    disarm_eq_self fun c hc => isInitialStep_false_of_isStep_false (h.noStep c hc)
  have hstep : d.turn.queue.any Change.isStep = false := List.any_eq_false.2 fun c hc => by simp [h.noStep c hc]
  have hparam : d.turn.queue.any (fun c => c.isParam && c.turn == d.rdN Obj.TimeStepAt) = false :=
    List.any_eq_false.2 fun c hc => by simp only [h.noParam c hc, Bool.false_eq_true, not_false_iff]
  simp only [armStep, hinit, h.arms, hstep, hparam, h0, hm]
  rfl

theorem armStep_refused {d : Dev} {k : ChangeKind} {result : Int} : armStep k result false d = d.wr Obj.TimeStepCmd 0x80 :=
  if_neg (by simp)

theorem armStepRel_arms {d : Dev} (h : d.stepFits) (hv : d.rd Obj.TimeStepValue ≠ 0)
    (h0 : 0 ≤ d.boundaryTime (d.rdN Obj.TimeStepAt) + d.rd Obj.TimeStepValue)
    (hm : d.boundaryTime (d.rdN Obj.TimeStepAt) + d.rd Obj.TimeStepValue ≤ maxT) :
    armStepRel d = (d.arm (d.rdN Obj.TimeStepAt) (.stepRel (d.rd Obj.TimeStepValue))).wr Obj.TimeStepCmd 1 := by
  rw [armStepRel, bne_iff_ne.2 hv, armStep_arms h h0 hm]

theorem armStepRel_zero {d : Dev} (hv : d.rd Obj.TimeStepValue = 0) : armStepRel d = d.wr Obj.TimeStepCmd 0x80 := by
  simp only [armStepRel, hv]
  exact armStep_refused

theorem cancelStep_eq (d : Dev) : cancelStep d = ((d.disarm Change.isStep).wr Obj.TimeStepCmd 0).when
    (d.turn.queue.any Change.isInitialStep)
    fun e => { e with ref := { e.ref with initial := none, cancelled := some e.turn.started } } := rfl

/-! ## The snapshot (R93, R94) -/

theorem exec_timeSnapshotCmd (d : Dev) (q : List Instr) : exec .timeSnapshotCmd ⟨d, q⟩ = .next ⟨snapshotCmd d, q⟩ := rfl

theorem exec_timeSnapshotCapture (d : Dev) (q : List Instr) :
    exec .timeSnapshotCapture ⟨d, q⟩ = .next ⟨snapshotCapture d, q⟩ := rfl

/-- Settles O14: by whether the step fits (`Dev.stepFits`), whether the initial step waits, and whether a capture is pending (log
entry 47 is the model's reading of when the amount is captured). -/
theorem stepsOfTimeAreArmedOrRefused : Obligations.StepsOfTimeAreArmedOrRefused := by
  intro d q
  simp only [exec_timeStepRelative, exec_timeSetAbsolute, exec_timeStepCancel, exec_timeSnapshotCmd, cancelStep_eq]
  refine ⟨fun harm hall => ?_, fun hv => ?_, fun hi => ?_, fun hi => ?_, fun hp => ?_, fun hp => ?_⟩
  · have hfits := stepFits_of_all harm hall
    refine ⟨fun hv h0 hm => ?_, fun h0 hm => ?_⟩
    · rw [armStepRel_arms hfits hv h0 hm]
      rfl
    · rw [armStepAbs, armStep_arms hfits h0 hm]
      rfl
  · rw [armStepRel_zero hv]
  · rw [hi]
    rfl
  · rw [hi]
    rfl
  · rw [snapshotCmd, hp]
    rfl
  · rw [snapshotCmd, hp]
    rfl

section Wrs

variable {l : List (Nat × Int)}

/-- Writing a list of objects leaves every object that it does not name. -/
theorem rdV_wrs_other {k : Nat} (h : ∀ e ∈ l, e.1 ≠ k) (d : Dev) : (d.wrs l).rdV k = d.rdV k := by
  induction l generalizing d with
  | nil => rfl
  | cons e rest ih =>
    exact (ih (fun x hx => h x (List.mem_cons_of_mem e hx)) (d.wr e.1 e.2)).trans
      (rdV_wr_other d _ _ _ (h e List.mem_cons_self))

/-- An object named once by a list that is written reads what the list says. -/
theorem rd_wrs_mem {k : Nat} {v : Int} (hl : (l.map Prod.fst).Nodup) (h : (k, v) ∈ l) (d : Dev) : (d.wrs l).rd k = v := by
  induction l generalizing d with
  | nil => exact absurd h List.not_mem_nil
  | cons e rest ih =>
    obtain ⟨hnot, hrest⟩ := List.nodup_cons.1 hl
    rcases List.mem_cons.1 h with rfl | h
    · have hother := rdV_wrs_other (k := k) (fun x hx hk => hnot (List.mem_map.2 ⟨x, hx, hk⟩)) (d.wr k v)
      exact (congrArg Val.toInt hother).trans (rd_wr_same d k v)
    · exact ih hrest h (d.wr e.1 e.2)

/-- Writing objects changes nothing else. -/
theorem wrs_frame (d : Dev) : d.wrs l = { d with objs := (d.wrs l).objs } := by
  induction l generalizing d with
  | nil => rfl
  | cons e rest ih => exact ih (d.wr e.1 e.2)

end Wrs

/-- The objects a capture writes, with their values (R93, R94, R96). -/
def Dev.snapshotSet (d : Dev) : List (Nat × Int) :=
  [(Obj.SnapActiveSecondsHigh, (bits (d.now / secT).toNat 32 16 : Nat)),
    (Obj.SnapActiveSecondsLow, (bits (d.now / secT).toNat 0 32 : Nat)),
    (Obj.SnapActiveNanoseconds, d.now / 65536 % 1000000000), (Obj.SnapActiveFraction, d.now % 65536),
    (Obj.SnapStandbyMinusActive, (toField 32 (clampI (-2 ^ 31) (2 ^ 31 - 1) (d.spindleTime d.standby - d.now)) : Nat)),
    (Obj.SnapTurnLow, (bits (d.rdN Obj.TurnNumber) 0 32 : Nat)), (Obj.SnapTurnHigh, (bits (d.rdN Obj.TurnNumber) 32 32 : Nat)),
    (Obj.SnapUptimeLow, (bits d.time.uptime 0 32 : Nat)), (Obj.SnapUptimeHigh, (bits d.time.uptime 32 32 : Nat)),
    (Obj.SnapTimeValid, d.rd Obj.TimeValid),
    (Obj.SnapshotStatus, (2 ^ 31 + (bits (d.rdN Obj.SnapshotStatus) 0 16 + 1) % 2 ^ 16 : Nat)), (Obj.TimeSnapshotCmd, 0)]

/-- The block after a capture. -/
def Dev.snapped (d : Dev) : Dev := { d.wrs d.snapshotSet with time := { d.time with snapPending := false } }

theorem snapshotCapture_pending {d : Dev} (h : d.time.snapPending = true) : snapshotCapture d = d.snapped := if_pos h

theorem snapshotSet_nodup (d : Dev) : (d.snapshotSet.map Prod.fst).Nodup := by
  simp only [Dev.snapshotSet, List.map_cons, List.map_nil]
  decide

/-- Every object of the set stands in 0x2010 or 0x2011. -/
theorem snapshotSet_page (d : Dev) : ∀ e ∈ d.snapshotSet, e.1 / 256 = 0x2010 ∨ e.1 / 256 = 0x2011 := by
  simp only [Dev.snapshotSet, List.forall_mem_cons]
  decide

theorem rdV_snapped (d : Dev) (k : Nat) : d.snapped.rdV k = (d.wrs d.snapshotSet).rdV k :=
  rdV_of_objs (d.wrs d.snapshotSet) d.snapped rfl k

theorem rd_snapped (d : Dev) : ∀ e ∈ d.snapshotSet, d.snapped.rd e.1 = e.2 := fun e he => by
  rw [Dev.rd, rdV_snapped]
  exact rd_wrs_mem (snapshotSet_nodup d) he d

theorem rdV_snapped_other (d : Dev) {k : Nat} (h10 : k / 256 ≠ 0x2010) (h11 : k / 256 ≠ 0x2011) : d.snapped.rdV k = d.rdV k := by
  rw [rdV_snapped]
  exact rdV_wrs_other (fun e he hk => (snapshotSet_page d e he).elim (hk ▸ h10) (hk ▸ h11)) d

theorem snapped_frame (d : Dev) :
    { d.snapped with objs := d.objs } = { d with time := { d.time with snapPending := false } } := by
  rw [Dev.snapped, wrs_frame]

/-- A number below 2^64 is put together again from its halves. -/
theorem bits_halves {n : Nat} (h : n < 2 ^ 64) : bits n 32 32 * 2 ^ 32 + bits n 0 32 = n := by
  simp only [bits]
  omega

/-- A time in the TIME96 range is put together again from its fields (R62). -/
theorem time_fields {t : Int} (h0 : 0 ≤ t) (h : t < 2 ^ 48 * secT) :
    ((bits (t / secT).toNat 32 16 : Nat) * 2 ^ 32 + (bits (t / secT).toNat 0 32 : Nat)) * secT
      + t / 65536 % 1000000000 * nsT + t % 65536 = t := by
  simp only [bits, nsT, secT] at *
  omega

/-- Settles O15: each object reads what the capture wrote (`rd_wrs_mem`), and the fields give the values back. -/
theorem snapshotReassemblesTheTime : Obligations.SnapshotReassemblesTheTime := by
  intro d q hp h0 h hturn hup
  have hreads := rd_snapped d
  simp only [Dev.snapshotSet, List.forall_mem_cons] at hreads
  obtain ⟨hsecHigh, hsecLow, hns, hfraction, -, hturnLow, hturnHigh, hupLow, hupHigh, hvalid, hstatus, hcmd, -⟩ := hreads
  refine ⟨d.snapped, by rw [exec_timeSnapshotCapture, snapshotCapture_pending hp], ?_, ?_, ?_, hvalid, ?_, hcmd,
    fun k => rdV_snapped_other d, snapped_frame d⟩
  · rw [hsecHigh, hsecLow, hns, hfraction, time_fields h0 h]
  · rw [Dev.rdN, Dev.rdN, hturnHigh, hturnLow, Int.toNat_natCast, Int.toNat_natCast, bits_halves hturn]
  · rw [Dev.rdN, Dev.rdN, hupHigh, hupLow, Int.toNat_natCast, Int.toNat_natCast, bits_halves hup]
  · rw [Dev.rdN, hstatus, Int.toNat_natCast, bits, Nat.pow_zero, Nat.div_one]

end Sys2Proof.Machine
end

section
/-! PROOFS. The NCO words, the servo and the holdover (R69 to R77, R198 to R205): what SERVO_UPDATE stages by the state of the active
spindle, the host's words, and the seconds of holdover. -/

namespace Sys2Proof.Machine

/-! ## What the servo works on -/

/-- What the servo works on: its phase error, its frequency term, and the spindles with the words staged for them. -/
def Dev.servoPart (d : Dev) : Int × Int × List (Nat × SpindleSt) := (d.rd Obj.ServoPhaseError, d.ref.yf, d.time.spindles)

theorem servoPart_eq_iff (d : Dev) (theta yf : Int) (l : List (Nat × SpindleSt)) :
    d.servoPart = (theta, yf, l) ↔ d.rd Obj.ServoPhaseError = theta ∧ d.ref.yf = yf ∧ d.time.spindles = l := by
  simp only [Dev.servoPart, Prod.mk.injEq]

theorem yf_of_servoPart {d e : Dev} (h : e.servoPart = d.servoPart) : e.ref.yf = d.ref.yf := congrArg (·.2.1) h

theorem spindles_of_servoPart {d e : Dev} (h : e.servoPart = d.servoPart) : e.time.spindles = d.time.spindles :=
  congrArg (·.2.2) h

/-- Of the references the servo's part shows the frequency term alone. -/
theorem servoPart_withRef (d : Dev) {r : RefSt} (h : r.yf = d.ref.yf) : ({ d with ref := r } : Dev).servoPart = d.servoPart :=
  congrArg (d.rd Obj.ServoPhaseError, ·, d.time.spindles) h

/-- An array above a key holds other objects. -/
theorem inst_ne_of_le {o k : Nat} (h : k ≤ o) (n : Nat) : inst o n ≠ k := by
  simp only [inst]
  omega

/-- An array of `N` that ends below a key holds other objects. -/
theorem inst_ne_of_lt {o k n N : Nat} (hn : n < N) (h : o + N < k) : inst o n ≠ k := by
  simp only [inst]
  omega

theorem servoPart_wr {k : Nat} (h : k ≠ Obj.ServoPhaseError) (d : Dev) (v : Int) : (d.wr k v).servoPart = d.servoPart :=
  congrArg (·, d.ref.yf, d.time.spindles) (rd_wr_other d k v _ h)

theorem servoPart_wrB {k : Nat} (h : k ≠ Obj.ServoPhaseError) (d : Dev) (b : Bool) : (d.wrB k b).servoPart = d.servoPart :=
  servoPart_wr h d _

theorem servoPart_inc {k : Nat} (h : k ≠ Obj.ServoPhaseError) (d : Dev) : (d.inc k).servoPart = d.servoPart :=
  servoPart_wr h d _

/-- The keys of the event sources lie above that of the servo's phase error. -/
theorem servoPart_raise (d : Dev) (n : Nat) : (d.raise n).servoPart = d.servoPart := by
  have hrdV := rdV_raise_other d n Obj.ServoPhaseError (inst_ne_of_le (by decide) n).symm (inst_ne_of_le (by decide) n).symm
    (inst_ne_of_le (by decide) n).symm
  exact congrArg (Val.toInt ·, d.ref.yf, d.time.spindles) hrdV

theorem servoPart_raiseSpindles (d : Dev) (cause : Int) : (d.raiseSpindles cause).servoPart = d.servoPart := by
  rw [Dev.raiseSpindles, servoPart_raise, servoPart_raise, servoPart_wr (by decide), servoPart_wr (by decide)]

theorem servoPart_noteClamp (d : Dev) : d.noteClamp.servoPart = d.servoPart := by
  unfold Dev.noteClamp
  extract_lets now goesOn _ e f
  split
  · rfl
  · calc _ = f.servoPart := when_keeps Dev.servoPart _ (fun g => servoPart_raiseSpindles g 4) f
      _ = e.servoPart := by rw [servoPart_inc (by decide), servoPart_inc (by decide)]
      _ = d.servoPart := rfl

/-! ## The outputs, the clock class and the QL follow a state and leave the servo's part -/

theorem servoPart_clkSquelch (d : Dev) (n : Nat) : (d.clkSquelch n).servoPart = d.servoPart :=
  when_keeps Dev.servoPart _ (by intro; rfl) d

theorem servoPart_refreshOut (o : Nat) (d : Dev) : (refreshOut o d).servoPart = d.servoPart := by
  unfold refreshOut
  extract_lets c e
  have he : e.servoPart = d.servoPart := by
    rw [servoPart_wrB (inst_ne_of_le (by decide) o), servoPart_wr (inst_ne_of_le (by decide) o)]
  split
  · split
    · rw [servoPart_clkSquelch, he]
    · exact (when_keeps Dev.servoPart _ (by intro; rfl) e).trans he
  · exact servoPart_wr (inst_ne_of_le (by decide) _) d c

theorem servoPart_refreshPhase (d : Dev) : d.refreshPhase.servoPart = d.servoPart := by
  rw [Dev.refreshPhase, Dev.refreshOuts, forEach_keeps Dev.servoPart (fun o _ => servoPart_refreshOut o), servoPart_wrB (by decide)]

theorem servoPart_updateClass (d : Dev) : d.updateClass.servoPart = d.servoPart := servoPart_wr (by decide) d _

theorem servoPart_refreshQl (d : Dev) : d.refreshQl.servoPart = d.servoPart :=
  forEach_keeps Dev.servoPart (fun p _ e => servoPart_wr (inst_ne_of_le (by decide) p) e _) d

theorem active_lt (d : Dev) : d.active < 2 := by
  unfold Dev.active
  split <;> decide

theorem standby_lt (d : Dev) : d.standby < 2 := by
  unfold Dev.standby
  omega

theorem servoPart_spindleEnters (st : Int) {u : Nat} (hu : u < 2) (d : Dev) : (spindleEnters st u d).servoPart = d.servoPart := by
  unfold spindleEnters
  split
  · rfl
  · rw [servoPart_raise, servoPart_wr (inst_ne_of_lt hu (by decide)), servoPart_wr (inst_ne_of_lt hu (by decide))]

theorem servoPart_setSpindleState (d : Dev) (st : Int) : (d.setSpindleState st).servoPart = d.servoPart := by
  unfold Dev.setSpindleState
  extract_lets e f
  rw [servoPart_refreshQl, servoPart_updateClass, servoPart_refreshPhase]
  calc f.servoPart
    _ = e.servoPart := when_keeps Dev.servoPart _ (servoPart_spindleEnters st (standby_lt e)) e
    _ = d.servoPart := servoPart_spindleEnters st (active_lt d) d

/-- Out of LOCKED the servo goes on in ACQUIRING from the frequency term it has (R199). -/
theorem servoPart_enterAcquiring {d : Dev} (h : d.spindleState = 2) : d.enterAcquiring.servoPart = d.servoPart := by
  unfold Dev.enterAcquiring
  extract_lets st widest step yf e
  have he : e.servoPart = d.servoPart := by rw [servoPart_wr (by decide), servoPart_setSpindleState]
  have hyf : yf = e.ref.yf := by simp [yf, st, h, yf_of_servoPart he]
  clear_value e
  exact (servoPart_withRef e hyf).trans he

theorem servoPart_ladderMoves (d : Dev) (theta : Int) (measured : Bool) :
    (d.ladderMoves theta measured).servoPart = d.servoPart := by
  unfold Dev.ladderMoves
  extract_lets now step narrowest excess run overWindow _
  split
  extract_lets overLimit e dwelt quiet narrower _ locked _
  have he : e.servoPart = d.servoPart := rfl
  have hnarrower : narrower.servoPart = e.servoPart := servoPart_wr (by decide) e _
  have hlocked : locked.servoPart = e.servoPart := servoPart_setSpindleState e 2
  clear_value narrower locked
  split
  case isTrue h =>
    cases decide (16 ≤ run)
    · exact he
    · exact (servoPart_enterAcquiring (beq_iff_eq.1 h)).trans he
  case isFalse =>
    split
    · split
      · exact (servoPart_withRef narrower rfl).trans hnarrower
      · exact he
    · split
      · exact (servoPart_withRef locked rfl).trans hlocked
      · exact he

/-! ## Staging a word (R69, R71) -/

theorem spindle_of_spindles {d e : Dev} (h : e.time.spindles = d.time.spindles) (u : Nat) : e.spindle u = d.spindle u := by
  rw [Dev.spindle, Dev.spindle, h]

/-- Staging a word: a clamp is noted, and the word within the limit is put beside both counters. -/
theorem stageWord_eq (d : Dev) (yf yp : Int) : d.stageWord yf yp =
    ((d.when (decide (clampWord yf yp ≠ (yf, yp))) (·.noteClamp)).setSpindle 0
      fun s => { s with nextWord := some (clampWord yf yp) }).setSpindle 1 fun s => { s with nextWord := some (clampWord yf yp) } := rfl

theorem servoPart_clampNoted (d : Dev) (c : Bool) : (d.when c (·.noteClamp)).servoPart = d.servoPart :=
  when_keeps Dev.servoPart c servoPart_noteClamp d

/-- Both spindles have the same word staged, within the limit. -/
theorem spindle_stageWord (d : Dev) (yf yp : Int) {u : Nat} (hu : u < 2) :
    (d.stageWord yf yp).spindle u = { d.spindle u with nextWord := some (clampWord yf yp) } := by
  have hnoted := spindle_of_spindles (spindles_of_servoPart (servoPart_clampNoted d (decide (clampWord yf yp ≠ (yf, yp))))) u
  rw [stageWord_eq]
  interval_cases u
  · rw [spindle_setSpindle_other _ _ _ _ (by decide), spindle_setSpindle_same, hnoted]
  · rw [spindle_setSpindle_same, spindle_setSpindle_other _ _ _ _ (by decide), hnoted]

/-! ## SERVO_UPDATE in ACQUIRING and LOCKED (R198) -/

/-- The block once the selected reference, if any, has been asked for a new measurement. -/
def Dev.servoMeasures (d : Dev) : Dev :=
  match d.selected with
  | some k => takeMeasurement k d
  | none => d

/-- The selected reference has a measurement of this Turn that is no jump. -/
def Dev.servoMeasured (m : Dev) : Bool :=
  match m.selected with
  | some k => (m.cand k).measured == m.turn.started && !(m.cand k).jumped
  | none => false

/-- The phase error the servo acts on: as measured in this Turn, else carried forward. -/
def Dev.servoTheta (m : Dev) : Int :=
  match m.selected, m.servoMeasured with
  | some k, true => m.rd (inst Obj.RefPhaseError k)
  | _, _ => m.carriedTheta

/-- The bandwidth of the servo's step, in hundredths of a hertz. -/
def Dev.servoBandwidth (m : Dev) : Nat := (ladder (m.rdN Obj.ServoStep)).2.2.2

/-- The frequency term the servo goes on to. -/
def Dev.servoFreq (m : Dev) : Int := m.ref.yf + freqStep m.servoBandwidth (m.rdN Obj.TurnPeriod) m.servoTheta

/-- The phase term of the servo, within the limit of the state. -/
def Dev.servoPhase (m : Dev) : Int :=
  clampI (-m.slewLimit m.spindleState) (m.slewLimit m.spindleState) (phaseStep m.servoBandwidth m.servoTheta)

/-- The word the servo stages. -/
def Dev.servoStages (m : Dev) : Dev := m.stageWord (quot Config.roundsUp m.servoFreq (2 ^ 48)) m.servoPhase

/-- The servo stages its word and then moves on its ladder, which leaves what it works on (R198 to R200). -/
theorem servoPart_servoRun (d : Dev) : d.servoRun.servoPart =
    (d.servoMeasures.servoTheta, d.servoMeasures.servoFreq, d.servoMeasures.servoStages.time.spindles) := by
  unfold Dev.servoRun
  extract_lets m measured theta step b100 yf lim yp e narrow hasTerm f
  rw [servoPart_ladderMoves]
  have hrd : e.rd Obj.ServoPhaseError = m.servoTheta := rd_wr_same _ _ _
  have hyf : yf = m.servoFreq := rfl
  have hspindles : e.time.spindles = m.servoStages.time.spindles := rfl
  change _ = (m.servoTheta, m.servoFreq, m.servoStages.time.spindles)
  rw [← hrd, ← hyf, ← hspindles]
  rfl

theorem rd_servoRun (d : Dev) : d.servoRun.rd Obj.ServoPhaseError = d.servoMeasures.servoTheta := by
  obtain ⟨htheta, -, -⟩ := (servoPart_eq_iff _ _ _ _).1 (servoPart_servoRun d)
  exact htheta

theorem yf_servoRun (d : Dev) : d.servoRun.ref.yf = d.servoMeasures.servoFreq := by
  obtain ⟨-, hyf, -⟩ := (servoPart_eq_iff _ _ _ _).1 (servoPart_servoRun d)
  exact hyf

theorem nextWord_servoRun (d : Dev) {u : Nat} (hu : u < 2) : (d.servoRun.spindle u).nextWord =
    some (clampWord (quot Config.roundsUp d.servoMeasures.servoFreq (2 ^ 48)) d.servoMeasures.servoPhase) := by
  obtain ⟨-, -, hspindles⟩ := (servoPart_eq_iff _ _ _ _).1 (servoPart_servoRun d)
  rw [spindle_of_spindles hspindles u, Dev.servoStages, spindle_stageWord _ _ _ hu]

theorem servoTheta_eq (m : Dev) : m.servoTheta = match m.selected with
    | some k => if (m.cand k).measured = m.turn.started ∧ (m.cand k).jumped = false then m.rd (inst Obj.RefPhaseError k)
        else m.carriedTheta
    | none => m.carriedTheta := by
  unfold Dev.servoTheta Dev.servoMeasured
  cases m.selected with
  | none => rfl
  | some k =>
    have hiff : ((m.cand k).measured == m.turn.started && !(m.cand k).jumped) = true ↔
        (m.cand k).measured = m.turn.started ∧ (m.cand k).jumped = false := by
      rw [Bool.and_eq_true, beq_iff_eq, Bool.not_eq_true']
    dsimp only
    by_cases h : (m.cand k).measured = m.turn.started ∧ (m.cand k).jumped = false
    · rw [if_pos h, hiff.2 h]
    · rw [if_neg h, Bool.eq_false_iff.2 (mt hiff.1 h)]

/-- Closing an item leaves all but the open items. -/
theorem rd_closeItem (d : Dev) (i k : Nat) : (d.closeItem i).rd k = d.rd k := rfl

theorem ref_closeItem (d : Dev) (i : Nat) : (d.closeItem i).ref = d.ref := rfl

theorem spindle_closeItem (d : Dev) (i u : Nat) : (d.closeItem i).spindle u = d.spindle u := rfl

theorem not_mem_closeItem (d : Dev) (i : Nat) : i ∉ (d.closeItem i).turn.openItems := by simp [Dev.closeItem]

/-! ## SERVO_UPDATE in every state (R30, R198, R204, R205, R217) -/

theorem exec_servoUpdate (d : Dev) (q : List Instr) : exec .servoUpdate ⟨d, q⟩ = .next ⟨servoUpdate d, q⟩ := rfl

/-- What the servo does in hardware mode: the run of missed host words ends, and the state decides what is staged (R198, R204). -/
def Dev.servoActs (d : Dev) : Dev :=
  let e : Dev := { d with time := { d.time with hostMisses := 0 } }
  if d.spindleState = 3 ∨ d.spindleState = 4 then e.stageWord (d.rd Obj.HoldoverValue) 0
  else if d.spindleState = 0 then e.stageWord (if d.ref.hasTerm then quot Config.roundsUp d.ref.yf (2 ^ 48) else 0) 0
  else e.servoRun

theorem servoActs_held {d : Dev} (h : d.spindleState = 3 ∨ d.spindleState = 4) : d.servoActs =
    ({ d with time := { d.time with hostMisses := 0 } } : Dev).stageWord (d.rd Obj.HoldoverValue) 0 := if_pos h

theorem servoActs_free {d : Dev} (h : d.spindleState = 0) : d.servoActs =
    ({ d with time := { d.time with hostMisses := 0 } } : Dev).stageWord
      (if d.ref.hasTerm then quot Config.roundsUp d.ref.yf (2 ^ 48) else 0) 0 := by
  rw [Dev.servoActs, if_neg (by simp [h]), if_pos h]

theorem servoActs_runs {d : Dev} (h : d.spindleState = 1 ∨ d.spindleState = 2) :
    d.servoActs = ({ d with time := { d.time with hostMisses := 0 } } : Dev).servoRun := by
  rw [Dev.servoActs, if_neg (by omega), if_neg (by omega)]

section ServoUpdate

variable {d : Dev} (h : d.itemStarts 3 = true)
include h

/-- While servo control is not ENABLED or the steered synth is not in service, no word is staged (R30, R217). -/
theorem servoUpdate_rests (hr : d.steered = false ∨ d.on .servo 0 = false) : servoUpdate d = d.closeItem 3 := by
  rw [servoUpdate, workItem_starts _ h]
  rcases hr with hr | hr
  · simp [hr]
  · simp [hr, Dev.servoHost]

/-- In host-assisted mode the holdover value is staged in HOLDOVER and LOST, and nothing else (R204, R205). -/
theorem servoUpdate_host (hs : d.steered = true) (hh : d.servoHost = true) : servoUpdate d =
    if d.spindleState = 3 ∨ d.spindleState = 4 then (d.stageWord (d.rd Obj.HoldoverValue) 0).closeItem 3 else d.closeItem 3 := by
  rw [servoUpdate, workItem_starts _ h]
  by_cases hheld : d.spindleState = 3 ∨ d.spindleState = 4
  · simp [hs, hh, hheld, Dev.when]
  · simp [hs, hh, hheld, Dev.when]

theorem servoUpdate_acts (hs : d.steered = true) (hon : d.on .servo 0 = true) (hm : d.rdB Obj.ModeF1Servo = false) :
    servoUpdate d = d.servoActs.closeItem 3 := by
  rw [servoUpdate, workItem_starts _ h]
  have hh : d.servoHost = false := by simp [Dev.servoHost, hm]
  simp only [hs, hon, hh, Dev.servoActs, Bool.or_eq_true, beq_iff_eq]
  rfl

end ServoUpdate

/-! ## The words and states of the host (R75, R205) -/

theorem exec_hostNcoPhaseWrite (d : Dev) (q : List Instr) (v : Int) :
    exec (.hostNcoPhaseWrite v) ⟨d, q⟩ = .next ⟨hostNcoPhaseWrite v d, q⟩ := rfl

theorem exec_hostServoStateWrite (d : Dev) (q : List Instr) (v : Fin 3) :
    exec (.hostServoStateWrite v) ⟨d, q⟩ = .next ⟨hostServoStateWrite (v.val + 1) d, q⟩ := rfl

/-- A write of HostNcoPhase leaves the mode of the servo. -/
theorem servoHost_wr_phase (d : Dev) (v : Int) : (d.wr Obj.HostNcoPhase v).servoHost = d.servoHost := by
  simp only [Dev.servoHost, Dev.on, Dev.blk]
  rw [rd_wr_other _ _ _ _ (by decide), rdB_wr_other _ _ _ _ (by decide)]

theorem hostNcoPhaseWrite_eq (d : Dev) (v : Int) : hostNcoPhaseWrite v d = (d.wr Obj.HostNcoPhase v).when d.servoHost fun e =>
    { e with time := { e.time with hostWord := some (d.rd Obj.HostNcoFrequency, v), hostLast := some (d.rd Obj.HostNcoFrequency, v) } } := by
  rw [hostNcoPhaseWrite, servoHost_wr_phase, rd_wr_other _ _ _ _ (by decide)]

/-! ## The seconds of holdover (R202, R203) -/

theorem exec_holdoverEstimateUpdate (d : Dev) (q : List Instr) :
    exec .holdoverEstimateUpdate ⟨d, q⟩ = .next ⟨holdoverEstimate d, q⟩ := rfl

theorem exec_holdoverBin (d : Dev) (q : List Instr) : exec .holdoverBin ⟨d, q⟩ = .next ⟨holdoverBin d, q⟩ := rfl

theorem holdoverEstimate_idle {d : Dev} (h3 : d.spindleState ≠ 3) (h4 : d.spindleState ≠ 4) : holdoverEstimate d = d := by
  simp [holdoverEstimate, h3, h4]

/-- The seconds of HOLDOVER and LOST with the one that ends. -/
def Dev.heldSeconds (d : Dev) : Nat := min (d.rdN Obj.HoldoverElapsed + 1) (2 ^ 32 - 1)

/-- What the estimate has grown by after so many seconds, times 172,800 and 2^32 (R203). -/
def Dev.estimateGrown (d : Dev) (t : Nat) : Int :=
  (172800 * d.rd Obj.HoldoverUncertainty * t + d.rd Obj.HoldoverAgingRate * t * t) * 1000000000

/-- In LOST the estimate grows, and the state stays (R203). -/
theorem holdoverEstimate_lost {d : Dev} (h : d.spindleState = 4) : holdoverEstimate d =
    (d.wr Obj.HoldoverElapsed d.heldSeconds).wr Obj.HoldoverEstimate
      (min (d.ref.e0 + quot Config.roundsUp (d.estimateGrown d.heldSeconds) (172800 * 2 ^ 32)) (2 ^ 63 - 1)) := by
  unfold holdoverEstimate
  rw [h]
  rfl

/-- The bin of a second in which some Turn ended joins the last 3,600; without one there is no mean (log entry 2). -/
theorem holdoverBin_eq (d : Dev) : holdoverBin d = { d with ref := { d.ref with
    bins := if d.ref.binCount = 0 then d.ref.bins else lastN 3600 (d.ref.bins ++
      [⟨d.time.uptime / 1000000000, quot Config.roundsUp d.ref.binSum d.ref.binCount, d.ref.binValid⟩]),
    binSum := 0, binCount := 0, binValid := true } } := by
  unfold holdoverBin
  by_cases hc : d.ref.binCount = 0
  · simp [hc]
  · simp [hc, Nat.max_eq_left (Nat.one_le_iff_ne_zero.2 hc)]

/-- Settles O25: SERVO_UPDATE by whether the servo rests, follows the host or acts (`Dev.servoActs`), and acting by its state; in
ACQUIRING and LOCKED nothing after the staging touches what the servo works on (`servoPart_ladderMoves`). Log entries 2 and 48 are
the model's readings of a second without a Turn and of when a host word is taken. -/
theorem servoHoldsItsWord : Obligations.ServoHoldsItsWord := by
  refine ⟨fun d q h => ?_, fun d yf yp => ?_, fun d q v => ?_, fun d q v => ?_, fun d q h3 h4 => ?_, fun d q h => ?_, fun d q => ?_⟩
  · rw [exec_servoUpdate]
    refine ⟨fun hs hon hm => ?_, fun hs hh => ?_, fun hr => ?_⟩
    · rw [servoUpdate_acts h hs hon hm]
      intro e
      refine ⟨fun hheld => ?_, fun hfree => ?_, fun hrun => ?_⟩
      · rw [servoActs_held hheld]
      · rw [servoActs_free hfree]
      · rw [servoActs_runs hrun]
        intro m theta b100 lim
        have htheta : m.servoTheta = theta := servoTheta_eq m
        refine ⟨e.servoRun.closeItem 3, rfl, ?_, ?_, fun u hu => ?_, not_mem_closeItem _ _⟩
        · rw [rd_closeItem, rd_servoRun, ← htheta]
          rfl
        · rw [ref_closeItem, yf_servoRun, ← htheta]
          rfl
        · rw [spindle_closeItem, ref_closeItem, nextWord_servoRun e hu, yf_servoRun, ← htheta]
          rfl
    · rw [servoUpdate_host h hs hh]
    · rw [servoUpdate_rests h hr]
  · exact ⟨spindle_stageWord d yf yp (by decide), spindle_stageWord d yf yp (by decide)⟩
  · rw [exec_hostNcoPhaseWrite, hostNcoPhaseWrite_eq]
    exact ⟨fun hh => by rw [hh]; rfl, fun hh => by rw [hh]; rfl⟩
  · exact exec_hostServoStateWrite d q v
  · rw [exec_holdoverEstimateUpdate, holdoverEstimate_idle h3 h4]
  · rw [exec_holdoverEstimateUpdate, holdoverEstimate_lost h]
    rfl
  · rw [exec_holdoverBin, holdoverBin_eq]

end Sys2Proof.Machine
end

section
/-! PROOFS. A frame that an engine sends (R364): it leaves every object of the time base and of the link timing as it is. -/

namespace Sys2Proof.Machine

/-- Counting performance changes no object. -/
theorem rd_counted (d : Dev) (b event i n k : Nat) : (d.counted b event i n).rd k = d.rd k :=
  calc _ = (d.counted b event i n).offClock.rd k := rfl
    _ = d.offClock.rd k := by rw [offClock_counted]
    _ = d.rd k := rfl

/-! ## Objects below those of ports, queues and stores -/

section Below

/-- Where the objects of the ports begin, and above them those of queues, stores and events. -/
abbrev portObjs : Nat := 0x300000

theorem portObjs_le_inst {o : Nat} (ho : portObjs ≤ o) (n : Nat) : portObjs ≤ inst o n := by
  simp only [inst]
  omega

theorem portObjs_le_queueObj {o : Nat} (ho : portObjs ≤ o) (p c : Nat) : portObjs ≤ queueObj o p c :=
  portObjs_le_inst (Nat.le_add_right_of_le ho) p

variable {k : Nat} (h : k < portObjs)
include h

theorem rd_wr_below {o : Nat} (ho : portObjs ≤ o) (d : Dev) (v : Int) : (d.wr o v).rd k = d.rd k :=
  rd_wr_other d o v k (by omega)

theorem rd_inc_below {o : Nat} (ho : portObjs ≤ o) (d : Dev) : (d.inc o).rd k = d.rd k :=
  rd_wr_below h ho d _

theorem rd_raise_below (d : Dev) (n : Nat) : (d.raise n).rd k = d.rd k :=
  congrArg Val.toInt (rdV_raise_other d n k (inst_ne_of_le (h.le.trans (by decide)) n).symm
    (inst_ne_of_le (h.le.trans (by decide)) n).symm (inst_ne_of_le (h.le.trans (by decide)) n).symm)

theorem rd_addPeak_below {o peak : Nat} (ho : portObjs ≤ o) (hp : portObjs ≤ peak) (d : Dev) (n : Int) :
    (d.addPeak o peak n).rd k = d.rd k :=
  (when_keeps (·.rd k) _ (fun e => rd_wr_below h hp e _) _).trans (rd_wr_below h ho d _)

theorem rd_addCells_below (d : Dev) (p c : Nat) (pool : Pool) (n : Int) : (d.addCells p c pool n).rd k = d.rd k := by
  unfold Dev.addCells
  extract_lets e f
  have he : e.rd k = d.rd k := by
    unfold e
    split
    · exact rd_wr_below h (by decide) d _
    · exact rd_addPeak_below h (portObjs_le_queueObj (by decide) p c) (portObjs_le_queueObj (by decide) p c) d n
  have hf : f.rd k = e.rd k := by
    unfold f
    split
    all_goals rw [rd_addPeak_below h (by decide) (by decide), rd_counted]
  split
  all_goals exact hf.trans he

theorem rd_crossing_below (d : Dev) (above : Bool) (fill threshold cells : Int) (ev : Nat) (cause : Int) :
    (d.crossing above fill threshold cells ev cause).1.rd k = d.rd k := by
  unfold Dev.crossing
  split
  · rw [rd_raise_below h, rd_wr_below h (by decide)]
  · split
    · rw [rd_raise_below h, rd_wr_below h (by decide)]
    · rfl

theorem rd_checkStores_below (d : Dev) : d.checkStores.rd k = d.rd k := by
  unfold Dev.checkStores
  extract_lets f g
  exact (rd_crossing_below h _ _ _ _ _ _ _).trans (rd_crossing_below h _ _ _ _ _ _ _)

theorem rd_addLanding_below (d : Dev) (n : Int) : (d.addLanding n).rd k = d.rd k := by
  rw [Dev.addLanding, rd_addPeak_below h (by decide) (by decide), rd_wr_below h (by decide)]

omit h in
/-- A pause frame that is called for stands at the transmitter. -/
theorem rd_pauseCheck (d : Dev) (p : Nat) (prio : Option Nat) : (d.pauseCheck p prio).rd k = d.rd k := by
  unfold Dev.pauseCheck
  extract_lets
  split
  · rfl
  · split <;> rfl

theorem rd_addIngress_below (d : Dev) (i : Option Nat) (prio : Nat) (n : Int) : (d.addIngress i prio n).rd k = d.rd k := by
  unfold Dev.addIngress
  split
  case h_1 => rfl
  case h_2 j =>
    split
    · rfl
    · extract_lets e _ f mode
      have hf : f.rd k = d.rd k := rd_wr_below h (portObjs_le_inst (by decide) j) d _
      split
      · exact (rd_pauseCheck f j none).trans hf
      · split
        · exact (rd_pauseCheck f j (some prio)).trans hf
        · exact hf

theorem rd_refuse_below (d : Dev) (p c cause : Nat) : (d.refuse p c cause).rd k = d.rd k := by
  unfold Dev.refuse
  extract_lets e
  calc _ = e.rd k := rd_inc_below h (portObjs_le_inst (by decide) _) e
    _ = (d.counted 0 0x03 p 1).rd k :=
      when_keeps (·.rd k) _ (fun f => rd_inc_below h (portObjs_le_queueObj (by decide) p c) f) _
    _ = d.rd k := rd_counted d 0 0x03 p 1 k

omit h in
/-- The statistics counters are no objects. -/
theorem rd_count (d : Dev) (p i n : Nat) : (d.count p i n).rd k = d.rd k := by
  unfold Dev.count
  split
  · rfl
  · extract_lets
    split <;> rfl

theorem rd_countFlushed_below (d : Dev) (p : Nat) : (d.countFlushed p).rd k = d.rd k := by
  rw [Dev.countFlushed, rd_count, rd_inc_below h (portObjs_le_inst (by decide) _)]

theorem rd_enqueue_below (d : Dev) (x : Copy) (headroom : Nat) : (d.enqueue x headroom).rd k = d.rd k := by
  unfold Dev.enqueue
  extract_lets p c cells landed ingress taken admitted
  rw [rd_checkStores_below h]
  calc _ = admitted.rd k := rfl
    _ = taken.rd k := when_keeps (·.rd k) _ (fun e => rd_inc_below h (portObjs_le_queueObj (by decide) p c) e) taken
    _ = ingress.rd k := rd_addIngress_below h ingress _ _ _
    _ = landed.rd k := by
      unfold ingress
      split
      · exact when_keeps (·.rd k) _ (by intro; rfl) landed
      · rfl
    _ = cells.rd k := when_keeps (·.rd k) _ (fun e => rd_addLanding_below h e _) cells
    _ = d.rd k := (rd_addCells_below h _ p c _ _).trans (rd_counted d 0 0x02 p 1 k)

/-- Whether it is flushed, refused or enqueued, a frame of an engine changes objects of ports, queues, stores and events alone. -/
theorem rd_sendEngine_below (d : Dev) (p : Nat) (m : EngineMsg) : (d.sendEngine p m).rd k = d.rd k := by
  unfold Dev.sendEngine Dev.engineSend
  extract_lets
  split
  · exact rd_countFlushed_below h d p
  · split
    · exact rd_refuse_below h d _ _ _
    · exact rd_enqueue_below h d _ 0

end Below

end Sys2Proof.Machine
end

section
/-! PROOFS. PTP messages received and sent (R111 to R115, R124, R129, R131, R141, R156, R160): one lemma for each branch of a message. -/

namespace Sys2Proof.Machine

/-- A command whose effect turns one device into another. -/
theorem effect_next {f : Dev → Dev} {d e : Dev} (q : List Instr) (h : f d = e) : State.effect ⟨d, q⟩ f = .next ⟨e, q⟩ := by
  rw [State.effect, h]

/-! ## Sync and Follow_Up received (R129, R131) -/

section Received

variable {d : Dev} {p seq source requester : Nat} {origin corr t : Int} {st : RxStamp}

/-- The port listens to the sender of a Sync: its engine runs in hardware and it follows that master. -/
def Dev.hearsSync (d : Dev) (p source : Nat) : Prop :=
  d.ptpHere p = true ∧ (d.role p = 8 ∨ d.role p = 9) ∧ d.fromMaster p source = true

theorem syncRx_taken {two : Bool} (h : d.hearsSync p source) : syncRx p seq two origin corr source st d =
    (d.add32 (inst Obj.LinkAbandonedCount p) ((d.link p).syncs.filter fun x => x.complete.isNone).length).setLink p
      fun k => { k with syncs := k.syncs.filter (fun x => x.complete.isSome) ++
        [{ seq := seq, origin := if two then 0 else origin, corr := corr, source := source, t2 := d.stampNow p st,
           at_ := d.time.uptime, complete := if two then none else some d.turn.started }] } := by
  obtain ⟨hhere, hrole, hmaster⟩ := h
  refine if_neg ?_
  simpa [hhere, hmaster] using or_iff_not_imp_left.1 hrole

theorem syncRx_ignored {two : Bool} (h : ¬d.hearsSync p source) : syncRx p seq two origin corr source st d = d := by
  refine if_pos ?_
  simp only [Dev.hearsSync, not_and_or] at h
  simpa [or_assoc] using h

/-- A Sync that still waits for the Follow_Up of a source and sequenceId. -/
def SyncX.awaits (seq source : Nat) (x : SyncX) : Bool := x.complete.isNone && x.seq == seq && x.source == source

theorem followUpRx_completes {x : SyncX} (hx : (d.link p).syncs.find? (SyncX.awaits seq source) = some x)
    (hin : d.time.uptime ≤ x.at_ + logIntervalNs (d.rd (inst Obj.LogSyncInterval p))) :
    followUpRx p seq origin corr source d = d.setLink p fun k => { k with
      syncs := k.syncs.map fun y => if y.awaits seq source then
        { y with origin := origin, corrFup := corr, complete := some d.turn.started } else y } := by
  unfold followUpRx
  extract_lets interval mine k
  rw [show k.syncs.find? mine = some x from hx]
  exact if_pos hin

theorem followUpRx_late {x : SyncX} (hx : (d.link p).syncs.find? (SyncX.awaits seq source) = some x)
    (hlate : x.at_ + logIntervalNs (d.rd (inst Obj.LogSyncInterval p)) < d.time.uptime) :
    followUpRx p seq origin corr source d = (d.inc (inst Obj.LinkAbandonedCount p)).setLink p fun k =>
      { k with syncs := k.syncs.filter fun y => !y.awaits seq source } := by
  unfold followUpRx
  extract_lets interval mine k
  rw [show k.syncs.find? mine = some x from hx]
  exact if_neg (Nat.not_le.2 hlate)

theorem followUpRx_alone (h : ∀ x ∈ (d.link p).syncs, x.awaits seq source = false) :
    followUpRx p seq origin corr source d = d := by
  have hnone : (d.link p).syncs.find? (SyncX.awaits seq source) = none := List.find?_eq_none.2 fun x hx => by simp [h x hx]
  unfold followUpRx
  extract_lets interval mine k
  rw [show k.syncs.find? mine = none from hnone]

/-! ## Requests and responses received (R113, R114, R129, R141) -/

/-- An answer joins those a port owes. -/
def Dev.owes (d : Dev) (p : Nat) (x : AnswerDue) : Dev := d.setLink p fun k => { k with answers := k.answers ++ [x] }

theorem delayReqRx_answered (hhere : d.ptpHere p = true) (hrole : d.role p = 6) (hmech : d.rd (inst Obj.PtpDelayMechanism p) = 1) :
    delayReqRx p seq corr requester st d = d.owes p
      { type := 1, seq := seq, requester := requester, corr := corr, domain := none, stamp := d.stampNow p st } := by
  refine if_pos ?_
  simp [hhere, hrole, hmech]

theorem delayReqRx_notHere (h : d.ptpHere p = false) : delayReqRx p seq corr requester st d = d := by simp [delayReqRx, h]

theorem pdelayReqRx_answered (hhere : d.ptpHere p = true) (hmech : d.rd (inst Obj.PtpDelayMechanism p) = 2) :
    pdelayReqRx p seq corr requester none st d = d.owes p
      { type := 2, seq := seq, requester := requester, corr := corr, domain := none, stamp := d.stampNow p st } := by
  refine if_pos ?_
  simp [hhere, hmech]

theorem pdelayReqRx_transparent {n : Nat} (hon : d.on .tcDomain n = true) (htype : d.rd (inst Obj.TcDomainType n) = 2) :
    pdelayReqRx p seq corr requester (some n) st d = d.owes p
      { type := 2, seq := seq, requester := requester, corr := corr, domain := some n, stamp := d.stampNow p st } := by
  refine if_pos ?_
  simp [hon, htype]

theorem pdelayReqRx_notHere (h : d.ptpHere p = false) : pdelayReqRx p seq corr requester none st d = d := by
  simp [pdelayReqRx, h]

theorem delayRespRx_eq : delayRespRx p seq t corr d = d.setLink p fun k => { k with dreqs := k.dreqs.map fun x =>
    if x.seq = seq ∧ x.complete = none then { x with resp := some (t, corr), complete := some d.turn.started } else x } := by
  simp [delayRespRx]

theorem pdelayRespRx_eq {two : Bool} : pdelayRespRx p seq two t corr st d = d.setLink p fun k => { k with
    pdelays := k.pdelays.map fun x => if x.seq = seq ∧ x.resp = none then
      { x with resp := some (t, corr), t4 := some (d.stampNow p st), fup := (t, 0),
               complete := if two then none else some d.turn.started } else x } := by
  simp [pdelayRespRx]

theorem pdelayFollowUpRx_eq : pdelayFollowUpRx p seq t corr d = d.setLink p fun k => { k with pdelays := k.pdelays.map fun x =>
    if x.seq = seq ∧ x.resp.isSome ∧ x.complete = none then { x with fup := (t, corr), complete := some d.turn.started }
    else x } := by
  simp [pdelayFollowUpRx, and_assoc]

theorem signalingRx_here {up : Bool} (h : d.ptpHere p = true) :
    signalingRx p up d = d.setLink p fun k => { k with peerL1 := some up } := by simp [signalingRx, Dev.when, h]

theorem signalingRx_notHere {up : Bool} (h : d.ptpHere p = false) : signalingRx p up d = d := by
  simp [signalingRx, Dev.when, h]

end Received

/-! ## Event messages are counted first (R124, R567) -/

section EventMessages

variable (d : Dev) (q : List Instr) (p : Port) (seq : Nat) (corr : Int) (st : RxStamp)

theorem exec_syncRx (two : Bool) (origin : Int) (source : Nat) : exec (.syncRx p seq two origin corr source st) ⟨d, q⟩ =
    .next ⟨syncRx p seq two origin corr source st (d.eventRx p), q⟩ := rfl

theorem exec_delayReqRx (requester : Nat) : exec (.delayReqRx p seq corr requester st) ⟨d, q⟩ =
    .next ⟨delayReqRx p seq corr requester st (d.eventRx p), q⟩ := rfl

theorem exec_pdelayReqRx (requester : Nat) (domain : Option (Fin 4)) :
    exec (.pdelayReqRx p seq corr requester domain st) ⟨d, q⟩ =
      .next ⟨pdelayReqRx p seq corr requester (domain.map (·.val)) st (d.eventRx p), q⟩ := rfl

theorem exec_pdelayRespRx (two : Bool) (t : Int) : exec (.pdelayRespRx p seq two t corr st) ⟨d, q⟩ =
    .next ⟨pdelayRespRx p seq two t corr st (d.eventRx p), q⟩ := rfl

end EventMessages

/-- Settles O27: an event message is counted (`Dev.eventRx`) and then taken by the lemma of its branch. The Sync interval as the limit
of a Follow_Up is the model's choice (log entry 20). -/
theorem ptpMessagesAreReceived : Obligations.PtpMessagesAreReceived := by
  intro d q p seq source requester origin corr t st
  refine ⟨?_, ?_, effect_next q delayRespRx_eq, effect_next q pdelayFollowUpRx_eq, fun up => ⟨fun h => ?_, fun h => ?_⟩⟩
  · intro e
    refine ⟨fun two hhere hrole hmaster => ?_, fun two h => ?_, fun hhere hrole hmech => ?_, fun hhere hmech => ?_,
      fun n hon htype => ?_, fun two => ?_, fun h => ⟨?_, ?_⟩⟩
    · rw [exec_syncRx, syncRx_taken ⟨hhere, hrole, hmaster⟩]
    · have hdeaf : ¬e.hearsSync p source := fun ⟨hhere, hrole, hmaster⟩ => by
        rcases h with h | ⟨h8, h9⟩ | h
        · exact Bool.false_ne_true (h.symm.trans hhere)
        · exact hrole.elim h8 h9
        · exact Bool.false_ne_true (h.symm.trans hmaster)
      rw [exec_syncRx, syncRx_ignored hdeaf]
    · rw [exec_delayReqRx, delayReqRx_answered hhere hrole hmech]
      rfl
    · rw [exec_pdelayReqRx, Option.map_none, pdelayReqRx_answered hhere hmech]
      rfl
    · rw [exec_pdelayReqRx, Option.map_some, pdelayReqRx_transparent hon htype]
      rfl
    · rw [exec_pdelayRespRx, pdelayRespRx_eq]
    · rw [exec_delayReqRx, delayReqRx_notHere h]
    · rw [exec_pdelayReqRx, Option.map_none, pdelayReqRx_notHere h]
  · intro mine
    refine ⟨fun x hx hin => ?_, fun x hx hlate => ?_, fun h => ?_⟩
    · exact effect_next q (followUpRx_completes hx hin)
    · exact effect_next q (followUpRx_late hx hlate)
    · exact effect_next q (followUpRx_alone h)
  · exact effect_next q (signalingRx_here h)
  · exact effect_next q (signalingRx_notHere h)

end Sys2Proof.Machine
end

section
/-! PROOFS. PTP messages sent (R111 to R115, R117, R141, R156, R160): each once per its interval, under its sequenceId. -/

namespace Sys2Proof.Machine

/-! ## The ply link of a port -/

/-- The objects 0x24xx say which ply links are ENABLED and who their members are. -/
theorem plyOf_of_rd {d e : Dev} (h : ∀ k, k / 0x10000 = 0x24 → e.rd k = d.rd k) (p : Nat) : e.plyOf p = d.plyOf p := by
  have hkey {o n : Nat} (ho : o / 0x10000 = 0x24) (hs : o % 0x10000 < 0xFF00) (hn : n < 24) : e.rd (inst o n) = d.rd (inst o n) :=
    h _ (by simp only [inst]; omega)
  have hmembers {n : Nat} (hn : n < 24) : e.members n = d.members n := by
    simp only [Dev.members, Dev.rdN, hkey (o := Obj.PlyPortA) (by decide) (by decide) hn,
      hkey (o := Obj.PlyPortB) (by decide) (by decide) hn]
  have hon {n : Nat} (hn : n < 24) : e.on .ply n = d.on .ply n :=
    congrArg (· == 2) (hkey (o := Obj.PlyBlockState) (by decide) (by decide) hn)
  have hfind : (List.range 24).find? (fun n => e.on .ply n && ((e.members n).1 == p || (e.members n).2 == p)) =
      (List.range 24).find? (fun n => d.on .ply n && ((d.members n).1 == p || (d.members n).2 == p)) :=
    List.find?_congr fun n hn => by rw [hon (List.mem_range.1 hn), hmembers (List.mem_range.1 hn)]
  rw [Dev.plyOf, Dev.plyOf, hfind]
  cases hx : (List.range 24).find? (fun n => d.on .ply n && ((d.members n).1 == p || (d.members n).2 == p)) with
  | none => rfl
  | some n => rw [Option.map_some, Option.map_some, hmembers (List.mem_range.1 (List.mem_of_find?_eq_some hx))]

theorem plyOf_sendPtp (d : Dev) (p : Nat) (m : PtpMsg) (r : Nat) : (d.sendPtp p m).plyOf r = d.plyOf r :=
  plyOf_of_rd (fun k hk => rd_sendEngine_below (show k < portObjs by unfold portObjs; omega) d p (.ptp m)) r

theorem partner_none {d : Dev} {p : Nat} (h : d.plyOf p = none) (c : Nat → Bool) : d.partner p c = none := by
  rw [Dev.partner, h]

theorem sendsWithA_none {d : Dev} {p : Nat} (h : d.plyOf p = none) (c : Nat → Bool) : d.sendsWithA p c = false := by
  rw [Dev.sendsWithA, h]

/-! ## Sync, Delay_Req and Pdelay_Req (R111, R156) -/

/-- A port sends a Sync under a sequenceId, and counts its own on from there. -/
def Dev.sendSync (d : Dev) (p seq : Nat) : Dev :=
  (d.sendPtp p { type := 0, seq := seq, twoStep := d.rd (inst Obj.PtpStepMode p) == 0 }).setLink p fun k =>
    { k with seqSync := (seq + 1) % 65536, syncSent := d.turn.started + 1 }

/-- A port sends a request of a type under its sequenceId, and counts that on. -/
def Dev.sendReq (d : Dev) (p type : Nat) : Dev :=
  (d.sendPtp p { type := type, seq := (d.link p).seqReq }).setLink p fun k =>
    { k with seqReq := ((d.link p).seqReq + 1) % 65536, reqSent := d.turn.started + 1 }

section Sent

variable {d : Dev} {p : Nat}

theorem syncTx_master (hp : d.plyOf p = none) (hhere : d.ptpHere p = true) (has : d.asCapable p = true) (hrole : d.role p = 6)
    (hsent : (d.link p).syncSent ≠ d.turn.started + 1) : syncTx p d = d.sendSync p (d.link p).seqSync := by
  have hafter (c : Nat → Bool) : (d.sendSync p (d.link p).seqSync).partner p c = none :=
    partner_none ((plyOf_sendPtp d p _ p).trans hp) c
  unfold syncTx
  extract_lets relocking both seq one e
  have hgoes : ¬(!d.ptpHere p || !d.asCapable p || d.role p != 6 || relocking || d.sendsWithA p both
      || (d.link p).syncSent == d.turn.started + 1) = true := by
    have hrelock : relocking = false := by simp only [relocking, hp]
    simp [hhere, has, hrole, hrelock, sendsWithA_none hp, hsent]
  rw [if_neg hgoes, show e.partner p both = none from hafter both]
  rfl

theorem syncTx_idle (h : d.role p ≠ 6 ∨ d.ptpHere p = false ∨ (d.link p).syncSent = d.turn.started + 1) : syncTx p d = d := by
  unfold syncTx
  extract_lets relocking both seq one e
  refine if_pos ?_
  rcases h with h | h | h
  all_goals simp [h]

theorem delayReqTx_slave (hp : d.plyOf p = none) (hhere : d.ptpHere p = true) (hrole : d.role p = 8 ∨ d.role p = 9)
    (hsent : (d.link p).reqSent ≠ d.turn.started + 1) :
    delayReqTx p d = d.sendReq p (if d.rd (inst Obj.PtpDelayMechanism p) = 2 then 2 else 1) := by
  have hafter (type : Nat) (c : Nat → Bool) : (d.sendReq p type).partner p c = none :=
    partner_none ((plyOf_sendPtp d p _ p).trans hp) c
  unfold delayReqTx
  extract_lets p2p slave both sent seq one e
  have hslave : slave = true := by simpa [slave] using hrole
  have hgoes : ¬(!d.ptpHere p || !(slave || (p2p && decide (4 ≤ d.role p))) || d.sendsWithA p both || sent) = true := by
    simp [hhere, hslave, sendsWithA_none hp, sent, hsent]
  have he : e = d.sendReq p (if d.rd (inst Obj.PtpDelayMechanism p) = 2 then 2 else 1) := by
    simp [e, one, seq, p2p, Dev.sendReq]
  rw [if_neg hgoes, he, hafter]

/-! ## Answers (R113, R114, R141) -/

/-- An answer leaves those a port owes. -/
def Dev.answered (d : Dev) (p : Nat) (x : AnswerDue) : Dev := d.setLink p fun k => { k with answers := k.answers.erase x }

theorem delayRespTx_sends {x : AnswerDue} {t4 : Int}
    (hx : (d.link p).answers.find? (fun y => y.type == 1 && y.stamp.ready && d.answers p y) = some x)
    (ht : x.stamp.ref = some t4) : delayRespTx p d = (d.sendPtp p
      { type := 9, seq := x.seq, time := t4 - subNs t4, corr := x.corr - subNs t4, requester := x.requester }).answered p x := by
  rw [delayRespTx, hx]
  simp only [ht, Option.getD_some]
  rfl

/-- A Pdelay_Req is answered with the stamp as it was taken: in one-step mode outside the 802.1AS family (R114). -/
def Dev.answersEarly (d : Dev) (p : Nat) : Bool := d.rd (inst Obj.PtpStepMode p) == 1 && d.rd (inst Obj.PtpProfile p) != 3

theorem pdelayRespTx_sends {x : AnswerDue} {t2 : Int}
    (hx : (d.link p).answers.find? (fun y => y.type == 2 && (d.answersEarly p || y.stamp.ready) && d.answers p y) = some x)
    (ht : (if d.answersEarly p then some x.stamp.tInst else x.stamp.ref) = some t2) :
    pdelayRespTx p d = (d.sendPtp p
      { type := 3, seq := x.seq, corr := x.corr, requester := x.requester, t2 := t2,
        twoStep := d.rd (inst Obj.PtpStepMode p) != 1, domain := x.domain }).answered p x := by
  unfold pdelayRespTx
  extract_lets oneStep early
  have hstamp : (if early then x.stamp.tInst else x.stamp.ref.getD 0) = t2 := by
    rw [show early = d.answersEarly p from rfl]
    split at ht
    · rw [if_pos ‹_›]
      exact Option.some.inj ht
    · rw [if_neg ‹_›, ht]
      rfl
  rw [show (d.link p).answers.find? (fun y => y.type == 2 && (early || y.stamp.ready) && d.answers p y) = some x from hx]
  simp only [hstamp]
  rfl

theorem delayRespTx_idle (h : (d.link p).answers = []) : delayRespTx p d = d := by simp [delayRespTx, h]

theorem pdelayRespTx_idle (h : (d.link p).answers = []) : pdelayRespTx p d = d := by simp [pdelayRespTx, h]

/-! ## Announce, L1_SYNC and the relock Sync pair (R115, R117, R155, R160) -/

theorem announceTx_master (hp : d.updateClass.plyOf p = none) (hhere : d.updateClass.ptpHere p = true)
    (has : d.updateClass.asCapable p = true) (hrole : d.updateClass.role p = 6) : announceTx p d =
      (d.updateClass.sendEngine p (.announce (d.updateClass.link p).seqAnn d.updateClass.announces)).setLink p
        fun k => { k with seqAnn := (k.seqAnn + 1) % 65536 } := by
  simp [announceTx, hp, hhere, has, hrole]

theorem l1SyncTx_here (hhere : d.ptpHere p = true) (hprofile : d.rd (inst Obj.PtpProfile p) = 0) : l1SyncTx p d =
    (d.sendEngine p (.l1Sync (d.link p).seqSig (decide (2 ≤ d.linkState p)))).setLink p
      fun k => { k with seqSig := (k.seqSig + 1) % 65536 } := by
  simp [l1SyncTx, hhere, hprofile]

theorem relockSyncPair_sends {n a b : Nat} (hm : d.members n = (a, b)) (hon : d.on .ply n = true) (hs : d.plyState n = 5)
    (ha : d.role a = 6) (hb : d.role b = 6) (hua : d.rdB (inst Obj.PortLinkUp a) = true)
    (hub : d.rdB (inst Obj.PortLinkUp b) = true) : relockSyncPair n d =
      ((((d.sendSync a (d.link a).seqSync).sendSync b (d.link a).seqSync).setPly n
        fun y => { y with window := false, relock := false }).plyTo n 3) := by
  unfold relockSyncPair
  rw [hm]
  refine if_pos ?_
  simp [hon, hs, ha, hb, hua, hub]

theorem relockSyncPair_idle {n : Nat} (hs : d.plyState n ≠ 5) : relockSyncPair n d = d := by
  refine if_neg ?_
  simp [hs]

end Sent

/-- Settles O28: on a port of no ply link a sender has no partner, before it sends or after (`plyOf_sendPtp`). What the frames hold is
PRESUMED (log entry 31). -/
theorem ptpMessagesAreSent : Obligations.PtpMessagesAreSent := by
  intro d q p hp
  refine ⟨fun hhere has hrole hsent => ?_, fun h => ?_, fun hhere hrole hsent => ?_, fun x t4 hx ht => ?_, fun x t2 hx ht => ?_,
    fun h => ⟨?_, ?_⟩, fun hp hhere has hrole => ?_, fun hhere hprofile => ?_, fun n a b hm hon hs ha hb hua hub => ?_,
    fun n hs => ?_⟩
  · exact effect_next q (syncTx_master hp hhere has hrole hsent)
  · exact effect_next q (syncTx_idle h)
  · have hsends := delayReqTx_slave hp hhere hrole hsent
    rw [Dev.sendReq] at hsends
    exact effect_next q hsends
  · exact effect_next q (delayRespTx_sends hx ht)
  · exact effect_next q (pdelayRespTx_sends hx ht)
  · exact effect_next q (delayRespTx_idle h)
  · exact effect_next q (pdelayRespTx_idle h)
  · exact effect_next q (announceTx_master hp hhere has hrole)
  · exact effect_next q (l1SyncTx_here hhere hprofile)
  · exact effect_next q (relockSyncPair_sends hm hon hs ha hb hua hub)
  · exact effect_next q (relockSyncPair_idle hs)

end Sys2Proof.Machine
end

section
/-! PROOFS. Roles and QL of a port (R105 to R109, R111, R116, R120, R133, R135, R155): Announce messages, the timeouts of a port, the
host's link record, management messages and ESMC. -/

namespace Sys2Proof.Machine

section Roles

variable {d : Dev} {p source : Nat}

/-! ## Announce messages and their timeouts (R111, R116, R155) -/

/-- What a port keeps of a master after an Announce: the times of its last two (R116). -/
def heardAgain (fs : List Foreign) (source : Nat) (m : AnnounceMsg) (now : Nat) : Foreign :=
  { source := source, msg := m, last := now, before := (fs.find? fun f => f.source == source).map (·.last) }

theorem announceRx_recorded {m : AnnounceMsg} (hhere : d.ptpHere p = true) (hrole : 4 ≤ d.role p)
    (hother : source / 65536 ≠ d.clockIdentity) (hsteps : m.stepsRemoved < 255)
    (hpath : d.rd (inst Obj.PtpProfile p) = 3 → d.clockIdentity ∉ m.path) : announceRx p source m d =
      (d.setLink (d.ptpPort p) fun k => { k with
        foreign := (d.link (d.ptpPort p)).foreign.filter (fun f => f.source != source) ++
          [heardAgain (d.link (d.ptpPort p)).foreign source m d.time.uptime] }).updateClass.bmca := by
  unfold announceRx
  rw [if_neg (by simpa [hhere, hrole, hother, hsteps, Dev.ptpAs] using hpath)]
  extract_lets a now fs entry
  have hentry : entry = heardAgain fs source m now := by
    unfold entry heardAgain
    cases fs.find? (fun f => f.source == source) with
    | none => rfl
    | some f => rfl
  rw [hentry]

theorem announceRx_ignored {m : AnnounceMsg} (h : source / 65536 = d.clockIdentity ∨ 255 ≤ m.stepsRemoved) :
    announceRx p source m d = d := by
  refine if_pos ?_
  rcases h with h | h
  all_goals simp [h]

/-- A port without its masters. -/
def Dev.forgets (d : Dev) (p : Nat) : Dev := d.setLink p fun k => { k with foreign := [] }

theorem announceReceiptTimeout_eq (hhere : d.ptpHere p = true) (hrole : 4 ≤ d.role p) (hheld : d.roleHeld p = false) :
    announceReceiptTimeout p d = ((d.forgets p).when (d.role p == 4 || 7 ≤ d.role p) fun e =>
      e.wr (inst Obj.PtpPortState p) (if d.rdB Obj.SlaveOnly then 4 else 6)).updateClass.bmca :=
  if_neg (by simp [hhere, hrole, hheld])

theorem announceReceiptTimeout_idle (h : d.role p < 4) : announceReceiptTimeout p d = d := by
  refine if_pos ?_
  simp [h]

theorem plyOf_wr_role (d : Dev) (p : Port) (v : Int) (r : Nat) : (d.wr (inst Obj.PtpPortState p) v).plyOf r = d.plyOf r :=
  plyOf_of_rd (fun k hk => rd_wr_other d _ v k (inst_ne_of_lt (N := 48) p.isLt
    (show 0x230100 + 48 < k by omega))) r

theorem preMasterTimeout_alone {p : Port} (h5 : d.role p = 5) (hp : ∀ n, d.plyOf p ≠ some (n, false)) :
    preMasterTimeout p d = d.wr (inst Obj.PtpPortState p) 6 := by
  unfold preMasterTimeout
  rw [if_pos (by simp [h5])]
  extract_lets e
  have hply : e.plyOf p = d.plyOf p := plyOf_wr_role d p 6 p
  split
  case h_1 n hn => exact absurd (hply.symm.trans hn) (hp n)
  case h_2 => rfl

theorem preMasterTimeout_memberA {p : Port} {n : Nat} (h5 : d.role p = 5) (hp : d.plyOf p = some (n, false)) :
    preMasterTimeout p d = (d.wr (inst Obj.PtpPortState p) 6).bTakesRole n := by
  unfold preMasterTimeout
  rw [if_pos (by simp [h5])]
  extract_lets e
  rw [show e.plyOf p = some (n, false) from (plyOf_wr_role d p 6 p).trans hp]

theorem preMasterTimeout_idle (h : d.role p ≠ 5) : preMasterTimeout p d = d := by simp [preMasterTimeout, h]

/-! ## Loss of Syncs and the host's link record (R120, R133, R135) -/

theorem syncReceiptLoss_tracking (h3 : d.linkState p = 3) (hm : d.rdB (inst Obj.ModeF0PtpEngine p) = false) :
    syncReceiptLoss p d = d.toRanging p := by simp [syncReceiptLoss, Dev.when, h3, hm]

theorem syncReceiptLoss_idle (h : d.linkState p ≠ 3 ∨ d.rdB (inst Obj.ModeF0PtpEngine p) = true) : syncReceiptLoss p d = d := by
  refine if_neg ?_
  rcases h with h | h
  all_goals simp [h]

/-- The object reads 1 after any write; a record is captured while the engine is ENABLED and F0 host-assisted (log entry 48). -/
theorem hostLinkRecordCmd_eq : hostLinkRecordCmd p d = (d.wr (inst Obj.HostLinkRecordCmd p) 1).when
    (d.on .ptpEngine p && d.rdB (inst Obj.ModeF0PtpEngine p)) fun e => e.setLink p fun k =>
      { k with hostRecord := some (d.rd (inst Obj.HostLinkOffset p), d.rd (inst Obj.HostLinkMeanPathDelay p)) } := by
  have hother {o : Nat} (ho : Obj.HostLinkRecordCmd ≠ o) : inst Obj.HostLinkRecordCmd p ≠ inst o p := by
    simp only [inst]
    omega
  have hon : (d.wr (inst Obj.HostLinkRecordCmd p) 1).on .ptpEngine p = d.on .ptpEngine p :=
    congrArg (· == 2) (rd_wr_other d _ 1 _ (hother (o := Obj.PtpEngineBlockState) (by decide)))
  simp only [hostLinkRecordCmd, Dev.when, hon, rdB_wr_other d _ 1 _ (hother (o := Obj.ModeF0PtpEngine) (by decide)),
    rd_wr_other d _ 1 _ (hother (o := Obj.HostLinkOffset) (by decide)),
    rd_wr_other d _ 1 _ (hother (o := Obj.HostLinkMeanPathDelay) (by decide))]

end Roles

/-- Settles O29: by the role of the port and what the message or timeout finds there. The masters at the port that stands for a ply
link, the roles after a timeout (log entry 30) and what HOST_LINK_RECORD_CMD reads (log entry 48) are the model's choices. -/
theorem announcesAndTimeoutsDecideRoles : Obligations.AnnouncesAndTimeoutsDecideRoles := by
  intro d q p
  refine ⟨fun source m hhere hrole hother hsteps hpath => ?_, fun source m h => ?_, fun hhere hheld => ⟨fun h => ?_, fun h => ?_⟩,
    fun h => ?_, fun h5 hp => ?_, fun n h5 hp => ?_, fun h => ?_, fun h3 hm => ?_, fun h => ?_, fun hon hm => ?_, fun h => ?_,
    fun bs st hon => ?_, fun bs st hoff => ?_⟩
  · exact effect_next q (announceRx_recorded hhere hrole hother hsteps hpath)
  · exact effect_next q (announceRx_ignored h)
  · refine effect_next q ?_
    rw [announceReceiptTimeout_eq hhere (by omega) hheld]
    have hfree : (d.role p == 4 || decide (7 ≤ d.role p)) = true := by simpa using h
    rw [hfree]
    rfl
  · refine effect_next q ?_
    rw [announceReceiptTimeout_eq hhere (by omega) hheld]
    have hmaster : (d.role p == 4 || decide (7 ≤ d.role p)) = false := by rcases h with h | h <;> simp [h]
    rw [hmaster]
    rfl
  · exact effect_next q (announceReceiptTimeout_idle h)
  · exact effect_next q (preMasterTimeout_alone h5 hp)
  · exact effect_next q (preMasterTimeout_memberA h5 hp)
  · exact effect_next q (preMasterTimeout_idle h)
  · exact effect_next q (syncReceiptLoss_tracking h3 hm)
  · exact effect_next q (syncReceiptLoss_idle h)
  · refine effect_next q ?_
    rw [hostLinkRecordCmd_eq, hon, hm]
    rfl
  · refine effect_next q ?_
    rw [hostLinkRecordCmd_eq]
    rcases h with h | h <;> simp [h, Dev.when]
  · exact effect_next q (if_neg (by simp [hon]))
  · exact effect_next q (if_pos (by simp [hoff]))

/-! ## ESMC (R105 to R108) -/

section Esmc

variable {d : Dev} {p ssm : Nat}

theorem txQl_ofReference (h : d.rdN Obj.RefSelected = 52 + p) : d.txQl p = 0xF := if_pos (by simp [h])

theorem txQl_runs (h : d.rdN Obj.RefSelected ≠ 52 + p) (hs : d.spindleState = 1 ∨ d.spindleState = 2) :
    d.txQl p = d.selectedQl :=
  (if_neg (by simp [h])).trans (if_pos (by simpa [Dev.spindleState] using hs))

theorem txQl_else (h : d.rdN Obj.RefSelected ≠ 52 + p) (h1 : d.spindleState ≠ 1) (h2 : d.spindleState ≠ 2) : d.txQl p = 0xB :=
  (if_neg (by simp [h])).trans (if_neg (by simpa [Dev.spindleState] using ⟨h1, h2⟩))

section Enabled

variable (h : d.rdB (inst Obj.EsmcEnable p) = true)
include h

theorem esmcPduRx_on (enhanced : Bool) : esmcPduRx p ssm enhanced d =
    (d.wr (inst Obj.EsmcRxQl p) (ssmCode (ssm % 16))).when enhanced (·.inc (inst Obj.EsmcIgnoredTlvCount p)) := if_pos h

theorem esmcRxTimeout_on : esmcRxTimeout p d = (d.wr (inst Obj.EsmcRxQl p) 0xFF).inc (inst Obj.EsmcTimeoutCount p) := if_pos h

theorem esmcTx_on (event : Bool) : esmcTx event p d =
    (d.wr (inst Obj.EsmcTxQl p) (d.txQl p)).sendEngine p (.esmc event (d.txQl p).toNat) := by
  unfold esmcTx
  rw [if_pos h]
  extract_lets e
  rw [show e.rdN (inst Obj.EsmcTxQl p) = (d.txQl p).toNat from rdN_wr_same d _ _]

end Enabled

section Disabled

variable (h : d.rdB (inst Obj.EsmcEnable p) = false)
include h

theorem esmcPduRx_off (enhanced : Bool) : esmcPduRx p ssm enhanced d = d := if_neg (by simp [h])

theorem esmcRxTimeout_off : esmcRxTimeout p d = d := if_neg (by simp [h])

theorem esmcTx_off (event : Bool) : esmcTx event p d = d := if_neg (by simp [h])

end Disabled

end Esmc

/-- Settles O30: by EsmcEnable, and for the QL sent by the selected reference and the state of the active spindle. -/
theorem esmcRunsWhileEnabled : Obligations.EsmcRunsWhileEnabled := by
  intro d q p ssm
  refine ⟨fun h => ⟨?_, ?_, ?_, ?_, ?_⟩, fun hmine => ?_, fun hother hrun => ?_, fun hother h1 h2 => ?_, fun h => ?_⟩
  · exact effect_next q (esmcPduRx_on h false)
  · exact effect_next q (esmcPduRx_on h true)
  · exact effect_next q (esmcRxTimeout_on h)
  · exact effect_next q (esmcTx_on h false)
  · exact effect_next q (esmcTx_on h true)
  · exact txQl_ofReference hmine
  · exact txQl_runs hother hrun
  · exact txQl_else hother h1 h2
  · simp only [List.forall_mem_cons]
    exact ⟨effect_next q (esmcPduRx_off h false), effect_next q (esmcPduRx_off h true), effect_next q (esmcRxTimeout_off h),
      effect_next q (esmcTx_off h false), effect_next q (esmcTx_off h true), fun _ hc => absurd hc List.not_mem_nil⟩

end Sys2Proof.Machine
end

section
/-! PROOFS. Ply alarms and the decisions on a path step (R160, R161, R168, R169): when each command acts, and when it leaves the
device as it is. -/

namespace Sys2Proof.Machine

section Effects

variable {d : Dev} {n p : Nat}

/-! ## Ply alarms (R160, R161) -/

theorem plyWindowExpiry_alarms (hw : (d.ply n).window = true) (hs : d.plyState n = 4 ∨ d.plyState n = 5) :
    plyWindowExpiry n d = (d.plyAlarm n 6).plyIncomplete n := if_pos (by simpa [hw] using hs)

theorem plyWindowExpiry_idle (hw : (d.ply n).window = false) : plyWindowExpiry n d = d := if_neg (by simp [hw])

theorem plyPairTimeout_alarms (hs : d.plyState n = 1 ∨ d.plyState n = 2) : plyPairTimeout n d = d.plyAlarm n 5 :=
  if_pos (by simpa using hs)

theorem plyPairTimeout_idle (h1 : d.plyState n ≠ 1) (h2 : d.plyState n ≠ 2) : plyPairTimeout n d = d := if_neg (by simp [h1, h2])

/-! ## Decisions written by the host (R168) -/

theorem pathDecision_accepted (v : Nat) (h4 : d.linkState p = 4) (h16 : 16 ≤ (d.link p).sinceStep)
    (hlater : ∀ s, (d.link p).stepAt = some s → s.2 ≠ d.turn.started) : pathDecision v p d =
      (d.wr (inst Obj.PathStepDecisionCmd p) 1).setLink p fun k => { k with decision := some v } := by
  refine if_pos ?_
  simp only [Bool.and_eq_true, beq_iff_eq, decide_eq_true_eq]
  refine ⟨⟨h4, h16⟩, ?_⟩
  split
  case h_1 s hs => exact bne_iff_ne.2 (hlater s hs)
  case h_2 => rfl

theorem pathDecision_refused (v : Nat) (h : d.linkState p ≠ 4 ∨ (d.link p).sinceStep < 16) :
    pathDecision v p d = d.wr (inst Obj.PathStepDecisionCmd p) 0x80 := by
  refine if_neg ?_
  rcases h with h | h
  all_goals simp [h]

/-! ## Decisions of the device (R169) -/

theorem autoDecision_decides (h4 : d.linkState p = 4) (h16 : 16 ≤ (d.link p).sinceStep) (hnone : (d.link p).decision = none)
    (hwaited : ∀ s, (d.link p).stepAt = some s → s.1 + d.rdN Obj.RefHoldOff * 1000000000 ≤ d.time.uptime)
    (hauto : d.rd (inst Obj.PathStepAutoDecision p) = 1 ∨ d.rd (inst Obj.PathStepAutoDecision p) = 2) : autoDecision p d =
      (d.when (d.rd (inst Obj.PathStepAutoDecision p) == 2) fun e =>
        e.wr (inst Obj.PathStepAsymmetry p) (e.rd (inst Obj.PathStepBridgeEstimate p))).setLink p fun k =>
          { k with decision := some (d.rd (inst Obj.PathStepAutoDecision p)).toNat } := by
  refine if_pos ?_
  simp only [Bool.and_eq_true, Bool.or_eq_true, beq_iff_eq, decide_eq_true_eq, Option.isNone_iff_eq_none]
  refine ⟨⟨⟨⟨hauto, h4⟩, hnone⟩, h16⟩, ?_⟩
  split
  case h_1 s hs => exact decide_eq_true (hwaited s hs)
  case h_2 => rfl

theorem autoDecision_idle (h : d.rd (inst Obj.PathStepAutoDecision p) = 0 ∨ d.linkState p ≠ 4 ∨ (d.link p).sinceStep < 16 ∨
    ∃ s, (d.link p).stepAt = some s ∧ d.time.uptime < s.1 + d.rdN Obj.RefHoldOff * 1000000000) : autoDecision p d = d := by
  refine if_neg ?_
  rcases h with h | h | h | ⟨s, hs, hwait⟩
  · simp [h]
  · simp [h]
  · simp [h]
  · simp [hs, hwait]

end Effects

/-- Settles O31: of the alarms by the state of the ply link, of a decision by BRIDGING, the round trips and the time since the step. -/
theorem plyAlarmsAndPathStepDecisions : Obligations.PlyAlarmsAndPathStepDecisions := by
  intro d q
  refine ⟨fun n hw hs => ?_, fun n hw => ?_, fun n hs => ?_, fun n h1 h2 => ?_, fun p h4 h16 hlater => ⟨?_, ?_⟩,
    fun p h => ⟨?_, ?_⟩, fun p h4 h16 hnone hwaited => ⟨fun hauto => ?_, fun hauto => ?_⟩, fun p h => ?_⟩
  · exact effect_next q (plyWindowExpiry_alarms hw hs)
  · exact effect_next q (plyWindowExpiry_idle hw)
  · exact effect_next q (plyPairTimeout_alarms hs)
  · exact effect_next q (plyPairTimeout_idle h1 h2)
  · exact effect_next q (pathDecision_accepted 1 h4 h16 hlater)
  · exact effect_next q (pathDecision_accepted 2 h4 h16 hlater)
  · exact effect_next q (pathDecision_refused 1 h)
  · exact effect_next q (pathDecision_refused 2 h)
  · refine effect_next q ((autoDecision_decides h4 h16 hnone hwaited (.inl hauto)).trans ?_)
    rw [hauto]
    rfl
  · refine effect_next q ((autoDecision_decides h4 h16 hnone hwaited (.inr hauto)).trans ?_)
    rw [hauto]
    rfl
  · exact effect_next q (autoDecision_idle h)

end Sys2Proof.Machine
end

section
/-! PROOFS. Reference inputs (R178 to R185): edges, pulses and labels, presence, and time delivered by the host. -/

namespace Sys2Proof.Machine

section Inputs

variable {d : Dev} {n : Nat}

/-! ## Edges and pulses (R178, R179, R180) -/

/-- Input `n` is the second input of an ENABLED pair (R178). -/
def Dev.inPair (d : Dev) (n : Nat) : Bool := n % 2 == 1 && d.refMode (n - 1) == 2 && d.on .refIn (n - 1)

theorem inPair_iff : d.inPair n = true ↔ n % 2 = 1 ∧ d.refMode (n - 1) = 2 ∧ d.on .refIn (n - 1) = true := by
  simp [Dev.inPair, and_assoc]

/-- Input `n` collects an edge. -/
def Dev.collectsEdge (d : Dev) (n : Nat) (stamp : Int) : Dev := d.setRefIn n fun g => g.addEdge stamp (d.comparison n)

theorem refinEdge_eq (tc : Int) (tap : Nat) : refinEdge n tc tap d =
    if !d.on .refIn n && !d.inPair n then d
    else if d.inPair n || d.refMode n == 0 then d.collectsEdge n (d.refStamp n tc tap)
    else ((d.collectsEdge n (d.refStamp n tc tap)).pulse n (d.refStamp n tc tap)).when (d.refMode n == 2)
      (·.pairEdge n (d.refStamp n tc tap)) := rfl

theorem refinEdge_inPair (tc : Int) (tap : Nat) (hp : d.inPair n = true) :
    refinEdge n tc tap d = d.collectsEdge n (d.refStamp n tc tap) := by
  simp [refinEdge_eq, hp]

theorem refinEdge_frequency (tc : Int) (tap : Nat) (hon : d.on .refIn n = true) (h0 : d.refMode n = 0) :
    refinEdge n tc tap d = d.collectsEdge n (d.refStamp n tc tap) := by
  simp [refinEdge_eq, hon, h0]

section Alone

variable (hp : ¬d.inPair n = true)
include hp

theorem refinEdge_off (tc : Int) (tap : Nat) (hoff : d.on .refIn n = false) : refinEdge n tc tap d = d := by
  simp [refinEdge_eq, hp, hoff]

theorem refinEdge_pps (tc : Int) (tap : Nat) (hon : d.on .refIn n = true) (h1 : d.refMode n = 1) :
    refinEdge n tc tap d = (d.collectsEdge n (d.refStamp n tc tap)).pulse n (d.refStamp n tc tap) := by
  simp [refinEdge_eq, hp, hon, h1, Dev.when]

theorem refinEdge_ppsOfPair (tc : Int) (tap : Nat) (hon : d.on .refIn n = true) (h2 : d.refMode n = 2) :
    refinEdge n tc tap d =
      ((d.collectsEdge n (d.refStamp n tc tap)).pulse n (d.refStamp n tc tap)).pairEdge n (d.refStamp n tc tap) := by
  simp [refinEdge_eq, hp, hon, h2, Dev.when]

end Alone

theorem length_lastN_le {α : Type} (m : Nat) (l : List α) : (lastN m l).length ≤ m := by
  rw [lastN, List.length_drop]
  omega

/-- A pulse writes two objects: its number and its stamp. -/
theorem rd_pulse (d : Dev) (n : Nat) (stamp : Int) (key : Nat) :
    (d.pulse n stamp).rd key = ((d.inc (inst Obj.RefInPulseSeq n)).wr (inst Obj.RefInLastPulseStamp n) stamp).rd key := rfl

theorem rdN_pulse_seq (d : Dev) (n : Nat) (stamp : Int) :
    (d.pulse n stamp).rdN (inst Obj.RefInPulseSeq n) = (d.rdN (inst Obj.RefInPulseSeq n) + 1) % 2 ^ 32 := by
  rw [Dev.rdN, rd_pulse, rd_wr_other _ _ _ _ (by simp), Dev.inc, Dev.add32, rd_wr_same, Int.toNat_natCast]

theorem rd_pulse_stamp (d : Dev) (n : Nat) (stamp : Int) : (d.pulse n stamp).rd (inst Obj.RefInLastPulseStamp n) = stamp := by
  rw [rd_pulse, rd_wr_same]

theorem length_pulses_pulse (d : Dev) (n : Nat) (stamp : Int) : ((d.pulse n stamp).refIn n).pulses.length ≤ 16 := by
  simp only [Dev.pulse, refIn_setRefIn_same]
  exact length_lastN_le 16 _

/-! ## Labels (R180) -/

theorem labelApply_labels {x : Nat × Int} (hon : d.on .refIn n = true) (hm : d.refMode n ≠ 0)
    (hx : (d.refIn n).pulses.find? (fun y => y.1 == d.rdN (inst Obj.RefInLabelPulseSeq n)) = some x) : labelApply n d =
      ((d.setRefIn n fun g => { g with
        label := some (d.rd (inst Obj.RefInLabelSeconds n) - nearest x.2 secT.toNat), relabelled := true }).wrs
          [(inst Obj.RefInSecondsKnown n, 1), (inst Obj.RefInLabelCmd n, 0)]).refInEvent n 4 := by
  simp only [labelApply, hx, hon, Bool.true_and, bne_iff_ne.2 hm]

theorem labelApply_refused (h : (∀ x ∈ (d.refIn n).pulses, x.1 ≠ d.rdN (inst Obj.RefInLabelPulseSeq n)) ∨
    d.on .refIn n = false ∨ d.refMode n = 0) : labelApply n d = d.wr (inst Obj.RefInLabelCmd n) 0x80 := by
  unfold labelApply
  extract_lets seq
  split
  case h_1 hx hon =>
    simp only [Bool.and_eq_true, bne_iff_ne] at hon
    obtain ⟨hon, hm⟩ := hon
    rcases h with hnone | hoff | h0
    · exact absurd (by simpa using List.find?_some hx) (hnone _ (List.mem_of_find?_eq_some hx))
    · simp [hon] at hoff
    · exact absurd h0 hm
  case h_2 => rfl

theorem labelClear_clears (h : (d.refIn n).label ≠ none) : labelClear n d =
    (((d.setRefIn n fun g => { g with label := none, relabelled := true }).wr (inst Obj.RefInSecondsKnown n) 0).refInEvent n 5).wr
      (inst Obj.RefInLabelCmd n) 0 := by
  rw [labelClear, Dev.clearLabel, if_pos (Option.isSome_iff_ne_none.2 h)]

theorem labelClear_none (h : (d.refIn n).label = none) : labelClear n d = d.wr (inst Obj.RefInLabelCmd n) 0 := by
  rw [labelClear, Dev.clearLabel, if_neg (by simp [h])]

/-! ## Presence (R185) -/

/-- The edges of input `n` have stopped: it is not present, and its candidate follows. -/
def Dev.losesEdges (d : Dev) (n : Nat) : Dev :=
  refreshCand n (d.setRefIn n fun g => { g with present := false, edges := 0, phases := 0, fresh := false })

theorem presenceTimeout_eq (n : Nat) (d : Dev) :
    presenceTimeout n d = (d.losesEdges n).when (n % 2 == 1) fun e => refreshCand (n - 1) e := rfl

/-! ## Time delivered by the host (R182, R184) -/

/-- The host's time at a boundary is kept as the measurement of candidate 100. -/
def Dev.takesHostTime (d : Dev) (boundary : Int) : Dev :=
  refreshCand 100 ({ d with ref := { d.ref with
    host := some (dur (d.rd Obj.HostRefTime - boundary), d.turn.started) } }.wr Obj.HostRefCmd 0)

theorem hostRefCmd_started {t : Int} (h : startedAt (d.rdN Obj.HostRefAtTurn) 1024 d.turn.runs = some t) :
    hostRefCmd d = d.takesHostTime t := by
  simp only [hostRefCmd, h]
  rfl

section ToCome

variable (h : startedAt (d.rdN Obj.HostRefAtTurn) 1024 d.turn.runs = none)
include h

theorem hostRefCmd_next (hlo : d.turn.next ≤ d.rdN Obj.HostRefAtTurn) (hhi : d.rdN Obj.HostRefAtTurn < d.turn.next + 1024) :
    hostRefCmd d = d.takesHostTime (d.boundaryTime (d.rdN Obj.HostRefAtTurn)) := by
  simp only [hostRefCmd, h, hlo, hhi, decide_true, Bool.and_self, if_true]
  rfl

theorem hostRefCmd_refused (hn : d.rdN Obj.HostRefAtTurn < d.turn.next ∨ d.turn.next + 1024 ≤ d.rdN Obj.HostRefAtTurn) :
    hostRefCmd d = d.wr Obj.HostRefCmd 0x80 := by
  have hout : (decide (d.turn.next ≤ d.rdN Obj.HostRefAtTurn) &&
      decide (d.rdN Obj.HostRefAtTurn < d.turn.next + 1024)) = false := by
    simp only [Bool.and_eq_false_iff, decide_eq_false_iff_not]
    omega
  simp [hostRefCmd, h, hout]

end ToCome

/-- The last 1,024 Turns of a single run. -/
theorem startedAt_singleton (r : TurnRun) (i m : Nat) : startedAt i m [r] =
    if r.first ≤ i ∧ i ≤ r.last ∧ r.last < i + m then some (boundaryOf r.period r.start r.first i) else none := by
  by_cases hfirst : r.first ≤ i
  · simp [startedAt, hfirst]
  · simp [startedAt, hfirst]

end Inputs

/-- Settles O32: an edge by the input's place in a pair and its mode, a label by the pulse it names, a Turn of the host by whether it
has started. -/
theorem referenceInputsTakeEdgesAndLabels : Obligations.ReferenceInputsTakeEdgesAndLabels := by
  intro d q n
  refine ⟨fun tc tap => ?_, fun e t => ⟨rdN_pulse_seq e n t, rd_pulse_stamp e n t, length_pulses_pulse e n t⟩, fun x hon hm hx => ?_,
    fun h => ?_, fun h => ?_, fun h => ?_, ⟨fun h => ?_, fun h => ?_⟩, fun t h => ?_, fun h => ⟨fun hlo hhi => ?_, fun hn => ?_⟩,
    fun r i => startedAt_singleton r i 1024, rfl⟩
  · dsimp only
    rw [← inPair_iff]
    refine ⟨fun hp => ?_, fun _ hon h0 => ?_, fun hp hon h1 => ?_, fun hp hon h2 => ?_, fun hp hoff => ?_⟩
    · exact effect_next q (refinEdge_inPair tc tap hp)
    · exact effect_next q (refinEdge_frequency tc tap hon h0)
    · exact effect_next q (refinEdge_pps hp tc tap hon h1)
    · exact effect_next q (refinEdge_ppsOfPair hp tc tap hon h2)
    · exact effect_next q (refinEdge_off hp tc tap hoff)
  · exact effect_next q (labelApply_labels hon hm hx)
  · exact effect_next q (labelApply_refused h)
  · exact effect_next q (labelClear_clears h)
  · exact effect_next q (labelClear_none h)
  · refine effect_next q ((presenceTimeout_eq n d).trans ?_)
    rw [h]
    rfl
  · refine effect_next q ((presenceTimeout_eq n d).trans ?_)
    rw [h]
    rfl
  · exact effect_next q (hostRefCmd_started h)
  · exact effect_next q (hostRefCmd_next h hlo hhi)
  · exact effect_next q (hostRefCmd_refused h hn)

end Sys2Proof.Machine
end

section
/-! PROOFS. Candidates (R186 to R191, R195): qualification, the frequency monitor, hold-off and wait-to-restore. -/

namespace Sys2Proof.Machine

section Candidates

variable {d : Dev}

/-! ## Qualification (R188) -/

theorem qual_raise {k : Nat} (hk : k < 101) (d : Dev) (m : Nat) : (d.raise m).qual k = d.qual k :=
  rd_raise_below (show 0x220200 + k + 1 < 0x300000 by omega) d m

theorem qual_wr_other {k key : Nat} (h : key ≠ inst Obj.RefQualState k) (d : Dev) (v : Int) : (d.wr key v).qual k = d.qual k :=
  rd_wr_other d key v _ h

theorem qual_setQual {k : Nat} (hk : k < 101) (d : Dev) (st : Int) : (d.setQual k st).qual k = st := by
  unfold Dev.setQual
  split
  case isTrue h => exact beq_iff_eq.1 h
  case isFalse h =>
    extract_lets e
    have he : e.qual k = st := (qual_wr_other (by simp) _ _).trans (rd_wr_same _ _ _)
    split
    · rw [Dev.refInEvent, qual_raise hk, qual_wr_other (by simp), he]
    · unfold Dev.when
      split
      · rw [qual_raise hk, he]
      · exact he

theorem qual_setZero (d : Dev) (k j : Nat) : (d.setZero k).qual j = d.qual j := by
  unfold Dev.setZero
  split
  · rfl
  · exact rd_setCand _ _ _ _

theorem qualifyElapsed_qualifies {k : Nat} (h1 : d.qual k = 1) (h16 : 16 ≤ (d.cand k).count)
    (hw : d.rdN Obj.RefFreqMonitorWindow ≤ (d.cand k).hardSecs) : qualifyElapsed k d = (d.setQual k 2).setZero k :=
  if_pos (by simp [h1, h16, hw])

theorem qualifyElapsed_idle {k : Nat} (h : d.qual k ≠ 1 ∨ (d.cand k).count < 16 ∨
    (d.cand k).hardSecs < d.rdN Obj.RefFreqMonitorWindow) : qualifyElapsed k d = d := by
  refine if_neg ?_
  simp only [Bool.and_eq_true, beq_iff_eq, decide_eq_true_eq]
  omega

/-! ## The frequency monitor (R187) -/

section Monitor

variable {k at_ : Nat}

theorem freqSlope_absent (h : d.qual k = 0) : d.freqSlope k at_ = none := if_pos (by simp [h])

theorem freqSlope_present (h : d.qual k ≠ 0) : d.freqSlope k at_ =
    slopeOf ((d.cand k).mon.filter fun e => decide (at_ ≤ e.1 + d.rdN Obj.RefFreqMonitorWindow * 1000000000)) :=
  if_neg (by simp [h])

theorem freqReport_none (h : d.freqSlope k at_ = none) : freqReport k at_ d = d := by
  simp only [freqReport, h]

@[simp] theorem cand_softAlarm (d : Dev) (k : Nat) (on_ : Bool) (j : Nat) : (d.softAlarm k on_).cand j = d.cand j := by
  unfold Dev.softAlarm
  split
  · rfl
  · split
    · rfl
    · rfl

/-- A report is taken: its slope is shown, and the seconds within each limit count up, or begin again. -/
def Dev.takesSlope (d : Dev) (k : Nat) (slope : Int) (soft hard : Bool) : Dev :=
  (d.wr (inst Obj.RefFreqOffset k) slope).setCand k fun c =>
    { c with softSecs := if soft then 0 else c.softSecs + 1, hardSecs := if hard then 0 else c.hardSecs + 1 }

/-- What a report does, by whether its slope is beyond the soft limit and beyond the hard limit. -/
theorem freqReport_some {slope : Int} {soft hard : Bool} (h : d.freqSlope k at_ = some slope)
    (hs : decide (d.rd Obj.RefSoftLimit < |slope|) = soft) (hh : decide (d.rd Obj.RefHardLimit < |slope|) = hard) :
    freqReport k at_ d =
      let clean := decide (d.rdN Obj.RefFreqMonitorWindow ≤ if soft then 0 else (d.cand k).softSecs + 1)
      let e := d.takesSlope k slope soft hard
      let f := if soft then e.softAlarm k true else e.when clean (·.softAlarm k false)
      if hard then f.disqualify k 2 else f.when (clean && bit (f.cand k).causes 2) (·.clearCause k 2) := by
  rw [Int.abs_eq_natAbs] at hs hh
  simp only [freqReport, h, hs, hh, cand_setCand_same]
  rfl

variable {slope : Int} (h : d.freqSlope k at_ = some slope)
include h

theorem freqReport_beyondHard (hs : d.rd Obj.RefSoftLimit < |slope|) (hh : d.rd Obj.RefHardLimit < |slope|) :
    freqReport k at_ d = ((d.takesSlope k slope true true).softAlarm k true).disqualify k 2 :=
  freqReport_some h (decide_eq_true hs) (decide_eq_true hh)

theorem freqReport_beyondSoft (hs : d.rd Obj.RefSoftLimit < |slope|) (hh : |slope| ≤ d.rd Obj.RefHardLimit)
    (hw : 0 < d.rdN Obj.RefFreqMonitorWindow) :
    freqReport k at_ d = (d.takesSlope k slope true false).softAlarm k true := by
  rw [freqReport_some h (decide_eq_true hs) (decide_eq_false (not_lt.2 hh))]
  simp [Dev.when, hw.ne']

section Within

variable (hs : |slope| ≤ d.rd Obj.RefSoftLimit) (hh : |slope| ≤ d.rd Obj.RefHardLimit)
include hs hh

theorem freqReport_short (hw : (d.cand k).softSecs + 1 < d.rdN Obj.RefFreqMonitorWindow) :
    freqReport k at_ d = d.takesSlope k slope false false := by
  rw [freqReport_some h (decide_eq_false (not_lt.2 hs)) (decide_eq_false (not_lt.2 hh))]
  simp [Dev.when, hw.not_ge]

theorem freqReport_whole (hw : d.rdN Obj.RefFreqMonitorWindow ≤ (d.cand k).softSecs + 1) : freqReport k at_ d =
    ((d.takesSlope k slope false false).softAlarm k false).when (bit (d.cand k).causes 2) (·.clearCause k 2) := by
  rw [freqReport_some h (decide_eq_false (not_lt.2 hs)) (decide_eq_false (not_lt.2 hh))]
  simp [Dev.when, hw, Dev.takesSlope]

end Within

end Monitor

/-! ## Hold-off and wait-to-restore (R189, R195) -/

theorem holdOffExpiry_eq (k : Nat) (d : Dev) : holdOffExpiry k d = refreshCand k
    ((d.setCand k fun c => { c with heldOff := true }).when (bit (d.cand k).causes 1) (·.clearCause k 1)) := by
  simp only [holdOffExpiry, cand_setCand_same]

/-- A phase jump that was the one cause of a DISQUALIFIED candidate clears: it qualifies again. -/
theorem clearCause_last {k : Nat} (h3 : d.qual k = 3) (hc : (d.cand k).causes = 2) :
    d.clearCause k 1 = (d.setCand k fun c => { c with causes := 0 }).startQualifying k := by
  have hcleared : (d.setCand k fun c => { c with causes := setBit c.causes 1 false }) =
      d.setCand k fun c => { c with causes := 0 } := by
    simp only [Dev.setCand, hc]
    rfl
  have h3' : (d.setCand k fun c => { c with causes := 0 }).qual k = 3 := h3
  simp [Dev.clearCause, hcleared, Dev.when, h3']

theorem waitExpiry_serves {k : Nat} (he : d.refEligible k = true) (h2 : d.rd Obj.RefSelectorState = 2) :
    waitExpiry k d = d.setCand k fun c => { c with served := true } := if_pos (by simp [he, h2])

theorem waitExpiry_idle {k : Nat} (h : d.refEligible k = false ∨ d.rd Obj.RefSelectorState ≠ 2) : waitExpiry k d = d := by
  refine if_neg ?_
  rcases h with h | h
  all_goals simp [h]

end Candidates

/-- Settles O33: each command by the state of its candidate, and a report by where its slope lies against the two limits. The slope
of the least-squares line (log entry 53), and that a candidate may be held by several causes and counts its seconds within the limits
(log entry 52), are the model's choices. -/
theorem candidatesQualify : Obligations.CandidatesQualify := by
  intro d q k at_
  refine ⟨fun h1 h16 hw => ⟨?_, ?_⟩, fun h => ?_, ⟨fun h => ?_, fun h => ?_⟩, fun h => ?_,
    fun sl h => ⟨fun hs hh => ?_, fun hs hh hw => ?_, fun hs hh => ⟨fun hw => ?_, fun hw hc => ?_, fun hw hc => ?_⟩⟩,
    ⟨fun hc => ?_, fun hc => ?_⟩, fun h3 hc => ?_, fun he h2 => ?_, fun h => ?_⟩
  · exact effect_next q (qualifyElapsed_qualifies h1 h16 hw)
  · exact (qual_setZero _ _ _).trans (qual_setQual k.isLt d 2)
  · exact effect_next q (qualifyElapsed_idle h)
  · exact freqSlope_absent h
  · exact freqSlope_present h
  · exact effect_next q (freqReport_none h)
  · exact effect_next q (freqReport_beyondHard h hs hh)
  · exact effect_next q (freqReport_beyondSoft h hs hh hw)
  · exact effect_next q (freqReport_short h hs hh hw)
  · refine effect_next q ((freqReport_whole h hs hh hw).trans ?_)
    rw [hc]
    rfl
  · refine effect_next q ((freqReport_whole h hs hh hw).trans ?_)
    rw [hc]
    rfl
  · refine effect_next q ((holdOffExpiry_eq k d).trans ?_)
    rw [hc]
    rfl
  · refine effect_next q ((holdOffExpiry_eq k d).trans ?_)
    rw [hc]
    rfl
  · exact clearCause_last h3 hc
  · exact effect_next q (waitExpiry_serves he h2)
  · exact effect_next q (waitExpiry_idle h)

end Sys2Proof.Machine
end

section
/-! PROOFS. Switches between references and the selection by the host (R194, R206). -/

namespace Sys2Proof.Machine

section Switches

variable {d : Dev}

theorem switchSettle_completes (h1 : d.rd Obj.RefSelectorState = 1) (h2 : d.spindleState = 2) :
    switchSettle d = d.switchComplete 2 := if_pos (by simp [h1, h2])

theorem switchSettle_idle (h : d.rd Obj.RefSelectorState ≠ 1 ∨ d.spindleState ≠ 2) : switchSettle d = d := by
  refine if_neg ?_
  rcases h with h | h
  all_goals simp [h]

theorem switchTimeout_completes (h1 : d.rd Obj.RefSelectorState = 1) : switchTimeout d = d.switchComplete 3 :=
  if_pos (by simp [h1])

theorem switchTimeout_idle (h1 : d.rd Obj.RefSelectorState ≠ 1) : switchTimeout d = d := if_neg (by simp [h1])

/-- The host's selection is taken for the next boundary: a candidate, or 101 to deselect. -/
def Dev.takesSelection (d : Dev) (k : Nat) : Dev :=
  { d.wr Obj.HostRefSelectCmd 0 with ref := { d.ref with next := some k, asked := none } }

theorem hostRefSelect_refused (h : d.on .refSelector 0 = false ∨ d.rdB Obj.ModeF2RefSelector = false) :
    hostRefSelect d = d.wr Obj.HostRefSelectCmd 0x80 := by
  refine if_pos ?_
  rcases h with h | h
  all_goals simp [h]

section Assisted

variable (hon : d.on .refSelector 0 = true) (hm : d.rdB Obj.ModeF2RefSelector = true)
include hon hm

theorem hostRefSelect_assisted : hostRefSelect d =
    if d.rdN Obj.HostRefSelect = 0xFE then d.takesSelection 101
    else if d.rdN Obj.HostRefSelect ≤ 100 ∧ d.refEligible (d.rdN Obj.HostRefSelect) = true then
      d.takesSelection (d.rdN Obj.HostRefSelect)
    else d.wr Obj.HostRefSelectCmd 0x80 := by
  refine (if_neg (by simp [hon, hm])).trans ?_
  simp only [beq_iff_eq, Bool.and_eq_true, decide_eq_true_eq]
  rfl

theorem hostRefSelect_deselects (h : d.rdN Obj.HostRefSelect = 0xFE) : hostRefSelect d = d.takesSelection 101 := by
  rw [hostRefSelect_assisted hon hm, if_pos h]

theorem hostRefSelect_selects (hk : d.rdN Obj.HostRefSelect ≤ 100) (he : d.refEligible (d.rdN Obj.HostRefSelect) = true) :
    hostRefSelect d = d.takesSelection (d.rdN Obj.HostRefSelect) := by
  rw [hostRefSelect_assisted hon hm, if_neg (by omega), if_pos ⟨hk, he⟩]

theorem hostRefSelect_ineligible (h : 100 < d.rdN Obj.HostRefSelect ∨ d.refEligible (d.rdN Obj.HostRefSelect) = false)
    (hne : d.rdN Obj.HostRefSelect ≠ 0xFE) : hostRefSelect d = d.wr Obj.HostRefSelectCmd 0x80 := by
  rw [hostRefSelect_assisted hon hm, if_neg hne, if_neg]
  rintro ⟨hk, he⟩
  exact h.elim (fun hgt => absurd hk (by omega)) (fun hf => by simp [he] at hf)

end Assisted

end Switches

/-- Settles O34: of a switch by RefSelectorState and the state of the spindle, of the host's selection by the mode of F2 and by what it
names. -/
theorem switchesCompleteAndTheHostSelects : Obligations.SwitchesCompleteAndTheHostSelects := by
  intro d q
  refine ⟨fun h1 h2 => ?_, fun h1 => ?_, fun h1 => ⟨?_, ?_⟩, fun h2 => ?_,
    fun hon hm => ⟨fun hk he => ?_, fun hk => ?_, fun hk hne => ?_⟩, fun h => ?_⟩
  · exact effect_next q (switchSettle_completes h1 h2)
  · exact effect_next q (switchTimeout_completes h1)
  · exact effect_next q (switchSettle_idle (.inl h1))
  · exact effect_next q (switchTimeout_idle h1)
  · exact effect_next q (switchSettle_idle (.inr h2))
  · exact effect_next q (hostRefSelect_selects hon hm hk he)
  · exact effect_next q (hostRefSelect_deselects hon hm hk)
  · exact effect_next q (hostRefSelect_ineligible hon hm hk hne)
  · exact effect_next q (hostRefSelect_refused h)

end Sys2Proof.Machine
end

section
/-! PROOFS. The synths and the Plinth: losses, locks and returns (R215 to R220, R238, R594, R598). -/

namespace Sys2Proof.Machine

/-! ## The objects of the synths lie below those of the alignment lines and the outputs -/

section Below

variable {k : Nat} (h : k ≤ Obj.AlLockState)
include h

/-- What is written at an array of a line or an output leaves the objects below those arrays. -/
theorem rd_wr_belowLines {o : Nat} (ho : Obj.AlLockState ≤ o) (n : Nat) (d : Dev) (v : Int) : (d.wr (inst o n) v).rd k = d.rd k :=
  rd_wr_other d _ v k (inst_ne_of_le (h.trans ho) n)

theorem rd_raise_belowLines (d : Dev) (n : Nat) : (d.raise n).rd k = d.rd k :=
  rd_raise_below (h.trans_lt (by decide)) d n

theorem rd_refreshOut_belowLines (o : Nat) (d : Dev) : (refreshOut o d).rd k = d.rd k := by
  unfold refreshOut
  extract_lets c e
  have he : e.rd k = d.rd k := (rd_wr_belowLines h (by decide) o _ _).trans (rd_wr_belowLines h (by decide) o d c)
  split
  · split
    · exact (when_keeps (·.rd k) _ (by intro; rfl) e).trans he
    · exact (when_keeps (·.rd k) _ (by intro; rfl) e).trans he
  · exact rd_wr_belowLines h (by decide) _ d c

theorem rd_setLine_belowLines (d : Dev) (n : Nat) (st : Int) : (d.setLine n st).rd k = d.rd k := by
  unfold Dev.setLine
  split
  · rfl
  · exact (rd_raise_belowLines h _ _).trans (rd_wr_belowLines h le_rfl n d st)

theorem rd_refreshLine_belowLines (n : Nat) (d : Dev) : (refreshLine n d).rd k = d.rd k := by
  unfold refreshLine
  split
  · exact when_keeps (·.rd k) _ (fun e => rd_setLine_belowLines h e n 1) d
  · exact rd_setLine_belowLines h d n 0

theorem rd_refreshLines_belowLines (d : Dev) : d.refreshLines.rd k = d.rd k :=
  (forEach_keeps (·.rd k) (fun o _ e => rd_refreshOut_belowLines h o e) _).trans
    (forEach_keeps (·.rd k) (fun n _ e => rd_refreshLine_belowLines h n e) d)

end Below

section Synths

variable {d : Dev}

/-! ## The steered synth (R215 to R217) -/

/-- The word held at a loss: the one in force while the synth is LOCKED, else the one held before (R216). -/
def Dev.heldWord (d : Dev) : Int :=
  if d.rd Obj.SteeredSynthState == 1 then d.rd (inst Obj.NcoWord d.active) else d.time.yHeld

/-- The objects, flags and event that report a loss which leaves the synth in state `st` and holds the word `y`. -/
def Dev.reportsSteeredLoss (d : Dev) (st y : Int) : Dev :=
  (((((d.wr Obj.SteeredSynthState st).wr Obj.SteeredHeldWord y).wr Obj.SynthEventCause 1).inc
    Obj.SteeredSynthLossCount).perfFlags 32).raise 33

theorem steeredLost_eq (st : Int) : d.steeredLost st =
    ({ d.reportsSteeredLoss st d.heldWord with
      time := { d.time with yHeld := d.heldWord, tclkSteered := false }
      out := { d.out with steeredReturn := [0, 1, 2, 3] } } : Dev).refreshLines := rfl

theorem heldWord_locked (h1 : d.rd Obj.SteeredSynthState = 1) : d.heldWord = d.rd (inst Obj.NcoWord d.active) :=
  if_pos (beq_iff_eq.2 h1)

theorem rd_perfFlags (k m : Nat) : (d.perfFlags m).rd k = d.rd k := rfl

/-- Reads see neither the time base nor the outputs. -/
theorem rd_withTimeOut (k : Nat) (t : TimeSt) (o : OutputSt) : ({ d with time := t, out := o } : Dev).rd k = d.rd k := rfl

section Others

variable {k : Nat} (h : k ≤ Obj.AlLockState)
  (hk : k ∉ [Obj.SteeredSynthState, Obj.SteeredHeldWord, Obj.SynthEventCause, Obj.SteeredSynthLossCount])
include h hk

theorem rd_reportsSteeredLoss_other (st y : Int) : (d.reportsSteeredLoss st y).rd k = d.rd k := by
  simp only [List.mem_cons, List.not_mem_nil, or_false, not_or] at hk
  obtain ⟨hstate, hword, hcause, hcount⟩ := hk
  rw [Dev.reportsSteeredLoss, rd_raise_belowLines h, rd_perfFlags, Dev.inc, Dev.add32, rd_wr_other _ _ _ _ (Ne.symm hcount),
    rd_wr_other _ _ _ _ (Ne.symm hcause), rd_wr_other _ _ _ _ (Ne.symm hword), rd_wr_other _ _ _ _ (Ne.symm hstate)]

/-- A loss writes the four objects that report it, and of those below the lines no other. -/
theorem rd_steeredLost_other (st : Int) : (d.steeredLost st).rd k = d.rd k := by
  rw [steeredLost_eq, rd_refreshLines_belowLines h, rd_withTimeOut, rd_reportsSteeredLoss_other h hk]

end Others

theorem steeredLoss_idle (h1 : d.rd Obj.SteeredSynthState ≠ 1) : steeredLoss d = d := if_pos (by simp [h1])

/-- The fixed synth and the Plinth are as before the loss where it asks for them (R220). -/
theorem steeredLoss_locked (h1 : d.rd Obj.SteeredSynthState = 1) :
    steeredLoss d = (d.steeredLost 2).when (d.rd Obj.FixedSynthState != 1 && d.rdB Obj.PlinthPresent)
      fun e => deviceFault 3 false e.bothUnlocked.refreshLines := by
  have hfixed : (d.steeredLost 2).rd Obj.FixedSynthState = d.rd Obj.FixedSynthState := rd_steeredLost_other (by decide) (by decide) 2
  have hplinth : (d.steeredLost 2).rdB Obj.PlinthPresent = d.rdB Obj.PlinthPresent :=
    congrArg (· != 0) (rd_steeredLost_other (by decide) (by decide) 2)
  rw [← hfixed, ← hplinth]
  exact if_neg (by simp [h1])

theorem steeredLoss_served (h1 : d.rd Obj.SteeredSynthState = 1)
    (h : d.rd Obj.FixedSynthState = 1 ∨ d.rdB Obj.PlinthPresent = false) : steeredLoss d = d.steeredLost 2 := by
  rw [steeredLoss_locked h1]
  refine if_neg ?_
  rcases h with h | h
  all_goals simp [h]

theorem steeredLoss_faults (h1 : d.rd Obj.SteeredSynthState = 1) (hf : d.rd Obj.FixedSynthState ≠ 1)
    (hp : d.rdB Obj.PlinthPresent = true) : steeredLoss d = deviceFault 3 false (d.steeredLost 2).bothUnlocked.refreshLines := by
  rw [steeredLoss_locked h1]
  exact if_pos (by simp [hf, hp])

theorem turn_plinthRateEnds : d.plinthRateEnds.turn = d.turn := by
  unfold Dev.plinthRateEnds
  extract_lets fixed steered
  split <;> rfl

theorem rd_plinthRateEnds (k : Nat) : d.plinthRateEnds.rd k = d.rd k := by
  unfold Dev.plinthRateEnds
  extract_lets fixed steered
  split <;> rfl

theorem steeredLock_idle (h : d.rd Obj.SteeredSynthState = 1 ∨ d.rdB Obj.PlinthPresent = false) : steeredLock d = d := by
  refine if_pos ?_
  rcases h with h | h
  all_goals simp [h]

section Locks

variable (h1 : d.rd Obj.SteeredSynthState ≠ 1) (hp : d.rdB Obj.PlinthPresent = true)
include h1 hp

/-- Whether TCLK comes from the steered synth at once turns on the Turns and the faults before the lock (R217, R594). -/
theorem steeredLock_locks :
    let e := (d.wr Obj.SteeredSynthState 1).plinthRateEnds
    let f := if d.turn.last.isNone && !d.stopped then { e with time := { e.time with tclkSteered := true } } else e
    steeredLock d = ({ f with time := { f.time with counting := true } } : Dev).refreshLines := by
  intro e
  have hlast : e.turn.last = d.turn.last := congrArg TurnSt.last turn_plinthRateEnds
  have hstopped : e.stopped = d.stopped :=
    congrArg (· != 0) ((rd_plinthRateEnds _).trans (rd_wr_other d _ 1 Obj.DeviceFaultPhase (by decide)))
  rw [← hlast, ← hstopped]
  exact if_neg (by simp [h1, hp])

theorem steeredLock_waits (h : d.turn.last ≠ none ∨ d.stopped = true) :
    let e := (d.wr Obj.SteeredSynthState 1).plinthRateEnds
    steeredLock d = ({ e with time := { e.time with counting := true } } : Dev).refreshLines := by
  refine (steeredLock_locks h1 hp).trans ?_
  rw [if_neg]
  rcases h with h | h
  all_goals simp [h]

theorem steeredLock_first (hl : d.turn.last = none) (hs : d.stopped = false) :
    let e := (d.wr Obj.SteeredSynthState 1).plinthRateEnds
    steeredLock d = ({ e with time := { e.time with counting := true, tclkSteered := true } } : Dev).refreshLines := by
  refine (steeredLock_locks h1 hp).trans ?_
  rw [if_pos (by simp [hl, hs])]

end Locks

/-! ## The fixed synth (R218) -/

theorem fixedSynthLoss_idle (h : d.rd Obj.FixedSynthState ≠ 1) : fixedSynthLoss d = d := if_pos (by simp [h])

theorem fixedSynthLoss_alone (h : d.rd Obj.FixedSynthState = 1) (hs : d.rd Obj.SteeredSynthState = 1) :
    fixedSynthLoss d = deviceFault 1 false d.fixedLost.refreshLines :=
  (if_neg (by simp [h])).trans (if_pos (by simp [hs]))

theorem fixedSynthLoss_both (h : d.rd Obj.FixedSynthState = 1) (hs : d.rd Obj.SteeredSynthState ≠ 1) :
    fixedSynthLoss d = deviceFault 3 false d.fixedLost.bothUnlocked.refreshLines :=
  (if_neg (by simp [h])).trans (if_neg (by simp [hs]))

theorem fixedSynthLock_locks (h : d.rd Obj.FixedSynthState ≠ 1) (hr : d.boot.released = true)
    (hp : d.rdB Obj.PlinthPresent = true ∨ d.rd Obj.FixedSynthState = 0) :
    fixedSynthLock d = (((plinthReturn d).wr Obj.FixedSynthState 1).plinthRateEnds).refreshLines :=
  if_pos (by simp [h, hr, hp])

theorem fixedSynthLock_absent (hp : d.rdB Obj.PlinthPresent = false) (h0 : d.rd Obj.FixedSynthState ≠ 0) :
    fixedSynthLock d = d := if_neg (by simp [hp, h0])

theorem fixedSynthLock_idle (h : d.boot.released = false ∨ d.rd Obj.FixedSynthState = 1) : fixedSynthLock d = d := by
  refine if_neg ?_
  rcases h with h | h
  all_goals simp [h]

/-! ## The Plinth and both synths (R219, R220) -/

theorem plinthReturn_present (hp : d.rdB Obj.PlinthPresent = true) : plinthReturn d = d := if_pos hp

theorem plinthReturn_returns (hp : d.rdB Obj.PlinthPresent = false) :
    plinthReturn d = ({ d.wr Obj.PlinthPresent 1 with
      time := { d.time with perPlinth := d.time.counting, untilBoth := d.time.counting } } : Dev).planeStatus :=
  if_neg (by simp [hp])

theorem plinthLoss_absent (hp : d.rdB Obj.PlinthPresent = false) : plinthLoss d = d := if_pos (by simp [hp])

theorem plinthLoss_present (hp : d.rdB Obj.PlinthPresent = true) :
    plinthLoss d = deviceFault 2 false (d.plinthGone.when (d.rdB Obj.TimeValid) fun e => (((e.wr Obj.TimeValid 0).wr
      Obj.TimeSource 0).wr Obj.TimeSourceInstance 0xFF).refreshPhase.raiseSpindles 3).refreshLines :=
  if_neg (by simp [hp])

theorem bothSynthsUnlocked_absent (hp : d.rdB Obj.PlinthPresent = false) : bothSynthsUnlocked d = d := if_pos (by simp [hp])

theorem bothSynthsUnlocked_faults (hp : d.rdB Obj.PlinthPresent = true)
    (h : d.rd Obj.FixedSynthState = 1 ∨ d.rd Obj.SteeredSynthState = 1) :
    let e := if d.rd Obj.FixedSynthState = 1 then d.fixedLost else d
    let f := if d.rd Obj.SteeredSynthState = 1 then e.steeredLost 2 else e
    bothSynthsUnlocked d = deviceFault 3 false f.bothUnlocked.refreshLines := by
  refine (if_neg ?_).trans ?_
  · rcases h with h | h
    all_goals simp [hp, h]
  · simp only [Dev.when, beq_iff_eq]

end Synths

/-- Settles O35: of each loss and lock by the states of the synths and the presence of the Plinth. That the first lock of the fixed synth
finds the Plinth present, what counts per Plinth cycle and for how long, and the losses that coincide are choices of the model (log entry
19). -/
theorem synthsLoseAndRegainLock : Obligations.SynthsLoseAndRegainLock := by
  intro d q
  refine ⟨fun h1 => ?_, fun h1 => effect_next q (steeredLoss_idle h1), fun h1 hp => ⟨fun h => ?_, fun hl hs => ?_⟩,
    fun h => effect_next q (steeredLock_idle h), fun e => ⟨rfl, rfl⟩, fun h => ⟨fun hs => ?_, fun hs => ?_⟩,
    fun h => effect_next q (fixedSynthLoss_idle h), fun h hr => ⟨fun hp => ?_, fun _ h0 => ?_, fun hp h0 => ?_⟩,
    fun h => effect_next q (fixedSynthLock_idle h), fun hp => ⟨fun hv => ?_, fun hv => ?_⟩,
    fun hp => ⟨effect_next q (plinthLoss_absent hp), rfl, plinthReturn_returns hp, effect_next q (bothSynthsUnlocked_absent hp)⟩,
    fun hp => effect_next q (plinthReturn_present hp), fun hp h => effect_next q (bothSynthsUnlocked_faults hp h)⟩
  · intro y e f
    have hf : d.steeredLost 2 = f := by
      rw [steeredLost_eq, heldWord_locked h1]
      rfl
    rw [← hf]
    exact ⟨fun h => effect_next q (steeredLoss_served h1 h), fun hfix hp => effect_next q (steeredLoss_faults h1 hfix hp)⟩
  · exact effect_next q (steeredLock_waits h1 hp h)
  · exact effect_next q (steeredLock_first h1 hp hl hs)
  · exact effect_next q (fixedSynthLoss_alone h hs)
  · exact effect_next q (fixedSynthLoss_both h hs)
  · exact effect_next q ((fixedSynthLock_locks h hr (.inl hp)).trans (by rw [plinthReturn_present hp]))
  · exact effect_next q (fixedSynthLock_locks h hr (.inr h0))
  · exact effect_next q (fixedSynthLock_absent hp h0)
  · exact effect_next q ((plinthLoss_present hp).trans (by rw [hv]; rfl))
  · exact effect_next q ((plinthLoss_present hp).trans (by rw [hv]; rfl))

end Sys2Proof.Machine
end

section
/-! PROOFS. Edges at EVIN channels, the conversion of stamps to the MREF scale and the timeout of a measurement (R255 to R275). -/

namespace Sys2Proof.Machine

section Edges

variable {d : Dev} {n : Nat}

/-! ## One edge (R256, R262, R263, R266) -/

/-- Whether an edge that the comparator reports as `rising` rises at the channel (R256). -/
def Dev.edgeUp (d : Dev) (n : Nat) (rising : Bool) : Bool := rising != d.turnedOver n

/-- The instant at which an edge crossed its threshold (R262). -/
def Dev.edgeCrossed (d : Dev) (n : Nat) (up : Bool) (tc : Int) (tap : Nat) : Int :=
  tc - nearest (d.binCentre n up tap * 4096) 1000

/-- The stamp of an edge in thousandths of 2^-16 ns: less the centre of its bin, the input delay and the compensation (R262, R263). -/
def Dev.edgeStamp (d : Dev) (n : Nat) (up : Bool) (tc : Int) (tap : Nat) : Int :=
  tc * 1000 - d.binCentre n up tap * 4096 -
    (Config.inputDelay n up (d.thresholdSteps n) + d.rd (inst Obj.EvinDelayComp n)) * 1000

/-- The channel accepts an edge of this slope (R266). -/
def Dev.acceptsSlope (d : Dev) (n : Nat) (up : Bool) : Bool :=
  d.rd (inst Obj.EvinSlope n) == 3 || (d.rd (inst Obj.EvinSlope n) == 1) == up

theorem acceptsSlope_iff (up : Bool) : d.acceptsSlope n up = true ↔
    d.rd (inst Obj.EvinSlope n) = 3 ∨ (d.rd (inst Obj.EvinSlope n) = 1 ↔ up = true) := by
  simp only [Dev.acceptsSlope, Bool.or_eq_true, beq_iff_eq, Bool.eq_iff_iff (b := up)]

/-- An edge lies within the dead time of 3 ns after the one before (R266). -/
def Dev.withinDeadTime (d : Dev) (n : Nat) (crossed : Int) : Bool :=
  match (d.evin n).lastEdge with
  | some l => decide (crossed - l < 3 * nsT)
  | none => false

theorem withinDeadTime_first {crossed : Int} (h : (d.evin n).lastEdge = none) : d.withinDeadTime n crossed = false := by
  simp only [Dev.withinDeadTime, h]

theorem withinDeadTime_after {crossed l : Int} (h : (d.evin n).lastEdge = some l) :
    d.withinDeadTime n crossed = decide (crossed - l < 3 * nsT) := by
  simp only [Dev.withinDeadTime, h]

/-- The channel keeps the instant of its last edge. -/
def Dev.notesEdge (d : Dev) (n : Nat) (crossed : Int) : Dev := d.setEvin n fun x => { x with lastEdge := some crossed }

/-- An edge within the dead time is counted and lost: an open gate and, where it is accepted, an open measurement show it (R266). -/
def Dev.losesEdge (d : Dev) (n : Nat) (accepted : Bool) : Dev :=
  ((d.inc (inst Obj.EvinDeadTimeLossCount n)).counted 1 0x08 n 1).setEvin n fun x =>
    { x with
      lost := true
      gate := x.gate.map fun g => { g with dead := true }
      meas := if accepted then x.meas.map fun m => { m with flags := setBit m.flags 5 true } else x.meas }

/-- An accepted edge in start/multi-stop mode is counted and is a stop (R272). -/
def Dev.stampsStop (d : Dev) (n base : Nat) (t : Int) (flags : Nat) : Dev :=
  ((d.inc (inst Obj.EvinStampCount n)).counted 1 0x07 n 1).takeStamp n base t
    (setBit flags 7 (bit flags 5) - 32 * ofBool (bit flags 5)) .stop

/-- The edge number grows (R266). -/
def Dev.numbersEdge (d : Dev) (n : Nat) : Dev := d.setEvin n fun x => { x with edges := (d.evin n).edges + 1 }

/-- The divisor of EvinPrescale in force: at least 1 (R266). -/
def Dev.prescale (d : Dev) (n : Nat) : Nat := max (d.rdN (inst Obj.EvinPrescale n)) 1

/-- The edge whose number the prescaler lets through is stamped with the next sequence number (R266, R268). -/
def Dev.stampsEdge (d : Dev) (n base : Nat) (t : Int) (flags count : Nat) : Dev :=
  (((d.inc (inst Obj.EvinStampCount n)).counted 1 0x07 n 1).setEvin n
    fun x => { x with seq := ((d.evin n).seq + 1) % 65536 }).takeStamp n base t flags
      (.stamp (count / d.prescale n) (((d.evin n).seq + 1) % 65536))

/-- What an accepted edge does once it has started what waits for it: a stop, or an edge for the prescaler. -/
def Dev.servesEdge (d : Dev) (n base : Nat) (t : Int) (flags : Nat) : Dev :=
  if d.rd (inst Obj.EvinMode n) == 1 then d.stampsStop n base t flags
  else if ((d.evin n).edges + 1) % (d.numbersEdge n).prescale n != 0 then d.numbersEdge n
  else (d.numbersEdge n).stampsEdge n base t flags ((d.evin n).edges + 1)

/-- An edge outside the dead time starts what waits for its slope, and serves its channel where that accepts it (R266, R271). -/
def Dev.takesEdge (d : Dev) (n base : Nat) (up accepted : Bool) (t : Int) : Dev :=
  let h := d.startsFrom n (some up) t (d.factoryBins n up) false
  if !accepted then h else h.servesEdge n base t (d.stampFlags n up base)

/-- What becomes of an edge of an ENABLED channel when time has reached it: whether a base is present, then whether the dead time has
passed, decides. -/
def Dev.meetsEdge (d : Dev) (n : Nat) (up : Bool) (tc : Int) (tap : Nat) : Dev :=
  let g := d.notesEdge n (d.edgeCrossed n up tc tap)
  match g.baseNow n with
  | none => g.inc (inst Obj.EvinOverflowCount n)
  | some base =>
    if d.withinDeadTime n (d.edgeCrossed n up tc tap) then g.losesEdge n (d.acceptsSlope n up)
    else g.takesEdge n base up (d.acceptsSlope n up) (d.edgeStamp n up tc tap)

theorem evinEdge_off {rising : Bool} {tc : Int} {tap : Nat} (h : d.on .evin n = false) : evinEdge n rising tc tap d = d :=
  if_pos (by simp [h])

theorem evinEdge_on {rising : Bool} {tc : Int} {tap : Nat} (h : d.on .evin n = true) :
    evinEdge n rising tc tap d = (d.until tc).meetsEdge n ((d.until tc).edgeUp n rising) tc tap :=
  (if_neg (by simp [h])).trans rfl

section Outcomes

variable {up : Bool} {tc : Int} {tap : Nat} {g : Dev} (hg : d.notesEdge n (d.edgeCrossed n up tc tap) = g)
include hg

theorem meetsEdge_noBase (h : g.baseNow n = none) :
    d.meetsEdge n up tc tap = g.inc (inst Obj.EvinOverflowCount n) := by
  simp only [Dev.meetsEdge, hg, h]

theorem meetsEdge_dead (hb : g.baseNow n ≠ none) (h : d.withinDeadTime n (d.edgeCrossed n up tc tap) = true) :
    d.meetsEdge n up tc tap = g.losesEdge n (d.acceptsSlope n up) := by
  obtain ⟨base, hbase⟩ := Option.ne_none_iff_exists'.1 hb
  simp only [Dev.meetsEdge, hg, hbase, h, if_true]

theorem meetsEdge_taken {base : Nat} (hb : g.baseNow n = some base)
    (h : d.withinDeadTime n (d.edgeCrossed n up tc tap) = false) : d.meetsEdge n up tc tap =
      g.takesEdge n base up (d.acceptsSlope n up) (d.edgeStamp n up tc tap) := by
  simp [Dev.meetsEdge, hg, hb, h]

end Outcomes

theorem takesEdge_refused {base : Nat} {up : Bool} {t : Int} : d.takesEdge n base up false t =
    d.startsFrom n (some up) t (d.factoryBins n up) false := by simp [Dev.takesEdge]

theorem takesEdge_accepted {base : Nat} {up : Bool} {t : Int} : d.takesEdge n base up true t =
    (d.startsFrom n (some up) t (d.factoryBins n up) false).servesEdge n base t (d.stampFlags n up base) := by
  simp [Dev.takesEdge]

section Served

variable {base flags : Nat} {t : Int}

theorem servesEdge_stop (h : d.rd (inst Obj.EvinMode n) = 1) : d.servesEdge n base t flags = d.stampsStop n base t flags :=
  if_pos (beq_iff_eq.2 h)

theorem servesEdge_prescaled (hm : d.rd (inst Obj.EvinMode n) ≠ 1)
    (h : ((d.evin n).edges + 1) % (d.numbersEdge n).prescale n ≠ 0) : d.servesEdge n base t flags = d.numbersEdge n := by
  simp [Dev.servesEdge, hm, h]

theorem servesEdge_stamped (hm : d.rd (inst Obj.EvinMode n) ≠ 1)
    (h : ((d.evin n).edges + 1) % (d.numbersEdge n).prescale n = 0) : d.servesEdge n base t flags =
      (d.numbersEdge n).stampsEdge n base t flags ((d.evin n).edges + 1) := by
  simp [Dev.servesEdge, hm, h]

end Served

/-! ## The line through the edges of MREF_IN (R259, R260, R262) -/

/-- The sum of x over the points (0, y_0), (1, y_1), ... of a list. -/
def lineSx (ys : List Int) : Int := ((List.range ys.length).map Int.ofNat).sum

/-- The sum of x squared over the points of a list. -/
def lineSxx (ys : List Int) : Int := (((List.range ys.length).map Int.ofNat).map fun x => x * x).sum

/-- The sum of x times y over the points of a list. -/
def lineSxy (ys : List Int) : Int := ((((List.range ys.length).map Int.ofNat).zip ys).map fun p => p.1 * p.2).sum

/-- The determinant of the least-squares line through the points of a list. -/
def lineDet (ys : List Int) : Int := ys.length * lineSxx ys - lineSx ys * lineSx ys

/-- The rise of the least-squares line for one step of x, times its determinant. -/
def lineSlope (ys : List Int) : Int := ys.length * lineSxy ys - lineSx ys * ys.sum

/-- The least-squares line through the edges `before` and `after` a stamp at the last edge before it, times its determinant. -/
def lineEdge (before after : List Int) : Int :=
  ((before ++ after).sum * lineSxx (before ++ after) - lineSx (before ++ after) * lineSxy (before ++ after))
    + ((before.length : Int) - 1) * lineSlope (before ++ after)

/-- The nominal period of MREF_IN (R259, R260). -/
def Dev.mrefPeriod (d : Dev) : Int := if d.rd Obj.MrefFrequency = 0 then 100 * nsT else 10 * nsT

/-- The instant of a stamp on the MREF scale (R262). -/
def Dev.onMrefScale (d : Dev) (j : Nat) (before after : List Int) (t : Int) : Int :=
  d.rd Obj.MrefEpoch + j * d.mrefPeriod +
    nearest ((t * lineDet (before ++ after) - 1000 * lineEdge before after) * d.mrefPeriod)
      (1000 * (lineSlope (before ++ after)).toNat)

theorem lineDet_pair (x y : Int) : lineDet [x, y] = 1 := rfl

theorem lineSlope_pair (x y : Int) : lineSlope [x, y] = y - x := by
  simp [lineSlope, lineSxy, lineSx, List.range_succ]
  ring

theorem lineEdge_pair (x y : Int) : lineEdge [x] [y] = x := by
  simp [lineEdge, lineSxx, lineSxy, lineSx, List.range_succ]

/-- The line through two edges is the proportion of their instants. -/
theorem onMrefScale_pair (j : Nat) (x y t : Int) : d.onMrefScale j [x] [y] t = d.rd Obj.MrefEpoch + j * d.mrefPeriod +
    nearest ((t - 1000 * x) * d.mrefPeriod) (1000 * (y - x).toNat) := by
  simp only [Dev.onMrefScale, List.singleton_append, lineDet_pair, lineSlope_pair, lineEdge_pair, mul_one]

section Conversion

variable {j : Nat} {before after : List Int}

theorem mrefConvert_idle (h : (d.evin n).waits = []) : mrefConvert n j before after d = d := by
  simp only [mrefConvert, h]

variable {w : WaitSt} {rest : List WaitSt} (h : (d.evin n).waits = w :: rest)
include h

theorem mrefConvert_noLine (hs : lineSlope (before ++ after) ≤ 0) :
    mrefConvert n j before after d = d.setEvin n fun e => { e with waits := rest } := by
  simp only [mrefConvert, h]
  exact if_pos hs

theorem mrefConvert_line (hs : 0 < lineSlope (before ++ after)) : mrefConvert n j before after d =
    (d.setEvin n fun e => { e with waits := rest }).useStamp n (d.onMrefScale j before after w.t) w.flags w.use := by
  simp only [mrefConvert, h, beq_iff_eq, rd_setEvin]
  exact if_neg (not_le.2 hs)

end Conversion

/-! ## The timeout of a measurement (R272, R275) -/

theorem measTimeout_idle (h : (d.evin n).meas = none) : measTimeout n d = d := by simp only [measTimeout, h]

theorem measTimeout_open {m : MeasSt} (h : (d.evin n).meas = some m) : measTimeout n d =
    let ends := m.start + m.steps + d.rd (inst Obj.EvinTimeout n) * nsT
    ((((if bit m.flags 1 = true then d else d.until ends).closeMeas n { m with flags := setBit m.flags 0 true } ends).inc
      (inst Obj.EvinTimeoutCount n)).wr (inst Obj.EvinEventCause n) 1).raise 42 := by
  simp only [measTimeout, h]
  cases hb : bit m.flags 1 <;> rfl

end Edges

/-- Settles O37: of an edge by the blank, the base, the dead time, the slope, the mode and the prescaler; of a conversion by the slope of
the line; of a timeout by the open measurement. The dead time from the edge before, whatever became of that, the edge counter, and that
edges of MREF_IN which do not rise carry no line, are the model's choices (log entry 55). -/
theorem evinEdgesAreStamped : Obligations.EvinEdgesAreStamped := by
  intro d q n
  refine ⟨fun r tc tap b hoff => ?_, fun r tc tap hon => ?_, fun r tc tap hon => ?_, fun j bs as h => effect_next q (mrefConvert_idle h),
    fun w rest j bs as h => ⟨fun hs => effect_next q (mrefConvert_line h hs), fun hs => effect_next q (mrefConvert_noLine h hs)⟩,
    fun w rest j x y h hxy => ?_, fun m h => effect_next q (measTimeout_open h), fun h => effect_next q (measTimeout_idle h)⟩
  · exact effect_next q ((if_neg (by simp [hoff])).trans (evinEdge_off hoff))
  · exact effect_next q (if_pos (by simp [hon]))
  · intro e up f crossed t g accepted
    have hexec {x : Dev} (hx : e.meetsEdge n up tc tap = x) : exec (.evinEdge n r tc tap false) ⟨d, q⟩ = .next ⟨x, q⟩ :=
      effect_next q ((evinEdge_on hon).trans hx)
    have hacc : e.acceptsSlope n up = true ↔ accepted := acceptsSlope_iff up
    refine ⟨fun hb => hexec (meetsEdge_noBase rfl hb), fun l hl hlt hb => hexec ?_, fun base hl hb => ?_⟩
    · have hdead : e.withinDeadTime n crossed = true := (withinDeadTime_after hl).trans (decide_eq_true hlt)
      have hlost : e.meetsEdge n up tc tap = g.losesEdge n (e.acceptsSlope n up) := meetsEdge_dead rfl hb hdead
      rw [hlost, Dev.losesEdge]
      simp only [hacc]
    · intro h fl
      have hlive : e.withinDeadTime n crossed = false := by
        cases hlast : (e.evin n).lastEdge with
        | none => exact withinDeadTime_first hlast
        | some l => exact (withinDeadTime_after hlast).trans (decide_eq_false (not_lt.2 (hl l hlast)))
      have htaken : e.meetsEdge n up tc tap = g.takesEdge n base up (e.acceptsSlope n up) t := meetsEdge_taken rfl hb hlive
      have hserved (hyes : accepted) : e.meetsEdge n up tc tap = h.servesEdge n base t fl := by
        rw [htaken, hacc.2 hyes, takesEdge_accepted]
      refine ⟨fun hno => hexec ?_, fun hyes hm => hexec ((hserved hyes).trans (servesEdge_stop hm)),
        fun hyes hm => ⟨fun hp => hexec ((hserved hyes).trans (servesEdge_prescaled hm hp)),
          fun hp => hexec ((hserved hyes).trans (servesEdge_stamped hm hp))⟩⟩
      rw [htaken, eq_false_of_ne_true (mt hacc.1 hno), takesEdge_refused]
  · refine effect_next q ((mrefConvert_line h ?_).trans ?_)
    · exact (lineSlope_pair x y).symm ▸ sub_pos.2 hxy
    · rw [onMrefScale_pair]
      rfl

end Sys2Proof.Machine
end

section
/-! PROOFS. Frequency gates, the pins of a channel, the presence of MREF_IN and the reads of a channel (R255, R256, R259, R277 to R282). -/

namespace Sys2Proof.Machine

section Gates

variable {d : Dev} {n : Nat}

/-! ## Frequency gates (R277, R279) -/

theorem gateRequest_refused (k : Nat) (h : d.rd (inst Obj.EvinMode n) = 1) : gateRequest n k d = d.wr (inst Obj.EvinFreqCmd n) 0x80 :=
  if_pos (by simp [h])

theorem gateRequest_taken (k : Nat) (h : d.rd (inst Obj.EvinMode n) ≠ 1) :
    gateRequest n k d = (d.wr (inst Obj.EvinFreqCmd n) k).setEvin n fun e => { e with fit := k } := if_neg (by simp [h])

theorem gateStop_refused (h : d.rd (inst Obj.EvinMode n) = 1) : gateStop n d = d.wr (inst Obj.EvinFreqCmd n) 0x80 :=
  if_pos (by simp [h])

theorem gateStop_stops (h : d.rd (inst Obj.EvinMode n) ≠ 1) :
    gateStop n d = ((d.wr (inst Obj.EvinFreqCmd n) 0).abandonGate n).fitEnds n := if_neg (by simp [h])

theorem gateClose_idle (h : (d.evin n).gate = none) : gateClose n d = d := by simp only [gateClose, h]

/-- A gate that is full of stamps closes before it has its length (R277). -/
def GateSt.early (g : GateSt) : Bool := decide (2 ^ 24 ≤ g.count)

/-- The instant at which a gate closes: now where it is full, else when it has its length (R277). -/
def Dev.gateCloses (d : Dev) (n : Nat) (g : GateSt) : Int :=
  if g.early then d.now else g.opened + d.rd (inst Obj.EvinFreqGateLength n) * (1000000 * nsT)

/-- A gate that has closed is published from three stamps on, and counted with its flags (R278, R279). -/
def Dev.countsGate (d : Dev) (n : Nat) (g : GateSt) : Dev :=
  ((d.when (decide (3 ≤ g.count)) (·.publishGate n g)).inc (inst Obj.EvinFreqGateCount n)).wr (inst Obj.EvinFreqFlags n)
    (g.flagBits + 2 * ofBool g.early : Nat)

theorem countsGate_eq (g : GateSt) : d.countsGate n g =
    ((if 3 ≤ g.count then d.publishGate n g else d).inc (inst Obj.EvinFreqGateCount n)).wr (inst Obj.EvinFreqFlags n)
      (g.flagBits + 2 * ofBool g.early : Nat) := by
  simp only [Dev.countsGate, Dev.when, decide_eq_true_eq]

/-- A gate at its closing: it notes a steered synth that is not LOCKED (R279). -/
def GateSt.atClose (g : GateSt) (d : Dev) : GateSt := { g with holding := g.holding || d.rd Obj.SteeredSynthState != 1 }

section Closing

variable {g : GateSt} (h : (d.evin n).gate = some g) {next : Int} (hnext : d.gateCloses n g = next) {f : Dev}
  (hf : (d.until next).countsGate n (g.atClose (d.until next)) = f)
include h hnext hf

theorem gateClose_open : gateClose n d =
    let again := (f.evin n).fit == 2
    let e := f.setEvin n fun x => { x with gate := if again then some { opened := next } else none, fit := if again then 2 else 0 }
    (e.when (!again) fun e => e.wr (inst Obj.EvinFreqCmd n) 0).evinEvent n 43 (if g.early then 7 else 6) := by
  subst hnext hf
  simp only [gateClose, h]
  rfl

theorem gateClose_continuous (hfit : (f.evin n).fit = 2) : gateClose n d =
    ((f.setEvin n fun x => { x with gate := some { opened := next }, fit := 2 }).wr (inst Obj.EvinEventCause n)
      (if g.early then 7 else 6)).raise 43 := by
  rw [gateClose_open h hnext hf, hfit]
  rfl

theorem gateClose_last (hfit : (f.evin n).fit ≠ 2) : gateClose n d =
    (((f.setEvin n fun x => { x with gate := none, fit := 0 }).wr (inst Obj.EvinFreqCmd n) 0).wr (inst Obj.EvinEventCause n)
      (if g.early then 7 else 6)).raise 43 := by
  rw [gateClose_open h hnext hf, beq_false_of_ne hfit]
  rfl

end Closing

end Gates

section Pins

variable {d : Dev} {n : Nat}

/-! ## Pin faults (R255) -/

section Fault

variable {status : Nat}

theorem pinFault_idle (h : d.on .evin n = false ∨ d.rdN (inst Obj.EvinPinStatus n) = status ∨
    (status = 1 ∧ d.rd (inst Obj.EvinTermination n) = 1) ∨ (status = 0 ∧ 4 ≤ d.rdN (inst Obj.EvinPinStatus n))) :
    pinFault n status d = d := by
  refine if_pos ?_
  rcases h with h | h | ⟨h, h'⟩ | ⟨h, h'⟩
  all_goals simp [*]

variable (hon : d.on .evin n = true) (hne : d.rdN (inst Obj.EvinPinStatus n) ≠ status)
include hon hne

theorem pinFault_clears (h0 : status = 0) (h4 : d.rdN (inst Obj.EvinPinStatus n) < 4) :
    pinFault n status d = (d.wr (inst Obj.EvinPinStatus n) 0).raise 59 := by
  subst h0
  exact (if_neg (by simp [hon, hne, h4])).trans (if_pos rfl)

theorem pinFault_shows (h0 : status ≠ 0) (h1 : status = 1 → d.rd (inst Obj.EvinTermination n) ≠ 1) :
    pinFault n status d = ((d.wr (inst Obj.EvinPinStatus n) status).wr (inst Obj.EvinEventCause n) 4).raise 59 :=
  (if_neg (by simpa [hon, hne, h0] using h1)).trans (if_neg (by simp [h0]))

end Fault

/-! ## Swapped pairs (R256) -/

/-- The input was at the level opposite to its idle level for more than 90 % of a second, of which it was high for `high` ns. -/
def idlesWrong (idle high : Nat) : Bool := decide (900000000 < if idle == 0 then high else 1000000000 - high)

/-- The outcome of the test is kept where it changes the pin status: 4 corrected, 5 reported, 0 clear of those two. -/
def Dev.takesSwapTest (d : Dev) (n : Nat) (swapped : Bool) : Dev :=
  let corrects := d.rdB (inst Obj.EvinSwapCorrect n)
  let was := d.rdN (inst Obj.EvinPinStatus n)
  let now := if swapped then (if corrects then 4 else 5) else 0
  if (was == 4 || was == 5 || swapped) && was != now then
    let e := (d.wr (inst Obj.EvinPinStatus n) now).setEvin n fun e => { e with invertNext := swapped && corrects }
    if swapped then e.evinEvent n 59 4 else e.raise 59
  else d

theorem takesSwapTest_corrects (hc : d.rdB (inst Obj.EvinSwapCorrect n) = true) (hw : d.rdN (inst Obj.EvinPinStatus n) ≠ 4) :
    d.takesSwapTest n true = (((d.wr (inst Obj.EvinPinStatus n) 4).setEvin n fun e => { e with invertNext := true }).wr
      (inst Obj.EvinEventCause n) 4).raise 59 := by
  simp [Dev.takesSwapTest, Dev.evinEvent, hc, hw]

theorem takesSwapTest_reports (hc : d.rdB (inst Obj.EvinSwapCorrect n) = false) (hw : d.rdN (inst Obj.EvinPinStatus n) ≠ 5) :
    d.takesSwapTest n true = (((d.wr (inst Obj.EvinPinStatus n) 5).setEvin n fun e => { e with invertNext := false }).wr
      (inst Obj.EvinEventCause n) 4).raise 59 := by
  simp [Dev.takesSwapTest, Dev.evinEvent, hc, hw]

theorem takesSwapTest_clears (hw : d.rdN (inst Obj.EvinPinStatus n) = 4 ∨ d.rdN (inst Obj.EvinPinStatus n) = 5) :
    d.takesSwapTest n false =
      ((d.wr (inst Obj.EvinPinStatus n) 0).setEvin n fun e => { e with invertNext := false }).raise 59 := by
  rcases hw with hw | hw
  all_goals simp [Dev.takesSwapTest, hw]

theorem takesSwapTest_idle (h4 : d.rdN (inst Obj.EvinPinStatus n) ≠ 4) (h5 : d.rdN (inst Obj.EvinPinStatus n) ≠ 5) :
    d.takesSwapTest n false = d := by
  simp [Dev.takesSwapTest, h4, h5]

theorem swapCheck_fewEdges {edges : Nat} (high : Nat) (h : edges < 2) : swapCheck n edges high d = d := if_pos (by simp [h])

section Swap

variable {edges high : Nat} (hon : d.on .evin n = true) (ht : d.rd (inst Obj.EvinInputType n) = 1)
  (hi : d.rdN (inst Obj.EvinIdleLevel n) < 2) (he : 2 ≤ edges)
include hon ht hi he

theorem swapCheck_runs : swapCheck n edges high d = d.takesSwapTest n (idlesWrong (d.rdN (inst Obj.EvinIdleLevel n)) high) := by
  refine (if_neg ?_).trans rfl
  simp [hon, ht, hi, not_lt.2 he]

theorem swapCheck_found {wrong : Nat} (hw : (if d.rdN (inst Obj.EvinIdleLevel n) = 0 then high else 1000000000 - high) = wrong)
    (h : 900000000 < wrong) : swapCheck n edges high d = d.takesSwapTest n true := by
  rw [swapCheck_runs hon ht hi he, idlesWrong]
  simp only [beq_iff_eq, hw, h, decide_true]

theorem swapCheck_none {wrong : Nat} (hw : (if d.rdN (inst Obj.EvinIdleLevel n) = 0 then high else 1000000000 - high) = wrong)
    (h : wrong ≤ 900000000) : swapCheck n edges high d = d.takesSwapTest n false := by
  rw [swapCheck_runs hon ht hi he, idlesWrong]
  simp only [beq_iff_eq, hw, not_lt.2 h, decide_false]

end Swap

end Pins

section Mref

variable {d : Dev}

/-! ## The presence of MREF_IN (R259 to R261, R276, R279) -/

theorem mrefPresent_idle {epoch : Int} (h : d.on .mref 0 = false ∨ d.rdB Obj.MrefPresent = true) : mrefPresent epoch d = d := by
  refine if_pos ?_
  rcases h with h | h
  all_goals simp [h]

theorem mrefPresent_returns {epoch : Int} (hon : d.on .mref 0 = true) (hp : d.rdB Obj.MrefPresent = false) : mrefPresent epoch d =
    (((((d.wr Obj.MrefPresent 1).wr Obj.MrefEpoch epoch).wr Obj.MrefTraced (ofBool d.tracedNow)).inc
      Obj.MrefPresenceChangeCount).raise 44).forEach (fun m e => e.when (e.rd (inst Obj.EvinBase m) == 1)
        fun e => e.setEvin m fun x => { x with discont := true }) (List.range 16) :=
  if_neg (by simp [hon, hp])

theorem mrefAbsent_idle (h : d.rdB Obj.MrefPresent = false) : mrefAbsent d = d := if_pos (by simp [h])

/-- A channel of the MREF base loses what waits for a conversion, counted as overflow, and abandons its measurement and its gate. -/
def Dev.losesMref (m : Nat) (d : Dev) : Dev :=
  (((d.add32 (inst Obj.EvinOverflowCount m) (d.evin m).waits.length).setEvin m fun x =>
    { x with waits := [], lost := x.lost || decide (0 < (d.evin m).waits.length) }).abandonMeas m 3).abandonGate m

theorem mrefAbsent_present (h : d.rdB Obj.MrefPresent = true) : mrefAbsent d =
    ((((d.wr Obj.MrefPresent 0).wr Obj.MrefTraced 0).inc Obj.MrefPresenceChangeCount).raise 44).forEach
      (fun m e => e.when (e.rd (inst Obj.EvinBase m) == 1) (Dev.losesMref m)) (List.range 16) :=
  if_neg (by simp [h])

end Mref

section Reads

variable {d : Dev} {n : Nat}

/-! ## Reads of a result header (R282) -/

theorem resultRead_empty (h : (d.evin n).results = []) : resultRead n d = d.window_ n (List.replicate 16 0) [] := by
  simp only [resultRead, h]

theorem resultRead_oldest {r : ResultRec} {rest : List ResultRec} (h : (d.evin n).results = r :: rest) :
    resultRead n d = refreshFifo n ((d.window_ n r.header r.stops).setEvin n fun e => { e with results := rest }) := by
  simp only [resultRead, h]

end Reads

/-- Settles O38: a gate command by the mode; a closing gate by its stamps and by the fit; a pin fault and the idle level test by the pin
status in force; MREF_IN by whether it is present. That MREF_ABSENT counts the stamps that wait as overflow and marks them lost, and that
a fit of continuous gates outlives an abandoned gate, are the model's choices (log entry 55). -/
theorem evinGatesPinsTheMrefAndReads : Obligations.EvinGatesPinsTheMrefAndReads := by
  intro d q n
  refine ⟨fun h => ⟨effect_next q (gateRequest_taken 1 h), effect_next q (gateRequest_taken 2 h), effect_next q (gateStop_stops h)⟩,
    fun h c hc => ?_, fun h => effect_next q (gateClose_idle h), fun g hg => ?_,
    fun st hon hne h1 h4 => ⟨fun h0 => ?_, fun h0 => ?_⟩, fun st h => effect_next q (pinFault_idle ?_),
    fun edges high hon ht hi he => ?_, fun edges high h => effect_next q (swapCheck_fewEdges high h),
    fun ep hon hp => effect_next q (mrefPresent_returns hon hp), fun ep h => effect_next q (mrefPresent_idle h),
    fun h => effect_next q (mrefAbsent_idle h), fun h => effect_next q (mrefAbsent_present h), rfl,
    fun r rest h => effect_next q (resultRead_oldest h), fun h => effect_next q (resultRead_empty h)⟩
  · simp only [List.mem_cons, List.not_mem_nil, or_false] at hc
    obtain rfl | rfl | rfl := hc
    · exact effect_next q (gateRequest_refused 1 h)
    · exact effect_next q (gateRequest_refused 2 h)
    · exact effect_next q (gateStop_refused h)
  · intro early next e k f
    have hf : e.countsGate n (g.atClose e) = f := countsGate_eq _
    exact ⟨fun hfit => effect_next q (gateClose_continuous hg rfl hf hfit),
      fun hfit => effect_next q (gateClose_last hg rfl hf hfit)⟩
  · exact effect_next q (pinFault_shows hon hne (mt (fun h => Fin.ext h) h0) fun h => h1 (Fin.ext h))
  · exact effect_next q (pinFault_clears hon hne (congrArg Fin.val h0) (h4 h0))
  · exact h.imp_right (.imp_right (.imp (.imp_left (congrArg Fin.val)) (.imp_left (congrArg Fin.val))))
  · intro wrong
    exact ⟨fun h hc hw => effect_next q ((swapCheck_found hon ht hi he rfl h).trans (takesSwapTest_corrects hc hw)),
      fun h hc hw => effect_next q ((swapCheck_found hon ht hi he rfl h).trans (takesSwapTest_reports hc hw)),
      fun h hw => effect_next q ((swapCheck_none hon ht hi he rfl h).trans (takesSwapTest_clears hw)),
      fun h h4 h5 => effect_next q ((swapCheck_none hon ht hi he rfl h).trans (takesSwapTest_idle h4 h5))⟩

end Sys2Proof.Machine
end

section
/-! PROOFS. Runs of the calibration sequencer: bin runs, port runs, their abort, the step of work item 7 and the temperature trigger
(R293, R297, R300, R301, R305 to R308, R310). -/

namespace Sys2Proof.Machine

section Runs

variable {d : Dev}

/-! ## The state of the sequencer (R293, R307) -/

theorem calActive_iff : d.calActive = true ↔ d.cal.armed = true ∨ d.cal.targets ≠ none ∨ d.cal.port ≠ none := by
  simp [Dev.calActive, Option.isSome_iff_ne_none, or_assoc]

theorem calActive_idle (ha : d.cal.armed = false) (ht : d.cal.targets = none) (hp : d.cal.port = none) : d.calActive = false := by
  simp [Dev.calActive, ha, ht, hp]

theorem calHere_hardware (hon : d.on .calSequencer 0 = true) (hm : d.rdB Obj.ModeF4Calibration = false) : d.calHere = true := by
  simp [Dev.calHere, hon, hm]

/-! ## Runs armed, begun and aborted (R300, R305, R307, R310) -/

theorem armed_armBinRun : d.armBinRun.cal.armed = true := rfl

theorem targets_armBinRun : d.armBinRun.cal.targets = d.cal.targets := rfl

theorem binRunCmd_arms (ha : d.calActive = false) (hh : d.calHere = true) : binRunCmd d = d.armBinRun := if_neg (by simp [ha, hh])

theorem binRunCmd_refused (ha : d.calActive = true) : binRunCmd d = d.wr Obj.CalRunCmd 0x80 := if_pos (by simp [ha])

theorem portRunCmd_begins (ha : d.calActive = false) (hh : d.calHere = true)
    (hp : d.portRunAllowed (d.rdN Obj.CalPortSelect) (d.rdN Obj.CalPortMethod) = true) :
    portRunCmd d = (d.wr Obj.CalRunCmd 2).portRunBegins (d.rdN Obj.CalPortSelect) (d.rdN Obj.CalPortMethod) :=
  if_neg (by simp [ha, hh, hp])

theorem portRunCmd_refused
    (h : d.calActive = true ∨ d.portRunAllowed (d.rdN Obj.CalPortSelect) (d.rdN Obj.CalPortMethod) = false) :
    portRunCmd d = d.wr Obj.CalRunCmd 0x80 := if_pos (by obtain h | h := h <;> simp [h])

/-- No run is armed, collects or measures. -/
def CalSt.runDropped (c : CalSt) : CalSt :=
  { c with armed := false, targets := none, port := none, portCommit := false, repeated := false }

theorem runAbort_noPort (h : d.cal.port = none) :
    runAbort d = { d.wr Obj.CalRunCmd 0 with cal := d.cal.runDropped } := by
  simp only [runAbort, Dev.dropRun, h, CalSt.runDropped]

theorem runAbort_port {r : PortRun} (h : d.cal.port = some r) :
    runAbort d = { ((d.unwatch r).wr Obj.CalPortPhase 0).wr Obj.CalRunCmd 0 with cal := d.cal.runDropped } := by
  simp only [runAbort, Dev.dropRun, h]
  rfl

/-! ## The step of work item 7 (R297, R306 to R308, R310) -/

/-- A bin run whose targets are done ends with the trim step (R306, R308). -/
def Dev.endsBinRun (d : Dev) : Dev :=
  ({ d.trim.wr Obj.CalRunCmd 0 with cal := { d.trim.cal with targets := none } } : Dev).runEnds

/-- One of the targets of a bin run is evaluated and leaves them; its table waits for the boundary if it passes (R297, R299). -/
def Dev.evaluatesOf (d : Dev) (ts : List CalTarget) (t : CalTarget) : Dev :=
  let e := (d.evaluate t).1
  { e with cal := { e.cal with targets := some (ts.filter (·.id != t.id)), commits := e.cal.commits ++ (d.evaluate t).2.toList } }

/-- What the step does for the run in progress. -/
def Dev.takesRunStep (d : Dev) : Dev :=
  if !d.on .calSequencer 0 then d
  else if d.cal.armed then { d with cal := { d.cal with armed := false, targets := some d.startCollect } }
  else match d.cal.targets, d.cal.port with
    | some ts, _ =>
      if ts.isEmpty then d.endsBinRun
      else match ts.find? (fun t => t.hist.isSome || t.failed) with
        | some t => d.evaluatesOf ts t
        | none => d
    | none, some r => d.when (d.portBroken r && !d.cal.portCommit) (·.portReject r 5)
    | none, none => d

/-- The step that follows an overrun is not the repeated one (R48). -/
def Dev.notRepeated (d : Dev) : Dev := { d with cal := { d.cal with repeated := false } }

/-- What the step does: a host step that waits for it comes before the run in progress (R309). -/
def Dev.takesCalStep (d : Dev) : Dev :=
  match d.cal.hostStep, d.cal.host with
  | 3, some t =>
    let e := (d.evaluate t).1
    let r := (d.evaluate t).2
    { e.wr Obj.CalStepStatus (if r.isSome then 2 else 3) with
      cal := { e.cal with hostStep := 0, host := none, hostTable := r, hostDone := some e.turn.started } }
  | 6, _ => { d.trim.wr Obj.CalStepStatus 2 with cal := { d.trim.cal with hostStep := 0, hostDone := some d.trim.turn.started } }
  | _, _ => d.takesRunStep

theorem calibrationStep_eq : calibrationStep d = d.workItem 7 fun d => d.notRepeated.takesCalStep := rfl

theorem calibrationStep_idle (h : d.itemStarts 7 = false) : calibrationStep d = d := workItem_idle _ h

theorem takesCalStep_run (h0 : d.cal.hostStep = 0) : d.takesCalStep = d.takesRunStep := by simp only [Dev.takesCalStep, h0]

theorem calibrationStep_runs (h : d.itemStarts 7 = true) (h0 : d.cal.hostStep = 0) :
    calibrationStep d = d.notRepeated.takesRunStep.closeItem 7 := by
  rw [calibrationStep_eq, workItem_starts _ h, takesCalStep_run (d := d.notRepeated) h0]

section Enabled

variable (hon : d.on .calSequencer 0 = true)
include hon

theorem takesRunStep_armed (ha : d.cal.armed = true) :
    d.takesRunStep = { d with cal := { d.cal with armed := false, targets := some d.startCollect } } := by
  simp [Dev.takesRunStep, hon, ha]

variable (ha : d.cal.armed = false)
include ha

theorem takesRunStep_rests (ht : d.cal.targets = none) (hp : d.cal.port = none) : d.takesRunStep = d := by
  simp [Dev.takesRunStep, hon, ha, ht, hp]

theorem takesRunStep_evaluates {ts : List CalTarget} {t : CalTarget} (ht : d.cal.targets = some ts)
    (hf : ts.find? (fun t => t.hist.isSome || t.failed) = some t) : d.takesRunStep = d.evaluatesOf ts t := by
  have hne : ts ≠ [] := List.ne_nil_of_mem (List.mem_of_find?_eq_some hf)
  simp [Dev.takesRunStep, hon, ha, ht, hne, hf]

theorem takesRunStep_ends (ht : d.cal.targets = some []) : d.takesRunStep = d.endsBinRun := by
  simp [Dev.takesRunStep, hon, ha, ht]

theorem takesRunStep_rejects {r : PortRun} (ht : d.cal.targets = none) (hp : d.cal.port = some r) (hc : d.cal.portCommit = false)
    (hb : d.portBroken r = true) : d.takesRunStep = d.portReject r 5 := by
  simp [Dev.takesRunStep, hon, ha, ht, hp, hc, hb, Dev.when]

end Enabled

/-! ## The measuring phase asked for (R301) -/

theorem portNext_measures {r : PortRun} (hr : d.cal.port = some r) (h2 : d.rd Obj.CalPortPhase = 2) :
    portNext d = (d.wr Obj.CalPortNextCmd 0).measuringBegins r := by
  simp [portNext, hr, h2]

theorem portNext_refused (h : d.cal.port = none ∨ d.rd Obj.CalPortPhase ≠ 2) : portNext d = d.wr Obj.CalPortNextCmd 0x80 := by
  cases hr : d.cal.port with
  | none => simp only [portNext, hr]
  | some r =>
    have h2 : d.rd Obj.CalPortPhase ≠ 2 := h.resolve_left (by simp [hr])
    simp [portNext, hr, h2]

/-! ## The temperature trigger (R305) -/

/-- A die sensor has moved by more than CalTempStep since the last run started. -/
def Dev.sensorMoved (d : Dev) (i : Nat) : Prop :=
  d.rd Obj.CalTempStep < |d.rd (inst Obj.DieTemperature i) - d.rd (inst Obj.CalTempAtLastRun i)|

theorem temperatureTrigger_triggers (i : Fin 4) (hi : d.sensorMoved i) (hp : d.rdB Obj.CalTriggerPending = false) :
    temperatureTrigger d = (d.wr Obj.CalTriggerPending 1).raise 47 := by
  refine if_pos ?_
  rw [hp, Bool.not_false, Bool.and_true, List.any_eq_true]
  exact ⟨i, List.mem_range.2 i.isLt, decide_eq_true (by rwa [Dev.sensorMoved, Int.abs_eq_natAbs] at hi)⟩

theorem temperatureTrigger_idle (h : d.rdB Obj.CalTriggerPending = true ∨ ∀ i : Fin 4, ¬d.sensorMoved i) :
    temperatureTrigger d = d := by
  refine if_neg ?_
  rw [Bool.and_eq_true, List.any_eq_true, Bool.not_eq_true']
  rintro ⟨⟨i, hi, hm⟩, hp⟩
  obtain h | h := h
  · simp [h] at hp
  · refine h ⟨i, List.mem_range.1 hi⟩ ?_
    rw [Dev.sensorMoved, Int.abs_eq_natAbs]
    exact of_decide_eq_true hm

end Runs

/-- Settles O39: a run command by whether a run is active; the step of work item 7 by what the run waits for; the trigger by whether a
sensor has moved. That the run commands ask for hardware mode is the model's choice (log entry 23). -/
theorem calibrationRunsBeginAndEnd : Obligations.CalibrationRunsBeginAndEnd := by
  intro d q
  refine ⟨fun ha ht hp hon hm => ?_, fun h => ?_, fun h => effect_next q (runAbort_noPort h), fun r h => effect_next q (runAbort_port h),
    fun h => effect_next q (calibrationStep_idle h), fun h h0 hon => ?_, fun r hr h2 => effect_next q (portNext_measures hr h2),
    fun h => effect_next q (portNext_refused h), fun i hi hp => effect_next q (temperatureTrigger_triggers i hi hp),
    fun h => effect_next q (temperatureTrigger_idle (h.imp_right fun hs i => not_lt.2 (hs i)))⟩
  · have hidle : d.calActive = false := calActive_idle ha ht hp
    have hhere : d.calHere = true := calHere_hardware hon hm
    exact ⟨effect_next q (binRunCmd_arms hidle hhere), armed_armBinRun, targets_armBinRun.trans ht,
      fun hr => effect_next q (portRunCmd_begins hidle hhere hr), fun hr => effect_next q (portRunCmd_refused (.inr hr))⟩
  · have hactive : d.calActive = true := calActive_iff.2 h
    exact ⟨effect_next q (binRunCmd_refused hactive), effect_next q (portRunCmd_refused (.inl hactive))⟩
  · intro c
    have hstep {e : Dev} (he : c.takesRunStep = e) : exec .calibrationStep ⟨d, q⟩ = .next ⟨e.closeItem 7, q⟩ :=
      effect_next q ((calibrationStep_runs h h0).trans (congrArg (Dev.closeItem · 7) he))
    exact ⟨fun ha => hstep (takesRunStep_armed (d := c) hon ha), fun ha ht hp => hstep (takesRunStep_rests (d := c) hon ha ht hp),
      fun ts t ha ht hf => hstep (takesRunStep_evaluates (d := c) hon ha ht hf),
      fun ha ht => hstep (takesRunStep_ends (d := c) hon ha ht),
      fun r ha ht hp hc hb => hstep (takesRunStep_rejects (d := c) hon ha ht hp hc hb)⟩

end Sys2Proof.Machine
end

section
/-! PROOFS. The steps of a host-assisted calibration (R295, R299, R309, R310). -/

namespace Sys2Proof.Machine

section HostSteps

variable {d : Dev}

/-! ## A step taken up or refused (R309) -/

/-- A host step is taken up: its number is read back, and it is busy. -/
def Dev.takesHostStep (d : Dev) (v : Int) : Dev := (d.wr Obj.CalStepCmd v).wr Obj.CalStepStatus 1

theorem cal_takesHostStep (v : Int) : (d.takesHostStep v).cal = d.cal := rfl

theorem hostStepCmd_refused {v : Nat} {ok : Bool} {f : Dev → Dev} (h : d.calHost = false ∨ ok = false) :
    d.hostStepCmd v ok f = d.wr Obj.CalStepCmd 0x80 :=
  if_neg (by obtain h | h := h <;> simp [h])

section Taken

variable (hh : d.calHost = true)
include hh

theorem hostStepCmd_taken {v : Nat} {ok : Bool} {f : Dev → Dev} (hok : ok = true) : d.hostStepCmd v ok f = f (d.takesHostStep v) :=
  if_pos (by simp [hh, hok])

/-! ## Bin tables: steps 1 to 6 (R295, R299) -/

theorem hostCollect_collects (dither : Bool) {id : Nat} (hid : calOf (d.rdN Obj.CalStepTarget) = some id) :
    hostCollect dither d = { d.takesHostStep (if dither then 2 else 1) with
      cal := { d.cal with host := some (d.collects id dither), hostTable := none, hostDone := none } } := by
  rw [hostCollect, hid]
  exact (hostStepCmd_taken hh rfl).trans (by cases dither <;> rfl)

theorem hostEvaluate_waits {t : CalTarget} (ht : d.cal.host = some t) (hist : t.hist ≠ none) :
    hostEvaluate d = { d.takesHostStep 3 with cal := { d.cal with hostStep := 3, hostDone := none } } := by
  rw [hostEvaluate, ht]
  exact hostStepCmd_taken hh (Option.isSome_iff_ne_none.2 hist)

theorem hostCommit_queues {t : TableDue} (ht : d.cal.hostTable = some t) :
    hostCommit d = { d.takesHostStep 4 with
      cal := { d.cal with commits := d.cal.commits ++ [t], hostTable := none, hostStep := 4, hostDone := none } } := by
  rw [hostCommit, hostStepCmd_taken hh (by simp [ht]), cal_takesHostStep, ht]
  rfl

/-! ## Port delays: steps 7 to 9 (R300, R301, R304) -/

/-- The target names a port, no run is active and a port run is allowed there (R300, R309). -/
def Dev.portLoopOk (d : Dev) : Prop :=
  d.rdN Obj.CalStepTarget / 256 = 4 ∧ d.rdN Obj.CalStepTarget % 256 < 48 ∧ d.calActive = false ∧
    d.portRunAllowed (d.rdN Obj.CalStepTarget % 256) (d.rdN Obj.CalPortMethod) = true

theorem hostPortLoop_begins (h : d.portLoopOk) :
    hostPortLoop d = (d.takesHostStep 7).portRunBegins (d.rdN Obj.CalStepTarget % 256) ((d.takesHostStep 7).rdN Obj.CalPortMethod) := by
  obtain ⟨hcode, hport, hidle, hallowed⟩ := h
  rw [hostPortLoop]
  exact hostStepCmd_taken hh (by simp [hcode, hport, hidle, hallowed])

theorem hostPortMeasure_measures {r : PortRun} (hr : d.cal.port = some r) (h2 : d.rd Obj.CalPortPhase = 2) :
    hostPortMeasure d = (d.takesHostStep 8).measuringBegins r := by
  rw [hostPortMeasure, hostStepCmd_taken hh (by simp [hr, h2])]
  simp only [cal_takesHostStep, hr]
  rfl

theorem hostCommitPort_commits {r : PortRun} (hr : d.cal.port = some r) (hres : r.result ≠ none) :
    hostCommitPort d = { d.takesHostStep 9 with cal := { d.cal with portCommit := true, hostDone := none } } := by
  rw [hostCommitPort, hr]
  exact hostStepCmd_taken hh (Option.isSome_iff_ne_none.2 hres)

end Taken

/-! ## Steps whose own condition fails -/

theorem hostCollect_refused (dither : Bool) (h : d.calHost = false ∨ calOf (d.rdN Obj.CalStepTarget) = none) :
    hostCollect dither d = d.wr Obj.CalStepCmd 0x80 := by
  rw [hostCollect]
  exact hostStepCmd_refused (h.imp_right fun hn => by rw [hn]; rfl)

theorem hostEvaluate_refused (h : ∀ t, d.cal.host = some t → t.hist = none) : hostEvaluate d = d.wr Obj.CalStepCmd 0x80 := by
  refine hostStepCmd_refused (.inr ?_)
  cases ht : d.cal.host with
  | none => rfl
  | some t => simp [h t ht]

theorem hostPortLoop_refused (h : d.calHost = false ∨ ¬d.portLoopOk) : hostPortLoop d = d.wr Obj.CalStepCmd 0x80 := by
  rw [hostPortLoop]
  refine hostStepCmd_refused (h.imp_right fun hn => Bool.eq_false_iff.2 (mt (fun hok => ?_) hn))
  simpa [Dev.portLoopOk, and_assoc] using hok

theorem hostPortMeasure_refused (h : d.cal.port = none ∨ d.rd Obj.CalPortPhase ≠ 2) :
    hostPortMeasure d = d.wr Obj.CalStepCmd 0x80 :=
  hostStepCmd_refused (.inr (by obtain h | h := h <;> simp [h]))

theorem hostCommitPort_refused (h : ∀ r, d.cal.port = some r → r.result = none) : hostCommitPort d = d.wr Obj.CalStepCmd 0x80 := by
  refine hostStepCmd_refused (.inr ?_)
  cases hr : d.cal.port with
  | none => rfl
  | some r => simp [h r hr]

end HostSteps

/-- Settles O41: each step by whether the sequencer is host-assisted, and then by its own condition. -/
theorem hostCalibrationStepsAreTakenUp : Obligations.HostCalibrationStepsAreTakenUp := by
  intro d q
  refine ⟨fun h c hc => ?_, fun hh => ⟨fun id hid => ?_,
    fun h => ⟨effect_next q (hostCollect_refused false (.inr h)), effect_next q (hostCollect_refused true (.inr h))⟩,
    fun t ht hist => effect_next q (hostEvaluate_waits hh ht hist), fun h => effect_next q (hostEvaluate_refused h),
    fun t ht => effect_next q (hostCommit_queues hh ht), fun h => effect_next q (hostStepCmd_refused (.inr (by simp [h]))),
    effect_next q (hostStepCmd_taken hh rfl), effect_next q (hostStepCmd_taken hh rfl),
    ⟨fun hok => effect_next q (hostPortLoop_begins hh hok), fun hok => effect_next q (hostPortLoop_refused (.inr hok))⟩,
    fun r hr h2 => effect_next q (hostPortMeasure_measures hh hr h2), fun h => effect_next q (hostPortMeasure_refused h),
    fun h => effect_next q (hostCommitPort_refused h), fun r hr hres => effect_next q (hostCommitPort_commits hh hr hres)⟩⟩
  · have hrefused {v : Nat} {ok : Bool} {f : Dev → Dev} := hostStepCmd_refused (v := v) (ok := ok) (f := f) (.inl h)
    simp only [List.mem_cons, List.not_mem_nil, or_false] at hc
    obtain rfl | rfl | rfl | rfl | rfl | rfl | rfl | rfl | rfl := hc
    exacts [effect_next q (hostCollect_refused false (.inl h)), effect_next q (hostCollect_refused true (.inl h)), effect_next q hrefused,
      effect_next q hrefused, effect_next q hrefused, effect_next q hrefused, effect_next q (hostPortLoop_refused (.inl h)),
      effect_next q hrefused, effect_next q hrefused]
  · have hsignal : d.collects id false = { id := id, dither := false, lineB := d.servesB id } := by
      rw [Dev.collects, Bool.bne_false]
    have hdither : d.collects id true = { id := id, dither := true, lineB := !d.servesB id } := by
      rw [Dev.collects, Bool.bne_true]
    exact ⟨hsignal ▸ effect_next q (hostCollect_collects hh false hid), hdither ▸ effect_next q (hostCollect_collects hh true hid)⟩

end Sys2Proof.Machine
end

section
/-! PROOFS. The MAC table as its search sees it (R328, R348): the locations searched for a key, before and after a write. -/

namespace Sys2Proof.Machine

/-! ## Entries of a sparse store after a write -/

section Sparse

variable {β : Type}

theorem sparse_mem_put_self (l : List (Nat × β)) (k : Nat) (v : β) : (k, v) ∈ Sparse.put l k v := by
  induction l with
  | nil => simp [Sparse.put]
  | cons x l ih =>
    simp only [Sparse.put]
    split
    · exact List.mem_cons_self
    · split
      · exact List.mem_cons_self
      · exact List.mem_cons_of_mem _ ih

variable [DecidableEq β] {unlisted : Nat → β}

theorem sparse_mem_set {l : List (Nat × β)} {k : Nat} {v : β} {x : Nat × β} (h : x ∈ Sparse.set unlisted l k v) :
    x = (k, v) ∨ x ∈ l := by
  unfold Sparse.set at h
  split at h
  · exact .inr (sparse_mem_drop _ _ _ h)
  · exact sparse_mem_put _ _ _ _ h

theorem sparse_mem_set_self (l : List (Nat × β)) {k : Nat} {v : β} (h : v ≠ unlisted k) : (k, v) ∈ Sparse.set unlisted l k v := by
  rw [Sparse.set, if_neg h]
  exact sparse_mem_put_self l k v

end Sparse

section Search

variable {d : Dev} {mac fid loc e k : Nat}

/-! ## A location after a write (R357) -/

theorem mac_setMac (d : Dev) (loc e : Nat) : (d.setMac loc e).fwd.mac = Sparse.set (fun _ => 0) d.fwd.mac loc e := by
  simp only [Dev.setMac, Dev.when]
  split <;> rfl

@[simp] theorem macAt_setMac_same (d : Dev) (loc e : Nat) : (d.setMac loc e).macAt loc = e := by
  rw [Dev.macAt, mac_setMac, sparse_get_set_same]

theorem macAt_setMac_other (d : Dev) (e : Nat) (h : k ≠ loc) : (d.setMac loc e).macAt k = d.macAt k := by
  rw [Dev.macAt, mac_setMac, sparse_get_set_other _ _ _ _ _ h.symm, Dev.macAt]

/-! ## The locations searched, and the one found (R328) -/

/-- A location holds a VALID entry of a key. -/
def Dev.holdsKey (d : Dev) (mac fid loc : Nat) : Bool := bit (d.macAt loc) 60 && d.macAt loc % 2 ^ 60 == macKey mac fid

/-- The locations searched for a key: its four ways, then what is written of the overflow store. -/
def Dev.macPlaces (d : Dev) (mac fid : Nat) : List Nat :=
  macWays mac fid ++ (d.fwd.mac.map (·.1)).filter fun loc => decide (32768 ≤ loc)

theorem macFind_eq_find? (d : Dev) (mac fid : Nat) : d.macFind mac fid = (d.macPlaces mac fid).find? (d.holdsKey mac fid) := by
  rw [Dev.macPlaces, List.find?_append]
  change (match (macWays mac fid).find? (d.holdsKey mac fid) with | some loc => some loc | none => _) = _
  cases (macWays mac fid).find? (d.holdsKey mac fid) <;> rfl

theorem macFind_eq_none_iff : d.macFind mac fid = none ↔ ∀ k ∈ d.macPlaces mac fid, ¬d.holdsKey mac fid k = true := by
  rw [macFind_eq_find?, List.find?_eq_none]

/-- No searched location but one holds the key. -/
def Dev.keyOnlyAt (d : Dev) (mac fid loc : Nat) : Prop := ∀ k ∈ d.macPlaces mac fid, d.holdsKey mac fid k = true → k = loc

theorem macFind_of_keyOnlyAt (hu : d.keyOnlyAt mac fid loc) (hm : loc ∈ d.macPlaces mac fid) (hk : d.holdsKey mac fid loc = true) :
    d.macFind mac fid = some loc := by
  rw [macFind_eq_find?]
  cases hf : (d.macPlaces mac fid).find? (d.holdsKey mac fid) with
  | none => exact absurd hk (List.find?_eq_none.1 hf loc hm)
  | some k => rw [hu k (List.mem_of_find?_eq_some hf) (List.find?_some hf)]

/-- A free place is a way of the key or lies in the overflow store. -/
theorem place_of_macFree (h : d.macFree mac fid = some loc) : loc ∈ macWays mac fid ∨ 32768 ≤ loc := by
  simp only [Dev.macFree] at h
  split at h
  · next hw => exact .inl (Option.some.inj h ▸ List.mem_of_find?_eq_some hw)
  · obtain ⟨i, -, hi⟩ := List.mem_map.1 (List.mem_of_find?_eq_some h)
    exact .inr (by omega)

/-! ## The search after a write -/

theorem holdsKey_setMac_other (h : k ≠ loc) : (d.setMac loc e).holdsKey mac fid k = d.holdsKey mac fid k := by
  rw [Dev.holdsKey, macAt_setMac_other d e h, Dev.holdsKey]

theorem mem_macPlaces_of_setMac (h : k ∈ (d.setMac loc e).macPlaces mac fid) : k = loc ∨ k ∈ d.macPlaces mac fid := by
  simp only [Dev.macPlaces, mac_setMac, List.mem_append, List.mem_filter, List.mem_map] at h ⊢
  obtain hw | ⟨⟨x, hx, rfl⟩, ho⟩ := h
  · exact .inr (.inl hw)
  · obtain rfl | hx := sparse_mem_set hx
    · exact .inl rfl
    · exact .inr (.inr ⟨⟨x, hx, rfl⟩, ho⟩)

theorem mem_macPlaces_setMac_self (h : loc ∈ macWays mac fid ∨ 32768 ≤ loc) (he : e ≠ 0) :
    loc ∈ (d.setMac loc e).macPlaces mac fid := by
  refine List.mem_append.2 (h.imp_right fun ho => List.mem_filter.2 ⟨?_, decide_eq_true ho⟩)
  rw [mac_setMac]
  exact List.mem_map_of_mem (sparse_mem_set_self d.fwd.mac he)

/-- A write keeps the key from every other location. -/
theorem keyOnlyAt_setMac (h : d.keyOnlyAt mac fid loc) : (d.setMac loc e).keyOnlyAt mac fid loc := by
  intro k hk hit
  by_contra hne
  rw [holdsKey_setMac_other hne] at hit
  exact hne (h k ((mem_macPlaces_of_setMac hk).resolve_left hne) hit)

theorem keyOnlyAt_of_absent (h : d.macFind mac fid = none) : d.keyOnlyAt mac fid loc :=
  fun k hk hit => absurd hit (macFind_eq_none_iff.1 h k hk)

theorem macFind_setMac_cleared (h : d.keyOnlyAt mac fid loc) : (d.setMac loc 0).macFind mac fid = none := by
  refine macFind_eq_none_iff.2 fun k hk hit => ?_
  obtain rfl : k = loc := keyOnlyAt_setMac h k hk hit
  simp [Dev.holdsKey, bit, bits] at hit

theorem macFind_setMac_inserted (h : d.keyOnlyAt mac fid loc) (hp : loc ∈ macWays mac fid ∨ 32768 ≤ loc) (hv : bit e 60 = true)
    (he : e % 2 ^ 60 = macKey mac fid) : (d.setMac loc e).macFind mac fid = some loc := by
  have hne : e ≠ 0 := by rintro rfl; simp [bit, bits] at hv
  refine macFind_of_keyOnlyAt (keyOnlyAt_setMac h) (mem_macPlaces_setMac_self hp hne) ?_
  rw [Dev.holdsKey, macAt_setMac_same, hv, he, Bool.true_and, beq_self_eq_true]

end Search

/-- Settles O47: the key is nowhere else, so the search ends where it was put, and nowhere once that location is cleared.
The search reads the store through its entries alone, so its canonical form is not needed. -/
theorem insertedAddressIsFound : Obligations.InsertedAddressIsFound := by
  intro d mac fid e loc habsent hfree hvalid hkey _
  have honly : d.keyOnlyAt mac fid loc := keyOnlyAt_of_absent habsent
  exact ⟨macFind_setMac_inserted honly (place_of_macFree hfree) hvalid hkey, fun k hk => macAt_setMac_other d e hk,
    macFind_setMac_cleared (keyOnlyAt_setMac honly)⟩

end Sys2Proof.Machine
end

section
/-! PROOFS. Table operations (R348 to R350): begun or refused, and what each reports and commits as it exec_tableOpComplete. -/

namespace Sys2Proof.Machine

section Operations

variable {d : Dev} {o : TableOp} {loc : Nat}

/-! ## An operation begins (R350) -/

theorem tableOpStart_refused {x : TableOp} (code : Nat) (h : d.fwd.tableOp = some x) : tableOpStart code d = d.wr Obj.TableOpCmd 0x80 :=
  if_pos (by rw [h]; rfl)

theorem tableOpStart_begins (code : Nat) (h : d.fwd.tableOp = none) :
    tableOpStart code d = { d.wr Obj.TableOpCmd 1 with fwd := { d.fwd with tableOp := some ⟨code, d.rdN Obj.TableOpTable,
      d.rdN Obj.TableOpIndex, entryOf (d.rdN Obj.TableOpTable) (d.rdV Obj.TableOpData).bytes⟩ } } :=
  if_neg (by simp [h])

/-! ## An operation is carried out (R348) -/

/-- The operation in progress is taken, and none runs. -/
def Dev.opTaken (d : Dev) : Dev := { d with fwd := { d.fwd with tableOp := none } }

theorem tableComplete_idle (h : d.fwd.tableOp = none) : tableComplete d = d := by
  simp only [tableComplete, h]

theorem tableComplete_reports {r : Dev × TableOut} (h : d.fwd.tableOp = some o) (hr : d.opTaken.tableRun o = r) :
    tableComplete d = r.1.tableReport r.2 := by
  subst hr
  simp only [tableComplete, h]
  rfl

theorem tableRun_read (hc : o.code = 1) (hi : o.index < tableSize o.table) :
    d.tableRun o = (d, { data := some (d.tableAt o.table o.index) }) := by
  simp [Dev.tableRun, hc, tableRead, hi]

theorem tableRun_readBeyond (hc : o.code = 1) (hi : tableSize o.table ≤ o.index) : d.tableRun o = (d, { status := 5 }) := by
  simp [Dev.tableRun, hc, tableRead, Nat.not_lt.2 hi]

theorem tableRun_write (hc : o.code = 2) (hs : d.writeStatus o.table o.index o.entry = 0) :
    d.tableRun o = (d.writeEntry o.table o.index o.entry, {}) := by
  simp [Dev.tableRun, hc, tableWrite, hs]

theorem tableRun_writeRefused (hc : o.code = 2) (hs : d.writeStatus o.table o.index o.entry ≠ 0) :
    d.tableRun o = (d, { status := d.writeStatus o.table o.index o.entry }) := by
  simp [Dev.tableRun, hc, tableWrite, hs]

/-- The check of an entry by table: misplaced, double or out of range (6), locked by the Armature (4), or beyond the table (5). -/
theorem writeStatus_mem (d : Dev) (t loc e : Nat) : d.writeStatus t loc e ∈ [0, 4, 5, 6] := by
  unfold Dev.writeStatus
  split
  · simp
  · split
    · -- a MAC entry: 6 or 0, whatever the search finds
      dsimp only
      generalize (badMac e || _) = bad
      cases bad <;> simp
    · split <;> simp
    · split
      · simp
      · split <;> simp
    · simp

/-- Operations by key and the flush have a meaning for the MAC table alone. -/
theorem tableRun_otherTable (hc : 3 ≤ o.code) (ht : o.table ≠ 1) : d.tableRun o = (d, { status := 5 }) := by
  unfold Dev.tableRun
  split
  · omega
  · omega
  · exact if_pos ht
  · exact if_pos ht
  · exact if_pos ht
  · exact if_pos ht

section MacTable

variable (ht : o.table = 1)
include ht

theorem tableRun_insertRefused (hc : o.code = 3) (h : bit o.entry 60 = false ∨ badMac o.entry = true) :
    d.tableRun o = (d, { status := 6 }) := by
  obtain h | h := h <;> simp [Dev.tableRun, hc, tableInsert, ht, h]

theorem tableRun_insert (hc : o.code = 3) (hv : bit o.entry 60 = true) (hb : badMac o.entry = false)
    (hl : (d.macFind (bits o.entry 0 48) (bits o.entry 48 12)).or (d.macFree (bits o.entry 0 48) (bits o.entry 48 12)) = some loc) :
    d.tableRun o = (d.commitMac loc o.entry, { index := some loc }) := by
  simp [Dev.tableRun, hc, tableInsert, ht, hv, hb, hl]

theorem tableRun_insertFull (hc : o.code = 3) (hv : bit o.entry 60 = true) (hb : badMac o.entry = false)
    (hf : d.macFind (bits o.entry 0 48) (bits o.entry 48 12) = none)
    (hn : d.macFree (bits o.entry 0 48) (bits o.entry 48 12) = none) : d.tableRun o = (d, { status := 3 }) := by
  simp [Dev.tableRun, hc, tableInsert, ht, hv, hb, hf, hn]

theorem tableRun_delete (hc : o.code = 4) (hl : d.macFind (bits o.entry 0 48) (bits o.entry 48 12) = some loc) :
    d.tableRun o = (d.commitMac loc 0, { index := some loc }) := by
  simp [Dev.tableRun, hc, tableDelete, ht, hl]

theorem tableRun_search (hc : o.code = 5) (hl : d.macFind (bits o.entry 0 48) (bits o.entry 48 12) = some loc) :
    d.tableRun o = (d, { index := some loc, data := some (d.macAt loc) }) := by
  simp [Dev.tableRun, hc, tableSearch, ht, hl]

theorem tableRun_absent (hc : o.code = 4 ∨ o.code = 5) (hl : d.macFind (bits o.entry 0 48) (bits o.entry 48 12) = none) :
    d.tableRun o = (d, { status := 2 }) := by
  obtain hc | hc := hc
  · simp [Dev.tableRun, hc, tableDelete, ht, hl]
  · simp [Dev.tableRun, hc, tableSearch, ht, hl]

theorem tableRun_flush (hc : o.code = 6) :
    d.tableRun o = ((d.macFlush (bits o.index 0 8) (bits o.index 8 16)).1,
      { index := some (d.macFlush (bits o.index 0 8) (bits o.index 8 16)).2 }) := by
  simp [Dev.tableRun, hc, tableFlush, ht]

end MacTable

/-! ## What the objects report (R350) -/

/-- TableOpResultIndex shows an index where the operation gives one. -/
def Dev.showsIndex (d : Dev) : Option Nat → Dev
  | some i => d.wr Obj.TableOpResultIndex i
  | none => d

/-- TableOpData shows an entry where the operation gives one. -/
def Dev.showsEntry (d : Dev) : Option Nat → Dev
  | some x => d.wrV Obj.TableOpData (.oct (leBytes 64 x))
  | none => d

/-- What the objects show of an operation that has completed, which is counted. -/
def Dev.showsOutcome (d : Dev) (out : TableOut) : Dev :=
  ((((d.wr Obj.TableOpCmd 0).wr Obj.TableOpStatus out.status).showsIndex out.index).showsEntry out.data).inc Obj.TableOpCount

/-- A full table raises EV16 beside its status. -/
theorem tableReport_eq (d : Dev) (out : TableOut) : d.tableReport out = (d.showsOutcome out).when (out.status == 3) (·.raise 16) := by
  obtain ⟨status, index, data⟩ := out
  cases index <;> cases data <;> rfl

theorem exec_tableOpComplete {e : Dev} {st : Nat} {i x : Option Nat} (q : List Instr) (h : d.fwd.tableOp = some o)
    (hr : d.opTaken.tableRun o = (e, ⟨st, i, x⟩)) (hs : st ≠ 3) :
    exec .tableOpComplete ⟨d, q⟩ = .next ⟨e.showsOutcome ⟨st, i, x⟩, q⟩ := by
  refine effect_next q ((tableComplete_reports h hr).trans ?_)
  rw [tableReport_eq, beq_false_of_ne hs]
  rfl

theorem exec_tableOpComplete_full {e : Dev} (q : List Instr) (h : d.fwd.tableOp = some o)
    (hr : d.opTaken.tableRun o = (e, { status := 3 })) :
    exec .tableOpComplete ⟨d, q⟩ = .next ⟨(e.showsOutcome { status := 3 }).raise 16, q⟩ :=
  effect_next q ((tableComplete_reports h hr).trans (tableReport_eq e _))

end Operations

/-- Settles O46: each command by whether an operation runs, and the completion by what the operation finds. That the operands are those
of the command, and that nothing is committed before the completion, is the model's choice (log entry 26). -/
theorem tableOperationsRunOneAtATime : Obligations.TableOperationsRunOneAtATime := by
  intro d q
  refine ⟨fun x h c hc => ?_, fun h c hc => ?_, fun h => effect_next q (tableComplete_idle h), fun o h => ?_⟩
  · simp only [List.mem_cons, List.not_mem_nil, or_false] at hc
    obtain rfl | rfl | rfl | rfl | rfl | rfl := hc <;> exact effect_next q (tableOpStart_refused _ h)
  · simp only [List.mem_cons, List.not_mem_nil, or_false] at hc
    obtain rfl | rfl | rfl | rfl | rfl | rfl := hc <;> exact effect_next q (tableOpStart_begins _ h)
  · refine ⟨fun hc hi => (exec_tableOpComplete q h (tableRun_read hc hi) (by decide) :),
      fun hc hi => (exec_tableOpComplete q h (tableRun_readBeyond hc hi) (by decide) :),
      fun hc hs => (exec_tableOpComplete q h (tableRun_write hc hs) (by decide) :), fun hc hs => ?_, writeStatus_mem _ _ _ _,
      fun hc ht => (exec_tableOpComplete q h (tableRun_otherTable hc ht) (by decide) :), fun ht hc => ⟨fun hbad => ?_, fun hv hb =>
        ⟨fun loc hl => ?_, fun hn hfull => (exec_tableOpComplete_full q h (tableRun_insertFull ht hc hv hb hn hfull) :)⟩⟩,
      fun ht loc hl => ⟨fun hc => (exec_tableOpComplete q h (tableRun_delete ht hc hl) (by decide) :),
        fun hc => (exec_tableOpComplete q h (tableRun_search ht hc hl) (by decide) :)⟩,
      fun ht hl hc => (exec_tableOpComplete q h (tableRun_absent ht hc hl) (by decide) :),
      fun ht hc => (exec_tableOpComplete q h (tableRun_flush ht hc) (by decide) :)⟩
    · have hne0 : d.opTaken.writeStatus o.table o.index o.entry ≠ 0 := fun h0 => absurd (h0 ▸ hs) (by decide)
      have hne3 : d.opTaken.writeStatus o.table o.index o.entry ≠ 3 := fun h3 => absurd (h3 ▸ hs) (by decide)
      exact (exec_tableOpComplete q h (tableRun_writeRefused hc hne0) hne3 :)
    · exact (exec_tableOpComplete q h (tableRun_insertRefused ht hc hbad) (by decide) :)
    · have hplace : (d.opTaken.macFind (bits o.entry 0 48) (bits o.entry 48 12)).or
          (d.opTaken.macFree (bits o.entry 0 48) (bits o.entry 48 12)) = some loc := Option.or_eq_some_iff.2 hl
      exact (exec_tableOpComplete q h (tableRun_insert ht hc hv hb hplace) (by decide) :)

end Sys2Proof.Machine
end

section
/-! PROOFS. Frames on the ingress side (R313, R315, R342, R343, R346, R351, R410, R412): one lemma for each branch of a command. -/

namespace Sys2Proof.Machine

section Ingress

variable {d : Dev} {p id pipe : Nat} {f : Frame} {t : Int} {rest : List Nat}

/-! ## The start of a frame (R313, R314, R426) -/

section Start

variable (bs : List Byte) (bad : Bool) (st : RxStamp)

/-- The block as the first byte of a frame is counted. -/
def Dev.startCounted (d : Dev) (p : Nat) : Dev := d.counted 1 0x01 (d.timingLane p) 1

theorem frameRxStart_idle (h : d.portReceives p = false ∨ d.receiving p ≠ none) : frameRxStart p bs bad st d = d := by
  refine if_pos ?_
  obtain h | h := h
  · simp [h]
  · simp [Option.isSome_iff_ne_none.2 h]

section Received

variable (hp : d.portReceives p = true) (hr : d.receiving p = none)
include hp hr

theorem frameRxStart_waits (hf : (d.startCounted p).fifoFill p < 16384) :
    let e := d.startCounted p
    let f := e.arriving p bs bad st
    frameRxStart p bs bad st d =
      ((e.newFrame f).setFifo p ((e.newFrame f).fifo p ++ [d.fwd.nextFrame])).setReceiving p (d.fwd.nextFrame + 1) :=
  (if_neg (by simp [hp, hr])).trans (if_neg (Nat.not_le.2 hf))

theorem frameRxStart_overflows (hf : 16384 ≤ (d.startCounted p).fifoFill p) :
    let e := d.startCounted p
    let f := e.arriving p bs bad st
    frameRxStart p bs bad st d = ((e.newFrame { f with overflowed := true }).inc
      (inst Obj.PortIngressOverflowCount p)).setReceiving p (d.fwd.nextFrame + 1) :=
  (if_neg (by simp [hp, hr])).trans (if_pos hf)

end Received

end Start

/-! ## Entry into the pipeline (R313, R315) -/

section Entry

variable {ready : List PortHp}

/-- The pipeline of a port: 1 for P24 to P47, 0 for the others and HP. -/
def pipeOf (p : Nat) : Nat := if 24 ≤ p && p < 48 then 1 else 0

theorem pipeOf_eq (p : Nat) : pipeOf p = if 24 ≤ p ∧ p < 48 then 1 else 0 :=
  if_congr (by simp) rfl rfl

/-- A decision delivers a PTP event message to HP, which waits for its refined stamp (R119, R553). -/
def Decision.awaitsStamp (x : Decision) : Bool :=
  x.plans.any (fun c => bit c.reasons 3) && (match x.parsed.bind (·.ptp) with
    | some i => decide (i.type < 4)
    | none => false)

theorem awaitsStamp_iff (x : Decision) :
    x.awaitsStamp = true ↔ (∃ c ∈ x.plans, bit c.reasons 3 = true) ∧ ∃ i, x.parsed.bind (·.ptp) = some i ∧ i.type < 4 := by
  rw [Decision.awaitsStamp, Bool.and_eq_true, List.any_eq_true]
  refine and_congr_right fun _ => ?_
  cases x.parsed.bind (·.ptp) <;> simp

/-- A frame that has entered, with its decision. -/
def Frame.decided (f : Frame) (x : Decision) : Frame :=
  { f with entered := true, decision := some x, awaits := if x.awaitsStamp then f.awaits else none }

theorem decided_eq (f : Frame) (x : Decision)
    [Decidable ((∃ c ∈ x.plans, bit c.reasons 3 = true) ∧ ∃ i, x.parsed.bind (·.ptp) = some i ∧ i.type < 4)] :
    f.decided x = { f with
      entered := true
      decision := some x
      awaits := if (∃ c ∈ x.plans, bit c.reasons 3 = true) ∧ ∃ i, x.parsed.bind (·.ptp) = some i ∧ i.type < 4 then f.awaits
        else none } := by
  rw [Frame.decided, if_congr (awaitsStamp_iff x) rfl rfl]

/-- A frame keeps the decision `r` made for it, and waits at the end of the replication stage; its port is the last that entered. -/
def Dev.keepsDecided (d : Dev) (p id : Nat) (f : Frame) (r : Dev × Decision) : Dev :=
  let h := (r.1.putFrame id (some (f.decided r.2))).setStage (pipeOf p) (d.stage (pipeOf p) ++ [id])
  ({ h with fwd := { h.fwd with lastEntered := Sparse.set (fun _ => 0) h.fwd.lastEntered (pipeOf p) (p + 1) } } : Dev).learnReal
    (f.decided r.2)

theorem contains_ready_eq (ready : List PortHp) (y : Nat) :
    (ready.map (·.val)).contains y = decide (∃ z ∈ ready, z.val = y) := by
  rw [List.contains_eq_mem]
  exact decide_eq_decide.2 List.mem_map

theorem pipelineEntry_idle (h : ∀ x ∈ ready, d.mayEnter x = false) : pipelineEntry pipe (ready.map (·.val)) d = d := by
  have hnone : (d.pipeOrder pipe).find? (fun y => (ready.map (·.val)).contains y && d.mayEnter y) = none := by
    refine List.find?_eq_none.2 fun y _ hy => ?_
    rw [contains_ready_eq, Bool.and_eq_true, decide_eq_true_eq] at hy
    obtain ⟨⟨z, hz, rfl⟩, hm⟩ := hy
    exact absurd hm (by rw [h z hz]; decide)
  simp only [pipelineEntry, hnone]

theorem pipelineEntry_enters
    (h : (d.pipeOrder pipe).find? (fun y => decide (∃ z ∈ ready, z.val = y) && d.mayEnter y) = some p) :
    pipelineEntry pipe (ready.map (·.val)) d = d.enterFrom p := by
  simp only [← contains_ready_eq] at h
  simp only [pipelineEntry, h]

variable (hq : d.fifo p = id :: rest) (hf : d.frame id = some f)
include hq hf

theorem enterFrom_takes_or_decides :
    let e := d.setFifo p rest
    d.enterFrom p = if f.macTakes then (e.onFrame id Frame.consumed).reapFrame id
      else e.keepsDecided p id f ((e.counted 0 0x01 (pipeOf p) 1).forwarding p f.bytes f.ended) := by
  unfold Dev.enterFrom
  split
  · next hnil => simp [hq] at hnil
  · next hcons =>
    obtain ⟨rfl, rfl⟩ := List.cons.inj (hq.symm.trans hcons)
    split
    · next hnone => simp [hf] at hnone
    · next hsome =>
      obtain rfl := Option.some.inj (hf.symm.trans hsome)
      rfl

end Entry

/-! ## Replication (R342, R343) -/

theorem when_decide (d : Dev) (c : Prop) [Decidable c] (f : Dev → Dev) : d.when (decide c) f = if c then f d else d := by
  simp only [Dev.when, decide_eq_true_eq]

theorem replication_idle (h : (d.until t).stage pipe = []) : replication pipe t d = d.until t := by
  simp only [replication, h]

theorem replication_copies (hs : (d.until t).stage pipe = id :: rest) (hf : ((d.until t).setStage pipe rest).frame id = some f) :
    let e := (d.until t).setStage pipe rest
    let x := f.decision.getD {}
    let n := x.plans.length + ofBool x.reel
    let stalled := if 4 < n then e.add32 (inst Obj.ReplicationStallCycles pipe) ((n + 3) / 4 - 1) else e
    let r := stalled.makeCopies id f x t x.plans
    let reeled := if x.reel = true then r.1.reelCopy id f else r.1
    replication pipe t d = ((reeled.onFrame id fun g => { g with replicated := true }).injectedStatus f r.2).finishFrame id := by
  unfold replication
  dsimp only
  split
  · next hnil => simp [hs] at hnil
  · next hcons =>
    obtain ⟨rfl, rfl⟩ := List.cons.inj (hs.symm.trans hcons)
    split
    · next hnone => simp [hf] at hnone
    · next hsome =>
      obtain rfl := Option.some.inj (hf.symm.trans hsome)
      rw [when_decide]
      rfl

/-! ## Truncation and the end of a frame (R410, R412) -/

theorem oversizeTruncation_idle (h : d.receiving p = none) : oversizeTruncation p d = d := by
  simp only [oversizeTruncation, h]

section Receiving

variable (hr : d.receiving p = some id)
include hr

theorem oversizeTruncation_marks (hf : d.frame id = some f) (hl : d.maxFrame p < f.bytes.length) (ht : f.truncated = false) :
    oversizeTruncation p d = (d.onFrame id fun g => { g with truncated := true }).spoil id true := by
  simp only [oversizeTruncation, hr, hf]
  exact if_neg (by simp [hl, ht])

theorem oversizeTruncation_within (hf : d.frame id = some f) (h : f.bytes.length ≤ d.maxFrame p ∨ f.truncated = true) :
    oversizeTruncation p d = d := by
  simp only [oversizeTruncation, hr, hf]
  exact if_pos (by simpa using h)

theorem frameRxEnd_ends : frameRxEnd p d = d.endFrame p id false := by
  simp only [frameRxEnd, hr]

end Receiving

theorem frameRxEnd_idle (h : d.receiving p = none) : frameRxEnd p d = d := by
  simp only [frameRxEnd, h]

end Ingress

/-- Settles O42: each command by whether there is a frame for it, and then by what the frame is. -/
theorem framesEnterAndAreReplicated : Obligations.FramesEnterAndAreReplicated := by
  intro d q p bs bad st t
  refine ⟨fun hp hr => ⟨fun hf => effect_next q (frameRxStart_waits bs bad st hp hr hf),
      fun hf => effect_next q (frameRxStart_overflows bs bad st hp hr hf)⟩, fun h => effect_next q (frameRxStart_idle bs bad st h),
    fun pipe ready => ⟨fun h => effect_next q (pipelineEntry_idle h), fun x id rest f hx hq hf => ?_⟩,
    fun pipe h => effect_next q (replication_idle h), fun pipe id rest f hs hf => effect_next q (replication_copies hs hf),
    fun id f hr hf => ⟨fun hl ht => effect_next q (oversizeTruncation_marks hr hf hl ht),
      fun h => effect_next q (oversizeTruncation_within hr hf h)⟩,
    fun id hr => effect_next q (frameRxEnd_ends hr),
    fun hr => ⟨effect_next q (frameRxEnd_idle hr), effect_next q (oversizeTruncation_idle hr)⟩⟩
  have henters := (pipelineEntry_enters hx).trans (enterFrom_takes_or_decides hq hf)
  intro e side
  refine ⟨fun hm => effect_next q (henters.trans (if_pos hm)), fun hm => ?_⟩
  have hside : side = pipeOf x := (pipeOf_eq x).symm
  clear_value side
  subst hside
  intro r event waits g h
  have hg : g = f.decided r.2 := (decided_eq f r.2).symm
  clear_value g
  subst hg
  exact effect_next q (henters.trans (if_neg (Bool.eq_false_iff.1 hm)))

end Sys2Proof.Machine
end

section
/-! PROOFS. Copies on the egress side (R337, R345, R371, R372, R419, R420, R547, R552, R553): one lemma for each branch of a command. -/

namespace Sys2Proof.Machine

section Egress

variable {d : Dev} {p : Nat} {t stamp : Int}

/-! ## Transmission selection and cut-through (R345, R371, R372) -/

/-- Both take the transmit stamp of the block as the command finds it (R121). -/
theorem exec_transmitSelection {e : Dev} {p : Port} {m : Int} {k : Nat} (q : List Instr)
    (h : transmitSelection p t (d.txInst p m k) d = e) : exec (.transmitSelection p t m k) ⟨d, q⟩ = .next ⟨e, q⟩ :=
  effect_next (f := fun d => transmitSelection p t (d.txInst p m k) d) q h

theorem exec_cutThroughStart {e : Dev} {p : Port} {m : Int} {k : Nat} (q : List Instr)
    (h : cutThroughStart p t (d.txInst p m k) d = e) : exec (.cutThroughStart p t m k) ⟨d, q⟩ = .next ⟨e, q⟩ :=
  effect_next (f := fun d => cutThroughStart p t (d.txInst p m k) d) q h

theorem transmitSelection_busy
    (h : (d.until t).portTakes p = false ∨ ((d.until t).egress p).tx ≠ none) : transmitSelection p t stamp d = d.until t := by
  refine if_pos ?_
  obtain h | h := h
  · simp [h]
  · simp [Option.isSome_iff_ne_none.2 h]

theorem transmitSelection_selects (hp : (d.until t).portTakes p = true) (hx : ((d.until t).egress p).tx = none) :
    transmitSelection p t stamp d =
      (d.until t).selectLoop p t stamp (((List.range 8).map fun c => ((d.until t).queue (queueKey p c)).length).sum + 1) :=
  if_neg (by simp [hp, hx])

/-- The copy at the head of the lowest class of a port that has a cut-through copy there. -/
def Dev.cutHead (d : Dev) (p : Nat) : Option (Nat × Copy) :=
  ((List.range 8).filterMap fun c => (d.queue (queueKey p c)).head?.map fun x => (c, x)).find? fun y => y.2.cut

theorem cutThroughStart_none (h : (d.until t).cutHead p = none) : cutThroughStart p t stamp d = d.until t := by
  rw [Dev.cutHead] at h
  simp only [cutThroughStart, h]

theorem cutThroughStart_busy
    (h : (d.until t).portTakes p = false ∨ ((d.until t).egress p).tx ≠ none) : cutThroughStart p t stamp d = d.until t := by
  unfold cutThroughStart
  dsimp only
  split
  · rfl
  · refine if_pos ?_
    obtain h | h := h
    · simp [h]
    · simp [Option.isSome_iff_ne_none.2 h]

section Frame

variable {c id : Nat} {x : Copy} {f : Frame} (hh : (d.until t).cutHead p = some (c, x)) (hx : x.payload = .frame id)
  (hf : (d.until t).frame id = some f)
include hh hx hf

theorem cutThroughStart_waits (he : f.ended = false) (hl : f.bytes.length ≤ 256) : cutThroughStart p t stamp d = d.until t := by
  rw [Dev.cutHead] at hh
  simp only [cutThroughStart, hh, hx, hf]
  exact if_pos (by simp [he, hl])

theorem cutThroughStart_starts (ht : ((d.until t).egress p).tx = none) (hp : (d.until t).portTakes p = true)
    (h : f.ended = true ∨ 256 < f.bytes.length) :
    cutThroughStart p t stamp d = ((d.until t).popQueue p c).startTx p x stamp := by
  rw [Dev.cutHead] at hh
  simp only [cutThroughStart, hh, hx, hf]
  exact if_neg (by simpa [ht, hp, or_iff_not_imp_left] using h)

end Frame

/-! ## The end of a transmission (R346, R420) -/

theorem frameTxEnd_idle (h : ((d.until t).egress p).tx = none) : frameTxEnd p t d = d.until t := by
  simp only [frameTxEnd, h]

/-- A transmitter is free again, and the copy it sent is counted in its class (R420). -/
def Dev.txEnded (d : Dev) (p : Nat) (x : TxSt) : Dev :=
  (d.setEgress p fun y => { y with tx := none }).inc (queueObj Obj.QueueTxCount p x.copy.plan.cls)

section Ends

variable {x : TxSt} (hx : ((d.until t).egress p).tx = some x)
include hx

section Engine

variable {w : EngineMsg} {len : Nat} (hw : x.copy.payload = .engine w len)
include hw

theorem frameTxEnd_ptp {k : PtpMsg} (hk : w = .ptp k) :
    frameTxEnd p t d = ((((d.until t).txEnded p x).countTx p x.bytes.length (x.bytes.take 6) true false false false).freeCopy
      x.copy).ptpFollows p k x.stamp := by
  subst hk
  simp only [frameTxEnd, hx, hw]
  rfl

theorem frameTxEnd_engine (hk : ∀ k, w ≠ .ptp k) :
    frameTxEnd p t d = (((d.until t).txEnded p x).countTx p x.bytes.length (x.bytes.take 6) true false false false).freeCopy x.copy := by
  simp only [frameTxEnd, hx, hw]
  rfl

end Engine

theorem frameTxEnd_frame {id : Nat} {f : Frame} (hi : x.copy.payload = .frame id) (hf : ((d.until t).txEnded p x).frame id = some f) :
    let g := (d.until t).txEnded p x
    let out := if x.copy.cut then g.leaving f x.copy.plan x.stamp x.stomped else (x.bytes, x.padded, x.truncated)
    let h := g.countTx p out.1.length (out.1.take 6) (fcsGood out.1) x.stomped out.2.2 (out.2.1 || f.padded)
    frameTxEnd p t d = (h.txOutcome (h.copyRing x.copy) 0 (some x.stamp)).freeCopy x.copy := by
  rw [Dev.txEnded] at hf
  simp only [frameTxEnd, hx, hi, hf]
  rfl

end Ends

end Egress

/-! ## Delivery to the host (R547, R553) -/

section Delivery

variable {d : Dev} {r err : Nat}

theorem hpDelivery_shut {g : RingSt} (hg : d.ring (4 + r) = g)
    (h : g.enable = false ∨ g.active = false ∨ g.halted = true ∨ g.waiting = 0) : hpDelivery r err d = d := by
  subst hg
  refine if_pos ?_
  obtain h | h | h | h := h <;> simp [h]

theorem hpDelivery_nothing (hg : (d.ring (4 + r)).delivering = none) (hn : d.nextDelivery r = none) : hpDelivery r err d = d := by
  simp only [hpDelivery, hg, hn, Option.map_none]
  split <;> rfl

section Open

variable (he : (d.ring (4 + r)).enable = true) (ha : (d.ring (4 + r)).active = true) (hh : (d.ring (4 + r)).halted = false)
  (hw : (d.ring (4 + r)).waiting ≠ 0)
include he ha hh hw

theorem hpDelivery_halts (h : (d.ring (4 + r)).delivering ≠ none ∨ d.nextDelivery r ≠ none) (hb : err ≠ 0) :
    hpDelivery r err d = d.setRing (4 + r) fun g => g.halt (min err 2) := by
  cases hg : (d.ring (4 + r)).delivering with
  | some x => simp [hpDelivery, he, ha, hh, hw, hg, hb]
  | none =>
    obtain ⟨x, hn⟩ := Option.ne_none_iff_exists'.1 (h.resolve_left (not_not.2 hg))
    simp [hpDelivery, he, ha, hh, hw, hg, hn, hb]

theorem hpDelivery_continues {x : Copy} {n : Nat} (hg : (d.ring (4 + r)).delivering = some (x, n)) :
    hpDelivery r 0 d =
      (d.setRing (4 + r) fun h => { h with written := [] }).fill (4 + r) x (d.copyBytes x) (d.ring (4 + r)).waiting n := by
  simp [hpDelivery, he, ha, hh, hw, hg]

theorem hpDelivery_begins {x : Copy} (hg : (d.ring (4 + r)).delivering = none) (hn : d.nextDelivery r = some x) :
    let e := d.setQueue 384 ((d.queue 384).erase x)
    hpDelivery r 0 d =
      (e.setRing (4 + r) fun h => { h with written := [] }).fill (4 + r) x (e.copyBytes x) (d.ring (4 + r)).waiting 0 := by
  simp [hpDelivery, he, ha, hh, hw, hg, hn]

end Open

end Delivery

/-- Settles O43: each command by whether the transmitter or the ring is free, and then by the copy it finds. -/
theorem copiesAreSentAndDelivered : Obligations.CopiesAreSentAndDelivered := by
  intro d q p t m k
  refine ⟨⟨fun hp hx => exec_transmitSelection q (transmitSelection_selects hp hx),
      fun h => exec_transmitSelection q (transmitSelection_busy h),
      ⟨fun h => exec_cutThroughStart q (cutThroughStart_none h), fun h => exec_cutThroughStart q (cutThroughStart_busy h),
        fun c x id f hh hx hf ht hp => ⟨fun h => exec_cutThroughStart q (cutThroughStart_starts hh hx hf ht hp h),
          fun he hl => exec_cutThroughStart q (cutThroughStart_waits hh hx hf he hl)⟩⟩,
      fun h => effect_next q (frameTxEnd_idle h),
      fun x hx => ⟨fun w len hw => ⟨fun j hj => effect_next q (frameTxEnd_ptp hx hw hj),
          fun hj => effect_next q (frameTxEnd_engine hx hw hj)⟩,
        fun id f hi hf => effect_next q (frameTxEnd_frame hx hi hf)⟩, rfl⟩,
    fun r err => ⟨fun h => effect_next q (hpDelivery_shut rfl h), fun hg hn => effect_next q (hpDelivery_nothing hg hn),
      fun he ha hh hw => ⟨fun h hb => effect_next q (hpDelivery_halts he ha hh hw h hb),
        fun x n hg => effect_next q (hpDelivery_continues he ha hh hw hg),
        fun x hg hn => effect_next q (hpDelivery_begins he ha hh hw hg hn)⟩⟩⟩

end Sys2Proof.Machine
end

section
/-! PROOFS. Pause frames (R388 to R392): one lemma for each branch of a command. -/

namespace Sys2Proof.Machine

section Pauses

variable {d : Dev} {p : Nat}

/-! ## Pause frames received (R388 to R390) -/

section Received

variable (quanta v : Nat) (ts : List Nat)

theorem pauseFrameRx_acts (hr : d.portReceives p = true) (hm : d.rd (inst Obj.PauseRxMode p) = 1) :
    pauseFrameRx p quanta d =
      (d.setPaused p (setBit (d.egress p).paused 8 (quanta != 0))).inc (inst Obj.PauseRxFrameCount p) :=
  if_pos (by simp [hr, hm])

theorem pauseFrameRx_idle (h : d.portReceives p = false ∨ d.rd (inst Obj.PauseRxMode p) ≠ 1) : pauseFrameRx p quanta d = d := by
  refine if_neg ?_
  obtain h | h := h <;> simp [h]

theorem pfcFrameRx_acts (hr : d.portReceives p = true) (hm : d.rd (inst Obj.PauseRxMode p) = 2) :
    pfcFrameRx p v ts d = (d.setPaused p ((List.range 8).foldl (fun w k =>
      if bit v k && bit (d.rdN (inst Obj.PfcRxMask p)) k then setBit w k (ts.getD k 0 != 0) else w) (d.egress p).paused)).inc
      (inst Obj.PauseRxFrameCount p) :=
  if_pos (by simp [hr, hm])

theorem pfcFrameRx_idle (h : d.portReceives p = false ∨ d.rd (inst Obj.PauseRxMode p) ≠ 2) : pfcFrameRx p v ts d = d := by
  refine if_neg ?_
  obtain h | h := h <;> simp [h]

end Received

/-! ## XOFF again (R391) -/

/-- XOFF is due once more: it is held, the count is above the XON level, and no frame of the priority is due. -/
def Dev.xoffAgain (d : Dev) (p : Nat) (prio : Option Nat) : Prop :=
  d.xoffHeld p prio = true ∧ d.rd (inst Obj.PauseXonCells p) < d.pauseCount p prio ∧ ∀ x ∈ (d.egress p).due, x.prio ≠ prio

section Repeat

variable {prio : Option Nat}

theorem xoffAgain_iff :
    (d.xoffHeld p prio && decide (d.rd (inst Obj.PauseXonCells p) < d.pauseCount p prio) &&
      !(d.egress p).due.any fun x => x.prio == prio) = true ↔ d.xoffAgain p prio := by
  simp [Dev.xoffAgain, and_assoc]

theorem xoffRepeat_repeats (h : d.xoffAgain p prio) :
    xoffRepeat p prio d = d.setEgress p fun e => { e with due := e.due ++ [⟨true, prio⟩] } :=
  if_pos (xoffAgain_iff.2 h)

theorem xoffRepeat_idle (h : ¬d.xoffAgain p prio) : xoffRepeat p prio d = d :=
  if_neg (mt xoffAgain_iff.1 h)

end Repeat

/-! ## Pause frames sent (R379, R391, R392) -/

/-- A pause frame may start at `t`: the transmitter is idle, the port takes frames, and the launch guard allows 64 bytes. -/
def Dev.pauseMayStart (d : Dev) (p : Nat) (t : Int) : Prop :=
  (d.egress p).tx = none ∧ d.portTakes p = true ∧ d.launchGuard p none t (txTime 64 (d.lineRate p)) = true

/-- What PauseXoffState shows after a pause frame, where it showed `held`. -/
def PauseDue.stateAfter (x : PauseDue) (held : Nat) : Nat :=
  match x.prio with
  | none => if x.xoff then 0xFF else 0
  | some k => setBit held k x.xoff

/-- The first pause frame due is sent, and `rest` stay due: XON gives the headroom back, and the frame is counted. -/
def Dev.sendsPause (d : Dev) (p : Nat) (x : PauseDue) (rest : List PauseDue) : Dev :=
  ((((d.setEgress p fun y => { y with due := rest, headroom := if x.xoff then y.headroom else 0 }).wr
    (inst Obj.PauseXoffState p) (x.stateAfter (d.rdN (inst Obj.PauseXoffState p)) : Nat)).inc
    (inst Obj.PauseTxFrameCount p)).count p (if x.prio = none then 28 else 29) 1).countTx p 64 [1, 0, 0, 0, 0, 0] true false false false

section Sent

variable {t : Int}

theorem not_pauseMayStart_iff :
    ((d.egress p).tx.isSome || !d.portTakes p || !d.launchGuard p none t (txTime 64 (d.lineRate p))) = true ↔
      ¬d.pauseMayStart p t := by
  simp [Dev.pauseMayStart, Option.isSome_iff_ne_none, imp_iff_not_or, or_assoc]

theorem pauseFrameTx_nothing (h : ((d.until t).egress p).due = []) : pauseFrameTx p t d = d.until t := by
  simp only [pauseFrameTx, h]

theorem pauseFrameTx_waits (h : ¬(d.until t).pauseMayStart p t) : pauseFrameTx p t d = d.until t := by
  unfold pauseFrameTx
  dsimp only
  split
  · rfl
  · exact if_pos (not_pauseMayStart_iff.2 h)

theorem pauseFrameTx_sends {x : PauseDue} {rest : List PauseDue} (hx : ((d.until t).egress p).due = x :: rest)
    (h : (d.until t).pauseMayStart p t) : pauseFrameTx p t d = (d.until t).sendsPause p x rest := by
  obtain ⟨off, prio⟩ := x
  simp only [pauseFrameTx, hx]
  refine (if_neg (not_not.2 h ∘ not_pauseMayStart_iff.1)).trans ?_
  cases prio with
  | none => simp only [Dev.sendsPause, PauseDue.stateAfter, if_true, Nat.cast_ite, Nat.cast_ofNat, Nat.cast_zero]
  | some k => simp only [Dev.sendsPause, PauseDue.stateAfter, reduceCtorEq, if_false]

end Sent

end Pauses

/-- Settles O44: each command by whether the port acts on the frame, or has one to send and may start it. -/
theorem pauseFollowsItsFrames : Obligations.PauseFollowsItsFrames := by
  intro d q p
  refine ⟨fun quanta hr hm => effect_next q (pauseFrameRx_acts quanta hr hm),
    fun quanta h => effect_next q (pauseFrameRx_idle quanta h),
    fun v ts hr hm => effect_next q (pfcFrameRx_acts v ts hr hm), fun v ts h => effect_next q (pfcFrameRx_idle v ts h),
    fun _ => rfl, rfl,
    fun pr => ⟨fun h => effect_next q (xoffRepeat_repeats h), fun h => effect_next q (xoffRepeat_idle h)⟩,
    fun t => ⟨fun h => effect_next q (h.elim pauseFrameTx_nothing pauseFrameTx_waits), fun off prio rest hx h => ?_⟩⟩
  refine (effect_next q (pauseFrameTx_sends hx h)).trans ?_
  cases prio <;> rfl

end Sys2Proof.Machine
end

section
/-! PROOFS. The Maquette (R374, R383 to R387): one lemma for each branch of a command. -/

namespace Sys2Proof.Machine

section Staging

variable {d : Dev}

/-! ## Gate entries and the stream image (R373, R384) -/

theorem gateWrite_refused (h : d.swapArmed = true) : gateWrite d = d.cmdDone Obj.GateOpCmd true := if_pos h

theorem gateWrite_writes (h : d.swapArmed = false) :
    gateWrite d = ((List.range 8).foldl (fun (e : Dev) j => e.setGate true (d.rdN Obj.GateOpPort)
      (8 * d.rdN Obj.GateOpGroup + j) (leNat (((d.rdV Obj.GateOpData).bytes.drop (8 * j)).take 8))) d).cmdDone Obj.GateOpCmd false := by
  rw [← Dev.forEach_eq_foldl]
  exact if_neg (Bool.eq_false_iff.1 h)

theorem imageRead_beyond (h : 4096 ≤ d.rdN Obj.MaquetteStreamIndex) :
    imageRead d = (d.wr Obj.MaquetteStreamStatus 5).cmdDone Obj.MaquetteStreamCmd false := if_pos h

theorem imageRead_shows (h : d.rdN Obj.MaquetteStreamIndex < 4096) :
    imageRead d = ((d.wrV Obj.MaquetteStreamData (.oct (leBytes 64 (d.imageAt (d.rdN Obj.MaquetteStreamIndex))))).wr
      Obj.MaquetteStreamStatus 0).cmdDone Obj.MaquetteStreamCmd false := if_neg (Nat.not_le.2 h)

theorem imageWrite_refused (h : d.swapArmed = true) : imageWrite d = d.cmdDone Obj.MaquetteStreamCmd true := if_pos h

section Unarmed

variable (h : d.swapArmed = false)
include h

theorem imageWrite_beyond (hi : 4096 ≤ d.rdN Obj.MaquetteStreamIndex) :
    imageWrite d = (d.wr Obj.MaquetteStreamStatus 5).cmdDone Obj.MaquetteStreamCmd false :=
  (if_neg (Bool.eq_false_iff.1 h)).trans (if_pos hi)

section Within

variable (hi : d.rdN Obj.MaquetteStreamIndex < 4096)
include hi

theorem imageWrite_bad (hb : badStream (entryOf 3 (d.rdV Obj.MaquetteStreamData).bytes) = true) :
    imageWrite d = (d.wr Obj.MaquetteStreamStatus 6).cmdDone Obj.MaquetteStreamCmd true :=
  (if_neg (Bool.eq_false_iff.1 h)).trans ((if_neg (Nat.not_le.2 hi)).trans (if_pos hb))

theorem imageWrite_writes (hb : badStream (entryOf 3 (d.rdV Obj.MaquetteStreamData).bytes) = false) :
    imageWrite d = ((d.setImage (d.rdN Obj.MaquetteStreamIndex) (entryOf 3 (d.rdV Obj.MaquetteStreamData).bytes)).wr
      Obj.MaquetteStreamStatus 0).cmdDone Obj.MaquetteStreamCmd false :=
  (if_neg (Bool.eq_false_iff.1 h)).trans ((if_neg (Nat.not_le.2 hi)).trans (if_neg (Bool.eq_false_iff.1 hb)))

end Within

end Unarmed

/-! ## The copy of the schedule (R386) -/

theorem maquetteCopy_refused (h : d.swapArmed = true ∨ d.buf.copying = true) : maquetteCopy d = d.wr Obj.MaquetteCopyCmd 0x80 :=
  if_pos (by simpa using h)

theorem maquetteCopy_copies (h : d.swapArmed = false) (hc : d.buf.copying = false) :
    let e := (List.range 48).foldl
      (fun (e : Dev) p => e.wr (inst Obj.MaquetteListLength p) (e.rd (inst Obj.ArmatureListLength p))) d
    maquetteCopy d = { e.wr Obj.MaquetteCopyCmd 1 with
      buf := { e.buf with maqGates := e.buf.armGates, maqStream := e.fwd.stream.filter fun x => bit x.2 4, copying := true } } := by
  rw [← Dev.forEach_eq_foldl]
  exact if_neg (by simp [h, hc])

theorem maquetteCopyComplete_ends (h : d.buf.copying = true) :
    maquetteCopyComplete d = { d.wr Obj.MaquetteCopyCmd 0 with buf := { d.buf with copying := false } } := if_pos h

theorem maquetteCopyComplete_idle (h : d.buf.copying = false) : maquetteCopyComplete d = d := if_neg (Bool.eq_false_iff.1 h)

/-! ## Arming and cancelling a swap (R385) -/

/-- A change of the Turn parameters is pending for the Turn `n`. -/
def Dev.paramChangeFor (d : Dev) (n : Nat) : Prop := ∃ c ∈ d.turn.queue, c.isParam = true ∧ c.turn = n

theorem paramChangeFor_iff {n : Nat} : (d.turn.queue.any fun c => c.isParam && c.turn == n) = true ↔ d.paramChangeFor n := by
  simp [Dev.paramChangeFor]

theorem swapArm_refused (h : d.swapArmed = true ∨ d.canArm (d.rdN Obj.MaquetteSwapAt) = false) :
    swapArm d = d.wr Obj.MaquetteSwapCmd 0x80 :=
  if_pos (by simpa using h)

/-- The check that refuses a swap for the Turn `n`, or 0: none does where a change of the Turn parameters is pending for `n`. -/
def Dev.swapFailure (d : Dev) (n : Nat) : Nat :=
  if d.turn.queue.any (fun c => c.isParam && c.turn == n) then 0 else d.swapChecks (d.rdN Obj.TurnPeriod)

section Failure

variable {n : Nat}

theorem swapFailure_none (h : d.paramChangeFor n ∨ d.swapChecks (d.rdN Obj.TurnPeriod) = 0) : d.swapFailure n = 0 := by
  obtain hc | h0 := h
  · exact if_pos (paramChangeFor_iff.2 hc)
  · rw [Dev.swapFailure, h0, ite_self]

theorem swapFailure_checks (h : ¬d.paramChangeFor n) : d.swapFailure n = d.swapChecks (d.rdN Obj.TurnPeriod) :=
  if_neg (mt paramChangeFor_iff.1 h)

end Failure

section Open

variable (h : d.swapArmed = false) (ha : d.canArm (d.rdN Obj.MaquetteSwapAt) = true)
include h ha

theorem swapArm_queues (h0 : d.swapFailure (d.rdN Obj.MaquetteSwapAt) = 0) :
    swapArm d = (d.arm (d.rdN Obj.MaquetteSwapAt) .swap).wr Obj.MaquetteSwapCmd 1 :=
  (if_neg (by simp [h, ha])).trans (if_neg (bne_iff_ne.not_left.2 h0))

theorem swapArm_fails {bad : Nat} (hf : d.swapFailure (d.rdN Obj.MaquetteSwapAt) = bad) (hb : bad ≠ 0) :
    swapArm d = (d.wr Obj.MaquetteSwapCmd 0x80).wr Obj.MaquetteSwapResult bad := by
  subst hf
  exact (if_neg (by simp [h, ha])).trans (if_pos (bne_iff_ne.2 hb))

end Open

theorem swapCancel_cancels (h : d.swapArmed = true) :
    swapCancel d = ((d.disarm fun c => c.kind == .swap).wr Obj.MaquetteSwapCmd 0).wr Obj.MaquetteSwapResult 5 := if_pos h

theorem swapCancel_idle (h : d.swapArmed = false) : swapCancel d = d.wr Obj.MaquetteSwapCmd 0 := if_neg (Bool.eq_false_iff.1 h)

/-! ## The gates in force (R374, R399) -/

section Gates

variable {p : Nat} {t : Int}

theorem showGates_idle (h : (d.egress p).tx = none) :
    d.showGates p t = d.wr (inst Obj.QueueGateStates p) (d.gatesAt p t) := by
  have htx : ((d.wr (inst Obj.QueueGateStates p) (d.gatesAt p t)).egress p).tx = none := h
  simp only [Dev.showGates, htx]

/-- The gate of the class in transmission was open and is closed from `t` on. -/
def Dev.gateShuts (d : Dev) (p : Nat) (t : Int) (x : TxSt) : Prop :=
  bit (d.rdN (inst Obj.QueueGateStates p)) x.copy.plan.cls = true ∧ bit (d.gatesAt p t) x.copy.plan.cls = false

section Sending

variable {x : TxSt} (hx : (d.egress p).tx = some x)
include hx

theorem showGates_sending : d.showGates p t = (d.wr (inst Obj.QueueGateStates p) (d.gatesAt p t)).when
    (bit (d.rdN (inst Obj.QueueGateStates p)) x.copy.plan.cls && !bit (d.gatesAt p t) x.copy.plan.cls)
    (·.inc Obj.GateOverrunCount) := by
  have htx : ((d.wr (inst Obj.QueueGateStates p) (d.gatesAt p t)).egress p).tx = some x := hx
  simp only [Dev.showGates, htx]

theorem showGates_overruns (h : d.gateShuts p t x) :
    d.showGates p t = (d.wr (inst Obj.QueueGateStates p) (d.gatesAt p t)).inc Obj.GateOverrunCount :=
  (showGates_sending hx).trans (if_pos (by simpa [Dev.gateShuts] using h))

theorem showGates_finishes (h : ¬d.gateShuts p t x) :
    d.showGates p t = d.wr (inst Obj.QueueGateStates p) (d.gatesAt p t) :=
  (showGates_sending hx).trans (if_neg (by simpa [Dev.gateShuts] using h))

end Sending

end Gates

end Staging

/-- Settles O48: each command by whether a swap is armed, and then by what it finds in the Maquette. -/
theorem theMaquetteIsStagedAndSwapped : Obligations.TheMaquetteIsStagedAndSwapped := by
  intro d q
  refine ⟨fun m => by cases m <;> rfl,
    fun h => ⟨effect_next q (gateWrite_refused h), effect_next q (imageWrite_refused h),
      effect_next q (swapArm_refused (.inl h)), effect_next q (swapCancel_cancels h)⟩,
    fun h => effect_next q (maquetteCopy_refused h),
    fun h => ⟨effect_next q (gateWrite_writes h),
      ⟨fun hi => effect_next q (imageWrite_beyond h hi), fun hi hb => effect_next q (imageWrite_bad h hi hb),
        fun hi hb => effect_next q (imageWrite_writes h hi hb)⟩,
      fun hc => effect_next q (maquetteCopy_copies h hc),
      ⟨fun ha hn => effect_next q (swapArm_queues h ha (swapFailure_none hn)),
        fun ha hn hb => effect_next q (swapArm_fails h ha (swapFailure_checks hn) hb)⟩,
      fun ha => effect_next q (swapArm_refused (.inr ha)), effect_next q (swapCancel_idle h)⟩,
    fun hi => effect_next q (imageRead_shows hi), fun hi => effect_next q (imageRead_beyond hi),
    fun h => effect_next q (maquetteCopyComplete_ends h), fun h => effect_next q (maquetteCopyComplete_idle h),
    fun p t => ⟨fun hx => effect_next q (showGates_idle hx),
      fun x hx => ⟨fun h => effect_next q (showGates_overruns hx h), fun h => effect_next q (showGates_finishes hx h)⟩⟩⟩

end Sys2Proof.Machine
end

section
/-! PROOFS. The Reel and the statistics records (R394 to R398, R422 to R425): one lemma for each branch of a command. -/

namespace Sys2Proof.Machine

section Reel

variable {d : Dev}

/-! ## The commands of the Reel (R396) -/

theorem reelCommand_waits {n : Nat} (h : n ≠ 3 ∨ (d.rd Obj.ReelState ≠ 3 ∧ d.rd Obj.ThermalState = 0)) :
    reelCommand n d = { d.wr Obj.ReelCmd n with buf := { d.buf with reelCmd := some n } } := by
  refine if_neg ?_
  obtain h | ⟨hs, ht⟩ := h
  · simp [h]
  · simp [hs, ht]

theorem reelCommand_resumeRefused (h : d.rd Obj.ReelState = 3 ∨ d.rd Obj.ThermalState ≠ 0) :
    reelCommand 3 d = d.wr Obj.ReelCmd 0x80 :=
  if_pos (by simpa using h)

/-! ## Triggers (R396, R397) -/

theorem reelTrigger_ignored (h : d.rd Obj.ReelState ≠ 1) : reelTrigger d = d := if_pos (by simpa using h)

/-- A Reel that records keeps the time of the trigger and marks the next record. -/
def Dev.reelMarked (d : Dev) : Dev :=
  { d.wr Obj.ReelTriggerTime d.now with buf := { d.buf with reelTrigger := true, reelSince := 0 } }

theorem rd_reelMode_marked : d.reelMarked.rd Obj.ReelMode = d.rd Obj.ReelMode :=
  rd_wr_other d _ _ _ (by decide)

section Recording

variable (h : d.rd Obj.ReelState = 1)
include h

/-- A recording in trigger mode fills the region before the trigger. -/
theorem reelWrap_preTrigger (hm : d.rd Obj.ReelMode = 1) :
    d.reelWrap = d.reelSize * d.rdN Obj.ReelPreTrigger / 100 / 32 * 32 :=
  if_pos (by simp [h, hm])

theorem reelTrigger_recording : reelTrigger d =
    if d.reelMarked.rd Obj.ReelMode == 1 then (d.reelMarked.wr Obj.ReelWriteOffset d.reelWrap).reelEnter 2 1 true
    else d.reelMarked.reelEnter 1 1 true :=
  if_neg (by simp [h])

theorem reelTrigger_ring (hm : d.rd Obj.ReelMode ≠ 1) : reelTrigger d = d.reelMarked.reelEnter 1 1 true :=
  (reelTrigger_recording h).trans (if_neg (by rw [rd_reelMode_marked]; simpa using hm))

theorem reelTrigger_post (hm : d.rd Obj.ReelMode = 1) : reelTrigger d =
    (d.reelMarked.wr Obj.ReelWriteOffset (d.reelSize * d.rdN Obj.ReelPreTrigger / 100 / 32 * 32 : Nat)).reelEnter 2 1 true := by
  rw [← reelWrap_preTrigger h hm]
  exact (reelTrigger_recording h).trans (if_pos (by rw [rd_reelMode_marked]; simpa using hm))

end Recording

/-! ## Work item 10 (R397) -/

/-- The hardware triggers: its block is ENABLED and in hardware mode, and the Turn before raised an event of the mask or wrote a
record of the stream. -/
def Dev.reelHit (d : Dev) : Prop :=
  d.on .reelTrigger 0 = true ∧ d.rdB Obj.ModeF7ReelTrigger = false ∧
    ((d.buf.raisedBefore &&& d.rdN Obj.ReelTriggerEventMask) ≠ 0 ∨ d.rdN Obj.ReelTriggerStream ∈ d.buf.recordedBefore)

theorem reelHit_iff : (d.on .reelTrigger 0 && !d.rdB Obj.ModeF7ReelTrigger &&
    ((d.buf.raisedBefore &&& d.rdN Obj.ReelTriggerEventMask) != 0 ||
      d.buf.recordedBefore.contains (d.rdN Obj.ReelTriggerStream))) = true ↔ d.reelHit := by
  simp [Dev.reelHit, and_assoc]

section Due

variable (h : 10 ∈ d.turn.openItems)
include h

theorem reelEvaluation_triggers (hh : d.reelHit) : reelEvaluation d = (reelTrigger d).closeItem 10 :=
  (workItem_open _ rfl h).trans (congrArg (Dev.closeItem · 10) (if_pos (reelHit_iff.2 hh)))

theorem reelEvaluation_passes (hh : ¬d.reelHit) : reelEvaluation d = d.closeItem 10 :=
  (workItem_open _ rfl h).trans (congrArg (Dev.closeItem · 10) (if_neg (mt reelHit_iff.1 hh)))

end Due

theorem reelEvaluation_idle (h : 10 ∉ d.turn.openItems) : reelEvaluation d = d := workItem_closed _ h

end Reel

/-! ## Statistics records (R424, R425) -/

theorem statSnapshot_clears (d : Dev) (p : Nat) :
    let e := (List.range 42).foldl (fun (e : Dev) k => e.setStat p k 0) d
    statSnapshot p d =
      (e.wrV (inst Obj.StatSnapshot p) (.oct (d.statRecord p))).wr (inst Obj.StatLastClearTurn p) (e.rd Obj.TurnNumber) := by
  rw [← Dev.forEach_eq_foldl]
  rfl

/-- Settles O49: a trigger by the state and the mode of the Reel, item 10 by whether it is open and hits, and a record as it is read. -/
theorem theReelAndTheStatistics : Obligations.TheReelAndTheStatistics := by
  intro d q
  refine ⟨effect_next q (reelCommand_waits (.inl (by decide))), effect_next q (reelCommand_waits (.inl (by decide))),
    fun hs ht => effect_next q (reelCommand_waits (.inr ⟨hs, ht⟩)), fun h => effect_next q (reelCommand_resumeRefused h),
    fun h => effect_next q (reelTrigger_ignored h),
    fun h => ⟨fun hm => effect_next q (reelTrigger_ring h hm), fun hm => effect_next q (reelTrigger_post h hm)⟩,
    ⟨fun h hh t ht => ?_, fun h hh => effect_next q (reelEvaluation_passes h hh), fun h => effect_next q (reelEvaluation_idle h)⟩,
    rfl, fun _ => rfl, fun p => effect_next q (statSnapshot_clears d p)⟩
  have hdev : reelTrigger d = t := by
    injection ht with hs
    injection hs
  exact effect_next q ((reelEvaluation_triggers h hh).trans (congrArg (Dev.closeItem · 10) hdev))

end Sys2Proof.Machine
end

section
/-! PROOFS. Steps and the queue, the object store (R499, R500), and event latches (R557, R558). -/

namespace Sys2Proof.Machine

/-! ## Steps and the queue -/

/-- Settles O1: the queue is a list whose front `step` matches. -/
theorem stepRunsTheFrontCommand : Obligations.StepRunsTheFrontCommand := fun _ _ _ => rfl

/-- Settles O8: the arm of every command is `State.effect` of a change of the block alone. -/
theorem everyCommandAnswersAndLeavesTheQueue : Obligations.EveryCommandAnswersAndLeavesTheQueue := by
  intro c d q
  cases c <;> exact ⟨_, rfl⟩

/-! ## Canonical stores (R499, R500) -/

section Canonical

variable {β : Type} {unlisted : Nat → β}

/-- A key below every listed key reads unlisted. -/
theorem sparse_get_of_above {l : List (Nat × β)} {k : Nat} (h : Sparse.above k l) : Sparse.get unlisted l k = unlisted k := by
  induction l with
  | nil => rfl
  | cons e l ih =>
    have hk : e.1 ≠ k := (h e List.mem_cons_self).ne'
    rw [Sparse.get, if_neg hk, ih fun x hx => h x (List.mem_cons_of_mem e hx)]

variable [DecidableEq β]

theorem sparse_wf_cons {a : Nat} {b : β} {l : List (Nat × β)} :
    Sparse.wf unlisted ((a, b) :: l) = true ↔ Sparse.above a l ∧ b ≠ unlisted a ∧ Sparse.wf unlisted l = true := by
  simp only [sparse_wf_iff, sparse_rising_cons, List.forall_mem_cons]
  tauto

/-- What a canonical store lists first, any store that reads the same lists: else its key would read unlisted. -/
theorem sparse_wf_head_le {a a' : Nat} {b b' : β} {l l' : List (Nat × β)} (h : Sparse.wf unlisted ((a, b) :: l) = true)
    (h' : Sparse.wf unlisted ((a', b') :: l') = true)
    (hr : ∀ k, Sparse.get unlisted ((a, b) :: l) k = Sparse.get unlisted ((a', b') :: l') k) : a' ≤ a := by
  by_contra hlt
  obtain ⟨-, hb, -⟩ := sparse_wf_cons.1 h
  obtain ⟨habove, -, -⟩ := sparse_wf_cons.1 h'
  have hbelow : Sparse.above a ((a', b') :: l') :=
    List.forall_mem_cons.2 ⟨not_le.1 hlt, fun e he => (not_le.1 hlt).trans (habove e he)⟩
  have ha := hr a
  rw [sparse_get_of_above hbelow, Sparse.get, if_pos rfl] at ha
  exact hb ha

/-- Canonical stores that read the same are the same list. -/
theorem sparse_ext {l l' : List (Nat × β)} (h : Sparse.wf unlisted l = true) (h' : Sparse.wf unlisted l' = true)
    (hr : ∀ k, Sparse.get unlisted l k = Sparse.get unlisted l' k) : l = l' := by
  induction l generalizing l' with
  | nil =>
    cases l' with
    | nil => rfl
    | cons e l' =>
      obtain ⟨-, hb, -⟩ := sparse_wf_cons.1 h'
      have he := hr e.1
      rw [Sparse.get, Sparse.get, if_pos rfl] at he
      exact absurd he.symm hb
  | cons e l ih =>
    obtain ⟨a, b⟩ := e
    obtain ⟨habove, hb, hl⟩ := sparse_wf_cons.1 h
    cases l' with
    | nil =>
      have he := hr a
      rw [Sparse.get, Sparse.get, if_pos rfl] at he
      exact absurd he hb
    | cons e' l' =>
      obtain ⟨a', b'⟩ := e'
      obtain ⟨habove', -, hl'⟩ := sparse_wf_cons.1 h'
      obtain rfl : a = a' := le_antisymm (sparse_wf_head_le h' h fun k => (hr k).symm) (sparse_wf_head_le h h' hr)
      have hv : b = b' := by simpa [Sparse.get] using hr a
      have htail : ∀ k, Sparse.get unlisted l k = Sparse.get unlisted l' k := by
        intro k
        by_cases hk : a = k
        · subst hk
          rw [sparse_get_of_above habove, sparse_get_of_above habove']
        · simpa [Sparse.get, hk] using hr k
      rw [hv, ih hl hl' htail]

end Canonical

/-- A write of an object keeps the stores canonical. -/
theorem sound_wrV {d : Dev} (k : Nat) (v : Val) (h : d.sound) : (d.wrV k v).sound := by
  obtain ⟨hobjs, hrest⟩ := h
  exact ⟨sparse_wf_set _ _ _ _ hobjs, hrest⟩

/-- Settles O9: reading after writing, and that canonical stores that read the same are the same. -/
theorem objectsReadWhatWasWritten : Obligations.ObjectsReadWhatWasWritten := by
  intro d e k v hd he
  exact ⟨rdV_wrV_same d k v, fun j hj => rdV_wrV_other d k v j hj.symm, sound_wrV k v hd, sparse_ext hd.1 he.1⟩

/-! ## Event latches (R557, R558) -/

section Latch

variable (st : Nat)

theorem latchRaise_pending : latchRaise st / 2 ^ 31 = 1 := by
  unfold latchRaise
  omega

theorem latchRaise_seq : latchRaise st % 4096 = (st + 1) % 4096 := by
  unfold latchRaise
  omega

theorem latchRaise_count : latchRaise st / 2 ^ 16 % 256 = min 255 (st / 2 ^ 16 % 256 + 1) := by
  unfold latchRaise
  omega

/-- After `n` raises SEQ has gone on by `n`, modulo 4,096. -/
theorem iterate_latchRaise_seq (n : Nat) : (latchRaise^[n] st) % 4096 = (st + n) % 4096 := by
  induction n with
  | zero => rfl
  | succ n ih =>
    rw [Function.iterate_succ_apply', latchRaise_seq]
    omega

/-- After `n` raises COUNT has gone on by `n`, as far as 255. -/
theorem iterate_latchRaise_count (n : Nat) : (latchRaise^[n] st) / 2 ^ 16 % 256 = min 255 (st / 2 ^ 16 % 256 + n) := by
  induction n with
  | zero =>
    change st / 2 ^ 16 % 256 = _
    omega
  | succ n ih =>
    rw [Function.iterate_succ_apply', latchRaise_count]
    omega

end Latch

/-- Settles O10: after any number of raises, and so after 4,096, SEQ and COUNT are known. -/
theorem eventLatchSaturatesAndItsSequenceReturns : Obligations.EventLatchSaturatesAndItsSequenceReturns := by
  intro st
  refine ⟨latchRaise_pending st, latchRaise_seq st, latchRaise_count st, ?_, ?_⟩
  · rw [iterate_latchRaise_seq, Nat.add_mod_right]
  · rw [iterate_latchRaise_count]
    omega

end Sys2Proof.Machine
end

section
/-! PROOFS. PERST_N (R588): what the disabling of the rings leaves as it is. -/

namespace Sys2Proof.Machine

/-! ## What frames on their way do not touch -/

/-- The block without the stores that frames pass through: objects, registers, events, counters, tables, queues and rings. -/
def Dev.offFrames (d : Dev) : Dev :=
  { d with objs := [], regs := [], turnEvents := [], freeCount := 0, perf := {}, fwd := {}, buf := {}, rings := [], bus := {} }

theorem offFrames_eq_iff {e d : Dev} : e.offFrames = d.offFrames ↔ e.turn = d.turn ∧ e.time = d.time ∧ e.timing = d.timing ∧
    e.ref = d.ref ∧ e.out = d.out ∧ e.evins = d.evins ∧ e.cal = d.cal ∧ e.line = d.line ∧ e.red = d.red ∧ e.fw = d.fw ∧
    e.spool = d.spool ∧ e.block = d.block ∧ e.dict = d.dict ∧ e.boot = d.boot := by
  simp [Dev.offFrames]

/-- Which rings are enabled, and the block without the stores that frames pass through. -/
def Dev.standing (d : Dev) : (Nat → Bool) × Dev := (fun j => (d.ring j).enable, d.offFrames)

theorem standing_eq_iff {e d : Dev} {f : Nat → Bool} :
    e.standing = (f, d.offFrames) ↔ (∀ j, (e.ring j).enable = f j) ∧ e.offFrames = d.offFrames :=
  Prod.ext_iff.trans (and_congr_left fun _ => funext_iff)

section Standing

variable {d : Dev}

theorem standing_setRing {r : Nat} {f : RingSt → RingSt} (hf : (f (d.ring r)).enable = (d.ring r).enable) :
    (d.setRing r f).standing = d.standing := by
  refine Prod.ext (funext fun j => ?_) rfl
  by_cases hj : r = j
  · subst hj
    exact (congrArg RingSt.enable (ring_setRing_same d r f)).trans hf
  · exact congrArg RingSt.enable (ring_setRing_other d r j f hj)

theorem enable_back (g : RingSt) (x : DescBack) (notify : Bool) : (g.back x notify).enable = g.enable := by
  unfold RingSt.back RingSt.completed
  split <;> rfl

theorem enable_writeBack (g : RingSt) (l : List TxPend) : (g.writeBack l).enable = g.enable := by
  unfold RingSt.writeBack
  extract_lets ready g'
  exact List.foldlRecOn ready _ (motive := fun e => e.enable = g.enable) (rfl : g'.enable = g.enable)
    fun e he t _ => (enable_back e _ _).trans he

theorem standing_txOutcome (ring : Option (Nat × Nat)) (status : Nat) (stamp : Option Int) (d : Dev) :
    (d.txOutcome ring status stamp).standing = d.standing := by
  cases ring with
  | none => rfl
  | some x => exact standing_setRing (enable_writeBack _ _)

theorem standing_addPeak (o peak : Nat) (n : Int) (d : Dev) : (d.addPeak o peak n).standing = d.standing := by
  unfold Dev.addPeak
  extract_lets e
  calc _ = e.standing := when_keeps Dev.standing _ (by intro; rfl) e
    _ = d.standing := rfl

theorem standing_perfCounter (b event i n k : Nat) (d : Dev) : (perfCounter b event i n k d).standing = d.standing := by
  unfold perfCounter
  extract_lets c v w e
  split
  · calc _ = e.standing := rfl
      _ = d.standing := when_keeps Dev.standing _ (by intro; rfl) d
  · rfl

theorem standing_counted (b event i n : Nat) (d : Dev) : (d.counted b event i n).standing = d.standing := by
  unfold Dev.counted
  split
  · exact forEach_keeps Dev.standing (fun k _ => standing_perfCounter b event i n k) d
  · rfl

theorem standing_addLanding (n : Int) (d : Dev) : (d.addLanding n).standing = d.standing :=
  standing_addPeak _ _ n (d.wr Obj.LandingFill (d.rd Obj.LandingFill + n))

theorem standing_addCells (p c : Nat) (pool : Pool) (n : Int) (d : Dev) : (d.addCells p c pool n).standing = d.standing := by
  unfold Dev.addCells
  extract_lets e x
  have he : e.standing = d.standing := by
    unfold e
    split
    · rfl
    · exact standing_addPeak _ _ _ d
  have hx : x.standing = e.standing := by
    unfold x
    split <;> exact (standing_addPeak _ _ _ _).trans (standing_counted _ _ _ _ e)
  cases pool <;> exact hx.trans he

theorem standing_crossing (above : Bool) (fill threshold cells : Int) (ev : Nat) (cause : Int) (d : Dev) :
    (d.crossing above fill threshold cells ev cause).1.standing = d.standing := by
  unfold Dev.crossing
  split
  · rfl
  · split <;> rfl

theorem standing_checkStores (d : Dev) : d.checkStores.standing = d.standing :=
  (standing_crossing _ _ _ _ _ _ _).trans (standing_crossing _ _ _ _ _ _ d)

theorem standing_pauseCheck (p : Nat) (prio : Option Nat) (d : Dev) : (d.pauseCheck p prio).standing = d.standing := by
  unfold Dev.pauseCheck
  extract_lets n off on held
  split
  · rfl
  · split <;> rfl

theorem standing_addIngress (i : Option Nat) (prio : Nat) (n : Int) (d : Dev) : (d.addIngress i prio n).standing = d.standing := by
  cases i with
  | none => rfl
  | some i =>
    unfold Dev.addIngress
    dsimp only
    split
    · rfl
    · split
      · exact standing_pauseCheck _ _ _
      · split
        · exact standing_pauseCheck _ _ _
        · rfl

theorem standing_onFrame (id : Nat) (f : Frame → Frame) (d : Dev) : (d.onFrame id f).standing = d.standing := by
  unfold Dev.onFrame
  split <;> rfl

theorem standing_reapFrame (id : Nat) (d : Dev) : (d.reapFrame id).standing = d.standing := by
  unfold Dev.reapFrame
  split
  · exact when_keeps Dev.standing _ (by intro; rfl) d
  · rfl

theorem standing_freeCopy (x : Copy) (d : Dev) : (d.freeCopy x).standing = d.standing := by
  unfold Dev.freeCopy
  extract_lets a b c
  have hb : b.standing = a.standing := when_keeps Dev.standing _ (standing_addLanding _) a
  have hc : c.standing = d.standing := calc
    _ = b.standing := (standing_checkStores _).trans (standing_addIngress _ _ _ b)
    _ = a.standing := hb
    _ = d.standing := standing_addCells _ _ _ _ d
  split
  · exact (standing_reapFrame _ _).trans ((standing_onFrame _ _ c).trans hc)
  · exact hc

theorem standing_discardAll (status : Nat) (l : List Copy) (d : Dev) : (d.discardAll status l).standing = d.standing := by
  induction l generalizing d with
  | nil => rfl
  | cons x rest ih => exact (ih _).trans ((standing_freeCopy x _).trans (standing_txOutcome _ _ _ d))

end Standing

/-! ## RING_DISABLE and PERST_ASSERT (R554, R588) -/

/-- RING_DISABLE of a ring leaves it disabled, and the other rings and what stands as they were. -/
theorem standing_ringDisable (r : Nat) (d : Dev) :
    (ringDisable r d).standing = (d.setRing r fun g => { g with enable := false }).standing := by
  unfold ringDisable
  extract_lets e ids a b c
  split
  · rfl
  · calc _ = c.standing := standing_setRing (enable_writeBack _ _)
      _ = b.standing := forEach_keeps Dev.standing (fun i _ f => (standing_reapFrame i _).trans (standing_onFrame i _ f)) b
      _ = a.standing := rfl
      _ = e.standing := standing_discardAll _ _ _

theorem enable_ringDisable (r j : Nat) (d : Dev) :
    ((ringDisable r d).ring j).enable = if r = j then false else (d.ring j).enable := by
  rw [(standing_eq_iff.1 (standing_ringDisable r d)).1]
  by_cases hj : r = j
  · subst hj
    simp
  · simp [hj]

/-- Disabling each ring of a list leaves those disabled, and the others and what stands as they were. -/
theorem standing_forEach_ringDisable (l : List Nat) (d : Dev) :
    (d.forEach ringDisable l).standing = (fun j => if j ∈ l then false else (d.ring j).enable, d.offFrames) := by
  induction l generalizing d with
  | nil => rfl
  | cons r rest ih =>
    rw [Dev.forEach, ih]
    refine Prod.ext (funext fun j => ?_) (Prod.ext_iff.1 (standing_ringDisable r d)).2
    simp only [enable_ringDisable, List.mem_cons]
    by_cases hj : r = j <;> by_cases hm : j ∈ rest <;> simp [hj, hm, eq_comm]

/-- Settles O59: PERST_ASSERT is RING_DISABLE of each ring in turn, which leaves what stands as it was. -/
theorem perstDisablesTheRingsAlone : Obligations.PerstDisablesTheRingsAlone := by
  intro d q e
  obtain ⟨hrings, hrest⟩ := standing_eq_iff.1 (standing_forEach_ringDisable (List.range 8) d)
  exact ⟨rfl, fun r => ⟨rfl, (hrings r).trans (if_pos (List.mem_range.2 r.isLt))⟩, offFrames_eq_iff.1 hrest⟩

end Sys2Proof.Machine
end

section
/-! PROOFS. Lane PLLs, port links, host coefficient sets, loops, pattern tests, sleep and FEC (R406, R431, R432, R436, R439, R442 to
R444, R447, R448, R459): one lemma for each branch of a command. -/

namespace Sys2Proof.Machine

section Lanes

variable {d : Dev} {l p u i : Nat}

/-! ## Lane PLLs (R431, R432, R436) -/

theorem lanePllLock_on (h : d.pllRate u i ≠ 0xFF) : lanePllLock u i d =
    (List.range 4).foldl (fun (e : Dev) k => if (e.lane (4 * u + k)).pll = some i then e.txStart (4 * u + k) else e)
      (d.wr (inst Obj.QuadPllLocked u) (setBit (d.rdN (inst Obj.QuadPllLocked u)) i true : Nat)) := by
  simp [lanePllLock, h, Dev.forEach_eq_foldl, Dev.when]

theorem lanePllLock_off (h : d.pllRate u i = 0xFF) : lanePllLock u i d = d := by
  simp [lanePllLock, h]

theorem lanePllLoss_unlocked (h : d.pllLocked u i = false) : lanePllLoss u i d = d := by
  simp [lanePllLoss, h]

/-- The lanes of a quad on a PLL, by their place in it. -/
def Dev.lanesOn (d : Dev) (u i : Nat) : List Nat := (List.range 4).filter fun k => (d.lane (4 * u + k)).pll == some i

theorem lanePllLoss_locked (h : d.pllLocked u i = true) : lanePllLoss u i d =
    ((d.lanesOn u i).foldl (fun (e : Dev) k => e.unclock (4 * u + k))
      (d.wr (inst Obj.QuadPllLocked u) (setBit (d.rdN (inst Obj.QuadPllLocked u)) i false : Nat))).quadEvent u 9
        (4 * u + (d.lanesOn u i).headD 0) := by
  simp [lanePllLoss, h, Dev.forEach_eq_foldl, Dev.lanesOn]

/-! ## Port links (R406, R444) -/

section PortLink

variable {s : Nat} {half : Bool}

theorem portLinkUp_notReady (h : d.on .port p = false ∨ d.lanesUp p = false ∨ d.looped p = true ∨ d.rdB (inst Obj.PortLinkUp p) = true ∨
    d.stopped = true) : portLinkUp p s half d = d := by
  obtain h | h | h | h | h := h <;> simp [portLinkUp, h]

/-- Nothing but the line itself keeps the link of a port down. -/
structure Dev.linkReady (d : Dev) (p : Nat) : Prop where
  enabled : d.on .port p = true
  lanes : d.lanesUp p = true
  unlooped : d.looped p = false
  down : d.rdB (inst Obj.PortLinkUp p) = false
  runs : d.stopped = false

variable (h : d.linkReady p)
include h

theorem portLinkUp_ready : portLinkUp p s half d =
    if d.isSgmii p = true then if half = true then d.inc (inst Obj.MacHalfDuplexRefusedCount p) else d.linkUp p (d.modeRate p s)
    else if d.rdB (inst Obj.LaneBeaconEnable (d.lowLane p)) = true ∧ p ∉ d.line.checked then d
    else d.linkUp p (d.modeRate p s) := by
  simp [portLinkUp, h.enabled, h.lanes, h.unlooped, h.down, h.runs]

theorem portLinkUp_sgmii (hs : d.isSgmii p = true) : portLinkUp p s half d =
    if half = true then d.inc (inst Obj.MacHalfDuplexRefusedCount p) else d.linkUp p (d.modeRate p s) := by
  rw [portLinkUp_ready h, if_pos hs]

theorem portLinkUp_passed (hs : d.isSgmii p = false)
    (hc : d.rdB (inst Obj.LaneBeaconEnable (d.lowLane p)) = false ∨ p ∈ d.line.checked) :
    portLinkUp p s half d = d.linkUp p (d.modeRate p s) := by
  rw [portLinkUp_ready h, if_neg (Bool.eq_false_iff.1 hs), if_neg fun ⟨hb, hn⟩ => hc.elim (fun hf => by simp [hb] at hf) hn]

theorem portLinkUp_awaitsCheck (hs : d.isSgmii p = false) (hb : d.rdB (inst Obj.LaneBeaconEnable (d.lowLane p)) = true)
    (hn : p ∉ d.line.checked) : portLinkUp p s half d = d := by
  rw [portLinkUp_ready h, if_neg (Bool.eq_false_iff.1 hs), if_pos ⟨hb, hn⟩]

end PortLink

/-! ## Host coefficient sets (R439, log entry 48) -/

/-- The coefficient set the host has written for a lane. -/
def Dev.hostCoeffSet (d : Dev) (l : Nat) : List Byte := (d.rdV (inst Obj.LaneHostCoeffs l)).bytes

theorem hostCoeffs_refused (h : coeffsOk (d.hostCoeffSet l) = false) : hostCoeffs l d = d.wr (inst Obj.LaneHostCoeffCmd l) 0x80 := by
  rw [Dev.hostCoeffSet] at h
  simp [hostCoeffs, h]

theorem on_laneAdapt_wr_hostCoeffCmd (v : Int) : (d.wr (inst Obj.LaneHostCoeffCmd l) v).on .laneAdapt l = d.on .laneAdapt l :=
  congrArg (· == 2) (rd_wr_other d (inst Obj.LaneHostCoeffCmd l) v (inst Obj.LaneAdaptBlockState l) (by simp))

theorem hostCoeffs_taken (h : coeffsOk (d.hostCoeffSet l) = true) :
    hostCoeffs l d = (d.wr (inst Obj.LaneHostCoeffCmd l) 1).when ((d.wr (inst Obj.LaneHostCoeffCmd l) 1).on .laneAdapt l &&
      (d.wr (inst Obj.LaneHostCoeffCmd l) 1).rdB (inst Obj.ModeF6LaneAdapt l)) fun e =>
        e.setLane l fun x => { x with hostSet := some (d.hostCoeffSet l), delivered := true, lastHost := some (d.hostCoeffSet l) } := by
  rw [Dev.hostCoeffSet] at h ⊢
  simp [hostCoeffs, h, on_laneAdapt_wr_hostCoeffCmd]

/-! ## Loops (R442 to R444) -/

theorem beaconTx_sends (hp : d.on .port p = true) (hl : d.lanesUp p = true) (hs : d.isSgmii p = false)
    (hb : d.rdB (inst Obj.LaneBeaconEnable (d.lowLane p)) = true) (hr : d.stopped = false) :
    beaconTx p d = if d.rdB (inst Obj.PortLinkUp p) = true then d.sendEngine p .beacon else
      d.countTx p (d.engineFrame p .beacon).length ((d.engineFrame p .beacon).take 6) true false false false := by
  simp [beaconTx, hp, hl, hs, hb, hr]

theorem beaconTx_silent (h : d.on .port p = false ∨ d.lanesUp p = false ∨ d.isSgmii p = true ∨
    d.rdB (inst Obj.LaneBeaconEnable (d.lowLane p)) = false ∨ d.stopped = true) : beaconTx p d = d := by
  obtain h | h | h | h | h := h <;> simp [beaconTx, h]

/-- The lanes of a port show a loop: 1 on the port itself, 2 over another port. -/
def Dev.marksLoop (d : Dev) (p : Nat) (st : Int) : Dev :=
  (d.portLanes p).foldl (fun (e : Dev) k => e.wr (inst Obj.LaneLoopbackState k) st) d

theorem beaconRx_own {a : Nat} (hp : d.on .port p = true) (hl : d.lanesUp p = true)
    (hlo : beNat (d.rdV Obj.MacBaseAddress).bytes ≤ a) (hhi : a ≤ beNat (d.rdV Obj.MacBaseAddress).bytes + 47) :
    beaconRx p a d = ((d.marksLoop p (if a = beNat (d.rdV Obj.MacBaseAddress).bytes + p then 1 else 2)).linkDown p).quadEvent (p / 4) 5
      ((d.marksLoop p (if a = beNat (d.rdV Obj.MacBaseAddress).bytes + p then 1 else 2)).lowLane p) := by
  simp [beaconRx, hp, hl, hlo, hhi, Dev.forEach_eq_foldl, Dev.marksLoop]

theorem beaconRx_foreign {a : Nat} (h : a < beNat (d.rdV Obj.MacBaseAddress).bytes ∨ beNat (d.rdV Obj.MacBaseAddress).bytes + 47 < a ∨
    d.on .port p = false ∨ d.lanesUp p = false) : beaconRx p a d = d := by
  refine if_neg fun hc => ?_
  obtain ⟨⟨⟨hp, hl⟩, hlo⟩, hhi⟩ := by simpa only [Bool.and_eq_true, decide_eq_true_eq] using hc
  obtain h | h | h | h := h
  · exact absurd hlo (not_le.2 h)
  · exact absurd hhi (not_le.2 h)
  · simp [h] at hp
  · simp [h] at hl

theorem loopCheckExpiry_passes (hp : d.on .port p = true) (hl : d.lanesUp p = true) (hn : p ∉ d.line.checked) :
    loopCheckExpiry p d = { d with line := { d.line with checked := d.line.checked ++ [p] } } := by
  simp [loopCheckExpiry, hp, hl, hn]

theorem loopCheckExpiry_idle (h : d.on .port p = false ∨ d.lanesUp p = false ∨ p ∈ d.line.checked) : loopCheckExpiry p d = d := by
  obtain h | h | h := h <;> simp [loopCheckExpiry, h]

theorem loopbackClear_eq : loopbackClear p d =
    (d.portLanes p).foldl (fun (e : Dev) k => e.wr (inst Obj.LaneLoopbackState k) 0) d :=
  Dev.forEach_eq_foldl _ _ _

/-! ## Pattern tests (R447) -/

section Pattern

variable {n e : Nat}

theorem ptLock_eq : ptLock l n e d = if d.on .patternTest l = true ∧ d.rd (inst Obj.PtRxPattern l) ≠ 0 then
    (d.wr (inst Obj.PtCheckerLocked l) 1).ptCount l n e else d := by
  simp [ptLock, Dev.when]

theorem ptLockLoss_eq : ptLockLoss l n e d = if d.rdB (inst Obj.PtCheckerLocked l) = true then
    ((d.ptCount l n e).wr (inst Obj.PtCheckerLocked l) 0).inc (inst Obj.PtLockLossCount l) else d := rfl

end Pattern

/-! ## Sleep (R448) -/

theorem sleep_refused (h : d.quadMode (l / 4) = 3) : laneTxSleep l d = d.wr (inst Obj.LaneTxSleepCmd l) 0x80 ∧
    laneTxWake l d = d.wr (inst Obj.LaneTxSleepCmd l) 0x80 ∧ laneRxSleep l d = d.wr (inst Obj.LaneRxSleepCmd l) 0x80 ∧
    laneRxWake l d = d.wr (inst Obj.LaneRxSleepCmd l) 0x80 := by
  simp [laneTxSleep, laneTxWake, laneRxSleep, laneRxWake, h]

section Awake

variable (h : d.quadMode (l / 4) ≠ 3)
include h

theorem laneTxSleep_eq : laneTxSleep l d = if (d.wr (inst Obj.LaneTxSleepCmd l) 1).rd (inst Obj.LaneTxState l) = 2 then
    ((d.wr (inst Obj.LaneTxSleepCmd l) 1).wr (inst Obj.LaneTxState l) 3).linkDown ((d.wr (inst Obj.LaneTxSleepCmd l) 1).portOfLane l)
    else d.wr (inst Obj.LaneTxSleepCmd l) 1 := by
  simp [laneTxSleep, h, Dev.when]

theorem laneTxWake_eq : laneTxWake l d = if d.rd (inst Obj.LaneTxState l) = 3 then
    (d.wr (inst Obj.LaneTxSleepCmd l) 2).wr (inst Obj.LaneTxState l) 2 else d.wr (inst Obj.LaneTxSleepCmd l) 2 := by
  simp [laneTxWake, h, Dev.when]

theorem laneRxSleep_eq : laneRxSleep l d = if d.rxState l = 5 then (d.wr (inst Obj.LaneRxSleepCmd l) 1).rxTo l 6
    else d.wr (inst Obj.LaneRxSleepCmd l) 1 := by
  simp [laneRxSleep, h, Dev.when]

theorem laneRxWake_eq : laneRxWake l d = if d.rxState l = 6 then (d.wr (inst Obj.LaneRxSleepCmd l) 2).rxTo l 2
    else d.wr (inst Obj.LaneRxSleepCmd l) 2 := by
  simp [laneRxWake, h, Dev.when]

end Awake

end Lanes

/-- Settles O51: of each command by whether it may act. That LaneHostCoeffCmd reads 1 after any set in range is log entry 48, and
cause 5 at each beacon received log entry 24: the model's choices. -/
theorem lanesCarryLinksTestsAndSleep : Obligations.LanesCarryLinksTestsAndSleep := by
  intro d q l p u
  refine ⟨fun i => ⟨?_, ?_, ?_, ?_⟩, fun s half => ⟨fun hp hl hu hd hr => ?_, fun h => effect_next q (portLinkUp_notReady h)⟩, rfl, ⟨?_, ?_, ?_⟩,
    fun hp hl hs hb hr => ⟨fun hu => ?_, fun hu => ?_⟩, fun h => effect_next q (beaconTx_silent h),
    fun a => ⟨fun hp hl hlo hhi => effect_next q (beaconRx_own hp hl hlo hhi), fun h => effect_next q (beaconRx_foreign h)⟩,
    fun hp hl hn => effect_next q (loopCheckExpiry_passes hp hl hn), fun h => effect_next q (loopCheckExpiry_idle h),
    effect_next q loopbackClear_eq, rfl, rfl, fun n e => ⟨?_, ?_, ?_, ?_⟩, fun h => ?_, fun h => ⟨?_, ?_, ?_, ?_⟩, fun c => rfl⟩
  · exact fun h => effect_next q (lanePllLock_on h)
  · exact fun h => effect_next q (lanePllLock_off h)
  · exact fun h => effect_next q (lanePllLoss_unlocked h)
  · exact fun h => effect_next q (lanePllLoss_locked h)
  · have hready : d.linkReady p := ⟨hp, hl, hu, hd, hr⟩
    exact ⟨fun hs hh => effect_next q ((portLinkUp_sgmii hready hs).trans (if_neg (Bool.eq_false_iff.1 hh))),
      fun hs hh => effect_next q ((portLinkUp_sgmii hready hs).trans (if_pos hh)),
      fun hs hc => effect_next q (portLinkUp_passed hready hs hc),
      fun hs hb hn => effect_next q (portLinkUp_awaitsCheck hready hs hb hn)⟩
  · exact fun hok hd => effect_next q ((hostCoeffs_taken hok).trans (if_pos (Bool.and_eq_true_iff.2 hd)))
  · exact fun hok hd => effect_next q ((hostCoeffs_taken hok).trans (if_neg (mt Bool.and_eq_true_iff.1 hd)))
  · exact fun hok => effect_next q (hostCoeffs_refused hok)
  · exact effect_next q ((beaconTx_sends hp hl hs hb hr).trans (if_pos hu))
  · exact effect_next q ((beaconTx_sends hp hl hs hb hr).trans (if_neg (Bool.eq_false_iff.1 hu)))
  · exact fun ho hx => effect_next q (ptLock_eq.trans (if_pos ⟨ho, hx⟩))
  · exact fun h => effect_next q (ptLock_eq.trans (if_neg fun ⟨ho, hx⟩ => h.elim (Bool.eq_false_iff.1 · ho) hx))
  · exact fun h => effect_next q (ptLockLoss_eq.trans (if_pos h))
  · exact fun h => effect_next q (ptLockLoss_eq.trans (if_neg (Bool.eq_false_iff.1 h)))
  · obtain ⟨hts, htw, hrs, hrw⟩ := sleep_refused h
    exact ⟨effect_next q hts, effect_next q htw, effect_next q hrs, effect_next q hrw⟩
  · exact ⟨fun hs => effect_next q ((laneTxSleep_eq h).trans (if_pos hs)), fun hs => effect_next q ((laneTxSleep_eq h).trans (if_neg hs))⟩
  · exact ⟨fun hs => effect_next q ((laneTxWake_eq h).trans (if_pos hs)), fun hs => effect_next q ((laneTxWake_eq h).trans (if_neg hs))⟩
  · exact ⟨fun hs => effect_next q ((laneRxSleep_eq h).trans (if_pos hs)), fun hs => effect_next q ((laneRxSleep_eq h).trans (if_neg hs))⟩
  · exact ⟨fun hs => effect_next q ((laneRxWake_eq h).trans (if_pos hs)), fun hs => effect_next q ((laneRxWake_eq h).trans (if_neg hs))⟩

end Sys2Proof.Machine
end

section
/-! PROOFS. Native Quads (R449 to R456): the thinning window, lane-set blocks, markers, lost lanes and restores, one lemma for each
branch of a command. -/

namespace Sys2Proof.Machine

section NativeQuad

variable {d : Dev} {u : Nat}

/-! ## What a thinning window decides by (R452, R456) -/

/-- How many lanes transmit. -/
def Dev.nqLanes (d : Dev) (u : Nat) : Nat := lanesIn (d.rdN (inst Obj.NqActiveTxSet u))

/-- Windows in a row, this one included, whose load half the lanes would carry. -/
def Dev.quietRun (d : Dev) (u w : Nat) : Nat :=
  if 2 ≤ d.nqLanes u ∧ w * 100 ≤ d.rdN (inst Obj.NqThinLow u) * (d.nqLanes u / 2) * 3125000 then (d.nq u).low + 1 else 0

/-- The window is counted. -/
def Dev.windowCounted (d : Dev) (u w : Nat) : Dev := d.setNq u fun x => { x with low := d.quietRun u w }

/-- The thermal limit calls for two lanes. -/
def Dev.nqCools (d : Dev) (u : Nat) : Bool := d.rd Obj.ThermalState == 1 && decide (2 < d.nqLanes u)

theorem nqCools_iff : d.nqCools u = true ↔ d.rd Obj.ThermalState = 1 ∧ 2 < d.nqLanes u := by
  simp [Dev.nqCools]

/-- After `m` quiet windows the link may thin to half its lanes. -/
def Dev.nqThins (d : Dev) (u m : Nat) : Bool :=
  d.rdB (inst Obj.NqThinEnable u) && decide (d.rdN (inst Obj.NqThinHold u) ≤ m) &&
    decide (d.rdN (inst Obj.NqMinTxLanes u) ≤ d.nqLanes u / 2) && decide (2 ≤ d.nqLanes u)

theorem nqThins_iff {m : Nat} : d.nqThins u m = true ↔ d.rdB (inst Obj.NqThinEnable u) = true ∧ d.rdN (inst Obj.NqThinHold u) ≤ m ∧
    d.rdN (inst Obj.NqMinTxLanes u) ≤ d.nqLanes u / 2 ∧ 2 ≤ d.nqLanes u := by
  simp [Dev.nqThins, and_assoc]

/-- The widest set a widening goes to out of the lanes the peer reports good. -/
def Dev.nqTarget (d : Dev) (u good : Nat) : Nat :=
  nqSet good (d.nqTiming u (d.rdN (inst Obj.NqActiveTxSet u)))
    (if d.rdB (inst Obj.NqThinEnable u) = true then (if d.rd Obj.ThermalState = 1 then min 2 (2 * d.nqLanes u) else 2 * d.nqLanes u)
      else if d.rd Obj.ThermalState = 1 then 2 else 4)

/-- The load, or a queue, calls for more lanes. -/
def Dev.nqBusy (d : Dev) (u w : Nat) : Bool :=
  decide (d.rdN (inst Obj.NqWidenHigh u) * d.nqLanes u * 3125000 ≤ w * 100) ||
    (List.range 8).any fun c => decide (d.rdN (inst Obj.NqWidenCells u) ≤ d.rdN (queueObj Obj.QueueFill (4 * u) c))

/-- The link is to widen. -/
def Dev.nqWidens (d : Dev) (u w good : Nat) : Bool :=
  (d.nqBusy u w || !d.rdB (inst Obj.NqThinEnable u)) && decide (d.nqLanes u < lanesIn (d.nqTarget u good))

theorem nqWidens_iff {w good : Nat} : d.nqWidens u w good = true ↔
    ((d.rdN (inst Obj.NqWidenHigh u) * d.nqLanes u * 3125000 ≤ w * 100 ∨
      ∃ c < 8, d.rdN (inst Obj.NqWidenCells u) ≤ d.rdN (queueObj Obj.QueueFill (4 * u) c)) ∨ ¬d.rdB (inst Obj.NqThinEnable u) = true) ∧
    d.nqLanes u < lanesIn (d.nqTarget u good) := by
  simp [Dev.nqWidens, Dev.nqBusy]

/-! ## The thinning window -/

section Window

variable {w : Nat}

theorem nqThinWindow_idle (h : d.isNq (4 * u) = false ∨ d.rdB (inst Obj.PortLinkUp (4 * u)) = false ∨ d.looped (4 * u) = true) :
    nqThinWindow u w d = d := by
  obtain h | h | h := h <;> simp [nqThinWindow, h]

/-- What a window without a change in progress leads to. -/
def Dev.windowActs (d : Dev) (u w good : Nat) (m : Nat) : Dev :=
  if d.nqCools u = true then d.nqName u (nqSet (d.rdN (inst Obj.NqActiveTxSet u)) (d.nqTiming u (d.rdN (inst Obj.NqActiveTxSet u))) 2) false
  else if d.nqThins u m = true then
    d.nqName u (nqSet (d.rdN (inst Obj.NqActiveTxSet u)) (d.nqTiming u (d.rdN (inst Obj.NqActiveTxSet u))) (d.nqLanes u / 2)) false
  else if d.nqWidens u w good = true then d.nqWiden u (d.nqTarget u good) else d

section Up

variable (hq : d.isNq (4 * u) = true) (hu : d.rdB (inst Obj.PortLinkUp (4 * u)) = true) (hl : d.looped (4 * u) = false)
include hq hu hl

theorem nqThinWindow_up : nqThinWindow u w d =
    if (d.nq u).txNext.isSome || (d.nq u).widening.isSome then d.windowCounted u w
    else (d.windowCounted u w).windowActs u w (d.nq u).peerGood (d.quietRun u w) := by
  have hquiet : d.quietRun u w = if decide (2 ≤ d.nqLanes u) &&
      decide (w * 100 ≤ d.rdN (inst Obj.NqThinLow u) * (d.nqLanes u / 2) * 3125000) then (d.nq u).low + 1 else 0 := by
    simp [Dev.quietRun]
  unfold nqThinWindow
  extract_lets p x now n lane quiet low e timing warm enabled best minOk full busy target
  rw [if_neg (by simp [p, hq, hu, hl])]
  have he : e = d.windowCounted u w := by simp only [e, low, quiet, Dev.windowCounted, hquiet]; rfl
  clear_value e
  subst he
  have hlow : low = d.quietRun u w := hquiet.symm
  have hwarm : (warm = true) = ((d.windowCounted u w).rd Obj.ThermalState = 1) := by simp [warm]
  have htarget : target = (d.windowCounted u w).nqTarget u (d.nq u).peerGood := by
    simp only [target, best, hwarm, Dev.nqTarget]
    split <;> rfl
  rw [hlow, htarget]
  rfl

theorem nqThinWindow_waits (h : (d.nq u).txNext ≠ none ∨ (d.nq u).widening ≠ none) : nqThinWindow u w d = d.windowCounted u w :=
  (nqThinWindow_up hq hu hl).trans (if_pos (by simpa [Option.isSome_iff_ne_none] using h))

theorem nqThinWindow_acts (hn : (d.nq u).txNext = none) (hw : (d.nq u).widening = none) :
    nqThinWindow u w d = (d.windowCounted u w).windowActs u w (d.nq u).peerGood (d.quietRun u w) :=
  (nqThinWindow_up hq hu hl).trans (if_neg (by simp [hn, hw]))

end Up

end Window

/-! ## Lane-set blocks (R450, R453, R454) -/

section Block

variable {s good ack : Nat}

theorem nqBlockRx_idle (h : d.isNq (4 * u) = false ∨ d.rdB (inst Obj.PortLinkUp (4 * u)) = false) : nqBlockRx u s good ack d = d := by
  obtain h | h := h <;> simp [nqBlockRx, h]

/-- What the peer offers and reports good is kept. -/
def Dev.peerTaken (d : Dev) (u s good : Nat) : Dev :=
  d.setNq u fun n => { n with peerGood := good % 16, rxNext := if s % 16 == d.rdN (inst Obj.NqActiveRxSet u) then none else some (s % 16) }

theorem widening_peerTaken : ((d.peerTaken u s good).nq u).widening = (d.nq u).widening := by
  rw [Dev.peerTaken, nq_setNq_same]

variable (hq : d.isNq (4 * u) = true) (hu : d.rdB (inst Obj.PortLinkUp (4 * u)) = true)
include hq hu

theorem nqBlockRx_noneGood (h : d.rdN (inst Obj.NqActiveTxSet u) &&& (good % 16) = 0) : nqBlockRx u s good ack d = d.peerTaken u s good := by
  simp [nqBlockRx, hq, hu, h, Dev.peerTaken]

theorem nqBlockRx_retreats (h0 : d.rdN (inst Obj.NqActiveTxSet u) &&& (good % 16) ≠ 0)
    (hn : d.rdN (inst Obj.NqActiveTxSet u) &&& (good % 16) ≠ d.rdN (inst Obj.NqActiveTxSet u)) : nqBlockRx u s good ack d =
      (d.peerTaken u s good).nqName u (nqSet (d.rdN (inst Obj.NqActiveTxSet u) &&& (good % 16))
        ((d.peerTaken u s good).nqTiming u (d.rdN (inst Obj.NqActiveTxSet u) &&& (good % 16)))
        (if 2 ≤ lanesIn (d.rdN (inst Obj.NqActiveTxSet u) &&& (good % 16)) then 2 else 1)) true := by
  simp [nqBlockRx, hq, hu, h0, hn, Dev.peerTaken]

section AllGood

variable (hn : d.rdN (inst Obj.NqActiveTxSet u) &&& (good % 16) = d.rdN (inst Obj.NqActiveTxSet u)) (h0 : d.rdN (inst Obj.NqActiveTxSet u) ≠ 0)
include hn h0

theorem nqBlockRx_keeps (hw : ((d.peerTaken u s good).nq u).widening = none) : nqBlockRx u s good ack d = d.peerTaken u s good := by
  rw [widening_peerTaken] at hw
  simp [nqBlockRx, hq, hu, hn, h0, hw, Dev.peerTaken]

theorem nqBlockRx_completes {x : Nat} (hw : ((d.peerTaken u s good).nq u).widening = some x) : nqBlockRx u s good ack d =
    if x &&& ((ack % 16) ||| d.rdN (inst Obj.NqActiveTxSet u)) = x then (d.peerTaken u s good).nqName u x false else d.peerTaken u s good := by
  rw [widening_peerTaken] at hw
  simp [nqBlockRx, hq, hu, hn, h0, hw, Dev.when, Dev.peerTaken]

end AllGood

end Block

/-! ## Markers (R453, log entry 24) -/

section Marker

variable {s : Nat}

theorem nqTxAt_rxNone (h : (d.nq u).rxNext = none) : nqTxAt u true d = d := by
  simp [nqTxAt, h]

theorem nqTxAt_rx (h : (d.nq u).rxNext = some s) : nqTxAt u true d =
    (List.range 4).foldl (fun (e : Dev) k => if bit (d.rdN (inst Obj.NqActiveRxSet u)) k = true ∧ bit s k = false ∧ e.rxState (4 * u + k) = 5
      then e.rxTo (4 * u + k) 6 else e) ((d.wr (inst Obj.NqActiveRxSet u) (s : Nat)).setNq u fun n => { n with rxNext := none }) := by
  simp [nqTxAt, h, Dev.forEach_eq_foldl, Dev.when, and_assoc]

theorem nqTxAt_txNone (h : (d.nq u).txNext = none) : nqTxAt u false d = d := by
  simp [nqTxAt, h]

theorem nqTxAt_retreat (h : (d.nq u).txNext = some (s, true)) : nqTxAt u false d =
    (d.wr (inst Obj.NqActiveTxSet u) (s : Nat)).setNq u fun n => { n with txNext := none, low := 0 } := by
  simp [nqTxAt, h]

/-- The set named for transmission takes effect, and the lanes that leave it go to sleep. -/
def Dev.txChanged (d : Dev) (u s : Nat) : Dev :=
  (List.range 4).foldl (fun (e : Dev) k => if bit (d.rdN (inst Obj.NqActiveTxSet u)) k = true ∧ bit s k = false ∧
    e.rd (inst Obj.LaneTxState (4 * u + k)) = 2 then e.wr (inst Obj.LaneTxState (4 * u + k)) 3 else e)
      ((d.wr (inst Obj.NqActiveTxSet u) (s : Nat)).setNq u fun n => { n with txNext := none, low := 0 })

theorem nqTxAt_change (h : (d.nq u).txNext = some (s, false)) : nqTxAt u false d =
    ((d.txChanged u s).inc (inst Obj.NqThinCount u)).quadEvent u 8 ((d.txChanged u s).timingLane (4 * u)) := by
  simp [nqTxAt, h, Dev.forEach_eq_foldl, Dev.when, and_assoc, Dev.txChanged]

end Marker

/-! ## Lost lanes and restores (R449, R454, R455) -/

section Lane

variable {k : Nat}

theorem nqMarkerLoss_idle (h : d.isNq (4 * u) = false ∨ bit (d.nq u).good k = false) : nqMarkerLoss u k d = d := by
  obtain h | h := h <;> simp [nqMarkerLoss, h]

/-- A lane is no longer good. -/
def Dev.laneLost (d : Dev) (u k : Nat) : Dev := d.setNq u fun n => { n with good := setBit n.good k false, lost := setBit n.lost k true }

theorem nqMarkerLoss_loses (hq : d.isNq (4 * u) = true) (hg : bit (d.nq u).good k = true) : nqMarkerLoss u k d =
    if ((d.laneLost u k).nq u).good = 0 then (d.laneLost u k).linkDown (4 * u) else d.laneLost u k := by
  simp [nqMarkerLoss, hq, hg, Dev.when, Dev.laneLost]

theorem nqLaneLoss_idle {n : Nat} (h : d.isNq (4 * u) = false ∨ d.rdB (inst Obj.PortLinkUp (4 * u)) = false ∨
    bit (d.rdN (inst Obj.NqActiveRxSet u)) k = false ∨ bit (d.nq u).good k = true) : nqLaneLoss u k n d = d := by
  obtain h | h | h | h := h <;> simp [nqLaneLoss, h]

/-- The frames that a lost lane hit are discarded and counted, and the retreat is counted and reported. -/
def Dev.retreatCounted (d : Dev) (u k n : Nat) : Dev :=
  (((d.add32 (inst Obj.NqRetreatDiscardCount u) n).count (4 * u) 10 n).inc (inst Obj.NqRetreatCount u)).quadEvent u 6 (4 * u + k)

theorem nqLaneLoss_retreats {n : Nat} (hq : d.isNq (4 * u) = true) (hu : d.rdB (inst Obj.PortLinkUp (4 * u)) = true)
    (ha : bit (d.rdN (inst Obj.NqActiveRxSet u)) k = true) (hg : bit (d.nq u).good k = false) : nqLaneLoss u k n d =
      if d.rdN (inst Obj.NqActiveRxSet u) &&& (d.nq u).good = 0 then (d.retreatCounted u k n).linkDown (4 * u)
      else (((((d.retreatCounted u k n).wr (inst Obj.NqActiveRxSet u)
        (nqSet (d.rdN (inst Obj.NqActiveRxSet u) &&& (d.nq u).good) (lowBit (d.rdN (inst Obj.NqActiveRxSet u) &&& (d.nq u).good))
          (if 2 ≤ lanesIn (d.rdN (inst Obj.NqActiveRxSet u) &&& (d.nq u).good) then 2 else 1) : Nat)).setNq u
            fun x => { x with rxNext := none }).nqAnnounce u).moveTiming (4 * u)
              (4 * u + lowBit (d.rdN (inst Obj.NqActiveRxSet u) &&& (d.nq u).good))) := by
  simp [nqLaneLoss, hq, hu, ha, hg, Dev.retreatCounted]

theorem nqRestore_eq : nqRestore u k d = if d.isNq (4 * u) = true ∧ bit (d.nq u).lost k = true ∧ d.rxState (4 * u + k) = 5 then
    ((d.setNq u fun n => { n with good := setBit n.good k true, lost := setBit n.lost k false }).nqAnnounce u).quadEvent u 6 (4 * u + k)
    else d := by
  simp [nqRestore, and_assoc]

end Lane

end NativeQuad

/-- Settles O52: of each command by whether the link is one of a Native Quad, and by its sets. A retreat at the transmitter without
count or event, and dropped lanes that stay ACTIVE, are the model's choices (log entry 24). -/
theorem nativeQuadsThinRetreatAndRestore : Obligations.NativeQuadsThinRetreatAndRestore := by
  intro d q u k
  refine ⟨fun w => ⟨fun h => effect_next q (nqThinWindow_idle h), fun hq hu hl => ?_⟩,
    fun s at_ good ack seq => ⟨fun h => effect_next q (nqBlockRx_idle h), fun hq hu => ?_⟩,
    fun h => effect_next q (nqTxAt_rxNone h), fun s h => effect_next q (nqTxAt_rx h), fun h => effect_next q (nqTxAt_txNone h),
    fun s h => effect_next q (nqTxAt_retreat h), fun s h => effect_next q (nqTxAt_change h),
    fun h => effect_next q (nqMarkerLoss_idle h), fun hq hg => ?_, fun n => ⟨fun h => effect_next q (nqLaneLoss_idle h), fun hq hu ha hg => ?_⟩,
    fun hq hb hs => effect_next q (nqRestore_eq.trans (if_pos ⟨hq, hb, hs⟩)), fun h => effect_next q (nqRestore_eq.trans (if_neg ?_))⟩
  · intro n quiet lane m e now t warm enabled full busy cools thins most target widens
    refine ⟨fun h => effect_next q (nqThinWindow_waits hq hu hl h), fun hn hw => ?_⟩
    have hacts := nqThinWindow_acts (w := w) hq hu hl hn hw
    have hcools : e.nqCools u = true ↔ cools := nqCools_iff
    have hthins : e.nqThins u m = true ↔ thins := nqThins_iff
    have hwidens : e.nqWidens u w (d.nq u).peerGood = true ↔ widens := nqWidens_iff
    exact ⟨fun hc => effect_next q (hacts.trans (if_pos (hcools.2 hc))),
      fun hc ht => effect_next q (hacts.trans ((if_neg (mt hcools.1 hc)).trans (if_pos (hthins.2 ht)))),
      fun hc ht hx => effect_next q (hacts.trans ((if_neg (mt hcools.1 hc)).trans ((if_neg (mt hthins.1 ht)).trans (if_pos (hwidens.2 hx))))),
      fun hc ht hx => effect_next q (hacts.trans ((if_neg (mt hcools.1 hc)).trans ((if_neg (mt hthins.1 ht)).trans (if_neg (mt hwidens.1 hx)))))⟩
  · exact ⟨fun h => effect_next q (nqBlockRx_noneGood hq hu h), fun h0 hn => effect_next q (nqBlockRx_retreats hq hu h0 hn),
      fun hn h0 hw => effect_next q (nqBlockRx_keeps hq hu hn h0 hw), fun hn h0 x hw =>
      ⟨fun hx => effect_next q ((nqBlockRx_completes hq hu hn h0 hw).trans (if_pos hx)),
        fun hx => effect_next q ((nqBlockRx_completes hq hu hn h0 hw).trans (if_neg hx))⟩⟩
  · exact ⟨fun h => effect_next q ((nqMarkerLoss_loses hq hg).trans (if_neg h)), fun h => effect_next q ((nqMarkerLoss_loses hq hg).trans (if_pos h))⟩
  · exact ⟨fun h => effect_next q ((nqLaneLoss_retreats hq hu ha hg).trans (if_pos h)),
      fun h => effect_next q ((nqLaneLoss_retreats hq hu ha hg).trans (if_neg h))⟩
  · rintro ⟨hq, hb, hs⟩
    simp [hq, hb, hs] at h

end Sys2Proof.Machine
end

section
/-! PROOFS. Redundant units (R469, R481, R482, R485 to R488): checker flags, self-tests, returns, switches and reverts, one lemma for
each branch of a command. -/

namespace Sys2Proof.Machine

section Units

variable {d : Dev} {u p : Nat}

/-! ## Self-tests (R469, R481, R482, R485) -/

theorem selfTestCycle_outOfService {f c n : Nat} (h : d.unitState u < 2) : selfTestCycle u f c n d = d := by
  simp [selfTestCycle, h]

/-- The cycle of a unit in service is recorded with the errors it found. -/
def Dev.cycleRecorded (d : Dev) (u f c n : Nat) : Dev :=
  (d.recordCycle u f).setUnit u fun x => { x with corrected := (x.corrected + c) % 2 ^ 32, uncorrected := (x.uncorrected + n) % 2 ^ 32 }

section InService

variable {f c n : Nat} (h : 2 ≤ d.unitState u)
include h

theorem selfTestCycle_active (ha : (d.cycleRecorded u f c n).unitState u = 3) : selfTestCycle u f c n d =
    (d.cycleRecorded u f c n).when (n != 0) fun e => e.setUnit u fun x => { x with checker := true } :=
  (if_neg (mt of_decide_eq_true (not_lt.2 h))).trans (if_pos (beq_iff_eq.2 ha))

theorem selfTestCycle_standby (ha : (d.cycleRecorded u f c n).unitState u ≠ 3) : selfTestCycle u f c n d =
    (d.cycleRecorded u f c n).when (f &&& (d.cycleRecorded u f c n).selfTestItems u != 0) fun e =>
      ((e.outOfService u 4).record 51).setPair (u / 2) fun x => { x with revert := false, holdFrom := none } :=
  (if_neg (mt of_decide_eq_true (not_lt.2 h))).trans (if_neg (mt beq_iff_eq.1 ha))

end InService

theorem isolatedTest_isolated {f : Nat} (h : d.isolated u = true) : isolatedTest u f d =
    if ((d.recordCycle u f).unit u).passed = true then (d.recordCycle u f).unitSync u else d.recordCycle u f := by
  simp [isolatedTest, h, Dev.when]

theorem isolatedTest_idle {f : Nat} (h : d.isolated u = false) : isolatedTest u f d = d := by
  simp [isolatedTest, h]

/-! ## Return, switch and revert (R485, R487, R488) -/

theorem redReturn_held (h : (d.unit u).held = true) :
    redReturn u d = (d.wr (inst Obj.RedReturnCmd u) 1).setUnit u fun x => { x with held := false, returning := true } :=
  if_pos h

theorem redReturn_refused (h : (d.unit u).held = false) : redReturn u d = d.wr (inst Obj.RedReturnCmd u) 0x80 :=
  if_neg (Bool.eq_false_iff.1 h)

theorem redSwitch_accepted (h : d.available p = true) : redSwitch p d = d.wr (inst Obj.RedSwitchCmd p) 1 := by
  rw [redSwitch, if_pos h]

theorem redSwitch_refused (h : d.available p = false) : redSwitch p d = d.wr (inst Obj.RedSwitchCmd p) 0x80 := by
  rw [redSwitch, if_neg (Bool.eq_false_iff.1 h)]

theorem revertHold_eq : revertHold p d =
    if d.rdN (inst Obj.RedPreferred p) = d.standbyUnit p - 2 * p ∧ d.available p = true ∧ (d.pair p).holdFrom ≠ none then
      d.setPair p fun x => { x with revert := true } else d := by
  simp [revertHold, Dev.when, Option.isSome_iff_ne_none, and_assoc]

theorem coreLoad_eq : coreLoad p d =
    if d.unitState (2 + p) = 1 then d.setUnit (2 + p) fun x => { x with loaded := true } else d := by
  simp [coreLoad, Dev.when]

end Units

/-- Settles O53: of each command by the state of its unit or pair. That an isolated self-test that fails leaves cause and state as
they are is the model's choice (log entry 28). -/
theorem redundantUnitsAreTestedAndReturned : Obligations.RedundantUnitsAreTestedAndReturned := by
  intro d q u
  refine ⟨rfl, fun f c n => ⟨fun h => effect_next q (selfTestCycle_outOfService h), fun h => ⟨?_, ?_, ?_, ?_⟩⟩,
    fun f => ⟨?_, ?_, fun h => effect_next q (isolatedTest_idle h)⟩,
    fun h => effect_next q (redReturn_held h), fun h => effect_next q (redReturn_refused h),
    fun p => ⟨fun h => effect_next q (redSwitch_accepted h), fun h => effect_next q (redSwitch_refused h), ?_, ?_, ?_, ?_⟩⟩
  · exact fun ha hn => effect_next q ((selfTestCycle_active h ha).trans (if_pos (bne_iff_ne.2 hn)))
  · exact fun ha hn => effect_next q ((selfTestCycle_active h ha).trans (if_neg (by simpa using hn)))
  · exact fun ha hf => effect_next q ((selfTestCycle_standby h ha).trans (if_pos (bne_iff_ne.2 hf)))
  · exact fun ha hf => effect_next q ((selfTestCycle_standby h ha).trans (if_neg (mt bne_iff_ne.1 (not_not.2 hf))))
  · exact fun h hp => effect_next q ((isolatedTest_isolated h).trans (if_pos hp))
  · exact fun h hp => effect_next q ((isolatedTest_isolated h).trans (if_neg (Bool.eq_false_iff.1 hp)))
  · exact fun hp ha hh => effect_next q (revertHold_eq.trans (if_pos ⟨hp, ha, hh⟩))
  · exact fun h => effect_next q (revertHold_eq.trans (if_neg fun ⟨hp, ha, hh⟩ => by simp [hp, ha, hh] at h))
  · exact fun h => effect_next q (coreLoad_eq.trans (if_pos h))
  · exact fun h => effect_next q (coreLoad_eq.trans (if_neg h))

end Sys2Proof.Machine
end

section
/-! PROOFS. Firmware update (R490, R491, R493, R593): one lemma for each branch of a command. -/

namespace Sys2Proof.Machine

section Firmware

variable {d : Dev}

/-! ## Staging and verification (R490, R592) -/

theorem stageData_beyond {bs : List Byte} (h : 8388608 ≤ d.rdN Obj.FwStageOffset) : stageData bs d = d := if_pos h

/-- 64 bytes go to the place in the scratch partition that `at_` names. -/
def Dev.scratchPut (d : Dev) (at_ : Nat) (bs : List Byte) : Dev :=
  { d with fw := { d.fw with scratch := writeBytes d.fw.scratch at_ (bs.take 64) } }

/-- A staging write begins an update unless one runs (log entry 29). -/
theorem stageData_stages {bs : List Byte} (h : d.rdN Obj.FwStageOffset < 8388608) : stageData bs d =
    ((d.wr Obj.FwStageOffset (d.rdN Obj.FwStageOffset + 64 : Nat)).when
      (decide (d.rd Obj.FwUpdateState ≤ 2) || d.rd Obj.FwUpdateState == 8 || d.rd Obj.FwUpdateState == 9) fun e =>
        e.wr Obj.FwUpdateState 1).scratchPut (d.rdN Obj.FwStageOffset) bs :=
  if_neg (not_le.2 h)

theorem fwVerify_refused (h3 : 3 ≤ d.rd Obj.FwUpdateState) (h7 : d.rd Obj.FwUpdateState ≤ 7) :
    fwVerify d = d.wr Obj.FwUpdateCmd 0x80 := by
  simp [fwVerify, h3, h7]

theorem fwVerify_begins (h : d.rd Obj.FwUpdateState < 3 ∨ 7 < d.rd Obj.FwUpdateState) :
    fwVerify d = { d.wr Obj.FwUpdateCmd 1 with fw := { d.fw with verifying := true, staged := none } } := by
  refine if_neg fun hc => ?_
  obtain ⟨h3, h7⟩ := by simpa only [Bool.and_eq_true, decide_eq_true_eq] using hc
  omega

theorem fwVerifyComplete_idle (h : d.fw.verifying = false) : fwVerifyComplete d = d := by
  simp [fwVerifyComplete, h]

/-- A verification ends in a state, with a result and the image it has taken. -/
def Dev.verified (d : Dev) (st r : Int) (i : Option ImageSt) : Dev :=
  { ((d.wr Obj.FwUpdateState st).wr Obj.FwUpdateResult r).wr Obj.FwStagedVersion d.stagedImage.image.version with
    fw := { d.fw with verifying := false, staged := i } }

/-- The result a verification reports: of the checks that fail, the first (log entry 29). -/
def Dev.verifyResult (d : Dev) : Int :=
  if d.stagedImage.lengthOk = false then 4 else if d.stagedImage.genuine = false then 1
  else if d.stagedImage.image.version < d.rdN Obj.FwMinVersion then 2
  else if d.fw.running.handover < d.stagedImage.image.handoverMin then 3 else 0

theorem fwVerifyComplete_verifying (h : d.fw.verifying = true) : fwVerifyComplete d =
    d.verified (if d.verifyResult = 0 then 2 else 9) d.verifyResult (if d.verifyResult = 0 then some d.stagedImage.image else none) := by
  unfold fwVerifyComplete
  extract_lets x result e
  have hr : result = d.verifyResult := by simp only [result, x, Dev.verifyResult, Bool.not_eq_true']
  rw [if_neg (by simp [h])]
  simp only [e, hr]
  rfl

section Verifying

variable (h : d.fw.verifying = true)
include h

theorem fwVerifyComplete_fails {r : Int} (hr : d.verifyResult = r) (h0 : r ≠ 0) : fwVerifyComplete d = d.verified 9 r none := by
  rw [fwVerifyComplete_verifying h, hr, if_neg h0, if_neg h0]

theorem fwVerifyComplete_takes (hr : d.verifyResult = 0) : fwVerifyComplete d = d.verified 2 0 (some d.stagedImage.image) := by
  rw [fwVerifyComplete_verifying h, hr, if_pos rfl, if_pos rfl]

end Verifying

/-! ## Arming and cancelling (R491, R493) -/

/-- An update may be armed: its image is verified, its Turn open, the standby core in step and no switch armed. -/
structure Dev.mayArmUpdate (d : Dev) : Prop where
  staged : d.fw.staged ≠ none
  state : d.rd Obj.FwUpdateState = 2 ∨ d.rd Obj.FwUpdateState = 9
  turn : d.canArm (d.rdN Obj.FwUpdateAt) = true
  standby : d.unitState (d.standbyUnit 1) = 2
  noSwitch : d.rd (inst Obj.RedSwitchCmd 1) ≠ 1

theorem mayArmUpdate_iff : (d.fw.staged.isSome && (d.rd Obj.FwUpdateState == 2 || d.rd Obj.FwUpdateState == 9) &&
    d.canArm (d.rdN Obj.FwUpdateAt) && d.unitState (d.standbyUnit 1) == 2 && d.rd (inst Obj.RedSwitchCmd 1) != 1) = true ↔ d.mayArmUpdate := by
  simp only [Bool.and_eq_true, Bool.or_eq_true, beq_iff_eq, bne_iff_ne, Option.isSome_iff_ne_none]
  exact ⟨fun ⟨⟨⟨⟨hi, hs⟩, ht⟩, hu⟩, hn⟩ => ⟨hi, hs, ht, hu, hn⟩, fun ⟨hi, hs, ht, hu, hn⟩ => ⟨⟨⟨⟨hi, hs⟩, ht⟩, hu⟩, hn⟩⟩

theorem fwArm_arms (h : d.mayArmUpdate) : fwArm d =
    (((d.outOfService (d.standbyUnit 1) 7).arm (d.rdN Obj.FwUpdateAt) .handover).wr Obj.FwUpdateCmd 2).wr Obj.FwUpdateState 3 :=
  if_pos (mayArmUpdate_iff.2 h)

theorem fwArm_refused (h : ¬d.mayArmUpdate) : fwArm d = d.wr Obj.FwUpdateCmd 0x80 := if_neg (mt mayArmUpdate_iff.1 h)

/-- The update is out of the queue and back in state 0, with nothing staged. -/
def Dev.updateCancelled (d : Dev) : Dev :=
  let e := ((d.disarm fun c => c.kind == .handover).wr Obj.FwUpdateCmd 3).wr Obj.FwUpdateState 0
  { e with fw := { e.fw with staged := none, verifying := false } }

theorem fwCancel_cancels (h1 : 1 ≤ d.rd Obj.FwUpdateState) (h5 : d.rd Obj.FwUpdateState ≤ 5) : fwCancel d = d.updateCancelled :=
  if_pos (by simp [h1, h5])

theorem fwCancel_refused (h : d.rd Obj.FwUpdateState < 1 ∨ 5 < d.rd Obj.FwUpdateState) : fwCancel d = d.wr Obj.FwUpdateCmd 0x80 := by
  refine if_neg fun hc => ?_
  obtain ⟨h1, h5⟩ := by simpa only [Bool.and_eq_true, decide_eq_true_eq] using hc
  omega

theorem fwLoaded_loading (h : d.rd Obj.FwUpdateState = 3) (ok : Bool) : fwLoaded ok d = if ok = true then d.wr Obj.FwUpdateState 4
    else ((d.disarm fun c => c.kind == .handover).wr Obj.FwUpdateState 9).wr Obj.FwUpdateResult 5 := by
  simp [fwLoaded, h, Dev.wrs]

theorem fwLoaded_idle (h : d.rd Obj.FwUpdateState ≠ 3) (ok : Bool) : fwLoaded ok d = d := by
  simp [fwLoaded, h]

/-! ## The flash (R493, R593) -/

theorem fwWriteFlash_writes (hs : d.fw.staged ≠ none) (hf : d.rd Obj.FwFlashState ≠ 1) :
    fwWriteFlash d = (d.wr Obj.FwUpdateCmd 4).wr Obj.FwFlashState 1 :=
  if_pos (by simp [Option.isSome_iff_ne_none, hs, hf])

theorem fwWriteFlash_refused (h : d.fw.staged = none ∨ d.rd Obj.FwFlashState = 1) : fwWriteFlash d = d.wr Obj.FwUpdateCmd 0x80 := by
  obtain h | h := h <;> simp [fwWriteFlash, h]

theorem fwFlashComplete_idle (h : d.rd Obj.FwFlashState ≠ 1) (ok : Bool) : fwFlashComplete ok d = d := by
  simp [fwFlashComplete, h]

section Writing

variable (h : d.rd Obj.FwFlashState = 1)
include h

theorem fwFlashComplete_failed : fwFlashComplete false d = d.wr Obj.FwFlashState 3 := by
  simp [fwFlashComplete, h]

theorem fwFlashComplete_unstaged (hs : d.fw.staged = none) : fwFlashComplete true d = d.wr Obj.FwFlashState 3 := by
  simp [fwFlashComplete, h, hs]

theorem fwFlashComplete_written {i : ImageSt} (hs : d.fw.staged = some i) : fwFlashComplete true d =
    { ((d.wr Obj.FwFlashState 2).wr Obj.FwFallbackVersion (d.rd Obj.FwPrimaryVersion)).wr Obj.FwPrimaryVersion i.version with
      fw := { d.fw with flash := i, slot := 1 - d.fw.slot, generation := (d.fw.generation + 1) % 2 ^ 32 } } := by
  unfold fwFlashComplete
  rw [if_neg (by simp [h])]
  split
  · next x _ hx =>
    obtain rfl : x = i := Option.some.inj (hx.symm.trans hs)
    rfl
  · next hx => exact (hx i rfl hs).elim

end Writing

end Firmware

/-- Settles O54: of each command by the state of the update, the image and the flash. The order of the failing checks, state 1 from the
first staged write, and a cancel in states 1 to 5 are the model's choices (log entry 29). -/
theorem firmwareIsStagedVerifiedAndArmed : Obligations.FirmwareIsStagedVerifiedAndArmed := by
  intro d q
  refine ⟨fun bs => ⟨fun h => effect_next q (stageData_beyond h), fun h => ⟨fun hs => ?_, fun h2 h8 h9 => ?_⟩⟩,
    fun h3 h7 => effect_next q (fwVerify_refused h3 h7), fun h => effect_next q (fwVerify_begins h),
    fun h => effect_next q (fwVerifyComplete_idle h),
    fun h => ⟨fun hl => effect_next q (fwVerifyComplete_fails h (if_pos hl) (by decide)), fun hl hg => ?_, fun hl hg hv => ?_,
      fun hl hg hv hh => ?_, fun hl hg hv hh => ?_⟩,
    fun hi hs ht hu hn => effect_next q (fwArm_arms ⟨hi, hs, ht, hu, hn⟩), fun h => effect_next q (fwArm_refused fun ⟨hi, hs, ht, hu, hn⟩ => ?_),
    fun h1 h5 => effect_next q (fwCancel_cancels h1 h5), fun h => effect_next q (fwCancel_refused h),
    fun hs hf => effect_next q (fwWriteFlash_writes hs hf), fun h => effect_next q (fwWriteFlash_refused h),
    fun h => ⟨effect_next q (fwLoaded_loading h true), effect_next q (fwLoaded_loading h false)⟩,
    fun h ok => effect_next q (fwLoaded_idle h ok),
    fun h => ⟨effect_next q (fwFlashComplete_failed h), fun i hi => effect_next q (fwFlashComplete_written h hi),
      fun hs => effect_next q (fwFlashComplete_unstaged h hs)⟩,
    fun h ok => effect_next q (fwFlashComplete_idle h ok)⟩
  · refine effect_next q ((stageData_stages h).trans (congrArg (Dev.scratchPut · _ bs) (if_pos ?_)))
    simpa [or_assoc] using hs
  · refine effect_next q ((stageData_stages h).trans (congrArg (Dev.scratchPut · _ bs) (if_neg ?_)))
    simp [not_le.2 h2, h8, h9]
  · exact effect_next q (fwVerifyComplete_fails h (by simp [Dev.verifyResult, hl, hg]) (by decide))
  · exact effect_next q (fwVerifyComplete_fails h (by simp [Dev.verifyResult, hl, hg, hv]) (by decide))
  · exact effect_next q (fwVerifyComplete_fails h (by simp [Dev.verifyResult, hl, hg, not_lt.2 hv, hh]) (by decide))
  · exact effect_next q (fwVerifyComplete_takes h (by simp [Dev.verifyResult, hl, hg, not_lt.2 hv, not_lt.2 hh]))
  · obtain h | ⟨h2, h9⟩ | h | h | h := h
    · exact hi h
    · exact hs.elim h2 h9
    · exact Bool.eq_false_iff.1 h ht
    · exact h hu
    · exact hn h

end Sys2Proof.Machine
end

section
/-! PROOFS. Spool programs (R579 to R583, R586): the start of work item 12, the faults and stops of a run, and what each system call
does at the block that `Dev.spoolCall` gives it. -/

namespace Sys2Proof.Machine

section Spool

variable {d : Dev}

/-! ## The runs of work item 12 (R579, R582, R583) -/

theorem spoolStart_idle (h : 12 ∉ d.turn.openItems ∨ 3 ∈ d.unfinished ∨ d.spool.run ≠ none) : spoolStart d = d := by
  refine if_pos ?_
  rw [Bool.or_eq_true, Bool.not_eq_true', Option.isSome_iff_ne_none, ← Bool.not_eq_true, itemStarts_iff]
  refine (or_assoc.2 h).imp_left fun h hs => ?_
  obtain ⟨hopen, hafter⟩ := hs
  exact h.elim (· hopen) (hafter 3 (by decide))

section Start

variable (ho : 12 ∈ d.turn.openItems) (h3 : 3 ∉ d.unfinished) (hr : d.spool.run = none)
include ho h3 hr

theorem spoolStart_free : ¬(!d.itemStarts 12 || d.spool.run.isSome) = true := by
  have hs : d.itemStarts 12 = true := (itemStarts_iff d 12).2 ⟨ho, by simpa [startsAfter] using h3⟩
  simp [hs, hr]

theorem spoolStart_off (hd : d.on .spool 0 = false) : spoolStart d = d.spoolFinish :=
  (if_neg (spoolStart_free ho h3 hr)).trans (if_pos (by simp [hd]))

theorem spoolStart_on (hd : d.on .spool 0 = true) : spoolStart d =
    ({ d with spool := { d.spool with left := d.spoolBudget, ready := d.dueSlots } } : Dev).spoolNext :=
  (if_neg (spoolStart_free ho h3 hr)).trans (if_neg (by simp [hd]))

end Start

section Run

variable {r : SpoolRun} {stores : List (Nat × Byte)} {cycles : Nat}

/-- A run that faulted: what is recorded of it, and its end with the program's fault as the ending. -/
def Dev.runFaulted (d : Dev) (r : SpoolRun) (stores : List (Nat × Byte)) (cause pc cycles : Nat) : Dev :=
  ((((d.spoolStores stores).inc (inst Obj.SpoolSlotFaultCount r.slot)).wr (inst Obj.SpoolSlotFaultCause r.slot) (cause : Nat)).wr
    (inst Obj.SpoolSlotFaultPc r.slot) (pc % 2 ^ 32 : Nat)).spoolEnds r (max cycles r.used) 2

theorem spoolFault_none (h : d.spool.run = none) (cause pc : Nat) : spoolFault cause pc cycles stores d = d := by
  simp [spoolFault, h]

theorem spoolFault_eq (h : d.spool.run = some r) (cause pc : Nat) : spoolFault cause pc cycles stores d =
    ((d.runFaulted r stores cause pc cycles).when
      (decide ((d.runFaulted r stores cause pc cycles).rdN Obj.SpoolFaultLimit ≤
        numAt (d.runFaulted r stores cause pc cycles).spool.faulted r.slot))
      fun e => e.wr (inst Obj.SpoolSlotState r.slot) 2).spoolNext := by
  unfold spoolFault
  rw [h]
  rfl

theorem spoolBudgetStop_none (h : d.spool.run = none) : spoolBudgetStop stores d = d := by simp [spoolBudgetStop, h]

theorem spoolBudgetStop_eq (h : d.spool.run = some r) : spoolBudgetStop stores d =
    (((((d.spoolStores stores).overrun 12 1 (d.rdN Obj.TurnNumber)).inc (inst Obj.SpoolSlotOverrunCount r.slot)).spoolEnds r r.limit 1)).spoolNext := by
  simp [spoolBudgetStop, h]

end Run

/-! ## System calls (R580, R581) -/

/-- The run in a call that charges its 200 cycles. -/
def SpoolRun.called (r : SpoolRun) (cycles : Nat) : SpoolRun := { r with used := max cycles (r.used + 200) }

/-- The block at a call of a run. -/
def Dev.inCall (d : Dev) (r : SpoolRun) (stores : List (Nat × Byte)) (cycles : Nat) : Dev :=
  ({ d.spoolStores stores with spool := { (d.spoolStores stores).spool with run := some (r.called cycles) } } : Dev).counted 2 0x0A r.slot 1

section Refused

variable {len buffer size : Nat}

/-- The buffer of a call is bad: too long for it, not aligned, or not in the sandbox. -/
theorem badBuffer_iff : (64 < len || !bufferOk buffer size) = true ↔ 64 < len ∨ bufferOk buffer size = false := by simp

theorem not_badBuffer (hl : len ≤ 64) (hb : bufferOk buffer size = true) : ¬(64 < len || !bufferOk buffer size) = true := by
  simp [hl, hb]

theorem badEntry_iff : (56 < len || !bufferOk buffer size) = true ↔ 56 < len ∨ bufferOk buffer size = false := by simp

theorem not_badEntry (hl : len ≤ 56) (hb : bufferOk buffer size = true) : ¬(56 < len || !bufferOk buffer size) = true := by
  simp [hl, hb]

end Refused

section Calls

variable {r : SpoolRun} {stores : List (Nat × Byte)} {cycles : Nat} (h : d.spool.run = some r)
include h

theorem sysDone_eq : sysDone stores cycles d =
    ((d.inCall r stores cycles).spoolEnds (r.called cycles) (r.called cycles).used 0).spoolNext :=
  d.spoolCall_eq stores cycles _ r h

theorem sysBudget_eq : sysBudget stores cycles d =
    (d.inCall r stores cycles).spoolResult (r.limit - (r.called cycles).used : Nat) :=
  d.spoolCall_eq stores cycles _ r h

theorem sysTime_eq (buffer : Nat) : sysTime buffer stores cycles d =
    (let e := d.inCall r stores cycles
     if bufferOk buffer 16 = true then
       (e.spoolWrite buffer (timeBytes e.now ++ leBytes 1 (e.rdN Obj.TimeValid) ++ leBytes 1 (e.rdN Obj.TurnInPhase) ++ leBytes 2 0)).spoolResult 0
     else e.spoolResult (-2)) :=
  d.spoolCall_eq stores cycles _ r h

theorem sysRead_eq (object buffer most : Nat) : sysRead object buffer most stores cycles d =
    (let e := d.inCall r stores cycles
     if (64 < most || !bufferOk buffer (4 + most)) = true then e.spoolResult (-2)
     else e.spoolRequest { slot := r.slot, key := objKey (object / 256) object, buffer := buffer, max := most, value := none }) :=
  d.spoolCall_eq stores cycles _ r h

theorem sysWrite_eq (object buffer len : Nat) : sysWrite object buffer len stores cycles d =
    (let e := d.inCall r stores cycles
     if (64 < len || !bufferOk buffer (4 + len)) = true then e.spoolResult (-2)
     else e.spoolRequest { slot := r.slot, key := objKey (object / 256) object, buffer := buffer, max := 0,
                           value := some (readBytes e.spool.memory (buffer + 4) len) }) :=
  d.spoolCall_eq stores cycles _ r h

theorem sysPerf_eq (counter buffer : Nat) : sysPerf counter buffer stores cycles d =
    (let e := d.inCall r stores cycles
     if (3 ≤ counter / 256 || 8 ≤ counter % 256) = true then e.spoolResult (-2)
     else if (!e.rdB (inst Obj.PerfUserEnable (counter / 256))) = true then e.spoolResult (-1)
     else if (!bufferOk buffer 8) = true then e.spoolResult (-2)
     else (e.spoolWrite buffer (leBytes 8 (numAt e.perf.counts (8 * (counter / 256) + counter % 256)))).spoolResult 0) :=
  d.spoolCall_eq stores cycles _ r h

theorem sysLog_eq (buffer len : Nat) : sysLog buffer len stores cycles d =
    (let e := d.inCall r stores cycles
     if (56 < len || !bufferOk buffer len) = true then e.spoolResult (-2)
     else if 1024 ≤ e.spool.log.length then (e.inc Obj.SpoolLogLossCount).spoolResult 0
     else
       ({ e with spool := { e.spool with log := e.spool.log ++ [leBytes 4 (e.rdN Obj.TurnNumber) ++ leBytes 1 r.slot ++ leBytes 1 len ++
         leBytes 2 0 ++ readBytes e.spool.memory buffer len ++ List.replicate (56 - len) 0] } } : Dev).spoolResult 0) :=
  d.spoolCall_eq stores cycles _ r h

end Calls

theorem perfBank_of_lt {b k : Nat} (hk : k < 256) : (256 * b + k) / 256 = b ∧ (256 * b + k) % 256 = k := by omega

/-- Without a run, no call and no stop of a run does anything. -/
theorem spoolCalls_none (h : d.spool.run = none) (q : List Instr) (stores : List (Nat × Byte)) (cycles x y z : Nat) :
    ∀ c ∈ [Instr.spoolBudgetStop stores, .sysDone stores cycles, .sysTime x stores cycles, .sysRead x y z stores cycles,
      .sysWrite x y z stores cycles, .sysPerf x y stores cycles, .sysBudget stores cycles, .sysLog x y stores cycles,
      .spoolPrograms (.fault x y cycles) stores], exec c ⟨d, q⟩ = .next ⟨d, q⟩ := by
  simp only [List.forall_mem_cons]
  have hcall (f : SpoolRun → Dev → Dev) := d.spoolCall_none stores cycles f h
  exact ⟨effect_next q (spoolBudgetStop_none h), effect_next q (hcall _), effect_next q (hcall _), effect_next q (hcall _),
    effect_next q (hcall _), effect_next q (hcall _), effect_next q (hcall _), effect_next q (hcall _),
    effect_next q (spoolFault_none h x y), by simp⟩

end Spool

/-- Settles O58, by the state of the sandbox and, of each call, by its buffer and what the block has room for. What a program stores and
how long it takes between its calls come with the command (log entry 39). -/
theorem spoolRunsCallTheDevice : Obligations.SpoolRunsCallTheDevice := by
  intro d q stores cycles
  refine ⟨fun h => effect_next q (spoolStart_idle h),
    fun ho h3 hr => ⟨fun hd => effect_next q (spoolStart_off ho h3 hr hd), fun hd => effect_next q (spoolStart_on ho h3 hr hd)⟩,
    rfl, fun h x y z => spoolCalls_none h q stores cycles x y z, fun r h => ⟨fun cause pc => ?faults, effect_next q (spoolBudgetStop_eq h), ?calls⟩, rfl⟩
  case faults =>
    exact ⟨fun hl => effect_next q ((spoolFault_eq h cause pc).trans (congrArg Dev.spoolNext (if_neg (mt of_decide_eq_true (not_le.2 hl))))),
      fun hl => effect_next q ((spoolFault_eq h cause pc).trans (congrArg Dev.spoolNext (if_pos (decide_eq_true hl))))⟩
  case calls =>
    refine ⟨effect_next q (sysDone_eq h), effect_next q (sysBudget_eq h),
      fun a => ⟨fun hb => effect_next q ((sysTime_eq h a).trans (if_pos hb)),
        fun hb => effect_next q ((sysTime_eq h a).trans (if_neg (Bool.eq_false_iff.1 hb)))⟩,
      fun o a n => ⟨fun hb => ⟨effect_next q ((sysRead_eq h o a n).trans (if_pos (badBuffer_iff.2 hb))),
          effect_next q ((sysWrite_eq h o a n).trans (if_pos (badBuffer_iff.2 hb)))⟩,
        fun hn hb hfull => ⟨effect_next q ((sysRead_eq h o a n).trans ((if_neg (not_badBuffer hn hb)).trans (if_pos hfull))),
          effect_next q ((sysWrite_eq h o a n).trans ((if_neg (not_badBuffer hn hb)).trans (if_pos hfull)))⟩,
        fun hn hb hroom => ⟨effect_next q ((sysRead_eq h o a n).trans ((if_neg (not_badBuffer hn hb)).trans (if_neg (not_le.2 hroom)))),
          effect_next q ((sysWrite_eq h o a n).trans ((if_neg (not_badBuffer hn hb)).trans (if_neg (not_le.2 hroom))))⟩⟩,
      fun n a hn => effect_next q ((sysPerf_eq h n a).trans (if_pos (by simpa using hn))),
      fun b k a => ?perf,
      fun a n => ⟨fun hb => effect_next q ((sysLog_eq h a n).trans (if_pos (badEntry_iff.2 hb))),
        fun hn hb hfull => effect_next q ((sysLog_eq h a n).trans ((if_neg (not_badEntry hn hb)).trans (if_pos hfull))),
        fun hn hb hroom => effect_next q ((sysLog_eq h a n).trans ((if_neg (not_badEntry hn hb)).trans (if_neg (not_le.2 hroom))))⟩⟩
    have hperf := sysPerf_eq (stores := stores) (cycles := cycles) h (256 * b + k) a
    obtain ⟨hb, hk⟩ := perfBank_of_lt (b := b.val) (k := k.val) (by omega)
    rw [hb, hk] at hperf
    have hopen := hperf.trans (if_neg (by simp))
    exact ⟨fun hu => effect_next q (hopen.trans (if_pos (congrArg not hu))),
      fun hu hbuf => effect_next q (hopen.trans ((if_neg (ne_true_of_eq_false (congrArg not hu))).trans (if_pos (congrArg not hbuf)))),
      fun hu hbuf => effect_next q (hopen.trans ((if_neg (ne_true_of_eq_false (congrArg not hu))).trans (if_neg (ne_true_of_eq_false (congrArg not hbuf)))))⟩

end Sys2Proof.Machine
end

section
/-! PROOFS. Resets, start-up, device-level faults and restarts, the monitors of temperature, supply and pins, and DRAM (R587, R589,
R594, R598, R600 to R604, R606 to R608, R610): one lemma for each branch of a command. -/

namespace Sys2Proof.Machine

section Environment

variable {d : Dev}

/-! ## Resets (R587, log entry 40) -/

/-- What is left of a block as a reset begins: the free values drawn, the boot record in force and the MDP keys. -/
def Dev.outlivesReset (d : Dev) : Dev :=
  { freeCount := d.freeCount, fw := { slot := d.fw.slot, generation := d.fw.generation }, dict := { keys := d.dict.keys } }

/-- A key of the MDP is set: 32 bytes that are not all zero. -/
def Dev.keySet (d : Dev) (i : Nat) : Bool :=
  (Sparse.get (fun _ => []) d.dict.keys i) != List.replicate 32 0 && !(Sparse.get (fun _ => []) d.dict.keys i).isEmpty

theorem deviceReset_eq (cause : Int) (d : Dev) : deviceReset cause d =
    (((d.outlivesReset.wr Obj.ResetCause cause).wrB (inst Obj.MdpKeySet 0) (d.keySet 0)).wrB (inst Obj.MdpKeySet 1) (d.keySet 1)).wrB
      (inst Obj.MdpKeySet 2) (d.keySet 2) := rfl

theorem rd_wrB_other {k k' : Nat} {b : Bool} (h : k ≠ k') : (d.wrB k b).rd k' = d.rd k' := rd_wr_other d k _ k' h

theorem rdV_wrB_other {k k' : Nat} {b : Bool} (h : k ≠ k') : (d.wrB k b).rdV k' = d.rdV k' := rdV_wr_other d k _ k' h

theorem rd_resetCause_deviceReset (cause : Int) (d : Dev) : (deviceReset cause d).rd Obj.ResetCause = cause := by
  rw [deviceReset_eq, rd_wrB_other (by decide), rd_wrB_other (by decide), rd_wrB_other (by decide), rd_wr_same]

/-- Every object but the cause and the marks of the keys is at its default. -/
theorem rdV_deviceReset {cause : Int} {k : Nat} (hc : k ≠ Obj.ResetCause) (hk : ∀ i < 3, k ≠ inst Obj.MdpKeySet i) :
    (deviceReset cause d).rdV k = ({} : Dev).rdV k := by
  rw [deviceReset_eq, rdV_wrB_other (hk 2 (by decide)).symm, rdV_wrB_other (hk 1 (by decide)).symm,
    rdV_wrB_other (hk 0 (by decide)).symm, rdV_wr_other _ _ _ _ hc.symm]
  rfl

/-! ## Start-up (R589, R594, R595) -/

theorem resetRelease_releases {s : Nat} (h : d.boot.released = false) :
    resetRelease s d = { d.wr Obj.BootStraps s with boot := { d.boot with released := true } } :=
  if_neg (Bool.eq_false_iff.1 h)

theorem resetRelease_idle {s : Nat} (h : d.boot.released = true) : resetRelease s d = d := if_pos h

theorem pcieTraining_eq : pcieTraining d =
    if d.boot.released = true ∧ d.rd Obj.FixedSynthState = 1 ∧ bit (d.rdN Obj.BootStraps) 2 = false then
      { d with boot := { d.boot with pcie := true } } else d := by
  simp [pcieTraining, Dev.when, and_assoc]

section Boot

variable {a b x y : List Byte}

theorem bootImageRead_idle (h : d.boot.released = false ∨ d.boot.loaded = true ∨ d.boot.refused = true ∨
    bits (d.rdN Obj.BootStraps) 0 2 = 2 ∨ d.stopped = true) : bootImageRead a b x y d = d := by
  obtain h | h | h | h | h := h <;> simp [bootImageRead, h]

/-- The image that a slot of the flash holds. -/
def slotImage (x y : List Byte) (slot : Nat) : ImageRead := readImage (fun o n => ((if slot = 0 then x else y).drop o).take n) 8388608

/-- An image is accepted: it is genuine, and not older than FwMinVersion. -/
def Dev.accepts (d : Dev) (i : ImageRead) : Bool := i.genuine && decide (d.rdN Obj.FwMinVersion ≤ i.image.version)

theorem accepts_iff {i : ImageRead} : d.accepts i = true ↔ i.genuine = true ∧ d.rdN Obj.FwMinVersion ≤ i.image.version := by
  simp [Dev.accepts]

/-- The boot record in force and the versions of both slots are shown. -/
def Dev.bootShown (d : Dev) (c : Nat × Nat) (x y : List Byte) : Dev :=
  { (d.wr Obj.FwPrimaryVersion (slotImage x y c.2).image.version).wr Obj.FwFallbackVersion (slotImage x y (1 - c.2)).image.version with
    fw := { d.fw with slot := c.2, generation := c.1 } }

/-- The image of a slot runs. -/
def Dev.bootsFrom (d : Dev) (i : ImageSt) (slot : Nat) (source : Int) : Dev :=
  { (d.wr Obj.BootImageSlot slot).wr Obj.BootImageSource source with
    fw := { d.fw with running := i, flash := i }, boot := { d.boot with loaded := true } }

/-- The primary image is booted where the straps do not forbid it, else the fallback, else none. -/
def Dev.bootWith (d : Dev) (c : Nat × Nat) (x y : List Byte) : Dev :=
  if (bits (d.rdN Obj.BootStraps) 0 2 != 1 && d.accepts (slotImage x y c.2)) = true then
    (d.bootShown c x y).bootsFrom (slotImage x y c.2).image c.2 0
  else if d.accepts (slotImage x y (1 - c.2)) = true then (d.bootShown c x y).bootsFrom (slotImage x y (1 - c.2)).image (1 - c.2) 1
  else { d.bootShown c x y with boot := { d.boot with refused := true } }

theorem bootPrimary_iff {i : ImageRead} : (bits (d.rdN Obj.BootStraps) 0 2 != 1 && d.accepts i) = true ↔
    bits (d.rdN Obj.BootStraps) 0 2 ≠ 1 ∧ i.genuine = true ∧ d.rdN Obj.FwMinVersion ≤ i.image.version := by
  rw [Bool.and_eq_true, bne_iff_ne, accepts_iff]

theorem bootImageRead_chooses (h1 : d.boot.released = true) (h2 : d.boot.loaded = false) (h3 : d.boot.refused = false)
    (h4 : bits (d.rdN Obj.BootStraps) 0 2 ≠ 2) (h5 : d.stopped = false) :
    bootImageRead a b x y d = d.bootWith (bootChoice (bootRecord a) (bootRecord b)) x y := by
  unfold bootImageRead
  extract_lets mode chosen image
  have himage : image = slotImage x y := by
    funext slot
    simp [image, slotImage]
  rw [if_neg (by simp [mode, h1, h2, h3, h4, h5])]
  clear_value image
  subst himage
  rfl

end Boot

theorem serverReady_idle (h : d.boot.loaded = false ∨ d.dict.ready = true ∨ d.stopped = true) : serverReady d = d := by
  obtain h | h | h := h <;> simp [serverReady, h]

/-- The firmware serves local requests. -/
def Dev.serverUpNow (d : Dev) : Dev := { d with dict := { d.dict with ready := true } }

theorem serverReady_serves (h1 : d.boot.loaded = true) (h2 : d.dict.ready = false) (h3 : d.stopped = false) :
    serverReady d = (((d.serverUpNow.wr Obj.BootDuration (quot Config.roundsUp d.serverUpNow.time.uptime 1000000)).wr (inst Obj.EventStatus 63)
      (d.serverUpNow.rdN (inst Obj.EventStatus 63) % 4096 : Nat)).wr (inst Obj.FwRunningVersion 0) d.serverUpNow.fw.running.version).forEach
        (fun n f => blockCmd ⟨.mdpSession, n⟩ 1 f) (List.range 16) :=
  if_neg (by simp [h1, h2, h3])

theorem standbyReturn_returns (h : d.dict.ready = true) :
    standbyReturn d = ((d.unitEnable 1).unitEnable 3).wr (inst Obj.FwRunningVersion 1) d.fw.running.version :=
  if_neg (by simp [h])

theorem standbyReturn_idle (h : d.dict.ready = false) : standbyReturn d = d := if_pos (by simp [h])

/-! ## Device-level faults and restarts (R598, R600, R601, R603) -/

theorem deviceLevelFault_acts {c : Nat} {core : Bool} (h1 : 1 ≤ c) (h9 : c ≤ 9) (hr : d.boot.released = true) :
    deviceLevelFault c core d = deviceFault c core d :=
  if_pos (by simp [h1, h9, hr])

theorem deviceLevelFault_idle {c : Nat} {core : Bool} (h : c = 0 ∨ d.boot.released = false) : deviceLevelFault c core d = d :=
  if_neg (by obtain h | h := h <;> simp [h])

theorem deviceRestart_restarts {bad : Bool} (h1 : d.rd Obj.DeviceFaultPhase = 1) (hc : ∀ c ∈ d.boot.held, d.conditionHolds c = true) :
    deviceRestart bad d = restartBegins bad d :=
  if_pos (by rw [h1, Bool.and_eq_true, List.all_eq_true]; exact ⟨rfl, hc⟩)

theorem deviceRestart_idle {bad : Bool} (h : d.rd Obj.DeviceFaultPhase ≠ 1 ∨ ∃ c ∈ d.boot.held, d.conditionHolds c = false) :
    deviceRestart bad d = d := by
  refine if_neg fun hc => ?_
  rw [Bool.and_eq_true, beq_iff_eq, List.all_eq_true] at hc
  obtain ⟨hphase, hall⟩ := hc
  obtain h | ⟨c, hm, hf⟩ := h
  · exact h hphase
  · exact Bool.eq_false_iff.1 hf (hall c hm)

theorem deviceRestartCmd_halted (h : d.rd Obj.DeviceFaultPhase = 3) :
    deviceRestartCmd d = (d.wr Obj.DeviceRestartCmd 1).wr Obj.DeviceFaultPhase 1 :=
  if_pos (beq_iff_eq.2 h)

theorem deviceRestartCmd_refused (h : d.rd Obj.DeviceFaultPhase ≠ 3) : deviceRestartCmd d = d.wr Obj.DeviceRestartCmd 0x80 :=
  if_neg (mt beq_iff_eq.1 h)

/-! ## Temperature (R604, R605) -/

section Thermal

variable {temps : List Int} {lasting : Bool}

/-- The readings of the four sensors. -/
def sensorTemps (temps : List Int) : List Int := (List.range 4).map fun i => clampI (-32768) 32767 (temps.getD i 0)

/-- The hottest of the four sensors. -/
def hottestOf (temps : List Int) : Int := (sensorTemps temps).foldl max ((sensorTemps temps).headD 0)

/-- A sample is reported, with the peak, and taken by a port run. -/
def Dev.sampled (d : Dev) (temps : List Int) : Dev :=
  let e := d.wrs ((sensorTemps temps).zipIdx.map fun x => (inst Obj.DieTemperature x.2, x.1))
  ({ e.wr Obj.DieTemperaturePeak (if e.boot.tempSeen then max (e.rd Obj.DieTemperaturePeak) (hottestOf temps) else hottestOf temps) with
    boot := { e.boot with tempSeen := true } } : Dev).calTemps

/-- A sample at or above the limit begins the warning. -/
def Dev.warned (d : Dev) (hottest : Int) : Dev :=
  if d.rd Obj.ThermalState = 0 ∧ d.rd Obj.ThermalWarnLimit ≤ hottest then (d.thermalTo 1 1).reelStop 3 else d

/-- What the hottest sensor leads to in the warning and after a shutdown; `hot` says that the shutdown limit has been passed long
enough. -/
def Dev.thermalActs (d : Dev) (hottest warn : Int) (hot : Bool) : Dev :=
  if (d.rd Obj.ThermalState == 1 && hot) = true then
    deviceFault 8 false (((d.thermalTo 2 3).reelStop 3).inc Obj.ThermalShutdownCount)
  else if (d.rd Obj.ThermalState == 1 && decide (hottest ≤ warn - 50)) = true then d.thermalTo 0 2
  else if (d.rd Obj.ThermalState == 2 && decide (hottest < 950)) = true then d.thermalTo 1 4
  else d

theorem thermalSample_eq : thermalSample temps lasting d = ((d.sampled temps).warned (hottestOf temps)).thermalActs (hottestOf temps)
    ((d.sampled temps).rd Obj.ThermalWarnLimit) (decide (1250 ≤ hottestOf temps) && lasting) := by
  have hwarned : (d.sampled temps).warned (hottestOf temps) = if ((d.sampled temps).rd Obj.ThermalState == 0 &&
      decide ((d.sampled temps).rd Obj.ThermalWarnLimit ≤ hottestOf temps)) = true then ((d.sampled temps).thermalTo 1 1).reelStop 3
      else d.sampled temps := by
    simp [Dev.warned]
  rw [hwarned]
  rfl

variable {hottest warn : Int} {hot : Bool}

theorem thermalActs_shutsDown (h1 : d.rd Obj.ThermalState = 1) : d.thermalActs hottest warn true =
    deviceFault 8 false (((d.thermalTo 2 3).reelStop 3).inc Obj.ThermalShutdownCount) :=
  if_pos (by simp [h1])

theorem thermalActs_warning (h1 : d.rd Obj.ThermalState = 1) : d.thermalActs hottest warn false =
    if hottest ≤ warn - 50 then d.thermalTo 0 2 else d := by
  simp [Dev.thermalActs, h1]

theorem thermalActs_afterShutdown (h2 : d.rd Obj.ThermalState = 2) : d.thermalActs hottest warn hot =
    if hottest < 950 then d.thermalTo 1 4 else d := by
  simp [Dev.thermalActs, h2]

theorem thermalActs_normal (h1 : d.rd Obj.ThermalState ≠ 1) (h2 : d.rd Obj.ThermalState ≠ 2) : d.thermalActs hottest warn hot = d := by
  simp [Dev.thermalActs, h1, h2]

end Thermal

/-! ## Supply (R606) -/

/-- The eight rails have been sampled. -/
def Dev.railsSampled (d : Dev) (mv : List Nat) (l : Nat) : Dev :=
  let e := d.forEach (fun r f => railSample (mv.getD r 0 % 65536) (bit l r) r f) (List.range 8)
  { e with boot := { e.boot with supplySeen := true } }

/-- A rail is in fault that was not. -/
def Dev.railFails (d e : Dev) : Prop := ∃ r < 8, d.rd (inst Obj.SupplyState r) ≠ 2 ∧ e.rd (inst Obj.SupplyState r) = 2

theorem railFails_iff {e : Dev} : (((List.range 8).filter fun r => d.rd (inst Obj.SupplyState r) != 2).any fun r =>
    e.rd (inst Obj.SupplyState r) == 2) = true ↔ d.railFails e := by
  simp [Dev.railFails]

theorem supplySample_holds {mv : List Nat} {l : Nat} (h : ¬d.railFails (d.railsSampled mv l)) : supplySample mv l d = d.railsSampled mv l :=
  if_neg (mt railFails_iff.1 h)

theorem supplySample_fails {mv : List Nat} {l : Nat} (h : d.railFails (d.railsSampled mv l)) :
    supplySample mv l d = deviceFault 7 false (d.railsSampled mv l) :=
  if_pos (railFails_iff.2 h)

/-! ## Pins (R607, R608) -/

section Pins

section Detection

variable {g n s k : Nat}

theorem pinFaultDetect_noPin (h : pinKey g n = none) : pinFaultDetect g n s d = d := by
  simp [pinFaultDetect, h]

/-- The status a pin shows: 5 for a swapped pair that is not corrected. -/
def Dev.pinShows (d : Dev) (g n s : Nat) : Nat :=
  if g == 0 && s == 4 && !d.rdB (inst Obj.RefInSwapCorrect n) then 5 else s

/-- A detection that has no effect: a status the pin cannot have, a monitor or an input that is not in use, or no change. -/
def Dev.pinIdle (d : Dev) (g n s k : Nat) : Bool :=
  !pinStatusOk g s ||
    !(g != 2 || s != 6 || (decide (d.rdN (inst Obj.ClkOutMonitorInput n) < 16) && d.on .evin (d.rdN (inst Obj.ClkOutMonitorInput n)))) ||
    !(s != 1 || g == 2 || (if g == 0 then d.on .refIn n else d.on .mref 0)) || d.rd k == (d.pinShows g n s : Int)

/-- A pin shows a status, and EV59 is raised. -/
def Dev.pinReported (d : Dev) (g k st : Nat) : Dev :=
  (d.wrs [(k, (st : Int)), (Obj.PinEventCause, ((st + 256 * (g + 1) : Nat) : Int))]).raise 59

/-- A shorted output is limited, and one that is not is not. -/
def Dev.outLimited (d : Dev) (st o : Nat) : Dev :=
  { d with boot := { d.boot with limited := (d.boot.limited.filter (· != o)) ++ (if st = 2 ∨ st = 3 then [o] else []) } }

theorem outLimited_eq (st o : Nat) : d.outLimited st o = { d with boot := { d.boot with limited :=
    (if (st == 2 || st == 3) = true then (d.boot.limited.filter (· != o)) ++ [o] else d.boot.limited.filter (· != o)) } } := by
  by_cases h : st = 2 ∨ st = 3 <;> simp [Dev.outLimited, h]

theorem pinFaultDetect_idle (hk : pinKey g n = some k) (h : d.pinIdle g n s k = true) : pinFaultDetect g n s d = d := by
  unfold pinFaultDetect
  rw [hk]
  exact if_pos h

section Acts

variable (hk : pinKey g n = some k) (h : ¬d.pinIdle g n s k = true)
include hk h

theorem pinFaultDetect_input (ho : limitedOut g n = none) : pinFaultDetect g n s d =
    (d.pinReported g k (d.pinShows g n s)).when (g == 0 && d.pinShows g n s == 4) fun e =>
      e.setRefIn n fun x => { x with invertNext := !x.inverted } := by
  unfold pinFaultDetect
  rw [hk, ho]
  exact if_neg h

theorem pinFaultDetect_output {o : Nat} (hg : g ≠ 0) (ho : limitedOut g n = some o) :
    pinFaultDetect g n s d = (d.pinReported g k (d.pinShows g n s)).outLimited (d.pinShows g n s) o := by
  unfold pinFaultDetect
  rw [hk, ho, outLimited_eq]
  exact (if_neg h).trans (if_neg (show ¬(g == 0 && d.pinShows g n s == 4) = true by simp [hg]))

end Acts

end Detection

section Group

variable {g : Fin 4} {n : Fin 16} {s : Fin 7} {k : Nat}

theorem pinShows_eq : d.pinShows g n s = if g = 0 ∧ s = 4 ∧ d.rdB (inst Obj.RefInSwapCorrect n) = false then 5 else s.val := by
  refine if_congr ?_ rfl rfl
  simp only [Bool.and_eq_true, beq_iff_eq, Bool.not_eq_true', and_assoc, Fin.ext_iff]
  rfl

theorem pinIdle_iff : d.pinIdle g n s k = true ↔ pinStatusOk g s = false ∨
    (g = 2 ∧ s = 6 ∧ ¬(d.rdN (inst Obj.ClkOutMonitorInput n) < 16 ∧ d.on .evin (d.rdN (inst Obj.ClkOutMonitorInput n)) = true)) ∨
    (s = 1 ∧ g ≠ 2 ∧ (if g = 0 then d.on .refIn n else d.on .mref 0) = false) ∨ d.rd k = (d.pinShows g n s : Int) := by
  simp only [Dev.pinIdle, Bool.or_eq_true, Bool.not_eq_true', bne_iff_ne, beq_iff_eq, or_assoc, not_or, not_not, Fin.ext_iff, ne_eq,
    ← Bool.not_eq_true, Bool.and_eq_true, decide_eq_true_eq]
  rfl

end Group

section Retry

variable {o : Nat}

theorem shortRetry_shorted : shortRetry o false d = d := if_neg (by simp)

theorem shortRetry_unlimited (h : o ∉ d.boot.limited) (cleared : Bool) : shortRetry o cleared d = d := if_neg (by simp [h])

theorem shortRetry_clears (h : o ∈ d.boot.limited) :
    shortRetry o true d = if o < 8 then pinFaultDetect 2 o 0 d else pinFaultDetect 3 (o - 8) 0 d :=
  if_pos (by simp [h])

end Retry

end Pins

end Environment

/-- Settles O60. That no state but the free values, the boot record in force and the keys outlives a reset (log entry 40), that a failed
training of the deep store counts the fault with cause 9, empties the Reel and spoils the scratch memory (16), and what a device-level
fault does to the redundant pairs and the Plinths (18, 19) are the model's choices. -/
theorem resetsFaultsAndTheEnvironment : Obligations.ResetsFaultsAndTheEnvironment := by
  intro d q
  refine ⟨?resets, fun s => ⟨fun h => effect_next q (resetRelease_releases h), fun h => effect_next q (resetRelease_idle h)⟩,
    fun hr hs hb => effect_next q (pcieTraining_eq.trans (if_pos ⟨hr, hs, hb⟩)), fun h => effect_next q (pcieTraining_eq.trans (if_neg ?training)),
    fun a b x y => ⟨fun h => effect_next q (bootImageRead_idle h), fun h1 h2 h3 h4 h5 => ?boot⟩,
    fun h => effect_next q (serverReady_idle h), fun h1 h2 h3 => effect_next q (serverReady_serves h1 h2 h3),
    fun h => effect_next q (standbyReturn_returns h), fun h => effect_next q (standbyReturn_idle h),
    fun c core => ⟨fun h1 hr => effect_next q (deviceLevelFault_acts h1 (Nat.le_of_lt_succ c.isLt) hr),
      fun h => effect_next q (deviceLevelFault_idle (h.imp_left (congrArg Fin.val)))⟩,
    fun bad => ⟨fun h1 hc => effect_next q (deviceRestart_restarts h1 hc), fun h => effect_next q (deviceRestart_idle h)⟩,
    fun h => effect_next q (deviceRestartCmd_halted h), fun h => effect_next q (deviceRestartCmd_refused h), rfl,
    fun temps lasting => ?thermal,
    fun mv l => ⟨fun h => effect_next q (supplySample_holds h), fun h => effect_next q (supplySample_fails h)⟩,
    fun g n s => ⟨fun h => effect_next q (pinFaultDetect_noPin h), fun k hk => ?pins⟩,
    fun o => ⟨fun h => effect_next q (shortRetry_unlimited h true), effect_next q shortRetry_shorted,
      fun h8 h => effect_next q ((shortRetry_clears h).trans (if_pos h8)),
      fun h8 h => effect_next q ((shortRetry_clears h).trans (if_neg (not_lt.2 h8)))⟩,
    fun k a => ⟨rfl, rfl⟩, fun a b => rfl, rfl, rfl⟩
  case resets =>
    have hreset (cause : Int) (c : Instr) (hc : exec c ⟨d, q⟩ = .next ⟨deviceReset cause d, q⟩) : ∃ e,
        exec c ⟨d, q⟩ = .next ⟨e, q⟩ ∧ e.rd Obj.ResetCause = cause ∧ e.freeCount = d.freeCount ∧ e.fw.slot = d.fw.slot ∧
        e.fw.generation = d.fw.generation ∧ e.dict.keys = d.dict.keys ∧ e.turn = {} ∧ e.time = {} ∧ e.buf = {} ∧ e.fwd = {} ∧
        e.line = {} ∧ e.boot = {} ∧ (∀ k, k ≠ Obj.ResetCause → (∀ i < 3, k ≠ inst Obj.MdpKeySet i) → e.rdV k = ({} : Dev).rdV k) :=
      ⟨_, hc, rd_resetCause_deviceReset cause d, rfl, rfl, rfl, rfl, rfl, rfl, rfl, rfl, rfl, rfl, fun _ => rdV_deviceReset⟩
    simp only [List.forall_mem_cons]
    exact ⟨hreset 0 _ rfl, hreset 1 _ rfl, hreset 2 _ rfl, hreset 3 _ rfl, by simp⟩
  case training =>
    rintro ⟨hr, hs, hb⟩
    obtain h | h | h := h
    · exact Bool.eq_false_iff.1 h hr
    · exact h hs
    · exact Bool.eq_false_iff.1 hb h
  case boot =>
    intro c image e ok primary used
    have himage (slot : Nat) : slotImage x y slot = image slot := rfl
    have hboot := bootImageRead_chooses (a := a) (b := b) (x := x) (y := y) h1 h2 h3 h4 h5
    refine ⟨fun hp => effect_next q (hboot.trans (if_pos (bootPrimary_iff.2 hp))),
      fun hp hf => effect_next q (hboot.trans ((if_neg (mt bootPrimary_iff.1 hp)).trans (if_pos (accepts_iff.2 hf)))),
      fun hp hf => effect_next q (hboot.trans ((if_neg (mt bootPrimary_iff.1 hp)).trans (if_neg (mt accepts_iff.1 hf))))⟩
  case thermal =>
    intro ts hottest e f warn moved g hot
    have hsample : thermalSample temps lasting d = g.thermalActs hottest warn (decide (1250 ≤ hottest) && lasting) := thermalSample_eq
    have hcold (h : ¬hot) : (decide (1250 ≤ hottest) && lasting) = false := by simpa [hot] using h
    have hheld (h1 : g.rd Obj.ThermalState = 1) (h : ¬hot) := hsample.trans ((congrArg _ (hcold h)).trans (thermalActs_warning h1))
    refine ⟨fun h1 => ⟨fun h => ?_, fun h hl => effect_next q ((hheld h1 h).trans (if_pos hl)),
      fun h hl => effect_next q ((hheld h1 h).trans (if_neg (not_le.2 hl)))⟩,
      fun h2 hl => effect_next q (hsample.trans ((thermalActs_afterShutdown h2).trans (if_pos hl))), fun h1 h2 => ?_⟩
    · obtain ⟨hh, rfl⟩ := h
      exact effect_next q (hsample.trans ((congrArg _ (by simp [hh])).trans (thermalActs_shutsDown h1)))
    · by_cases hs : g.rd Obj.ThermalState = 2
      · exact effect_next q (hsample.trans ((thermalActs_afterShutdown hs).trans (if_neg (not_lt.2 (h2.resolve_left (not_not.2 hs))))))
      · exact effect_next q (hsample.trans (thermalActs_normal h1 hs))
  case pins =>
    intro input st idle e
    have hst : d.pinShows g n s = st := pinShows_eq
    have hidle : ¬idle → ¬d.pinIdle g n s k = true := fun h hi => h (by simpa only [hst] using pinIdle_iff.1 hi)
    have he : d.pinReported g k (d.pinShows g n s) = e := by rw [hst]; rfl
    have hinput (hi : ¬idle) (hg : g = 0 ∨ g = 1) : pinFaultDetect g n s d = e.when (g.val == 0 && st == 4) fun e =>
        e.setRefIn n fun x => { x with invertNext := !x.inverted } := by
      rw [← he, ← hst]
      exact pinFaultDetect_input hk (hidle hi) (by obtain rfl | rfl := hg <;> rfl)
    refine ⟨fun hi => effect_next q (pinFaultDetect_idle hk (pinIdle_iff.2 (by simpa only [hst] using hi))),
      fun hi hg h4 => effect_next q ((hinput hi (.inl hg)).trans (if_pos (by simp [hg, h4]))),
      fun hi hg => effect_next q ((hinput hi ?_).trans (if_neg ?_)), fun o hi ho => ?_⟩
    · exact hg.symm.imp_left And.left
    · obtain rfl | ⟨-, h4⟩ := hg
      · simp
      · simp [h4]
    · have hg : (g : Nat) ≠ 0 := fun h => by simp [limitedOut, h] at ho
      refine effect_next q ((pinFaultDetect_output hk (hidle hi) hg ho).trans ?_)
      rw [he, hst]
      rfl

end Sys2Proof.Machine
end

section
/-! PROOFS. The host rings (R548 to R552, R554, R556), and the performance counters: dumps, snapshots, configurations, peeks and samples
(R567 to R569, R572, R575, R576), one lemma for each branch of a command. -/

namespace Sys2Proof.Machine

variable {d : Dev}

section Rings

/-! ## Ring control (R548, R550, R554, R556) -/

/-- Of a change of a ring only what it makes of the ring's state counts. -/
theorem setRing_congr {r : Nat} {f g : RingSt → RingSt} (h : f (d.ring r) = g (d.ring r)) : d.setRing r f = d.setRing r g := by
  simp [Dev.setRing, h]

variable {r v : Nat}

theorem ringEnable_served (h : r < 4 ∨ (d.ring r).bufUnits ≠ 0) : ringEnable r d =
    d.setRing r fun g => { g with enable := true, active := true, halted := false, haltCause := 0 } :=
  setRing_congr (if_neg (by simpa [imp_iff_not_or] using h))

theorem ringEnable_halts (h4 : 4 ≤ r) (h : (d.ring r).bufUnits = 0) : ringEnable r d =
    d.setRing r fun g => { g with enable := true, active := true, halted := true, haltCause := 3 } :=
  setRing_congr (if_pos (by simp [h4, h]))

theorem ringDisable_receive (h4 : 4 ≤ r) : ringDisable r d = d.setRing r fun g => { g with enable := false } := if_pos h4

theorem ringDisable_transmit (h4 : r < 4) : ringDisable r d =
    (let e := d.setRing r fun g => { g with enable := false }
     let ids := e.ringFrames r
     (((e.discardCopies (fun x => ids.any fun i => x.ofFrame i) 6).dropFromPipes ids).forEach
       (fun i f => (f.onFrame i fun x => { x with ring := none, replicated := true }).reapFrame i) ids).setRing r fun g =>
         g.writeBack (g.fetched.map fun t => { t with status := some (t.status.getD 6) })) :=
  if_neg (not_le.2 h4)

theorem ringDisableComplete_enabled (h : (d.ring r).enable = true) : ringDisableComplete r d = d := if_pos h

theorem ringDisableComplete_ends (h : (d.ring r).enable = false) (hn : (d.ring r).delivering = none) : ringDisableComplete r d =
    d.setRing r fun g => { g with active := false, delivering := none } := by
  unfold ringDisableComplete
  rw [if_neg (Bool.eq_false_iff.1 h), hn]

theorem ringDisableComplete_delivers {c : Copy} {k : Nat} (h : (d.ring r).enable = false) (hs : (d.ring r).delivering = some (c, k)) :
    ringDisableComplete r d = (d.setRing r fun g => { g with active := false, delivering := none }).delivered c := by
  unfold ringDisableComplete
  rw [if_neg (Bool.eq_false_iff.1 h), hs]

theorem attentionAck_matches (h : v % 4096 = (d.ring r).seq) : attentionAck r v d = d.setRing r fun g => { g with attention := false } :=
  setRing_congr (if_pos (beq_iff_eq.2 h))

theorem attentionAck_differs (h : v % 4096 ≠ (d.ring r).seq) : attentionAck r v d = d.setRing r fun g => g :=
  setRing_congr (if_neg (mt beq_iff_eq.1 h))

theorem coalesceExpiry_attends (h : (d.ring r).coalescing = true) : coalesceExpiry r d = d.setRing r fun g => g.attend :=
  setRing_congr (if_pos h)

theorem coalesceExpiry_idle (h : (d.ring r).coalescing = false) : coalesceExpiry r d = d.setRing r fun g => g :=
  setRing_congr (if_neg (Bool.eq_false_iff.1 h))

/-! ## Transmit descriptors (R550 to R552) -/

section Fetch

variable {x : TxDesc} {bs : List Byte} {err : Nat} {t : Int}

/-- A ring can fetch a descriptor. -/
def RingSt.fetches (g : RingSt) : Bool := g.enable && g.active && !g.halted && g.waiting != 0

/-- A descriptor has been fetched. -/
def Dev.fetched (d : Dev) (r : Nat) (x : TxDesc) : Dev :=
  d.setRing r fun g => { g with head := g.next g.head 1, fetched := g.fetched ++
    [{ index := (d.ring r).head, notify := x.notify, late := x.direct && (x.stamp || x.launch), wantStamp := x.stamp }] }

/-- A descriptor that is not valid: no such port, or a direct-mode option in lookup mode. -/
def txBad (x : TxDesc) : Bool := 47 < x.port || (!x.direct && (x.oneStep || x.stamp || x.launch))

theorem txBad_iff : txBad x = true ↔ 47 < x.port ∨ (x.direct = false ∧ (x.oneStep = true ∨ x.stamp = true ∨ x.launch = true)) := by
  simp [txBad, or_assoc]

theorem txFetch_idle (h : ((d.until t).ring r).fetches = false) : txFetch r x bs err t d = d.until t :=
  if_pos (by simpa [RingSt.fetches, imp_iff_not_or] using h)

section Fetches

variable (h : ((d.until t).ring r).fetches = true)
include h

theorem txFetch_acts : txFetch r x bs err t d =
    if (err != 0) = true then (d.until t).setRing r fun g => g.halt (min err 2)
    else
      (let f := (d.until t).fetched r x
       let i := ((d.until t).ring r).head
       if txBad x = true then f.txStatus r i 7 none
       else if 9212 < bs.length - (if x.hostFcs then 4 else 0) then f.txStatus r i 2 none
       else if (!f.on .port 48) = true then f.txStatus r i 6 none
       else f.inject r i x bs t) :=
  if_neg (by
    simp only [RingSt.fetches, Bool.and_eq_true, Bool.not_eq_true', bne_iff_ne] at h
    obtain ⟨⟨⟨he, ha⟩, hh⟩, hw⟩ := h
    simp [he, ha, hh, hw])

theorem txFetch_error (he : err ≠ 0) : txFetch r x bs err t d = (d.until t).setRing r fun g => g.halt (min err 2) :=
  (txFetch_acts h).trans (if_pos (bne_iff_ne.2 he))

variable (he : err = 0)
include he

theorem txFetch_bad (hb : txBad x = true) : txFetch r x bs err t d =
    ((d.until t).fetched r x).txStatus r ((d.until t).ring r).head 7 none :=
  (txFetch_acts h).trans ((if_neg (by simp [he])).trans (if_pos hb))

variable (hb : ¬txBad x = true)
include hb

theorem txFetch_long (hl : 9212 < bs.length - (if x.hostFcs then 4 else 0)) : txFetch r x bs err t d =
    ((d.until t).fetched r x).txStatus r ((d.until t).ring r).head 2 none :=
  (txFetch_acts h).trans ((if_neg (by simp [he])).trans ((if_neg hb).trans (if_pos hl)))

variable (hl : bs.length - (if x.hostFcs then 4 else 0) ≤ 9212)
include hl

theorem txFetch_closed (hp : ((d.until t).fetched r x).on .port 48 = false) : txFetch r x bs err t d =
    ((d.until t).fetched r x).txStatus r ((d.until t).ring r).head 6 none :=
  (txFetch_acts h).trans ((if_neg (by simp [he])).trans ((if_neg hb).trans ((if_neg (not_lt.2 hl)).trans (if_pos (congrArg not hp)))))

theorem txFetch_injects (hp : ((d.until t).fetched r x).on .port 48 = true) : txFetch r x bs err t d =
    ((d.until t).fetched r x).inject r ((d.until t).ring r).head x bs t :=
  (txFetch_acts h).trans ((if_neg (by simp [he])).trans ((if_neg hb).trans ((if_neg (not_lt.2 hl)).trans
    (if_neg (ne_true_of_eq_false (congrArg not hp))))))

end Fetches

end Fetch

end Rings

section Counters

/-! ## Performance counters (R567, R572, R575, R576) -/

/-- The records due are written, in bank order. -/
def Dev.dumped (d : Dev) : Dev := d.perf.due.foldl (fun f x => f.perfWrite x.1 x.2.1) { d with perf := { d.perf with due := [] } }

theorem counterDump_none (h : 6 ∈ d.turn.openItems) (hd : d.perf.due = []) : counterDump d = d.dumped.closeItem 6 :=
  (workItem_open _ rfl h).trans (congrArg (Dev.closeItem · 6) (if_neg (by simp [hd])))

theorem counterDump_some (h : 6 ∈ d.turn.openItems) (hd : d.perf.due ≠ []) : counterDump d = (d.dumped.record 57).closeItem 6 :=
  (workItem_open _ rfl h).trans (congrArg (Dev.closeItem · 6) (if_pos (by simp [hd])))

theorem counterDump_closed (h : 6 ∉ d.turn.openItems) : counterDump d = d := workItem_closed _ h

section Config

variable {b k v : Nat}

/-- The counters whose configurations come into force at the boundary. -/
def Dev.configsStaged (d : Dev) (l : List Nat) : Dev := { d with perf := { d.perf with staged := l } }

/-- A list to which an entry that it has not is added. -/
theorem insert_new {l : List Nat} {i : Nat} (h : i ∉ l) : (if l.contains i = true then l else l ++ [i]) = l ++ [i] :=
  if_neg (by simp [h])

theorem insert_old {l : List Nat} {i : Nat} (h : i ∈ l) : (if l.contains i = true then l else l ++ [i]) = l :=
  if_pos (by simp [h])

theorem counterConfig_stages (h : 8 * b + k ∉ d.perf.staged) : counterConfig b k v d =
    (d.wr (inst Obj.PerfCounterConfig (8 * b + k)) (v % 2 ^ 18 : Nat)).configsStaged (d.perf.staged ++ [8 * b + k]) :=
  congrArg (Dev.configsStaged _) (insert_new h)

theorem counterConfig_staged (h : 8 * b + k ∈ d.perf.staged) : counterConfig b k v d =
    d.wr (inst Obj.PerfCounterConfig (8 * b + k)) (v % 2 ^ 18 : Nat) :=
  congrArg (Dev.configsStaged _) (insert_old h)

end Config

section Snapshot

variable {b : Nat}

/-- A clearing capture that the host reads. -/
def Dev.snapshotRead (d : Dev) (b : Nat) : Dev := (d.perfCapture b 16).1.wrV (inst Obj.PerfBankSnapshot b) (.oct (d.perfCapture b 16).2)

/-- The banks that the host has read. -/
def Dev.banksRead (d : Dev) (l : List Nat) : Dev := { d with perf := { d.perf with read := l } }

theorem bankSnapshotRead_hardware (h : d.rdB (inst Obj.ModeF5CounterDump b) = false) : bankSnapshotRead b d = d :=
  if_neg (Bool.eq_false_iff.1 h)

variable (h : d.rdB (inst Obj.ModeF5CounterDump b) = true)
include h

theorem bankSnapshotRead_first (hb : b ∉ (d.snapshotRead b).perf.read) : bankSnapshotRead b d =
    (d.snapshotRead b).banksRead ((d.snapshotRead b).perf.read ++ [b]) :=
  (if_pos h).trans (congrArg (Dev.banksRead _) (insert_new hb))

theorem bankSnapshotRead_again (hb : b ∈ (d.snapshotRead b).perf.read) : bankSnapshotRead b d = d.snapshotRead b :=
  (if_pos h).trans (congrArg (Dev.banksRead _) (insert_old hb))

end Snapshot

section Samples

variable {b k pc slot : Nat} {u : Bool}

/-- What a sample holds. -/
def Dev.sampleOf (d : Dev) (b k pc slot : Nat) (u : Bool) : List Byte :=
  leBytes 4 pc ++ leBytes 1 (ofBool u) ++ leBytes 1 slot ++ leBytes 1 b ++ leBytes 1 k ++ leBytes 8 (d.rdN Obj.TurnNumber)

/-- A sample taken is stored. -/
def Dev.sampleStored (d : Dev) (x : List Byte) : Dev :=
  let e : Dev := { d with perf := { d.perf with samples := d.perf.samples ++ [x] } }
  e.wr Obj.PerfSampleFill (e.perf.samples.length : Nat)

/-- A counter is configured to count and to sample. -/
def Dev.samples (d : Dev) (i : Nat) : Bool := bit (numAt d.perf.cfg i) 16 && bit (numAt d.perf.cfg i) 17

theorem samples_sampleTaken (i : Nat) : (d.sampleTaken i).perf.samples = d.perf.samples := by
  unfold Dev.sampleTaken
  split <;> rfl

theorem sampleOf_sampleTaken (i : Nat) : (d.sampleTaken i).sampleOf b k pc slot u = d.sampleOf b k pc slot u := by
  unfold Dev.sampleTaken
  split <;> rfl

theorem samplingInterrupt_idle (h : d.samples (8 * b + k) = false) : samplingInterrupt b k pc u slot d = d :=
  if_pos (congrArg not h)

section Sampling

variable (h : d.samples (8 * b + k) = true)
include h

theorem samplingInterrupt_lost (hf : 4096 ≤ d.perf.samples.length) :
    samplingInterrupt b k pc u slot d = (d.sampleTaken (8 * b + k)).inc Obj.PerfSampleLossCount :=
  (if_neg (ne_true_of_eq_false (congrArg not h))).trans (if_pos hf)

theorem samplingInterrupt_stores (hf : d.perf.samples.length < 4096) : samplingInterrupt b k pc u slot d =
    ((d.sampleTaken (8 * b + k)).sampleStored (d.sampleOf b k pc slot u)).when
      (decide (((d.sampleTaken (8 * b + k)).sampleStored (d.sampleOf b k pc slot u)).rd Obj.PerfSampleWatermark ≤
        ((d.sampleTaken (8 * b + k)).sampleStored (d.sampleOf b k pc slot u)).perf.samples.length)) fun e => e.raise 58 := by
  rw [← sampleOf_sampleTaken (8 * b + k)]
  exact (if_neg (ne_true_of_eq_false (congrArg not h))).trans (if_neg (not_le.2 hf))

end Sampling

end Samples

end Counters

/-- Settles O57. That a sampling interrupt takes a sample also where no period was counted out, and reloads the period then, is the
model's choice (log entry 38). -/
theorem ringsAndCountersFollowTheirCommands : Obligations.RingsAndCountersFollowTheirCommands := by
  intro d q
  refine ⟨fun r v => ⟨rfl, fun h => effect_next q (ringEnable_served h), fun h4 h => effect_next q (ringEnable_halts h4 h),
      fun h4 => effect_next q (ringDisable_receive h4), fun h4 => effect_next q (ringDisable_transmit h4),
      fun h => effect_next q (ringDisableComplete_enabled h), fun h hn => effect_next q (ringDisableComplete_ends h hn),
      fun c k h hs => effect_next q (ringDisableComplete_delivers h hs), fun h => effect_next q (attentionAck_matches h),
      fun h => effect_next q (attentionAck_differs h), fun h => effect_next q (coalesceExpiry_attends h),
      fun h => effect_next q (coalesceExpiry_idle h)⟩,
    fun r x bs err t => ?fetch,
    ⟨fun h hd => effect_next q (counterDump_none h hd), fun h hd => effect_next q (counterDump_some h hd)⟩,
    fun h => effect_next q (counterDump_closed h),
    fun b => ⟨rfl, fun k v h => effect_next q (counterConfig_stages h), fun k v h => effect_next q (counterConfig_staged h),
      fun h => ⟨fun hb => effect_next q (bankSnapshotRead_first h hb), fun hb => effect_next q (bankSnapshotRead_again h hb)⟩,
      fun h => effect_next q (bankSnapshotRead_hardware h), rfl, fun k pc u slot => ?sample⟩,
    rfl⟩
  case fetch =>
    intro e g
    have hfetches (he : g.enable = true) (ha : g.active = true) (hh : g.halted = false) (hw : g.waiting ≠ 0) : g.fetches = true := by
      simp [RingSt.fetches, he, ha, hh, hw]
    refine ⟨fun h => effect_next q (txFetch_idle ?_), fun he ha hh hw => ⟨fun herr => effect_next q (txFetch_error (hfetches he ha hh hw) herr),
      fun herr => ?_⟩⟩
    · obtain h | h | h | h := h <;> simp [RingSt.fetches, g, e, h]
    · have h := hfetches he ha hh hw
      exact ⟨fun hb => effect_next q (txFetch_bad h herr (txBad_iff.2 hb)), fun hb hl => effect_next q (txFetch_long h herr (mt txBad_iff.1 hb) hl),
        fun hb hl hp => effect_next q (txFetch_closed h herr (mt txBad_iff.1 hb) hl hp),
        fun hb hl hp => effect_next q (txFetch_injects h herr (mt txBad_iff.1 hb) hl hp)⟩
  case sample =>
    intro c took
    have hsamples (h16 : bit c 16 = true) (h17 : bit c 17 = true) : d.samples (8 * b + k) = true := Bool.and_eq_true_iff.2 ⟨h16, h17⟩
    refine ⟨fun h => effect_next q (samplingInterrupt_idle (Bool.and_eq_false_iff.2 h)), fun h16 h17 hfull => effect_next q (samplingInterrupt_lost (hsamples h16 h17) hfull),
      fun h16 h17 hroom => ?_⟩
    have hstores := samplingInterrupt_stores (pc := pc) (slot := slot) (u := u) (hsamples h16 h17) hroom
    intro x e f
    have hf : f = (d.sampleTaken (8 * b + k)).sampleStored (d.sampleOf b k pc slot u) := by
      simp only [Dev.sampleStored, samples_sampleTaken]
      rfl
    rw [← hf] at hstores
    exact ⟨fun hw => effect_next q (hstores.trans (if_pos (decide_eq_true hw))),
      fun hw => effect_next q (hstores.trans (if_neg (mt of_decide_eq_true (not_le.2 hw))))⟩

end Sys2Proof.Machine
end

section
/-! PROOFS. The mailboxes (R540 to R542), and the register map over PCIe and SPI (R532 to R539, R544, R545, R557): one lemma for each
branch of an operation, an access or a write. -/

namespace Sys2Proof.Machine

variable {d : Dev}

/-! ## Mailboxes (R541, R542) -/

section Mailbox

/-- The operation at the head of the queue leaves it and is counted. -/
def Dev.boxTaken (d : Dev) (rest : List Waiting) : Dev := ({ d with dict := { d.dict with queue := rest } } : Dev).counted 2 0x08 0 1

/-- The operation of a mailbox is at the head of the queue and can be executed. -/
def Dev.boxReady (d : Dev) (n : Nat) (rest : List Waiting) : Prop :=
  d.dict.queue = .mailbox n :: rest ∧ (d.box n).done = none ∧ d.serving = true

variable {n op : Nat} {rest : List Waiting}

theorem boxHead_taken {g : MailboxSt → Dev → Dev} (h : d.boxReady n rest) (ho : (d.box n).op = op) :
    d.boxHead n op g = g (d.box n) (d.boxTaken rest) := by
  obtain ⟨hq, hd, hs⟩ := h
  subst ho
  exact d.boxHead_eq n rest g hq hd hs

theorem boxHead_idle {g : MailboxSt → Dev → Dev} (h : ∀ rest, (d.box n).op = op → ¬d.boxReady n rest) : d.boxHead n op g = d := by
  unfold Dev.boxHead
  split
  · next m rest hq =>
    refine if_neg fun hc => ?_
    simp only [Bool.and_eq_true, beq_iff_eq, Option.isNone_iff_eq_none] at hc
    obtain ⟨⟨⟨rfl, ho⟩, hd⟩, hs⟩ := hc
    exact h rest ho ⟨hq, hd, hs⟩
  · rfl

section Operations

variable (h : d.boxReady n rest)
include h

theorem mailboxRead_ok {f : Dev} {bs : List Byte} (ho : (d.box n).op = 1)
    (hr : (d.boxTaken rest).readObj 3 64 (d.box n).key = (f, .ok bs)) :
    mailboxRead n d = f.boxDone n stOk ((d.box n).filled bs) bs.length (d.box n).total := by
  rw [mailboxRead, boxHead_taken h ho, hr]

theorem mailboxRead_error {f : Dev} {st : Nat} (ho : (d.box n).op = 1)
    (hr : (d.boxTaken rest).readObj 3 64 (d.box n).key = (f, .error st)) : mailboxRead n d = f.boxStatus n st := by
  rw [mailboxRead, boxHead_taken h ho, hr]

theorem mailboxWrite_long (ho : (d.box n).op = 2) (hl : 64 < (d.box n).length) :
    mailboxWrite n d = (d.boxTaken rest).boxStatus n stLength := by
  rw [mailboxWrite, boxHead_taken h ho, if_pos hl]

theorem mailboxWrite_writes {f : Dev} {st : Nat} (ho : (d.box n).op = 2) (hl : (d.box n).length ≤ 64)
    (hw : (d.boxTaken rest).writeObj 3 true (1 + n) (d.box n).key ((d.box n).data.take (d.box n).length) = (f, st)) :
    mailboxWrite n d = f.boxStatus n st := by
  rw [mailboxWrite, boxHead_taken h ho, if_neg (not_lt.2 hl), hw]

theorem mailboxDescribe_ok {r : ObjRow} (ho : (d.box n).op = 3) (hr : objInfo (d.box n).key = .ok r) : mailboxDescribe n d =
    (d.boxTaken rest).boxDone n stOk ((d.box n).filled (descriptor (d.box n).key r)) (d.box n).length (d.box n).total := by
  rw [mailboxDescribe, boxHead_taken h ho, hr]

theorem mailboxDescribe_error {st : Nat} (ho : (d.box n).op = 3) (hr : objInfo (d.box n).key = .error st) :
    mailboxDescribe n d = (d.boxTaken rest).boxStatus n st := by
  rw [mailboxDescribe, boxHead_taken h ho, hr]

theorem mailboxSegReadInit_ok {f : Dev} {t : Transfer} {k : Nat} (ho : (d.box n).op = 4)
    (hr : ((d.boxTaken rest).boxTransfer n none).segReadInit 3 (d.box n).key = (f, .ok (t, k))) :
    mailboxSegReadInit n d = (f.boxTransfer n (some t)).boxDone n stOk (d.box n).data (d.box n).length k := by
  simp only [mailboxSegReadInit, boxHead_taken h ho, hr]

theorem mailboxSegReadInit_error {f : Dev} {st : Nat} (ho : (d.box n).op = 4)
    (hr : ((d.boxTaken rest).boxTransfer n none).segReadInit 3 (d.box n).key = (f, .error st)) :
    mailboxSegReadInit n d = f.boxStatus n st := by
  simp only [mailboxSegReadInit, boxHead_taken h ho, hr]

theorem mailboxSegRead_ok {bs : List Byte} (ho : (d.box n).op = 5)
    (hr : (d.boxTaken rest).segRead (d.box n).transfer (d.box n).offset (d.box n).length 64 = .ok bs) :
    mailboxSegRead n d = (d.boxTaken rest).boxDone n stOk ((d.box n).filled bs) (d.box n).length (d.box n).total := by
  rw [mailboxSegRead, boxHead_taken h ho, hr]

theorem mailboxSegRead_error {st : Nat} (ho : (d.box n).op = 5)
    (hr : (d.boxTaken rest).segRead (d.box n).transfer (d.box n).offset (d.box n).length 64 = .error st) :
    mailboxSegRead n d = (d.boxTaken rest).boxStatus n st := by
  rw [mailboxSegRead, boxHead_taken h ho, hr]

theorem mailboxSegWriteInit_ok {t : Transfer} (ho : (d.box n).op = 6)
    (hr : segWriteInit 3 true (d.box n).key (d.box n).total = .ok t) :
    mailboxSegWriteInit n d = (((d.boxTaken rest).boxTransfer n none).boxTransfer n (some t)).boxStatus n stOk := by
  rw [mailboxSegWriteInit, boxHead_taken h ho, hr]

theorem mailboxSegWriteInit_error {st : Nat} (ho : (d.box n).op = 6)
    (hr : segWriteInit 3 true (d.box n).key (d.box n).total = .error st) :
    mailboxSegWriteInit n d = ((d.boxTaken rest).boxTransfer n none).boxStatus n st := by
  rw [mailboxSegWriteInit, boxHead_taken h ho, hr]

theorem mailboxSegWrite_long (ho : (d.box n).op = 7) (hl : 64 < (d.box n).length) :
    mailboxSegWrite n d = (d.boxTaken rest).boxStatus n stSegment := by
  rw [mailboxSegWrite, boxHead_taken h ho, if_pos hl]

theorem mailboxSegWrite_writes {f : Dev} {t : Option Transfer} {st : Nat} (ho : (d.box n).op = 7) (hl : (d.box n).length ≤ 64)
    (hw : (d.boxTaken rest).segWrite 3 true (1 + n) (d.box n).transfer (d.box n).offset 64 ((d.box n).data.take (d.box n).length) =
      (f, t, st)) :
    mailboxSegWrite n d = (f.boxTransfer n t).boxStatus n st := by
  rw [mailboxSegWrite, boxHead_taken h ho, if_neg (not_lt.2 hl), hw]

theorem mailboxSegAbort_aborts (ho : (d.box n).op = 8) : mailboxSegAbort n d =
    ((d.boxTaken rest).boxTransfer n none).boxStatus n (if (d.box n).transfer = none then stSegment else stOk) := by
  rw [mailboxSegAbort, boxHead_taken h ho]
  cases (d.box n).transfer <;> rfl

end Operations

/-! ### Completion (R542) -/

/-- The operation has a meaning: R541 names it. -/
def Dev.boxKnown (d : Dev) (n : Nat) : Prop := 1 ≤ (d.box n).op ∧ (d.box n).op ≤ 8

theorem boxKnown_iff : (d.box n).op == 0 || 9 ≤ (d.box n).op ↔ ¬d.boxKnown n := by
  simp [Dev.boxKnown]
  omega

theorem mailboxUnsupported_known (hk : d.boxKnown n) : mailboxUnsupported n d = d := if_neg (mt boxKnown_iff.1 (not_not.2 hk))

theorem mailboxUnsupported_idle (hk : ¬d.boxKnown n) (h : ∀ rest, ¬d.boxReady n rest) : mailboxUnsupported n d = d :=
  (if_pos (boxKnown_iff.2 hk)).trans (boxHead_idle fun rest _ => h rest)

theorem mailboxUnsupported_refuses (hk : ¬d.boxKnown n) (h : d.boxReady n rest) :
    mailboxUnsupported n d = (d.boxTaken rest).boxStatus n stUnsupported :=
  (if_pos (boxKnown_iff.2 hk)).trans (boxHead_taken h rfl)

/-- A mailbox with the result of its operation. -/
def MailboxSt.answered (b : MailboxSt) (code : Nat) (data : List Byte) (len total : Nat) : MailboxSt :=
  { b with code := code, data := data, length := len, total := total, done := none, busy := false, valid := true, seq := (b.seq + 1) % 4096 }

variable {u : Dev} (hu : mailboxUnsupported n d = u)
include hu

theorem mailboxComplete_none (h : (u.box n).done = none) : mailboxComplete n d = u := by
  simp only [mailboxComplete, hu, h]

theorem mailboxComplete_some {code len total : Nat} {data : List Byte} (h : (u.box n).done = some (code, data, len, total)) :
    mailboxComplete n d = (u.setBox n fun b => b.answered code data len total).when (u.box n).notify fun e => e.raise 52 := by
  simp only [mailboxComplete, hu, h]
  rfl

end Mailbox

/-! ## The words of an access (R533, R534, R536, R537) -/

section Parts

variable {a : Access} {addr w : Nat} {rest : List (Nat × Nat)}

theorem performParts_fails {c : Nat} (h : d.partError a addr = some c) :
    Dev.performParts a ((addr, w) :: rest) d = d.busFails a c addr := by
  rw [Dev.performParts, h]

theorem performParts_writes (h : d.partError a addr = none) (hw : a.write = true) :
    Dev.performParts a ((addr, w) :: rest) d = Dev.performParts a rest (regWrite a addr w d) := by
  rw [Dev.performParts, h]
  exact congrArg _ (if_pos hw)

theorem performParts_reads (h : d.partError a addr = none) (hw : a.write = false) :
    Dev.performParts a ((addr, w) :: rest) d = Dev.performParts a rest (d.busRead a addr) := by
  rw [Dev.performParts, h]
  exact congrArg _ (if_neg (Bool.eq_false_iff.1 hw))

theorem partError_outside (h : d.region addr = none) : d.partError a addr = some 1 := by rw [Dev.partError, h]

/-- The bus error that a region finds in an access of a width that its direction may have. -/
def Dev.regionError (d : Dev) (a : Access) (addr : Nat) : Region → Option Nat
  | .direct => if !d.dict.ready then some 9 else if (directObj addr).isNone then some 4 else none
  | .boxData m | .boxCtrl m => if !d.dict.ready then some 9 else if a.write && (d.box m).busy then some 6 else none
  | _ => none

section Region

variable {g : Region} (hg : d.region addr = some g)
include hg

theorem partError_narrow (hw : a.write = true) (hn : a.width < 2) : d.partError a addr = some 2 := by
  rw [Dev.partError, hg]
  exact if_pos (by simp [hw, hn])

theorem partError_wide (hw : a.write = false ∨ 2 ≤ a.width) : d.partError a addr = d.regionError a addr g := by
  rw [Dev.partError, hg]
  refine (if_neg ?_).trans ?_
  · obtain h | h := hw
    · simp [h]
    · simp [show 1 < a.width from h]
  · cases g <;> rfl

end Region

section Direct

variable (hg : d.region addr = some .direct) (hw : a.write = false ∨ 2 ≤ a.width)
include hg hw

theorem partError_direct_early (hr : d.dict.ready = false) : d.partError a addr = some 9 :=
  (partError_wide hg hw).trans (if_pos (congrArg not hr))

theorem partError_direct_unmapped (hr : d.dict.ready = true) (ho : directObj addr = none) : d.partError a addr = some 4 :=
  (partError_wide hg hw).trans ((if_neg (by simp [hr])).trans (if_pos (Option.isNone_iff_eq_none.2 ho)))

theorem partError_direct_mapped (hr : d.dict.ready = true) (ho : directObj addr ≠ none) : d.partError a addr = none :=
  (partError_wide hg hw).trans ((if_neg (by simp [hr])).trans (if_neg (mt Option.isNone_iff_eq_none.1 ho)))

end Direct

section Box

variable {m : Nat} (hg : d.region addr = some (.boxData m) ∨ d.region addr = some (.boxCtrl m)) (hw : a.write = false ∨ 2 ≤ a.width)
include hg hw

theorem partError_box :
    d.partError a addr = if !d.dict.ready then some 9 else if a.write && (d.box m).busy then some 6 else none := by
  obtain hg | hg := hg <;> exact partError_wide hg hw

theorem partError_box_early (hr : d.dict.ready = false) : d.partError a addr = some 9 :=
  (partError_box hg hw).trans (if_pos (congrArg not hr))

theorem partError_box_busy (hr : d.dict.ready = true) (ha : a.write = true) (hb : (d.box m).busy = true) : d.partError a addr = some 6 :=
  (partError_box hg hw).trans ((if_neg (by simp [hr])).trans (if_pos (by simp [ha, hb])))

theorem partError_box_free (hr : d.dict.ready = true) (hf : a.write = false ∨ (d.box m).busy = false) : d.partError a addr = none := by
  refine (partError_box hg hw).trans ((if_neg (by simp [hr])).trans (if_neg ?_))
  obtain h | h := hf <;> simp [h]

end Box

end Parts

/-! ## PCIe (R532, R536) -/

section Pcie

variable {a : Access} {v : Nat}

/-- A read that fails returns no data. -/
def Dev.quiet (d : Dev) : Dev := if d.bus.error then { d with bus := { d.bus with words := [] } } else d

theorem pcieAccess_down (h : d.boot.pcie = false) (bad : Bool) : d.pcieAccess a bad v = d := if_pos (congrArg not h)

theorem pcieAccess_fails (h : d.boot.pcie = true) {bad : Bool} (hb : bad = true ∨ misaligned a.width a.addr = true) :
    d.pcieAccess a bad v = d.busFails a 3 a.addr :=
  d.pcieAccess_shape a bad v h (by simpa using hb)

theorem accessParts_eq (width addr v : Nat) : accessParts width addr v =
    if width = 3 then [(addr, bits v 0 32), (addr + 4, bits v 32 32)] else [(addr, bits v 0 32)] := by
  simp [accessParts]

theorem pcieAccess_performs (h : d.boot.pcie = true) (hm : misaligned a.width a.addr = false) :
    d.pcieAccess a false v = (Dev.performParts a (accessParts a.width a.addr v) d).quiet :=
  (if_neg (by simp [h])).trans (if_neg (by simp [hm]))

end Pcie

/-! ## SPI (R532, R533) -/

section Spi

variable {sdi : List Byte} {waits : Nat}

theorem spiFrame_short (h : sdi.length < 4) : spiFrame sdi = none := by
  unfold spiFrame
  split
  · simp only [List.length_cons] at h
    omega
  · rfl

theorem spiAccess_none (h : d.boot.released = false ∨ sdi.length < 4) : d.spiAccess sdi waits = d := by
  unfold Dev.spiAccess
  obtain h | h := h
  · rw [if_neg (Bool.eq_false_iff.1 h)]
  · rw [spiFrame_short h, ite_self]

/-- The end of a transaction: what SDO carried. -/
def Dev.spiDone (d before : Dev) (x : SpiFrame) (waits : Nat) : Dev := { d with bus := { d.bus with sdo := d.spiOut before x waits } }

theorem spiAccess_frame {x : SpiFrame} (h : d.boot.released = true) (hx : spiFrame sdi = some x) : d.spiAccess sdi waits =
    (let late := if x.read = true ∧ 0x4000 ≤ x.addr then waits else 0
     (d.spiWords x late).spiDone d x late) := by
  have hlate : (if x.read = true ∧ 0x4000 ≤ x.addr then waits else 0) = if x.read && decide (0x4000 ≤ x.addr) then waits else 0 := by simp
  rw [hlate]
  unfold Dev.spiAccess
  rw [if_pos h, hx]
  rfl

variable {x : SpiFrame}

theorem spiWords_early (h : d.awaitsSynth = true) : d.spiWords x waits = { d with bus := { d.bus with error := true } } := if_pos h

section Boot

variable (h : d.awaitsSynth = false)
include h

theorem spiWords_bad (hb : x.bad waits = true) : d.spiWords x waits = d.busFails ⟨true, !x.read, x.width, x.addr⟩ 7 x.addr :=
  (if_neg (Bool.eq_false_iff.1 h)).trans (if_pos hb)

variable (hb : x.bad waits = false)
include hb

theorem spiWords_misaligned (hm : misaligned x.width x.addr = true) :
    d.spiWords x waits = d.busFails ⟨true, !x.read, x.width, x.addr⟩ 3 x.addr :=
  (if_neg (Bool.eq_false_iff.1 h)).trans ((if_neg (Bool.eq_false_iff.1 hb)).trans (if_pos hm))

variable (hm : misaligned x.width x.addr = false)
include hm

/-- The words of a transaction are performed. -/
theorem spiWords_performs : d.spiWords x waits =
    if (x.cut waits && !(Dev.performParts ⟨true, !x.read, x.width, x.addr⟩ (x.parts waits) d).bus.error) = true then
      (Dev.performParts ⟨true, !x.read, x.width, x.addr⟩ (x.parts waits) d).busFails ⟨true, !x.read, x.width, x.addr⟩ 7
        (x.addr + 4 * x.whole waits)
    else Dev.performParts ⟨true, !x.read, x.width, x.addr⟩ (x.parts waits) d :=
  (if_neg (Bool.eq_false_iff.1 h)).trans ((if_neg (Bool.eq_false_iff.1 hb)).trans (if_neg (Bool.eq_false_iff.1 hm)))

theorem spiWords_ended (hc : x.cut waits = false ∨
    (Dev.performParts ⟨true, !x.read, x.width, x.addr⟩ (x.parts waits) d).bus.error = true) :
    d.spiWords x waits = Dev.performParts ⟨true, !x.read, x.width, x.addr⟩ (x.parts waits) d := by
  refine (spiWords_performs h hb hm).trans (if_neg ?_)
  obtain hc | hc := hc <;> simp [hc]

theorem spiWords_cut (hc : x.cut waits = true)
    (he : (Dev.performParts ⟨true, !x.read, x.width, x.addr⟩ (x.parts waits) d).bus.error = false) :
    d.spiWords x waits = (Dev.performParts ⟨true, !x.read, x.width, x.addr⟩ (x.parts waits) d).busFails
      ⟨true, !x.read, x.width, x.addr⟩ 7 (x.addr + 4 * x.whole waits) :=
  (spiWords_performs h hb hm).trans (if_pos (by simp [hc, he]))

end Boot

end Spi

/-! ## The direct map and the Benig window (R538, R539, R544, R545) -/

section Mapped

variable {a : Access} {addr w k : Nat} {row : ObjRow} {bs : List Byte} {x : Val}

section Direct

theorem regWrite_direct (hg : d.region addr = some .direct) : regWrite a addr w d = d.directTo a addr w (directObj addr) := by
  rw [regWrite, hg]
  rfl

theorem directTo_idle {o : Option (Nat × ObjRow)} (h : d.serverUp = false ∨ o = none) : d.directTo a addr w o = d := by
  obtain h | rfl := h
  · cases o <;> simp [Dev.directTo, Dev.when, h]
  · rfl

variable (hs : d.serverUp = true)
include hs

theorem directTo_misfit (hv : wordValue row.ty w = none) : d.directTo a addr w (some (k, row)) = (d.counted 2 0x08 0 1).busError a 5 addr := by
  simp only [Dev.directTo, Dev.when, hs, hv, if_true]

variable (hv : wordValue row.ty w = some bs)
include hv

theorem directTo_value : d.directTo a addr w (some (k, row)) = (d.counted 2 0x08 0 1).directCommit a addr k bs := by
  simp only [Dev.directTo, Dev.when, hs, hv, if_true]

theorem directTo_commits (hc : (d.counted 2 0x08 0 1).checkWrite 3 true k bs = .ok x) :
    d.directTo a addr w (some (k, row)) = commitWrite k x (d.counted 2 0x08 0 1) := by
  rw [directTo_value hs hv, Dev.directCommit, hc]

theorem directTo_ignored (hc : (d.counted 2 0x08 0 1).checkWrite 3 true k bs = .error stBlockEnabled) :
    d.directTo a addr w (some (k, row)) = (d.counted 2 0x08 0 1).logIgnored (k / 256) (k % 256) 0 := by
  rw [directTo_value hs hv, Dev.directCommit, hc]
  exact if_pos (beq_self_eq_true _)

theorem directTo_refused {st : Nat} (hc : (d.counted 2 0x08 0 1).checkWrite 3 true k bs = .error st) (hn : st ≠ stBlockEnabled) :
    d.directTo a addr w (some (k, row)) = (d.counted 2 0x08 0 1).busError a 5 addr := by
  rw [directTo_value hs hv, Dev.directCommit, hc]
  exact if_neg (mt beq_iff_eq.1 hn)

end Direct

section Window

theorem regWrite_window (hg : d.region addr = some .window) : regWrite a addr w d = d.windowTo a addr w (d.windowObj addr) := by
  rw [regWrite, hg]
  rfl

theorem windowTo_idle {o : Option (Nat × ObjRow)} (h : d.serverUp = false ∨ o = none) : d.windowTo a addr w o = d := by
  obtain h | rfl := h
  · cases o <;> simp [Dev.windowTo, Dev.when, h]
  · rfl

theorem windowTo_served (hs : d.serverUp = true) :
    d.windowTo a addr w (some (k, row)) = (d.counted 2 0x08 0 1).windowCommit a addr k w row :=
  if_pos hs

theorem windowCommit_refused (h : (wordValue row.ty w).bind (d.checkWindow k) = none) :
    d.windowCommit a addr k w row = d.busError a 8 addr := by
  rw [Dev.windowCommit, h]

variable (h : (wordValue row.ty w).bind (d.checkWindow k) = some x)
include h

theorem windowCommit_single (hg : groupMembers k = []) : d.windowCommit a addr k w row = commitWrite k x d := by
  rw [Dev.windowCommit, h]
  exact if_pos (List.isEmpty_iff.2 hg)

theorem windowCommit_group (hg : groupMembers k ≠ []) : d.windowCommit a addr k w row = d.groupWrite true k x := by
  rw [Dev.windowCommit, h]
  exact if_neg (mt List.isEmpty_iff.1 hg)

end Window

end Mapped

/-! ## The other registers (R535, R542, R548 to R550, R557) -/

section Registers

variable {a : Access} {w : Nat}

/-! ### Where they are (R534) -/

theorem region_events {addr : Nat} (h1 : 0x2000 ≤ addr) (h2 : addr < 0x230C) : d.region addr = some .events := by
  have hlow (n : Nat) (hn : n ≤ 0x2000) : ¬addr < n := by omega
  simp [Dev.region, h2, hlow]

theorem region_rings {addr : Nat} (h1 : 0x200 ≤ addr) (h2 : addr < 0x300) : d.region addr = some .rings := by
  have hlow (n : Nat) (hn : n ≤ 0x200) : ¬addr < n := by omega
  simp [Dev.region, h2, hlow]

theorem region_boxCtrl {addr n : Nat} (hn : n < 4) (h1 : 0x1100 + 32 * n ≤ addr) (h2 : addr < 0x1120 + 32 * n) :
    d.region addr = some (.boxCtrl n) := by
  have hlow (m : Nat) (hm : m ≤ 0x1100) : ¬addr < m := by omega
  have hhigh : addr < 0x1180 := by omega
  have hbox : (addr - 0x1100) / 32 = n := by omega
  simp [Dev.region, hhigh, hlow, hbox]

/-! ### What a write does -/

theorem regWrite_mapSelect : regWrite a 0x008 w d = (d.wrB Obj.BenigWindowEnable (bit w 0)).wrB Obj.DirectMapEnable (bit w 1) := rfl

theorem regWrite_scratch : regWrite a 0x00C w d = d.setReg scratchReg w := rfl

theorem regWrite_eventEnable (k : Fin 64) : regWrite a (0x2200 + 4 * k.val) w d =
    (d.wrB (inst Obj.EventEnable k) (bit w 0)).wr (inst Obj.EventRoute k) (bits w 1 1 : Nat) := by
  have hk : (0x2200 + 4 * k.val - 0x2200) / 4 = k.val := by omega
  rw [regWrite, region_events (by omega) (by omega)]
  refine (if_neg ?_).trans ((if_pos ?_).trans ?_)
  · simp only [Bool.and_eq_true, decide_eq_true_eq]
    omega
  · simp only [Bool.and_eq_true, decide_eq_true_eq]
    omega
  · rw [hk]

theorem regWrite_eventAck (k : Fin 64) : regWrite a (0x2100 + 4 * k.val) w d = eventAck k w d := by
  have hk : (0x2100 + 4 * k.val - 0x2100) / 4 = k.val := by omega
  rw [regWrite, region_events (by omega) (by omega)]
  refine (if_pos ?_).trans ?_
  · simp only [Bool.and_eq_true, decide_eq_true_eq]
    omega
  · rw [hk]

theorem regWrite_mailboxCmd (n : Fin 4) : regWrite a (0x1100 + 32 * n.val) w d = mailboxStart n w d := by
  have hoff : (0x1100 + 32 * n.val) % 32 = 0 := by omega
  rw [regWrite, region_boxCtrl n.isLt (by omega) (by omega)]
  simp only [Dev.boxCtrlWrite, hoff]

section Ring

variable (r : Fin 8)

theorem regWrite_ring {off : Nat} (ho : off < 32) : regWrite a (0x200 + off + 32 * r.val) w d = d.ringWrite (0x200 + off + 32 * r.val) w := by
  rw [regWrite, region_rings (by omega) (by omega)]

theorem ring_of_addr {off : Nat} (ho : off < 32) :
    (0x200 + off + 32 * r.val - 0x200) / 32 = r.val ∧ (0x200 + off + 32 * r.val) % 32 = off := by
  omega

theorem regWrite_ringTail : regWrite a (0x20C + 32 * r.val) w d = ringTail r (w % 4096) d := by
  obtain ⟨hr, ho⟩ := ring_of_addr r (off := 0x0C) (by decide)
  rw [regWrite_ring r (off := 0x0C) (by decide)]
  simp only [Dev.ringWrite, hr, ho]

theorem regWrite_ringAttention : regWrite a (0x21C + 32 * r.val) w d = attentionAck r w d := by
  obtain ⟨hr, ho⟩ := ring_of_addr r (off := 0x1C) (by decide)
  rw [regWrite_ring r (off := 0x1C) (by decide)]
  simp only [Dev.ringWrite, hr, ho]

theorem regWrite_ringBase_busy (h : (d.ring r).enable = true ∨ (d.ring r).active = true) :
    regWrite a (0x200 + 32 * r.val) w d = d.logIgnored (0x200 + 32 * r.val) 0 6 := by
  obtain ⟨hr, ho⟩ := ring_of_addr r (off := 0) (by decide)
  have haddr : (0x200 + 0 + 32 * r.val) % 65536 = 0x200 + 32 * r.val := by omega
  rw [← Bool.or_eq_true] at h
  rw [← Nat.add_zero 0x200, regWrite_ring r (off := 0) (by decide)]
  simp only [Dev.ringWrite, hr, ho, h, if_true, Dev.ringIgnored, haddr]

end Ring

/-! ### Events (R557) -/

theorem eventAck_clears {k v : Nat} (hk : k < 64) (h : d.rdN (inst Obj.EventStatus k) % 4096 = v % 4096) : eventAck k v d =
    d.wr (inst Obj.EventStatus k) (d.rdN (inst Obj.EventStatus k) % 4096 : Nat) :=
  if_pos (by simp [hk, h])

theorem eventAck_differs {k v : Nat} (h : d.rdN (inst Obj.EventStatus k) % 4096 ≠ v % 4096) : eventAck k v d = d :=
  if_neg (by simp [h])

theorem regRead_direct {addr : Nat} (h : d.region addr = some .direct) : d.regRead addr = d.objWord (directObj addr) := by
  rw [Dev.regRead, h]

theorem regRead_window {addr : Nat} (h : d.region addr = some .window) : d.regRead addr = d.objWord (d.windowObj addr) := by
  rw [Dev.regRead, h]

end Registers

/-! ## The four commands that are a transaction of the bus -/

/-- A command that is a transaction, with its direction and its value. -/
def isTransaction (c : Bool × Nat × (BusAccess → Instr)) : Prop :=
  ∀ (t : BusAccess) (s : State), exec (c.2.2 t) s = s.effect (busTransaction c.1 t c.2.1)

theorem isTransaction_of_mem {v : Nat} {lo hi : BitVec 32} : ∀ c ∈ [(true, v, fun t => Instr.directMapWrite t v),
    (true, lo.toNat + 2 ^ 32 * hi.toNat, fun t => .benigWindowWrite t lo hi), (true, v, fun t => .registerWrite t v),
    (false, 0, fun t => .localRegisterRead t)], isTransaction c := by
  simp only [List.forall_mem_cons]
  exact ⟨fun _ _ => rfl, fun _ _ => rfl, fun _ _ => rfl, fun _ _ => rfl, by simp⟩

/-- The operation of a mailbox that is of another kind, or that cannot be executed, does nothing. -/
theorem mailboxes_idle {n : Fin 4} (q : List Instr) : ∀ c ∈ [(1, Instr.mbRead n), (2, .mbWrite n), (3, .mbDescribe n), (4, .mbSegReadInit n),
    (5, .mbSegRead n), (6, .mbSegWriteInit n), (7, .mbSegWrite n), (8, .mbSegAbort n)],
      (∀ rest, d.dict.queue = .mailbox n :: rest → (d.box n).op = c.1 → (d.box n).done = none → d.serving = false) →
      exec c.2 ⟨d, q⟩ = .next ⟨d, q⟩ := by
  have hidle (op : Nat) (g : MailboxSt → Dev → Dev)
      (h : ∀ rest, d.dict.queue = .mailbox n :: rest → (d.box n).op = op → (d.box n).done = none → d.serving = false) :
      d.boxHead n op g = d := boxHead_idle fun rest ho hready => by
    obtain ⟨hq, hd, hs⟩ := hready
    exact Bool.eq_false_iff.1 (h rest hq ho hd) hs
  simp only [List.forall_mem_cons]
  exact ⟨fun h => effect_next q (hidle _ _ h), fun h => effect_next q (hidle _ _ h), fun h => effect_next q (hidle _ _ h),
    fun h => effect_next q (hidle _ _ h), fun h => effect_next q (hidle _ _ h), fun h => effect_next q (hidle _ _ h),
    fun h => effect_next q (hidle _ _ h), fun h => effect_next q (hidle _ _ h), by simp⟩

/-- Settles O56. The framing of an SPI transaction (log entry 44), MB_LENGTH above 64 (34), a direct-map or window write that commits at
its command (36), the local registers while the boot awaits the fixed synth (19) and the order of the bus errors are the model's choices. -/
theorem mailboxesAndTheRegisterMapServeTheHost : Obligations.MailboxesAndTheRegisterMapServeTheHost := by
  intro d q n
  refine ⟨fun rest hq hd hs => ?operations, mailboxes_idle q, fun u hu => ?completion, ?transactions, fun a addr w c rest => ?words,
    fun a w => ⟨regWrite_mapSelect, regWrite_scratch, fun k => ⟨regWrite_eventEnable k, regWrite_eventAck k⟩, regWrite_mailboxCmd n,
      fun r => ⟨regWrite_ringTail r, regWrite_ringAttention r, regWrite_ringBase_busy r⟩⟩,
    rfl, rfl, fun addr => ⟨regRead_direct, regRead_window, rfl⟩,
    fun k v => ⟨fun h => effect_next q (eventAck_clears k.isLt h), fun h => effect_next q (eventAck_differs h)⟩⟩
  case operations =>
    have h : d.boxReady n rest := ⟨hq, hd, hs⟩
    exact ⟨fun f bs ho hr => effect_next q (mailboxRead_ok h ho hr), fun f st ho hr => effect_next q (mailboxRead_error h ho hr),
      fun ho hl => effect_next q (mailboxWrite_long h ho hl), fun f st ho hl hw => effect_next q (mailboxWrite_writes h ho hl hw),
      fun r ho hr => effect_next q (mailboxDescribe_ok h ho hr), fun st ho hr => effect_next q (mailboxDescribe_error h ho hr),
      fun f t k ho hr => effect_next q (mailboxSegReadInit_ok h ho hr), fun f st ho hr => effect_next q (mailboxSegReadInit_error h ho hr),
      fun bs ho hr => effect_next q (mailboxSegRead_ok h ho hr), fun st ho hr => effect_next q (mailboxSegRead_error h ho hr),
      fun t ho hr => effect_next q (mailboxSegWriteInit_ok h ho hr), fun st ho hr => effect_next q (mailboxSegWriteInit_error h ho hr),
      fun ho hl => effect_next q (mailboxSegWrite_long h ho hl), fun f t st ho hl hw => effect_next q (mailboxSegWrite_writes h ho hl hw),
      fun ho => effect_next q (mailboxSegAbort_aborts h ho)⟩
  case completion =>
    have hunsupported : mailboxUnsupported n d = u := by
      obtain ⟨hk, rfl⟩ | ⟨hk, hh, rfl⟩ | ⟨hk, rest, hh, rfl⟩ := hu
      · exact mailboxUnsupported_known hk
      · exact mailboxUnsupported_idle hk hh
      · exact mailboxUnsupported_refuses hk hh
    exact ⟨fun h => effect_next q (mailboxComplete_none hunsupported h), fun code data len total h =>
      ⟨fun hn => effect_next q ((mailboxComplete_some hunsupported h).trans (if_pos hn)),
        fun hn => effect_next q ((mailboxComplete_some hunsupported h).trans (if_neg (Bool.eq_false_iff.1 hn)))⟩⟩
  case transactions =>
    intro e quiet v lo hi c hc
    have hexec := isTransaction_of_mem c hc
    refine ⟨fun w addr bad => ⟨fun hp => ?_, fun hp hb => ?_, fun hp hb hm => ?_⟩, fun sdi waits => ⟨fun h => ?_,
      fun cmd a2 a1 a0 data hrel hsdi => ?_⟩⟩
    · exact (hexec _ _).trans (effect_next q (pcieAccess_down (d := e) (a := ⟨false, c.1, w, addr⟩) hp bad))
    · exact (hexec _ _).trans (effect_next q (pcieAccess_fails (d := e) (a := ⟨false, c.1, w, addr⟩) hp hb))
    · subst hb
      rw [← accessParts_eq]
      exact (hexec _ _).trans (effect_next q (pcieAccess_performs hp hm))
    · exact (hexec _ _).trans (effect_next q (spiAccess_none h))
    · intro x a late done run
      have hspi {f : Dev} (h : e.spiWords x late = f) : exec (c.2.2 (.spi sdi waits)) ⟨d, q⟩ = .next ⟨done f, q⟩ :=
        (hexec _ _).trans (effect_next q ((spiAccess_frame (d := e) (x := x) hrel (by rw [hsdi]; rfl)).trans
          (congrArg done h)))
      exact ⟨fun h => hspi (spiWords_early h), fun h hb => hspi (spiWords_bad h hb), fun h hb hm => hspi (spiWords_misaligned h hb hm),
        fun h hb hm => ⟨fun hc => hspi (spiWords_ended h hb hm hc), fun hc he => hspi (spiWords_cut h hb hm hc he)⟩⟩
  case words =>
    refine ⟨rfl, performParts_fails, performParts_writes, performParts_reads, ⟨rfl, rfl⟩, partError_outside,
      fun g hg hw hn => partError_narrow hg hw hn, fun g hg hw => ⟨?_, ?_, ?_⟩, ?_⟩
    · rintro rfl
      exact ⟨partError_direct_early hg hw, partError_direct_unmapped hg hw, partError_direct_mapped hg hw⟩
    · intro m hm
      have hbox : d.region addr = some (.boxData m) ∨ d.region addr = some (.boxCtrl m) := hm.imp (hg.trans ∘ congrArg some) (hg.trans ∘ congrArg some)
      exact ⟨partError_box_early hbox hw, partError_box_busy hbox hw, partError_box_free hbox hw⟩
    · intro h
      rw [partError_wide hg hw]
      obtain rfl | rfl | rfl | rfl | rfl | ⟨b, o, rfl⟩ := h <;> rfl
    · refine ⟨fun h => ⟨fun hi => (regWrite_direct h).trans (directTo_idle hi), fun k row ho hs => ?_⟩,
        fun h => ⟨fun hi => (regWrite_window h).trans (windowTo_idle hi), fun k row ho hs => ?_⟩⟩
      · rw [regWrite_direct h, ho]
        exact ⟨directTo_misfit hs, fun bs x hv hc => directTo_commits hs hv hc, fun bs hv hc => directTo_ignored hs hv hc,
          fun bs x hv hc hn => directTo_refused hs hv hc hn⟩
      · rw [regWrite_window h, ho, windowTo_served hs]
        exact ⟨windowCommit_refused, fun x hx hg => windowCommit_single hx hg, fun x hx hg => windowCommit_group hx hg⟩

end Sys2Proof.Machine
end
